-- ==== Sys2Proof/Word.lean ====
section
/-!
DEFINITION. The words of the block: bytes, registers of 64 bits, and little-endian reading and writing (R5, R6).
-/

namespace Sys2Proof

/-- A byte of memory, of a mailbox page or of a structure (R6). -/
abbrev Byte := BitVec 8

/-- A Headgate or mailbox register of 64 bits (R350). -/
abbrev Word := BitVec 64

/-- The value of a little-endian byte list (R6). -/
def leNat : List Byte → Nat
  | [] => 0
  | b :: bs => b.toNat + 256 * leNat bs

/-- The low `n` bytes of a value, little-endian (R6). -/
def leBytes : Nat → Nat → List Byte
  | 0, _ => []
  | n + 1, v => BitVec.ofNat 8 (v % 256) :: leBytes n (v / 256)

/-- Bit `i` of a natural number, bit 0 the least significant (R5). -/
def bitOf (v i : Nat) : Bool := v / 2 ^ i % 2 == 1

/-- Bits [hi:lo] of a natural number (R5). -/
def bitsOf (v hi lo : Nat) : Nat := v / 2 ^ lo % 2 ^ (hi - lo + 1)

/-- 1 for true, 0 for false. -/
def natOf (b : Bool) : Nat := if b then 1 else 0

/-- `n` zero bytes. -/
def zeros (n : Nat) : List Byte := List.replicate n 0

/-- Exactly `n` bytes of a list: cut off, or filled with zero bytes. -/
def padTo (n : Nat) (bs : List Byte) : List Byte := bs.take n ++ zeros (n - bs.length)

end Sys2Proof
end

