-- ==== Sys2Proof/Types.lean ====
section
/-!
DEFINITION. The names that commands carry: register targets, operations, frames, findings. Every code is the one the
spec gives; where the spec gives only words the type is an enumeration.
-/

namespace Sys2Proof

/-- The two adaptive core domains (R387): CD9 and CD10. -/
inductive Domain
  | cd9 | cd10
  deriving DecidableEq, Repr

/-- What a host write reaches (R350, R364, R358): a BAR offset with an access size, or a configuration field. -/
inductive CfgReg
  /-- Bus Master Enable. -/
  | busMaster
  /-- MSI-X enable. -/
  | msixEnable
  /-- MSI-X function mask. -/
  | msixMask
  /-- CXL.cache enable. -/
  | cacheEnable
  /-- HDM decoder commit. -/
  | hdmCommit
  /-- HDM decoder base. -/
  | hdmBase
  deriving DecidableEq, Repr

/-- Target of REGISTER_WRITE. -/
inductive RegTarget
  /-- control BAR offset and access size in bytes (R350) -/
  | control (off size : Nat)
  /-- mailbox BAR offset and access size in bytes (R364) -/
  | mailbox (off size : Nat)
  /-- a field of configuration space that HG.LINKSTAT or MSI-X shows (R347, R358) -/
  | config (r : CfgReg)
  deriving DecidableEq, Repr

/-- Atomic operations of the common remote attributes (chapter 04), coded 0 to 3. -/
inductive AtomicOp
  | add | min | max | cas
  deriving DecidableEq, Repr

/-- Atomic types of the common remote attributes, coded 0 to 5. -/
inductive AtomicTy
  | int32 | int64 | fp32 | uint32 | uint64 | cas128
  deriving DecidableEq, Repr

/-- Bytes an atomic type covers (R148, R294). -/
def AtomicTy.bytes : AtomicTy → Nat
  | .int32 => 4
  | .uint32 => 4
  | .fp32 => 4
  | .int64 => 8
  | .uint64 => 8
  | .cas128 => 16

/-- Code of an atomic operation. -/
def AtomicOp.code : AtomicOp → Nat
  | .add => 0
  | .min => 1
  | .max => 2
  | .cas => 3

/-- Code of an atomic type. -/
def AtomicTy.code : AtomicTy → Nat
  | .int32 => 0
  | .int64 => 1
  | .fp32 => 2
  | .uint32 => 3
  | .uint64 => 4
  | .cas128 => 5

/-- The atomic operation of a code. -/
def AtomicOp.ofCode : Nat → Option AtomicOp
  | 0 => some .add
  | 1 => some .min
  | 2 => some .max
  | 3 => some .cas
  | _ => none

/-- The atomic type of a code. -/
def AtomicTy.ofCode : Nat → Option AtomicTy
  | 0 => some .int32
  | 1 => some .int64
  | 2 => some .fp32
  | 3 => some .uint32
  | 4 => some .uint64
  | 5 => some .cas128
  | _ => none

/-- A remote access that a Tally thread issues (R79, R148, R298, R329). -/
inductive RemoteOp
  | load (addr size : Nat)
  | store (addr : Nat) (data : List Byte)
  | atomic (op : AtomicOp) (ty : AtomicTy) (addr operand compare : Nat)
  | fence
  /-- the memory of another Stand of the same Canopy (R79, R81): physical Stand, byte address -/
  | standLoad (stand off size : Nat)
  | standStore (stand off : Nat) (data : List Byte)
  | standAtomic (op : AtomicOp) (ty : AtomicTy) (stand off operand compare : Nat)
  /-- waiting for a descriptor's completion is a remote access (R80) -/
  | awaitDescriptor (tag : Nat)
  deriving DecidableEq, Repr

/-- A core thread of a Stand: compute site, physical Stand, physical position 0 to 20, hardware thread 0 to 7 (R71, R78). -/
structure Thread where
  site : Nat
  stand : Nat
  pos : Nat
  thread : Nat
  deriving DecidableEq, Repr

/-- What a home's read of scratch words met (R95): words corrected, and whether one could not be; with the plane of the port that serves it. -/
structure HomeRead where
  plane : Nat
  corrected : Nat
  bad : Bool
  deriving DecidableEq, Repr

/-- What a thread's own read of SRAM words met (R77, R95). -/
structure ThreadRead where
  t : Thread
  corrected : Nat
  bad : Bool
  deriving DecidableEq, Repr

/-- What the reads of a site's share met in Stand memory (R77): words corrected, and the places of those that could not be. -/
structure ShareRead where
  site : Nat
  corrected : Nat
  bad : List Nat
  deriving DecidableEq, Repr

/-- The operation that a bond beat belongs to (R98): a thread's access, a transfer by its tag, or none that this site waits for. -/
inductive BeatOwner
  | access (t : Thread)
  | transfer (tag : Nat)
  | other
  deriving DecidableEq, Repr

/-- Wrong symbols in one codeword of a frame (R317, R319): which codeword of the frame, its count from the last marker, the symbols. -/
structure CodewordErrors where
  index : Nat
  c : Nat
  wrong : List Nat
  deriving DecidableEq, Repr

/-- Readings of one path (R260): the port whose transmitter sends, from the slot source tag (a fibre port's partner has none), and the readings of
stages 1 to 10, 0.01 dBm. -/
structure PathSample where
  src : Nat
  levels : List Int
  deriving DecidableEq, Repr

/-- What a Cruiser does on a transfer (R308). -/
inductive CruiserMode
  | none
  | append (poly : Nat)
  | check (poly : Nat)
  deriving DecidableEq, Repr

/-- A transfer descriptor (R80, R308, R326). Its layout is not given; these are the values the rules use. -/
structure XferDesc where
  /-- 1: read from the rack address into the local address; 0: write the local bytes to it. -/
  isRead : Bool
  /-- local address: the site's own memory -/
  local_ : Nat
  /-- rack address (R148) -/
  remote : Nat
  length : Nat
  /-- RACK scope, else PACKAGE scope (R148) -/
  rack : Bool
  /-- posted atomic adds of a SCATTER in mode 1 (R327); type of the elements -/
  scatterAdd : Option AtomicTy
  cruiser : CruiserMode
  deriving DecidableEq, Repr

/-- A Spillway frame header and payload (R318, R319). `tagOk` is the outcome of the AES-GCM check (R341). -/
structure Frame where
  kind : Nat
  enc : Bool
  poison : Bool
  posted : Bool
  last : Bool
  dst : Nat
  src : Nat
  address : Nat
  /-- issue generation, tag [31:24] -/
  gen : Nat
  /-- unit and thread at the source, tag [23:0] -/
  unit : Nat
  hops : Nat
  credit : Nat
  epoch : Nat
  aop : Nat
  aty : Nat
  status : Nat
  size : Nat
  /-- link frame counter of an encrypted frame -/
  counter : Nat
  tagOk : Bool
  payload : List Byte
  deriving DecidableEq, Repr

/-- The four ways a self-test ends (R378, R493). -/
inductive TestResult
  | pass | fail | notRun
  deriving DecidableEq, Repr

/-- Sources of thermal demand on a zone (R414, R415). -/
inductive DemandSource
  | canopy | understory | basin
  deriving DecidableEq, Repr

/-- Sides of a plane port (R254). -/
inductive Side
  | tx | rx
  deriving DecidableEq, Repr

/-- A ring: Basin port, plane, side and index; 0 to 17 fixed, 18 and 19 the roaming drop rings of a receiver. The rings of fibre port p
have port 64 + p and plane 0. -/
structure RingId where
  port : Nat
  plane : Nat
  side : Side
  idx : Nat
  deriving DecidableEq, Repr

/-- One measurement of a ring (R266, R269): heater code, and its biases (modulator: DC bias, drive swing; drop ring:
detector bias and three PAM4 thresholds), in one unit of 1 mV. -/
structure RingMeas where
  heater : Nat
  biases : List Nat
  deriving DecidableEq, Repr

/-- Outcome of reading one HBM line (R283, R286): `stack` where the stack itself reports a correction. -/
inductive ReadOutcome
  | clean | stack | corrected | uncorrectable
  deriving DecidableEq, Repr

/-- Kinds of fault report (R492, R496). -/
inductive FaultKind
  /-- an uncorrectable error, or another rule that calls for the unit's targeted self-test (R492) -/
  | unit
  /-- a steward's silence, a Chime loss, an uncorrectable error in Understory or Cistern logic (R496) -/
  | die
  /-- the active Ranger (R476) -/
  | activeRanger
  /-- the Headgate (R496) -/
  | headgate
  /-- the Basin keeper outside a plane scheduler (R496) -/
  | basinKeeper
  deriving DecidableEq, Repr

/-- Causes of a Ranger handover (R476), as the HANDOVER event codes them 1 to 4. -/
inductive HandoverCause
  | lockstep | sram | watchdog | periodic
  deriving DecidableEq, Repr

/-- SPDM 1.2 requests over DOE (R482). -/
inductive SpdmReq
  | getCertificate
  | challenge (nonce : Nat)
  | getMeasurements (index : Nat)
  | keyExchange (data : Nat)
  | other (code : Nat)
  deriving DecidableEq, Repr

/-- What the physical device shows at the end of a bring-up stage (R428 to R444): inputs of BRINGUP_STAGE_COMPLETE. Each
stage reads the fields that its rules name. -/
structure StageFindings where
  /-- S0: rails out of range, bit mask in the order of the rails table -/
  rails : Nat
  /-- S0: fuse block readable -/
  fuseOk : Bool
  /-- S0: ROM self-tests -/
  romA : Bool
  romB : Bool
  /-- S1: the boot flash answers -/
  flashOk : Bool
  /-- S1: the standby Ranger boots -/
  standbyBoots : Bool
  /-- S2: the Chime line is received at the Headgate and the active Ranger -/
  chimeOk : Bool
  /-- S2: lanes that fail the bring-up check: port, plane, side, lane -/
  lanesBad : List RingId
  /-- S2: comb sources that do not light: Wellhead, source -/
  combsBad : List (Nat × Nat)
  /-- S4: dies that failed the image check twice (Basin ports) -/
  imageBad : List Nat
  /-- S5: units that fail the logic test, as unit identifiers (R460) -/
  unitsBad : List Nat
  /-- S6: channels that fail training twice or meet a fence condition: stack, channel -/
  channelsBad : List (Nat × Nat)
  /-- S6: rows that fail a pass, with the outcome of their hard repair: identifier, repaired -/
  rowsBad : List (Nat × Bool)
  /-- S8: the splitter-tree calibration succeeds (R442) -/
  splitterOk : Bool
  deriving DecidableEq, Repr

/-- Findings of a stage in which nothing fails. -/
def StageFindings.good : StageFindings :=
  { rails := 0, fuseOk := true, romA := true, romB := true, flashOk := true, standbyBoots := true, chimeOk := true
    lanesBad := [], combsBad := [], imageBad := [], unitsBad := [], channelsBad := [], rowsBad := [], splitterOk := true }

end Sys2Proof
end

