-- ==== Sys2Proof/Syntax.lean ====
section
/-!
DEFINITION. The commands of the block: one constructor for each row of opcode_table.json, in the table's order. The table
gives a row no operand fields; the operands are the values that the row's rules use (log 2).
-/

namespace Sys2Proof

/-- A command of the block. -/
inductive Instr
  /-- MB_DOORBELL_WRITE (R366): A host write of MB.DOORBELL with GO 1 is checked and, when accepted, the Headgate copies the command, records xtb_accepted and sets ST to QUEUED. Operands: channel, value of the 8-byte store. -/
  | mbDoorbellWrite (ch : Nat) (value : Word)
  /-- COMMAND_START (R369): The active Ranger starts a queued command in doorbell order, up to 16 at once, sets ST to RUNNING and applies the checks of R370. -/
  | commandStart
  /-- COMMAND_COMPLETE (R367): A running command completes: the device writes the response body, the header, MB.SEQ, sets ST to DONE and sends the channel's MSI-X message when NOTIFY is set. Operands: channel. -/
  | commandComplete (ch : Nat)
  /-- REGISTER_WRITE (R13): A host write to a register or field that has no row of its own takes effect by its field type, with bad accesses setting HG.ERRSTAT.BAD_ACCESS. Operands: target and value. -/
  | registerWrite (target : RegTarget) (value : Word)
  /-- HG_DOORBELL_RESTART (R351): A write of HG.DOORBELL with KEY 0x5A3C and RESTART 1 restarts the device as PERST# does within 1 ms. Operands: value written. -/
  | hgDoorbellRestart (value : Word)
  /-- DEV_QUERY (R373): Returns the Rantil version, firmware version, serial and current logical counts of the device. Operands: channel. -/
  | devQuery (ch : Nat)
  /-- DEV_STATE (R374): Returns the device state, bring-up stage, mode axes and session counts. Operands: channel. -/
  | devState (ch : Nat)
  /-- BRINGUP_LOG_READ (R433): Returns stage reports 0 to 9 and writes bring-up log entries to a host buffer. Operands: channel. -/
  | bringupLogRead (ch : Nat)
  /-- SESSION_OPEN (R381): Opens a session with its orphan hold time and returns its id and token. Operands: channel. -/
  | sessionOpen (ch : Nat)
  /-- SESSION_CLOSE (R383): Closes a session, ending its streams, unloading its graphs and unmapping its regions. Operands: channel. -/
  | sessionClose (ch : Nat)
  /-- SESSION_REATTACH (R384): Reattaches an open or ORPHANED session given its id and token, with lock-out after repeated token failures. Operands: channel. -/
  | sessionReattach (ch : Nat)
  /-- HOST_KEEPALIVE (R382): Counts as session activity and returns the session state and XTB. Operands: channel. -/
  | hostKeepalive (ch : Nat)
  /-- GRAPH_LOAD (R109): Validates an Arbor image in device memory in the order of R116 and, on success, copies it and returns a graph handle. Operands: channel. -/
  | graphLoad (ch : Nat)
  /-- GRAPH_UNLOAD (R110): Releases a LOADED or PLACED graph and its placement. Operands: channel. -/
  | graphUnload (ch : Nat)
  /-- GRAPH_PLACE (R151): Places a graph with its binding and installs the placement at a round boundary, or reports a placement failure. Operands: channel. -/
  | graphPlace (ch : Nat)
  /-- GRAPH_QUERY (R154): Returns a graph's image summary and writes its placement report to a host buffer. Operands: channel. -/
  | graphQuery (ch : Nat)
  /-- ROUND_CONFIG (R169): Sets the round period, epoch and on-package timeout, with the new schedule starting at the first boundary after completion. Operands: channel. -/
  | roundConfig (ch : Nat)
  /-- STREAM_CREATE (R176): Binds a stream declaration of a placed graph to a result ring and intake rings or a feeder, and returns a stream id. Operands: channel. -/
  | streamCreate (ch : Nat)
  /-- STREAM_DESTROY (R210): Ends a paused stream at the next round boundary, abandoning items in flight and discarding held results. Operands: channel. -/
  | streamDestroy (ch : Nat)
  /-- INTAKE_RING_CREATE (R178): Creates an intake ring in device or host memory and writes the device half of its control block. Operands: channel. -/
  | intakeRingCreate (ch : Nat)
  /-- RESULT_RING_CREATE (R180): Creates a result ring, writes its control block and every slot header, and binds its MSI-X vector. Operands: channel. -/
  | resultRingCreate (ch : Nat)
  /-- STREAM_PAUSE (R209): Stops intake of a stream from the next cut-off. Operands: channel. -/
  | streamPause (ch : Nat)
  /-- STREAM_RESUME (R209): Restarts intake of a paused stream at the next cut-off. Operands: channel. -/
  | streamResume (ch : Nat)
  /-- DECODE_POOL_CONFIG (R202): Sets layers, max_context and spill region for a decode declaration, effective at the next GRAPH_PLACE. Operands: channel. -/
  | decodePoolConfig (ch : Nat)
  /-- REGION_MAP (R279): Maps a populated 4 KiB-aligned DPA range in one view as a region and returns its handle. Operands: channel. -/
  | regionMap (ch : Nat)
  /-- REGION_UNMAP (R279): Releases a region handle selected by the unmap flag, refused while a placed or bound graph references it. Operands: channel. -/
  | regionUnmap (ch : Nat)
  /-- MIRROR_CONFIG (R289): Stores the number of mirrored 64 GiB units, effective at the next start. Operands: channel. -/
  | mirrorConfig (ch : Nat)
  /-- FABRIC_JOIN (R332): Joins the Spillway fabric with node, epoch, timeout, ports, encryption and barrier role, putting enabled ports into PROBING. Operands: channel. -/
  | fabricJoin (ch : Nat)
  /-- FABRIC_LEAVE (R336): Sends LEAVE, times out new RACK operations, waits for outstanding ones, darkens ports and sets the fabric axis OFF. Operands: channel. -/
  | fabricLeave (ch : Nat)
  /-- FABRIC_TABLE_SET (R335): Writes route table entries inline or from a table image into every engine's copy, optionally raising the epoch. Operands: channel. -/
  | fabricTableSet (ch : Nat)
  /-- FABRIC_QUERY (R336): Returns the fabric header and the eight port records. Operands: channel. -/
  | fabricQuery (ch : Nat)
  /-- POWER_CAP_SET (R403): Sets the package power cap, effective at the next round boundary and optionally persisted. Operands: channel. -/
  | powerCapSet (ch : Nat)
  /-- FREQ_STEP_SET (R394): Requests a frequency step for CD9 or CD10, voted at the named round boundary. Operands: channel. -/
  | freqStepSet (ch : Nat)
  /-- TRICKLE_CONFIG (R409): Sets Trickle enable and level, effective at the next round boundary. Operands: channel. -/
  | trickleConfig (ch : Nat)
  /-- THERMAL_POLICY_QUERY (R425): Returns the thermal policy, power state, limits and sensor summary. Operands: channel. -/
  | thermalPolicyQuery (ch : Nat)
  /-- TIMEBASE_CONFIG (R159): Sets timebase mode, pps_delay and reacquire, taking effect at once and persisted. Operands: channel. -/
  | timebaseConfig (ch : Nat)
  /-- TIMEBASE_STATUS (R167): Returns the timebase state, offsets, holdover age and round configuration. Operands: channel. -/
  | timebaseStatus (ch : Nat)
  /-- COOLANT_CONFIG (R420): Sets coolant sensor addresses, minimum flow, valve duty limits and target rise, stored in flash. Operands: channel. -/
  | coolantConfig (ch : Nat)
  /-- FW_UPDATE_BEGIN (R470): Begins a firmware or configuration update, erasing the slot not booted for target 0. Operands: channel. -/
  | fwUpdateBegin (ch : Nat)
  /-- FW_UPDATE_BLOCK (R471): Checks and writes one 64 KiB block of the update with read-back. Operands: channel; whether the block reads back as written. -/
  | fwUpdateBlock (ch : Nat) (readbackOk : Bool)
  /-- FW_UPDATE_COMMIT (R472): Verifies the written slot and, on success, stages the image or stores the configuration record. Operands: channel. -/
  | fwUpdateCommit (ch : Nat)
  /-- FW_ACTIVATE (R473): With mode 1, makes the staged slot the trial preferred slot for the next start. Operands: channel. -/
  | fwActivate (ch : Nat)
  /-- FW_ACTIVATE_LIVE (R474): With mode 0, starts a live activation that hands control to the standby running the new image at boundary m. Operands: channel. -/
  | fwActivateLive (ch : Nat)
  /-- LICENCE_INSTALL (R481): Checks and stores a Stumpage licence record whose features join at the next round boundary. Operands: channel. -/
  | licenceInstall (ch : Nat)
  /-- LICENCE_QUERY (R481): Returns the licence records installed and the features in force and pending. Operands: channel. -/
  | licenceQuery (ch : Nat)
  /-- DEBUG_NONCE_REQUEST (R484): With the nonce-request flag, returns a new nonce that replaces any earlier one. Operands: channel. -/
  | debugNonceRequest (ch : Nat)
  /-- DEBUG_UNLOCK (R484): Checks an UNLOCK, RELOCK or RETIRE token against the held nonce and, if valid, changes the lifecycle and restarts. Operands: channel. -/
  | debugUnlock (ch : Nat)
  /-- TELEMETRY_READ (R379): Writes the records of a telemetry selector to a host buffer. Operands: channel. -/
  | telemetryRead (ch : Nat)
  /-- EVENT_LOG_READ (R488): Writes event log entries from a given number to a host buffer and returns the next entry number. Operands: channel. -/
  | eventLogRead (ch : Nat)
  /-- DEFECT_MAP_READ (R459): Writes the Field Defect Map in force, held changes included, to a host buffer. Operands: channel. -/
  | defectMapRead (ch : Nat)
  /-- CALIBRATION_STATUS (R275): Returns the calibration header and port records of one plane. Operands: channel. -/
  | calibrationStatus (ch : Nat)
  /-- SELFTEST_RUN (R378): Runs the test of a named unit and, with the clear flag, removes its defect-map mark on a pass. Operands: channel; what the test shows; its duration in µs. -/
  | selftestRun (ch : Nat) (result : TestResult) (duration : Nat)
  /-- CRUISER_RUN (R306): Runs a Cruiser check-value computation over a DPA range with optional resume and finish. Operands: channel. -/
  | cruiserRun (ch : Nat)
  /-- TEST_MODE_ENTER (R521): Ends other sessions, enters TEST and starts the loopback or test pattern of the selector. Operands: channel. -/
  | testModeEnter (ch : Nat)
  /-- TEST_MODE_EXIT (R376): Stops the test and restarts the device from S0. Operands: channel. -/
  | testModeExit (ch : Nat)
  /-- PERST_ASSERT (R362): PERST# resets the whole device, ending sessions, discarding graphs and zeroising HBM keys. -/
  | perstAssert
  /-- PERST_DEASSERT (R514): Deassertion of PERST# starts link training and bring-up at S0 once the input is good. -/
  | perstDeassert
  /-- LINK_UP (R349): Link training completes and the Headgate answers configuration and control-BAR requests. Operands: trained lanes, rate code of HG.LINKSTAT, latency-optimised flits. -/
  | linkUp (width rate : Nat) (lopt : Bool)
  /-- HOT_RESET (R358): A hot reset, link-down or FLR resets only host-port state and clears the snoop filter. Operands: true when the link stays down. -/
  | hotReset (linkDown : Bool)
  /-- CXL_MEM_READ (R354): A host CXL.mem read of a 64-byte line is served from HBM or returns poison outside the populated range. Operands: offset from the decoder base, line-aligned by the device. -/
  | cxlMemRead (x : Nat)
  /-- CXL_MEM_WRITE (R354): A host CXL.mem write reaches the home line-op queue, bypassing the read-only table, or is discarded. Operands: offset, 64 bytes, poison mark. -/
  | cxlMemWrite (x : Nat) (data : List Byte) (poisoned : Bool)
  /-- BI_SNOOP_RESPONSE (R355): A BIRsp or BISnpData from the host lets the waiting device access proceed. Operands: 64-byte line number; the data of BISnpData. -/
  | biSnoopResponse (line : Nat) (data : Option (List Byte))
  /-- BI_SNOOP_TIMEOUT (R355): A snoop unanswered for 1 ms completes its access with POISON and sets BI_TIMEOUT. Operands: 64-byte line number. -/
  | biSnoopTimeout (line : Nat)
  /-- CXL_CACHE_READ_COMPLETE (R356): A CXL.cache read of a producer, descriptor or payload returns its data. Operands: host physical address of the read, the bytes returned. -/
  | cxlCacheReadComplete (addr : Nat) (data : List Byte)
  /-- CXL_CACHE_READ_TIMEOUT (R356): A CXL.cache read not completed in 100 µs sets CACHE_TIMEOUT and fails its cut-off sample or item. Operands: host physical address of the read. -/
  | cxlCacheReadTimeout (addr : Nat)
  /-- HOST_SNOOP (R356): The device answers a host snoop to a line of its CXL.cache. Operands: host physical line address. -/
  | hostSnoop (line : Nat)
  /-- IDE_INTEGRITY_FAIL (R357): An IDE integrity failure discards affected traffic and sets IDE to FAILED. -/
  | ideIntegrityFail
  /-- IDE_KEY_EXCHANGE (R357): Completion of an IDE_KM key exchange makes the stream SECURE. -/
  | ideKeyExchange
  /-- SPDM_REQUEST (R482): The Headgate answers an SPDM 1.2 request received over DOE. Operands: the request. -/
  | spdmRequest (req : SpdmReq)
  /-- MSIX_UNMASK (R352): A pending MSI-X message is sent once its vector becomes sendable. Operands: vector. -/
  | msixUnmask (vector : Nat)
  /-- INPUT_UNDERVOLTAGE (R401): The input below 40 V for more than 100 µs resets the device as PERST#. Operands: input voltage, 0.1 V. -/
  | inputUndervoltage (deciVolts : Nat)
  /-- INPUT_RESTORED (R401): The input at or above 42 V for 10 ms starts bring-up at S0. Operands: input voltage, 0.1 V. -/
  | inputRestored (deciVolts : Nat)
  /-- POWER_SAMPLE (R405): Every 1 µs the package input power is measured and the fast limiter and ramp governor act. Operands: a compute site's own input or the package input; the reading. -/
  | powerSample (site : Option Nat) (milliwatts deciVolts : Nat)
  /-- LIMITER_STEP (R406): Every 10 µs a power limiter whose 1 ms average exceeds 0.98 of its limit lowers Trickle or adds work skipping. Operands: which limiter. -/
  | limiterStep (site : Option Nat)
  /-- LIMITER_RELEASE (R406): Every 100 µs below 0.95 of its limit a limiter undoes one step. Operands: which limiter. -/
  | limiterRelease (site : Option Nat)
  /-- TRICKLE_RATIO_STEP (R410): Every 100 µs the Trickle ratio moves by 1/16 toward its target on every compute site. -/
  | trickleRatioStep
  /-- SENSOR_SAMPLE (R411): Every 10 µs the control sensors are sampled, suspect checks applied and throttle skip updated. Operands: sensor position (model's own code), index, 0.1 °C. -/
  | sensorSample (die sensor : Nat) (reading : Int)
  /-- THROTTLE_DIVIDER_TIMER (R414): After 1 ms at or above demand the divider doubles, or after 1 ms below demand minus 5 K it returns one level. Operands: throttle state. -/
  | throttleDividerTimer (site zone : Nat) (source : DemandSource)
  /-- THROTTLE_SKIP_DECAY (R414): Every 100 µs below demand minus 2 K the skip falls by 1/16. Operands: throttle state. -/
  | throttleSkipDecay (site zone : Nat) (source : DemandSource)
  /-- THERMAL_TRIP (R417): A trip group with 2 of 3 sensors over the trip temperature for 2 samples trips in hardware. Operands: trip group number (R417), its three readings in 0.1 °C. -/
  | thermalTrip (group : Nat) (readings : List Int)
  /-- THERMAL_POLICY_RESTART (R419): After every sensor reads below 70 °C for 60 s following a trip, the device restarts under RESTART or BOTH. -/
  | thermalPolicyRestart
  /-- COOLANT_POLL (R420): Every 100 ms the coolant sensors are read over I3C and the COOL_VALVE duty is set. Operands: the three reads in raw units; none: the sensor did not answer. -/
  | coolantPoll (inlet outlet flow : Option Nat)
  /-- CAP_DERATE_TIMER (R422): A coolant condition lasting 1 s derates the cap, and its absence for 10 s undoes it at a round boundary. -/
  | capDerateTimer
  /-- FLASH_WRITE_RESUME (R424): After FLASH_IF reads in range for 10 s, held event-log entries are written in order. -/
  | flashWriteResume
  /-- CHIME_LOSS (R389): A die that receives no Chime reference for 1 µs holds its loops and reports the loss. Operands: Basin port of the die, or 0x80 + Wellhead. -/
  | chimeLoss (port : Nat)
  /-- REFCLK_LOSS (R390): The Headgate finding no REFCLK for 1 µs holds the Chime line. -/
  | refclkLoss
  /-- REFCLK_HOLD_EXPIRY (R390): REFCLK not back within 1 ms puts the device into SAFE_HOLD. -/
  | refclkHoldExpiry
  /-- SUPPLY_DROOP (R391): A region's oscillator lowers its frequency within 2 ns when its supply droops. Operands: core region; frequency its supply supports. -/
  | supplyDroop (site stand pos mhz : Nat)
  /-- SUPPLY_RECOVERY (R391): When the supply recovers the oscillator returns to its ceiling within 100 ns. Operands: core region. -/
  | supplyRecovery (site stand pos : Nat)
  /-- SUSTAINED_DROOP (R392): A region in droop for 10 µs without a break enters sustained droop. Operands: core region. -/
  | sustainedDroop (site stand pos : Nat)
  /-- VOLTAGE_RISE_START (R395): At +P − 50 µs the rails begin rising for a requested step-up and the new ceiling code is staged. -/
  | voltageRiseStart
  /-- FREQUENCY_STEP_VOTE (R396): At +P − 5 µs each Site steward sends its ready or not-ready vote. Operands: voting site, domain, rails within 1 %, ceiling code staged. -/
  | frequencyStepVote (site : Nat) (dom : Domain) (railOk staged : Bool)
  /-- FREQUENCY_STEP_DECISION (R396): At +P − 3 µs the active Ranger decides COMMIT or DEFER, journals it and sends it to every site. -/
  | frequencyStepDecision
  /-- STEP_DECISION_MISSING (R398): A site holding no decision at +P − 1 µs keeps its old ceiling and STEP_SPLIT is logged. Operands: sites that hold no decision. -/
  | stepDecisionMissing (sites : List Nat)
  /-- TB_PPS_EDGE (R160): A TB_PPS rising edge is timestamped, the offset measured and timebase transitions applied. Operands: high time of the pulse before, ns. -/
  | tbPpsEdge (prevHigh : Nat)
  /-- TB_TOD_FRAME (R158): A TB_TOD frame is checked for validity and counted for its PPS edge, and may step the count in ACQUIRING. Operands: the 16 bytes of the frame that ends now. -/
  | tbTodFrame (bytes : List Byte)
  /-- TB_CLK_LOSS (R160): TB_CLK absent for 1 µs moves LOCKED to HOLDOVER or ACQUIRING back. -/
  | tbClkLoss
  /-- TB_PPS_LOSS (R160): No TB_PPS edge for 1.05 s moves LOCKED to HOLDOVER or ACQUIRING back. -/
  | tbPpsLoss
  /-- XTB_RATE_CORRECTION (R157): Every 10 µs the Headgate sends each replica a rate correction. -/
  | xtbRateCorrection
  /-- HOLDOVER_AGE_LIMIT (R344): HOLDOVER age passing 10 s withdraws the module from rack barriers. -/
  | holdoverAgeLimit
  /-- ROUND_BOUNDARY (R172): At +0 of each round the committed step, substitutions, placement installs and licence features take effect. -/
  | roundBoundary
  /-- INTAKE_DESCRIPTOR_READ (R187): Taken descriptors are read and checked for rejection before dispatch, and consumer is written. -/
  | intakeDescriptorRead
  /-- CALIBRATION_WINDOW_OPEN (R267): At +2 µs each plane port begins calibrating one ring position. -/
  | calibrationWindowOpen
  /-- CALIBRATION_WINDOW_CLOSE (R268): At +P − 60 µs unaccepted calibrations are aborted and traffic returns to its own lanes. -/
  | calibrationWindowClose
  /-- DISPATCH (R172): At +10 µs the stage work of the round begins on every site and Trickle stops. -/
  | dispatch
  /-- SHARE_COMPLETE (R174): A site's share of a stage completes, its items become ready to publish and its Mill cores enter Trickle. Operands: batch of dispatched items, site whose share completes, Stand-memory words that its cores read and that were corrected or could not be (R77). -/
  | shareComplete (batch : Nat) (share : ShareRead)
  /-- STAGE_DEADLINE (R173): At +P − 40 µs a share not complete reports OVERRUN. -/
  | stageDeadline
  /-- PUBLICATION_WINDOW_OPEN (R196): At +P − 40 µs consumed is read, slots reclaimed and results published in the order of R193. -/
  | publicationWindowOpen
  /-- PUBLICATION_DEADLINE (R194): At +P − 10 µs published is written, MSI-X sent and the barrier word written. -/
  | publicationDeadline
  /-- SESSION_ORPHAN_TIMER (R382): A session with no doorbell accepted for 5 s becomes ORPHANED. Operands: session id. -/
  | sessionOrphanTimer (session : Nat)
  /-- ORPHAN_HOLD_EXPIRY (R383): An ORPHANED session whose hold time has run is closed. Operands: session id. -/
  | orphanHoldExpiry (session : Nat)
  /-- REATTACH_LOCKOUT_EXPIRY (R384): The 60 s reattach lock-out of a session ends. Operands: session id. -/
  | reattachLockoutExpiry (session : Nat)
  /-- TALLY_REMOTE_ACCESS (R79): A Tally thread issues a remote load, store, atomic or fence and parks. Operands: thread, scope, operation. -/
  | tallyRemoteAccess (t : Thread) (rack : Bool) (op : RemoteOp)
  /-- REMOTE_ACCESS_COMPLETE (R79): A remote access's data, acknowledgement or status arrives and its thread becomes ready. Operands: thread, SRAM words that it reads and that were corrected, whether one could not be (R77, R95). -/
  | remoteAccessComplete (read : ThreadRead)
  /-- REMOTE_ACCESS_TIMEOUT (R79): A remote access without response within its timeout completes with TIMEOUT. Operands: thread. -/
  | remoteAccessTimeout (t : Thread)
  /-- TRANSFER_DESCRIPTOR_WRITE (R80): A Tally thread writes a transfer descriptor to the site's transfer engine. Operands: thread, descriptor. -/
  | transferDescriptorWrite (t : Thread) (desc : XferDesc)
  /-- BOND_BEAT_UNCORRECTABLE (R98): An uncorrectable bond beat completes its operation with POISON and starts the group's self-test. Operands: bond group; the operation that the beat belongs to. -/
  | bondBeatUncorrectable (site group : Nat) (beat : BeatOwner)
  /-- CORE_AGEING_LOWER (R84): A core's ageing monitor below threshold lowers its maximum by one 25 MHz step. Operands: physical core. -/
  | coreAgeingLower (site stand pos : Nat)
  /-- UNDERSTORY_RESET (R103): An Understory reset quiesces the Canopy, poisons outstanding transfers and zero-fills the SRAM. Operands: compute site. -/
  | understoryReset (site : Nat)
  /-- UNDERSTORY_READY (R104): The Understory reports ready and the Site steward reloads the Canopy. Operands: compute site. -/
  | understoryReady (site : Nat)
  /-- CANOPY_RESET (R107): A Canopy-only reset discards its pending responses and reloads the Canopy. Operands: compute site. -/
  | canopyReset (site : Nat)
  /-- CANOPY_RELOAD_COMPLETE (R104): The Canopy reload completes and Stands resume at the next round boundary. Operands: compute site. -/
  | canopyReloadComplete (site : Nat)
  /-- SLOT_BOUNDARY (R221): Each 28 ns slot the plane schedulers latch requests, match, grant and switch, and cells are sent. -/
  | slotBoundary
  /-- CELL_RECEIVE (R242): A receiver decodes a cell, discards it if uncorrectable, and accepts it into the receive buffer. Operands: receiver; symbols received wrong, each a codeword and its symbol (R217); a misdelivered cell's own receiver (R218). -/
  | cellReceive (port plane : Nat) (wrong : List (Nat × Nat)) (astray : Option (Nat × Nat))
  /-- BULK_WRITE (R220): A BULK_WRITE cell's payload is written at its address and XFER_ACK sent when the transfer is whole. Operands: receiver. -/
  | bulkWrite (port plane : Nat)
  /-- BULK_READ_DATA (R220): A BULK_READ_DATA cell's payload is written in the requester's memory. Operands: receiver. -/
  | bulkReadData (port plane : Nat)
  /-- CONTROL (R217): A CONTROL cell delivers firmware, journal or management messages. Operands: receiver. -/
  | control (port plane : Nat)
  /-- MULTICAST (R234): A MULTICAST cell is accepted by every receiver of its row or column set. Operands: receiver. -/
  | multicast (port plane : Nat)
  /-- LOAD (R293): A LOAD record at its home is served after every earlier operation on its line. Operands: home's port and plane; scratch words that it reads and that were corrected, whether one could not be (R95). -/
  | load (port : Nat) (read : HomeRead)
  /-- STORE (R294): A STORE record enters the line-op queue as one line update. Operands: home's port and plane. -/
  | store (port plane : Nat)
  /-- ATOMIC (R294): An ATOMIC record enters the line-op queue, with adds combined under R295. Operands: home's port and plane; scratch words that it reads and that were corrected, whether one could not be (R95). -/
  | atomic (port : Nat) (read : HomeRead)
  /-- LOAD_RSP (R79): A LOAD_RSP record returns data to the requesting thread. Operands: requester's port and plane. -/
  | loadRsp (port plane : Nat)
  /-- STORE_ACK (R79): A STORE_ACK record completes a store at the requester. Operands: requester's port and plane. -/
  | storeAck (port plane : Nat)
  /-- ATOMIC_RSP (R79): An ATOMIC_RSP record returns the old value to the requester. Operands: requester's port and plane. -/
  | atomicRsp (port plane : Nat)
  /-- XFER_ACK (R220): An XFER_ACK record completes a transfer at its source. Operands: source's port and plane. -/
  | xferAck (port plane : Nat)
  /-- PARTIAL_TRANSFER_EXPIRY (R220): A receiver discards partial transfer state when its copy of the timeout expires. Operands: receiver, source port, transfer tag. -/
  | partialTransferExpiry (port src transfer : Nat)
  /-- PLANE_SCHEDULER_FAIL (R240): A failed plane scheduler removes its plane from every mask at once. Operands: plane. -/
  | planeSchedulerFail (plane : Nat)
  /-- SWITCH_PORT_FAIL (R457): A failed switch port is held out and steered to a spare switch port. Operands: plane port. -/
  | switchPortFail (port plane : Nat)
  /-- COMB_FAILURE (R250): A comb line 3 dB low for 2 samples switches the Wellhead to its hot spare. Operands: Wellhead. -/
  | combFailure (wellhead : Nat)
  /-- COMB_SWITCH_COMPLETE (R250): The spare comb's lines read in range and grants resume. Operands: Wellhead. -/
  | combSwitchComplete (wellhead : Nat)
  /-- TUNING_LOOP_UPDATE (R254): Every 1 µs each ring's tuning loop updates its heater code with feedforward. Operands: ring, monitor error inside the lock window, loop's own move, change of the field's Basin sensor in 0.01 K. -/
  | tuningLoopUpdate (ring : RingId) (inWindow : Bool) (step dTemp : Int)
  /-- LANE_IDENTITY_CHECK (R253): After a lock the ring's pilot identity is read and compared, with resweep or spare move on failure. Operands: ring, identity read or none without sync. -/
  | laneIdentityCheck (ring : RingId) (identity : Option Nat)
  /-- RELOCK_TIMEOUT (R259): A lane without a spare not relocked after 1 ms retires its plane port. Operands: plane port. -/
  | relockTimeout (port plane : Nat)
  /-- OPTICAL_MONITOR_SAMPLE (R260): Every 1 µs the optical power monitors are read. Operands: receiver and line, the path's source and
  readings. -/
  | opticalMonitorSample (port plane line : Nat) (sample : PathSample)
  /-- LASER_AGEING_CHECK (R264): Once per second each comb's line margin is compared with 3.0 dB and its bias raised. -/
  | laserAgeingCheck
  /-- CALIBRATION_MEASUREMENT_COMPLETE (R269): The two calibration measurements complete and are accepted or counted as a disagreement. Operands: plane port, the two measurements of both rings, Basin temperature in 0.1 °C. -/
  | calibrationMeasurementComplete (port plane : Nat) (tx1 tx2 rx1 rx2 : RingMeas) (temp : Int)
  /-- CALIBRATION_STORE_WRITE (R273): Once per hour changed temperature sets and biases are written to flash. -/
  | calibrationStoreWrite
  /-- LINE_FILL_COMPLETE (R293): A line read into the line buffer lets its pending operations be applied. Operands: stack, stack-local line, what the read finds. -/
  | lineFillComplete (stack line : Nat) (outcome : ReadOutcome)
  /-- LINE_UPDATE (R293): One line update applies the next pending operations on a line in arrival order. Operands: stack, line. -/
  | lineUpdate (stack line : Nat)
  /-- LINE_WRITEBACK (R293): A line idle for 1 µs, or evicted, is written back. Operands: stack, line. -/
  | lineWriteback (stack line : Nat)
  /-- MIRROR_COPY_ACK (R290): The odd stack's copy is written and the home sends the requester's acknowledgement. Operands: even stack, line. -/
  | mirrorCopyAck (stack line : Nat)
  /-- SCRUB_READ (R285): The background scrub reads and checks a line, rewriting it corrected. Operands: stack, line, what the read finds. -/
  | scrubRead (stack line : Nat) (outcome : ReadOutcome)
  /-- ROW_TEST_COMPLETE (R287): The row test passes as a transient or fails and starts soft post-package repair. Operands: row identifier (R460), outcome, whether the bank has a spare row. -/
  | rowTestComplete (unit : Nat) (pass spareRow : Bool)
  /-- SOFT_PPR_COMPLETE (R287): Soft repair completes and waiting operations on the row resume. Operands: row identifier. -/
  | softPprComplete (unit : Nat)
  /-- CHANNEL_TIMEOUT (R302): HBM read data not arrived 1 µs after issue gives POISON to its requesters. Operands: stack, line whose data did not arrive. -/
  | channelTimeout (stack line : Nat)
  /-- PARITY_ALERT (R304): An HBM command or address parity alert is counted toward the firewall triggers. Operands: channel. -/
  | parityAlert (stack channel : Nat)
  /-- CHANNEL_RETRAIN_COMPLETE (R304): A fenced channel's retrain and row tests complete, returning it or keeping it fenced. Operands: channel, outcome. -/
  | channelRetrainComplete (stack channel : Nat) (pass : Bool)
  /-- IEEE1500_ACTIVITY (R304): Activity on the IEEE 1500 port not driven by the Cistern fences the stack. Operands: stack. -/
  | ieee1500Activity (stack : Nat)
  /-- STACK_TEMP_READ (R303): Every 1 ms the stack temperature report is read and the control temperature formed. Operands: stack, its report, the four nearest Cistern sensors, 0.1 °C. -/
  | stackTempRead (stack : Nat) (report : Int) (die : List Int)
  /-- GATHER_REDUCE_JOB_SUBMIT (R281): A 64-byte store to a job page queues a Gather-reduce job or is held pending. Operands: Cistern's port and plane. -/
  | gatherReduceJobSubmit (port plane : Nat)
  /-- GATHER_REDUCE_JOB_COMPLETE (R300): A job finishes pooling and sends its completion record, or an index fault. Operands: stack. -/
  | gatherReduceJobComplete (stack : Nat)
  /-- BARRIER_WORD_LOAD (R345): A 16-byte load of the barrier word returns the last barrier outcome. Operands: plane of port 48. -/
  | barrierWordLoad (plane : Nat)
  /-- CISTERN_RESET (R309): A Cistern reset zeroises keys, rewrites the stack as zero and restores the mirrored part. Operands: stack. -/
  | cisternReset (stack : Nat)
  /-- FRAME_TRANSMIT (R324): A queued Spillway frame is sent once a credit of its class is held. Operands: fibre port. -/
  | frameTransmit (port : Nat)
  /-- MARKER (R318): A marker codeword arrives, returning credits and applying LANE_MAP or KEY_SWITCH changes due at it. Operands: fibre port, marker fields. -/
  | marker (port credit nextStart seq : Nat)
  /-- FRAME_UNCORRECTABLE (R319): An uncorrectable header or payload codeword discards the frame or codewords to the next marker. Operands: fibre port; codeword of the frame; its number from the last marker; symbols received wrong; whether the frame is a response. -/
  | frameUncorrectable (port : Nat) (errors : CodewordErrors) (response : Bool)
  /-- SPILLWAY_LOAD (R325): A LOAD frame for this node is served at its home and answered with LOAD_RSP. Operands: fibre port, frame. -/
  | spillwayLoad (port : Nat) (f : Frame)
  /-- SPILLWAY_STORE (R325): A STORE frame for this node is applied at its home and answered with STORE_ACK. Operands: fibre port, frame. -/
  | spillwayStore (port : Nat) (f : Frame)
  /-- SPILLWAY_ATOMIC (R327): An ATOMIC frame for this node is applied at its home, posted adds combined. Operands: fibre port, frame. -/
  | spillwayAtomic (port : Nat) (f : Frame)
  /-- SPILLWAY_BULK_WRITE (R326): A BULK_WRITE frame is written within its granule and answered with BULK_ACK. Operands: fibre port, frame. -/
  | spillwayBulkWrite (port : Nat) (f : Frame)
  /-- SPILLWAY_BULK_READ (R320): A BULK_READ frame is answered with one BULK_READ_DATA frame of the requested size. Operands: fibre port, frame. -/
  | spillwayBulkRead (port : Nat) (f : Frame)
  /-- SPILLWAY_RESPONSE (R331): A LOAD_RSP, STORE_ACK, ATOMIC_RSP, BULK_ACK or BULK_READ_DATA frame completes its operation or fails the tag check as late. Operands: fibre port, frame. -/
  | spillwayResponse (port : Nat) (f : Frame)
  /-- TRANSIT_FORWARD (R337): A frame for another node is forwarded by the route table after epoch and hop checks. Operands: fibre port, frame. -/
  | transitForward (port : Nat) (f : Frame)
  /-- SPILLWAY_TIMEOUT (R331): A frame's Spillway timeout expires and its operation completes with TIMEOUT. Operands: tag of the frame. -/
  | spillwayTimeout (gen unit : Nat)
  /-- STALE_FRAME_EXPIRY (R338): A frame held over 10 ms is discarded as stale. Operands: fibre port. -/
  | staleFrameExpiry (port : Nat)
  /-- HELLO (R321): A received HELLO gives the partner's node, epoch, credits and policy. Operands: fibre port and the HELLO fields. -/
  | hello (port version node epoch reqCredits rspCredits : Nat) (required : Bool)
  /-- HELLO_TIMER (R321): Every 10 ms an UP port sends HELLO. Operands: fibre port. -/
  | helloTimer (port : Nat)
  /-- LANE_MAP (R314): A received LANE_MAP schedules a lane-map change at a named marker and is confirmed. Operands: fibre port, 18 roles, effective marker. -/
  | laneMap (port : Nat) (map : List Nat) (seq : Nat)
  /-- LEAVE (R321): A received LEAVE takes the port DOWN at once. Operands: fibre port. -/
  | leave (port : Nat)
  /-- SPDM (R341): A received SPDM message advances the link key agreement. Operands: fibre port; whether the message ends the agreement, and well. -/
  | spdm (port : Nat) (done ok : Bool)
  /-- KEY_SWITCH (R342): A received KEY_SWITCH names the marker from which the new key is used. Operands: fibre port, marker. -/
  | keySwitch (port seq : Nat)
  /-- REKEY_TIMER (R342): After 2^31 frames or 1 h on a key a new key agreement starts. Operands: fibre port. -/
  | rekeyTimer (port : Nat)
  /-- PORT_LOSS_OF_LIGHT (R323): Three lines below −28 dBm for 0.5 µs, or marker loss, is detected on a port. Operands: fibre port, marker loss instead of loss of light, light still received. -/
  | portLossOfLight (port : Nat) (byMarker light : Bool)
  /-- APR_ENTRY (R316): All received lines below −28 dBm for 5 ms drop launch power and enter PROBING. Operands: fibre port. -/
  | aprEntry (port : Nat)
  /-- APR_PROBE_LIGHT (R316): Line 0 above −20 dBm for 1 ms restores full power and starts training. Operands: fibre port. -/
  | aprProbeLight (port : Nat)
  /-- PORT_UP (R322): Training completes and the port becomes UP. Operands: fibre port. -/
  | portUp (port : Nat)
  /-- TRAINING_TIMEOUT (R322): A port not UP 500 ms after leaving PROBING returns to PROBING. Operands: fibre port. -/
  | trainingTimeout (port : Nat)
  /-- SPILLWAY_COMB_FAILURE (R312): A Spillway comb source failure switches its port to the shared spare or leaves it DOWN. Operands: Spillway engine, comb source 0 to 2. -/
  | spillwayCombFailure (engine source : Nat)
  /-- BARRIER_ARRIVE_SEND (R343): A member sends BARRIER_ARRIVE once its RACK operations before the deadline have completed. -/
  | barrierArriveSend
  /-- BARRIER_ARRIVE_DEADLINE (R343): At +P − 25 µs a member sends its arrival with the incomplete flag. -/
  | barrierArriveDeadline
  /-- BARRIER_ARRIVE (R343): The root counts a member's arrival and releases when the last arrives. Operands: fibre port, frame. -/
  | barrierArrive (port : Nat) (f : Frame)
  /-- BARRIER_RELEASE_DEADLINE (R343): At +P − 15 µs the root sends BARRIER_RELEASE with the incomplete flag. -/
  | barrierReleaseDeadline
  /-- BARRIER_RELEASE (R343): A member receives the release and records the barrier outcome. Operands: fibre port, frame, members withdrawn at the root (R345). -/
  | barrierRelease (port : Nat) (f : Frame) (withdrawn : Nat)
  /-- BARRIER_MISSED (R343): A member holding no release at +P − 10 µs records MISSED. -/
  | barrierMissed
  /-- BARRIER_WITHDRAW (R344): A received withdrawal removes a member from the count, or suspends members when the root withdraws. Operands: fibre port, frame. -/
  | barrierWithdraw (port : Nat) (f : Frame)
  /-- BARRIER_REJOIN (R344): A received rejoin restores a member to the barrier from the following round. Operands: fibre port, frame. -/
  | barrierRejoin (port : Nat) (f : Frame)
  /-- FAULT_REPORT (R498): A fault report is queued or merged, or abandons the recovery in progress when it touches its path. Operands: unit identifier (R460), kind. -/
  | faultReport (unit : Nat) (kind : FaultKind)
  /-- RECOVERY_START (R498): The fault manager takes the next queued fault, or re-tests an isolated site, as one recovery. -/
  | recoveryStart
  /-- TARGETED_SELF_TEST_COMPLETE (R492): A targeted self-test passes as transient or fails as lasting. Operands: unit identifier, outcome. -/
  | targetedSelfTestComplete (unit : Nat) (result : TestResult)
  /-- RECOVERY_TIMEOUT (R500): A recovery without outcome after 100 ms is abandoned and its site isolated. -/
  | recoveryTimeout
  /-- STEWARD_HEARTBEAT_MISSED (R496): A Site, Cistern steward or Spillway engine silent for 100 µs starts its reset. Operands: Basin port of the die. -/
  | stewardHeartbeatMissed (port : Nat)
  /-- CORRECTED_ERROR_HOUR (R490): Each hour corrected counts are logged and units over 1,024 are tested. -/
  | correctedErrorHour
  /-- COPPICE_PREPARATION_COMPLETE (R449): A substitute is prepared and placed at the first round boundary 10 µs later. Operands: identifier of the failed unit. -/
  | coppicePreparationComplete (unit : Nat)
  /-- RANGER_HANDOVER (R476): The active Ranger asserts handover on a fault and the control token passes to a current standby. Operands: cause. -/
  | rangerHandover (cause : HandoverCause)
  /-- RANGER_WATCHDOG_EXPIRY (R476): No watchdog kick for 100 µs makes the active Ranger give up control. -/
  | rangerWatchdogExpiry
  /-- RANGER_PERIODIC_SELF_TEST (R476): Once per second the active Ranger runs its self-test. Operands: outcome. -/
  | rangerPeriodicSelfTest (pass : Bool)
  /-- HANDOVER_COMPLETE (R476): The new active Ranger applies the journal and drives every output. -/
  | handoverComplete
  /-- JOURNAL_HEARTBEAT_MISSED (R477): A standby missing 50 µs of heartbeat is stale and management becomes SIMPLEX. -/
  | journalHeartbeatMissed
  /-- STANDBY_RESYNC_COMPLETE (R477): The standby completes resynchronisation and management returns to DUPLEX. -/
  | standbyResyncComplete
  /-- RANGER_ROM_SELF_TEST_COMPLETE (R478): A Ranger held in reset finishes its ROM self-test and boots as standby or is marked BAD. Operands: which Ranger, outcome. -/
  | rangerRomSelfTestComplete (rangerB pass : Bool)
  /-- HANDOFF_BLOCK_WRITE (R474): At m−1 +360 µs the active Ranger stops starting commands and writes the handoff block. -/
  | handoffBlockWrite
  /-- LIVE_ACTIVATION_TIMEOUT (R475): A standby not ready 10 s after activation abandons it and the axis returns to STAGED. -/
  | liveActivationTimeout
  /-- FDM_WRITE (R459): A Field Defect Map change is written to both copies in turn within 10 s. -/
  | fdmWrite
  /-- BRINGUP_STAGE_COMPLETE (R427): A bring-up stage ends, writes its report and the next stage begins or bring-up stops. Operands: what the stage finds. -/
  | bringupStageComplete (findings : StageFindings)
  /-- BRINGUP_STAGE_TIMEOUT (R428): A stage not ended at its maximum duration ends with FAIL, STAGE_TIMEOUT. -/
  | bringupStageTimeout
  /-- DISCOVERY_RESPONSE (R435): A die answers the S3 discovery cell with its kind and identifiers. Operands: position and identity answered. -/
  | discoveryResponse (position kind id1 id2 : Nat)
  /-- STEWARD_START_TIMEOUT (R437): A die whose steward does not report running within 1 s at S4 is excluded. Operands: Basin port. -/
  | stewardStartTimeout (port : Nat)
  /-- BYPASS (R517): The BYPASS instruction selects the bypass register. -/
  | bypass
  /-- IDCODE (R516): The IDCODE instruction selects the identification register. -/
  | idcode
  /-- SAMPLE_PRELOAD (R517): The SAMPLE/PRELOAD instruction samples or preloads the boundary register. Operands: levels sampled or preloaded. -/
  | samplePreload (pins : Nat)
  /-- EXTEST (R519): EXTEST takes control of the boundary cells where its lifecycle allows. -/
  | extest
  /-- CLAMP (R517): CLAMP holds the boundary outputs and selects bypass where permitted. -/
  | clamp
  /-- HIGHZ (R517): HIGHZ sets the boundary outputs high-impedance where permitted. -/
  | highz
  /-- CHAIN_SELECT (R520): CHAIN_SELECT places selected die TAPs into the chain at the next Run-Test/Idle. Operands: the 64-bit data register. -/
  | chainSelect (bits : Word)
  /-- PORT_LOOPBACK (R521): The PORT_LOOPBACK instruction runs plane-port loopback through the TAP. -/
  | portLoopback
  /-- BOND_LOOPBACK (R521): The BOND_LOOPBACK instruction runs bond-group loopback through the TAP. -/
  | bondLoopback
  /-- RANGER_DEBUG (R517): The RANGER_DEBUG instruction gives Ranger run control where permitted. -/
  | rangerDebug
  /-- TRST_ASSERT (R523): TRST# resets the TAP and stops any loopback it started. -/
  | trstAssert
  /-- REFCLK_RESTORED (R390): REFCLK returns at the Headgate within its 1 ms hold, and the cleaning loop and the device continue from it. -/
  | refclkRestored
  /-- TB_CLK_RESTORED (R163): TB_CLK becomes present again and, in HOLDOVER, drives the master count in place of the corrected CD0. -/
  | tbClkRestored
  /-- CISTERN_RESET_COMPLETE (R309): A Cistern in recovery finishes rewriting its stack as zero and copying back its mirrored part, and the stack returns to service. Operands: stack. -/
  | cisternResetComplete (stack : Nat)
  /-- DISCOVERY_TIMEOUT (R435): A position that has not answered the S3 discovery cell within 10 ms is found silent and excluded for this start. Operands: position. -/
  | discoveryTimeout (position : Nat)
  /-- IDLE_CODEWORD (R324): A received idle codeword returns the request and response credits in its credit field. Operands: fibre port, credit field. -/
  | idleCodeword (port credit : Nat)
  /-- CDAT_TABLE_ACCESS (R347): A CDAT table access request over the DOE mailbox is answered with the DSMAS, DSLBIS and DSEMTS structures. -/
  | cdatTableAccess
  deriving DecidableEq, Repr

end Sys2Proof
end

