-- ==== Sys2Proof/Decode.lean ====
section
/-!
DEFINITION. Decoding: the table of commands gives no row any bits, so no word spells a command.
-/

namespace Sys2Proof

/-- The command a word spells by the table's bits: none, for no row of the table gives bits. -/
def decodeTableWord (nbits w : Nat) : Option Instr :=
  match nbits, w with
  | _, _ => none

end Sys2Proof
end

