-- ==== Sys2Proof/Config.lean ====
section
/-!
DEFINITION. What the spec leaves open (log 13): free values, each an opaque constant without a body, applied to the
operands it depends on or to the model's counter of draws; and the constants of the part.
-/

namespace Sys2Proof.Config

/-- DESIGN CHOICE, free value (log 14): the Headgate's random bit generator, draw number `n` (12 R381, 17 R484). -/
opaque random : Nat → Nat
/-- DESIGN CHOICE, free value (log 15): whether a signature verifies under the key chain, given the key class (0 firmware,
1 licence, 2 debug, 3 product CA) and the signed bytes with the signature (17 R464). -/
opaque sigValid : Nat → List Byte → Bool
/-- DESIGN CHOICE, free value (log 15): SHA-256 of bytes, as a number (17 R464, R482). -/
opaque sha256 : List Byte → Nat
/-- DESIGN CHOICE, free value (log 15): an SPDM signature or key-exchange answer for a transcript (17 R482). -/
opaque spdmSign : List Nat → Nat
/-- DESIGN CHOICE, free value (log 16): the placement's choice number `what` for node `node` in placement draw `n` (04 R151). -/
opaque place : Nat → Nat → Nat → Nat
/-- DESIGN CHOICE, free value (log 17): which of the FP32 codes within the bound of R67 an operation gives: draw, operation code,
operand bits or index of the result; where the spec states no result, its bits. -/
opaque transcend : Nat → Nat → Nat → Nat
/-- DESIGN CHOICE, free value (log 18): the increment chosen at a TB_PPS edge, draw `n` (05 R531); the model clamps it. -/
opaque increment : Nat → Int
/-- DESIGN CHOICE, free value (log 18): the TB_CLK-to-CD0 rate ratio measured at an edge, less 1, 2^-16, draw `n` (05 R163). -/
opaque clkRatio : Nat → Int
/-- DESIGN CHOICE, free value (log 27): by how much a die's replica of the count differs from the master, 2^-16 ns: draw, die (05 R157);
the model clamps it. -/
opaque replica : Nat → Nat → Int
/-- DESIGN CHOICE, free value (log 19): the duty the PI law of COOL_VALVE asks for, draw `n` (14 R421); the model clamps it. -/
opaque valve : Nat → Nat
/-- DESIGN CHOICE, free value (log 20): the cache way that replacement evicts, draw `n` (03 R92). -/
opaque victim : Nat → Nat
/-- DESIGN CHOICE, free value (log 21): bytes a remote or host memory returns that no command supplied, draw `n`. -/
opaque farByte : Nat → Nat → Byte
/-- DESIGN CHOICE, free value (log 22): which of several writers of one row of a SCATTER in mode 0 wins, and in which order the adds of
mode 1 take place: draw, choice number (04 R137). -/
opaque scatterWinner : Nat → Nat → Nat
/-- DESIGN CHOICE, free value (log 23): bits per loopback lane that a test finds in error, and margins (19 R522). -/
opaque loopResult : Nat → Nat → Nat
/-- DESIGN CHOICE, free value (log 24): the certificate chain as the flash holds it (17 R482). -/
opaque certChain : List Byte
/-- DESIGN CHOICE, free value (log 24): measurement `index` of the running image of a version, of the ROM or of the package
manifest (17 R482). -/
opaque imageDigest : Nat → Nat → Nat
/-- DESIGN CHOICE, free value (log 28): bank and row that a Cistern chooses for a line of its stack (09 R278). -/
opaque bankRow : Nat → Nat → Nat × Nat

/-- DESIGN CHOICE, free value (log 10): expected reading, 0.01 dBm, of a path's stage as the calibration store held it at
manufacture (08 R260): port, plane, line, stage. -/
opaque expected : Nat → Nat → Nat → Nat → Int

/-- DESIGN CHOICE, free value (log 33): the 16 check bits of an S144 codeword's datum, whose code the spec does not give (10 R317). -/
opaque s144Check : Nat → BitVec 16

/-- DESIGN CHOICE, free value (log 33): byte `index` of an encrypted frame's payload and tag on the link: fibre port, generation of its
key, frame counter, index (10 R341); the keys are those of the session. -/
opaque cipherByte : Nat → Nat → Nat → Nat → Byte

/-- DESIGN CHOICE, free value (log 35): whether the splitter-tree calibration that a round boundary repeats succeeds (15 R442). -/
opaque splitter : Nat → Bool

end Sys2Proof.Config
end

