-- ==== Sys2Proof/Machine/Parts/Graphs.lean ====
section
/-!
DEFINITION. State of Arbor graphs and their placements (chapter 04), regions (R279), streams, rings and items
(chapter 06).
-/

namespace Sys2Proof.Machine

/-- An element of a tensor: its code; for a Ladder format its block scale and the FP32 tile scale with it. -/
structure Elem where
  code : Nat
  scale : Nat
  tile : Nat
  deriving DecidableEq, Repr

/-- A parsed tensor descriptor (R117). -/
structure Tensor where
  format : Nat
  rank : Nat
  cls : Nat
  flags : Nat
  source : Nat
  dims : List Nat
  offset : Nat
  size : Nat
  deriving DecidableEq, Repr

/-- A parsed node record (R125). -/
structure Node where
  opcode : Nat
  inputs : List Nat
  outputs : List Nat
  flags : Nat
  attrs : List Byte
  /-- byte offset of the record in the image -/
  at_ : Nat
  deriving DecidableEq, Repr

/-- A weight-region reference (R122). -/
structure WeightRef where
  region : Nat
  offset : Nat
  length : Nat
  flags : Nat
  crc : Nat
  deriving DecidableEq, Repr

/-- A stream declaration (R124). -/
structure Decl where
  kind : Nat
  maxItems : Nat
  payload : Nat
  param : Nat
  result : Nat
  kvState : Nat
  resultBytes : Nat
  drafts : Nat
  rounds : Nat
  decodeStreams : Nat
  deriving DecidableEq, Repr

/-- One node of an expression (R130). -/
structure ExprNode where
  op : Nat
  a : Nat
  b : Nat
  c : Nat
  imm : Nat
  deriving DecidableEq, Repr

/-- A configured decode pool (R202). -/
structure Pool where
  decl : Nat
  layers : Nat
  maxContext : Nat
  region : Nat
  pages : Nat
  deriving DecidableEq, Repr

/-- The content of a validated image (R109 to R130). -/
structure Image where
  name : List Byte
  features : Nat
  tensors : List Tensor
  nodes : List Node
  constants : List Byte
  weights : List WeightRef
  decls : List Decl
  exprs : List (List ExprNode)
  /-- section index of the graph section; section index and offset of the weight-region references (R150) -/
  graphSect : Nat
  weightSect : Nat
  weightBase : Nat
  deriving DecidableEq, Repr

/-- The graph binding (R151, graph binding table). -/
structure Binding where
  seed : Nat
  margin : Nat
  siteMask : Nat
  items : List Nat
  deriving DecidableEq, Repr

/-- What the placement chose for one node (R154, node record). -/
structure NodePlace where
  unit : Nat
  stage : Nat
  kSplit : Nat
  tree : Nat
  limiting : Nat
  slowest : Nat
  /-- logical cores used: those of its unit first, in the order of its shares -/
  coreSet : List Nat
  budget : Nat
  sites : Nat
  deriving DecidableEq, Repr

/-- A placement in force or waiting for its boundary (R152 to R154). -/
structure Placement where
  binding : Binding
  generation : Nat
  installed : Nat
  nodes : List NodePlace
  /-- (site, scratch ways, Stands used, scratch bytes) of each site used -/
  sites : List (Nat × Nat × Nat × Nat)
  stages : Nat
  limiting : Nat
  /-- nodes whose work found no site or core (R153) -/
  unplaced : List Nat
  /-- decode pools in force (R202) -/
  pools : List Pool
  /-- number of the draw that made its choices (the model's own, log 16) -/
  choice : Nat
  /-- write pages of the decode pools: (site, pages) in page order (R202) -/
  kv : List (Nat × Nat)
  /-- standing grants that its latency-bound flows need: (plane, source, destination, positions) (R230) -/
  flows : List (Nat × Nat × Nat × Nat)
  deriving DecidableEq, Repr

/-- STATE memory of one tensor of one stream or decode stream (storage classes, R202). -/
structure StateMem where
  stream : Nat
  decode : Nat
  tensor : Nat
  /-- bytes by offset; an unlisted byte reads 0 -/
  cells : List Host.Cell
  /-- poisoned ranges (offset, length) (R528) -/
  poison : List (Nat × Nat)
  deriving DecidableEq, Repr

/-- A loaded graph (R109, R110). -/
structure Graph where
  /-- graph handle. 32 bits; 04 R109; none at reset -/
  handle : Nat
  /-- owning session. 32 bits; 12 R529; none at reset -/
  session : Nat
  /-- the validated image, copied. up to 1 GiB; 04 R109; none at reset -/
  image : Image
  /-- placement in force. optional; 04 R152; none at reset -/
  placed : Option Placement
  /-- placement that installs at the next boundary. optional; 04 R152; none at reset -/
  installing : Option Placement
  /-- to be placed again at the next boundary. 1 bit; 04 R153; none at reset -/
  stale : Bool
  /-- decode pool settings that the next GRAPH_PLACE takes. list; 06 R202; none at reset -/
  pools : List Pool
  /-- STATE tensors kept across rounds. list; 04 (storage classes), 06 R202, R528; none at reset -/
  stateMem : List StateMem
  deriving DecidableEq, Repr

/-- A mapped region (R279). -/
structure Region where
  handle : Nat
  session : Nat
  stackLocal : Bool
  readOnly : Bool
  dpa : Nat
  length : Nat
  deriving DecidableEq, Repr

/-- Graphs and regions. -/
structure Graphs where
  /-- loaded graphs. at most 64; 04 R109; reset empty -/
  list : List Graph
  /-- next graph handle. 32 bits; 04 R109; reset DESIGN CHOICE 1 (log 5) -/
  nextHandle : Nat
  /-- mapped regions. at most 4,096; 09 R279; reset empty -/
  regions : List Region
  /-- next region handle. 64 bits; 09 R279; reset DESIGN CHOICE 1 (log 5) -/
  nextRegion : Nat
  deriving DecidableEq, Repr

/-- An intake ring (R178, R180). -/
structure IntakeRing where
  /-- ring handle. 32 bits; 06 R177; none at reset -/
  handle : Nat
  /-- owning session. 32 bits; 06 R179; none at reset -/
  session : Nat
  /-- location: true host memory. 1 bit; 06 R177; none at reset -/
  host : Bool
  /-- control block address. 64 bits; 06 R178; none at reset -/
  control : Nat
  /-- entry array address. 64 bits; 06 R178; none at reset -/
  array : Nat
  /-- entries. 17 bits; 06 R178; none at reset -/
  entries : Nat
  /-- consumer. 64 bits; 06 (intake control block); reset at creation 0 -/
  consumer : Nat
  /-- producer last sampled. 64 bits; 06 R185; reset at creation 0 -/
  producer : Nat
  /-- last_cutoff. 64 bits; 06 (intake control block); reset at creation 0 -/
  lastCutoff : Nat
  /-- fault. 32 bits; 06 R189; reset at creation 0 -/
  fault : Nat
  /-- rejected. 32 bits; 06 (intake control block); reset at creation 0 -/
  rejected : Nat
  /-- stream it serves. optional; 06 R177; reset at creation none -/
  stream : Option Nat
  deriving DecidableEq, Repr

/-- A result ring (R178, R180). -/
structure ResultRing where
  /-- ring handle. 32 bits; 06 R177; none at reset -/
  handle : Nat
  /-- owning session. 32 bits; 06 R179; none at reset -/
  session : Nat
  /-- location: true host memory. 1 bit; 06 R177; none at reset -/
  host : Bool
  /-- control block address. 64 bits; 06 R178; none at reset -/
  control : Nat
  /-- slot array address. 64 bits; 06 R178; none at reset -/
  array : Nat
  /-- entries. 17 bits; 06 R178; none at reset -/
  entries : Nat
  /-- MSI-X vector or 0xFFFF. 16 bits; 06 R197; none at reset -/
  vector : Nat
  /-- consumed last accepted. 64 bits; 06 R196, R201; reset at creation 0 -/
  consumed : Nat
  /-- publications written. 64 bits; 06 R194; reset at creation 0 -/
  written : Nat
  /-- published as the control block holds it. 64 bits; 06 R194; reset at creation 0 -/
  published : Nat
  /-- last_publish. 64 bits; 06 (result control block); reset at creation 0 -/
  lastPublish : Nat
  /-- over-large consumed values that have been logged. list of 64 bits; 06 R201; reset at creation empty -/
  badConsumed : List Nat
  /-- stream it serves. optional; 06 R177; reset at creation none -/
  stream : Option Nat
  deriving DecidableEq, Repr

/-- How far an item is (R182 to R196). -/
inductive ItemStage
  /-- taken at a cut-off, descriptor not yet read -/
  | taken
  /-- descriptor accepted, payload being read -/
  | loading
  /-- payload read, waiting for dispatch -/
  | ready
  /-- dispatched: the pipeline stage that runs, and its sites that have not completed -/
  | running (stage : Nat) (left : List Nat)
  /-- the share of a pipeline stage is done; the next stage starts at the next dispatch -/
  | between (stage : Nat)
  /-- work complete, result waits for a publication window -/
  | finished
  deriving DecidableEq, Repr

/-- An item of a stream (R185 to R211). -/
structure Item where
  /-- intake sequence number within the stream. natural; 06 R188; none at reset -/
  seq : Nat
  /-- the descriptor's 64 bytes, as read. 64 bytes; 06 R183; none at reset -/
  desc : List Byte
  /-- ring and index it was taken from. pair; 06 R186; none at reset -/
  ring : Nat
  index : Nat
  /-- round of its cut-off. 64 bits; 06 R190; none at reset -/
  round : Nat
  /-- round of its scheduled publication. 64 bits; 04 R143; none at reset -/
  due : Nat
  /-- where it is. enumeration; 06; none at reset -/
  stage : ItemStage
  /-- round of its last dispatch. 64 bits; 05 R172; none at reset -/
  dispatched : Nat
  /-- position among the items of its round, by which per-item tensors are indexed. 12 bits; 04 R119; none at reset -/
  pos : Nat
  /-- payload bytes read. list; 06 R184; none at reset -/
  payload : Option (List Byte)
  /-- payload read with POISON. 1 bit; 06 R528; none at reset -/
  payloadPoison : Bool
  /-- item status code. 16 bits; 06 R192; none at reset -/
  status : Nat
  /-- detail code. 16 bits; 06 R192; none at reset -/
  detail : Nat
  /-- XTB at which its work completed. 64 bits; 06 R190; none at reset -/
  completion : Nat
  /-- header flags so far. 16 bits; 06 R191; none at reset -/
  flags : Nat
  /-- RESULT tensor bytes. list; 04 R124; none at reset -/
  result : List Byte
  /-- decode stream number. optional; 06 R203; none at reset -/
  decode : Option Nat
  /-- tokens emitted in this round. 3 bits; 06 R204; none at reset -/
  tokens : Nat
  /-- context length of a decode item. 16 bits; 06 R205; none at reset -/
  context : Nat
  /-- tokens emitted in earlier rounds. natural; 04 R140; none at reset -/
  emitted : Nat
  /-- values of the tensors its graph has written so far: (tensor, elements, poisoned). list; 04 (storage classes), 06 R528; none at reset -/
  values : List (Nat × List Elem × Bool)
  deriving DecidableEq, Repr

/-- A stream (R176). -/
structure Stream where
  /-- stream id. 8 bits; 06 R176; none at reset -/
  id : Nat
  /-- owning session. 32 bits; 12 R529; none at reset -/
  session : Nat
  /-- graph handle. 32 bits; 06 R176; none at reset -/
  graph : Nat
  /-- declaration index. 3 bits; 06 R176; none at reset -/
  decl : Nat
  /-- result ring. 32 bits; 06 R176; none at reset -/
  result : Nat
  /-- intake rings in handle order. at most 8; 06 R176; none at reset -/
  intakes : List Nat
  /-- feeder stream. optional; 06 R207; none at reset -/
  feeder : Option Nat
  /-- paused, as intake sees it. 1 bit; 06 R209; none at reset -/
  paused : Bool
  /-- paused from the next cut-off on. 1 bit; 06 R209; none at reset -/
  pausedNext : Bool
  /-- stalled. 1 bit; 06 R196; none at reset -/
  stalled : Bool
  /-- ring it started with at the previous cut-off. optional; 06 R186; none at reset -/
  lastStart : Option Nat
  /-- sequence number of the next item. natural; 06 R188; none at reset -/
  nextSeq : Nat
  /-- items in flight and results that wait for their window, in intake order. list; 06 R188; none at reset -/
  items : List Item
  /-- held and carried results, and in a window those that it publishes, oldest first. list; 06 R193, R196; none at reset -/
  held : List Item
  /-- items of the feeder that enter at the next cut-off. list; 06 R207; none at reset -/
  entering : List Item
  /-- decode streams occupied or reserved: (number, occupying or reserving item). list; 06 R203, R207; none at reset -/
  slots : List (Nat × Nat)
  /-- channel whose STREAM_DESTROY ends it at the next boundary. optional; 06 R210; none at reset -/
  destroying : Option Nat
  deriving DecidableEq, Repr

/-- Streams and rings. -/
structure Streams where
  /-- streams. at most 256; 06 R177; reset empty -/
  list : List Stream
  /-- intake rings. at most 1,024; 06 R177; reset empty -/
  intakes : List IntakeRing
  /-- result rings. at most 256; 06 R177; reset empty -/
  results : List ResultRing
  /-- next ring handle. 32 bits; 06 R177; reset DESIGN CHOICE 1 (log 5) -/
  nextRing : Nat
  /-- consecutive empty rounds. 7 bits; 06 R212; reset 0 -/
  emptyRounds : Nat
  /-- Slack. 1 bit; 06 R212; reset 0 -/
  slack : Bool
  /-- round whose cut-off took the items that end Slack. optional; 06 R213; reset none -/
  slackExit : Option Nat
  /-- stream at which the host-memory limit was last reached. optional 8 bits; 06 R195; reset none -/
  carryAt : Option Nat
  /-- result rings that published in the present window. list; 06 R194, R197; reset empty -/
  touched : List Nat
  /-- window open, consumed reads outstanding. 1 bit; 06 R196; reset 0 -/
  waiting : Bool
  /-- the round in progress is not empty. 1 bit; 06 R212; reset 0 -/
  busy : Bool
  deriving DecidableEq, Repr

end Sys2Proof.Machine
end

