-- ==== Sys2Proof/Machine/Parts/Host.lean ====
section
/-!
DEFINITION. State of the host port (chapter 11), the mailbox and the sessions (chapter 12).
-/

namespace Sys2Proof.Machine

/-- The device states, coded 0 to 5 in this order (11 `HG.DEVSTAT.STATE`). -/
inductive DevState
  | bringup | ready | service | safeHold | test | debug
  deriving DecidableEq, Repr

/-- Why the device reads host memory over CXL.cache (R356). -/
inductive ReadPurpose
  /-- producer sample of an intake ring at a cut-off (R185) -/
  | producer (ring : Nat)
  /-- intake descriptor `index` of a ring (R187) -/
  | descriptor (ring index : Nat)
  /-- payload of an item: stream and intake sequence number of the item (R184) -/
  | payload (stream item : Nat)
  /-- consumed of a result ring at a window opening (R196) -/
  | consumed (ring : Nat)
  deriving DecidableEq, Repr

/-- An outstanding CXL.cache read (R356). -/
structure HostRead where
  addr : Nat
  len : Nat
  purpose : ReadPurpose
  issued : Nat
  /-- a read of device memory that waits for a line the host may hold modified (R355) -/
  dev : Bool
  deriving DecidableEq, Repr

/-- A back-invalidate snoop that waits for its response (R355). -/
structure Snoop where
  line : Nat
  /-- true: BISnpInv; false: BISnpData -/
  inv : Bool
  sent : Nat
  deriving DecidableEq, Repr

/-- What the DOE mailbox answered (R347, R482): the request code, whether it is an SPDM ERROR, and its data. -/
structure DoeAnswer where
  code : Nat
  error : Bool
  data : List Nat
  deriving DecidableEq, Repr

/-- A CXL.mem completion sent to the host (R354): line offset, data, poison mark; a write has no data. -/
structure CxlAnswer where
  x : Nat
  data : List Byte
  poisoned : Bool
  deriving DecidableEq, Repr

/-- The host port. -/
structure HostPort where
  /-- HG.DEVSTAT.STATE, the device state. 4 bits; 11 (DEVSTAT table); reset BRINGUP -/
  devState : DevState
  /-- HG.DEVSTAT.STAGE. 4 bits; 11 (DEVSTAT table); reset 0 -/
  stage : Nat
  /-- HG.DEVSTAT.STAGE_FAIL. 1 bit; 11 (DEVSTAT table), 15 R444; reset 0 -/
  stageFail : Bool
  /-- HG.DEVSTAT.MEM_ACTIVE and the DVSEC Memory_Active bit. 1 bit; 11 R353; reset 0 -/
  memActive : Bool
  /-- HG.DEVSTAT.MB_READY. 1 bit; 12 R365; reset 0 -/
  mbReady : Bool
  /-- whether HG.XTBNOW and HG.ROUNDNOW show their counts: S1 has completed. 1 bit; 11 (register map); reset 0 -/
  xtbShown : Bool
  /-- HG.LINKSTAT.WIDTH. 5 bits; 11 (LINKSTAT table); reset 0 -/
  linkWidth : Nat
  /-- HG.LINKSTAT.RATE. 4 bits; 11 (LINKSTAT table); reset 0 -/
  linkRate : Nat
  /-- HG.LINKSTAT.LOPT. 1 bit; 11 (LINKSTAT table); reset 0 -/
  lopt : Bool
  /-- HG.LINKSTAT.IDE: 0 OFF, 1 SECURE, 2 FAILED. 2 bits; 11 R357; reset 0 -/
  ide : Nat
  /-- HG.LINKSTAT.CACHE_EN. 1 bit; 11 (LINKSTAT table); reset 0 -/
  cacheEn : Bool
  /-- HG.LINKSTAT.MEM_EN, the committed HDM decoder. 1 bit; 11 R353, R358; reset 0 -/
  memEn : Bool
  /-- HG.LINKSTAT.BME, Bus Master Enable. 1 bit; 11 (LINKSTAT table), R360; reset 0 -/
  bme : Bool
  /-- base of the HDM decoder. 64 bits; 11 R353; reset DESIGN CHOICE 0 (log 5) -/
  hdmBase : Nat
  /-- MSI-X enable of configuration space. 1 bit; 11 R352; reset PRESUMED 0 (the PCIe family's) (log 6) -/
  msixEn : Bool
  /-- MSI-X function mask of configuration space. 1 bit; 11 R352; reset PRESUMED 0 (the PCIe family's) (log 6) -/
  msixFnMask : Bool
  /-- MSI-X table, address and data words: (vector, word 0 to 2, value), absent words 0. 2,048 entries; 11 R349; reset PRESUMED all 0 (the PCIe family's) (log 6) -/
  msixTable : List (Nat × Nat × Nat)
  /-- MSI-X table, vectors whose mask bit is 0. 2,048 bits; 11 R352; reset PRESUMED every vector masked (the PCIe family's) (log 6) -/
  msixUnmasked : List Nat
  /-- MSI-X pending bit array, as the list of pending vectors. 2,048 bits; 11 R352; reset PRESUMED none (the PCIe family's) (log 6) -/
  msixPending : List Nat
  /-- MSI-X messages sent, newest first. list; 11 R352; reset empty -/
  msixSent : List Nat
  /-- HG.ERRSTAT. 64 bits; 11 (ERRSTAT table); reset 0 -/
  errstat : Word
  /-- HG.INTSTAT. 64 bits; 11 (INTSTAT table); reset 0 -/
  intstat : Word
  /-- HG.INTMASK. 64 bits; 11 (INTMASK table); reset 0 -/
  intmask : Word
  /-- HG.STAGELOG: (stage, the 64 bytes of its report); an absent entry reads 0. 16 x 64 bytes; 15 R432; reset empty -/
  stageLog : List (Nat × List Byte)
  /-- snoop filter: 64-byte line numbers of device memory the host may hold, oldest first, with 'may hold modified'. 8,388,608 lines; 11 R355; reset empty -/
  snoopFilter : List (Nat × Bool)
  /-- snoops outstanding. list; 11 R355; reset empty -/
  snoops : List Snoop
  /-- lines whose snoop was not answered in time while a record waited to read them. list; 11 R355; reset empty -/
  snoopLost : List Nat
  /-- device cache: (host line address, 64 bytes). 4 MiB; 11 R356; reset empty -/
  devCache : List (Nat × List Byte)
  /-- CXL.cache reads outstanding. list; 11 R356; reset empty -/
  hostReads : List HostRead
  /-- bytes the device stored to host memory (result slots, control blocks). sparse; 11 R356; reset empty -/
  hostMem : List Host.Cell
  /-- CXL.mem completions sent, newest first. list; 11 R354; reset empty -/
  cxlOut : List CxlAnswer
  /-- DOE answers, newest first. list; 11 R347, 17 R482; reset empty -/
  doeOut : List DoeAnswer
  deriving DecidableEq, Repr

/-- What a finished command will answer (R367, R368): status, response body, effect. -/
structure CmdOutcome where
  status : Nat
  body : List Byte
  effect : Nat
  deriving DecidableEq, Repr

/-- State ST of a channel (R366, R367): 0 OFFLINE is what a page reads while MB_READY is 0 (R365). -/
inductive ChanSt
  | idle | queued | running | done
  deriving DecidableEq, Repr

/-- One mailbox channel (12, channel page). -/
structure Channel where
  /-- channel number. 8 bits; 12; reset the channel's number -/
  ch : Nat
  /-- bytes 0x000 to 0x3FF that the host wrote (command header and body), sparse, absent bytes 0. 1,024 bytes; 12 (channel page layout), R364; reset DESIGN CHOICE 0 (log 5) -/
  page : List Host.Cell
  /-- MB.STATE.ST. 3 bits; 12 (MB.STATE); reset 0 OFFLINE, IDLE once MB_READY is 1 -/
  st : ChanSt
  /-- MB.STATE.ERR_BUSY. 1 bit; 12 (MB.STATE); reset 0 -/
  errBusy : Bool
  /-- MB.STATE.ERR_SEQ. 1 bit; 12 (MB.STATE); reset 0 -/
  errSeq : Bool
  /-- MB.STATE.RETRIED. 1 bit; 12 (MB.STATE); reset 0 -/
  retried : Bool
  /-- MB.SEQ.LAST_SEQ. 32 bits; 12 (MB.SEQ); reset 0 -/
  lastSeq : Nat
  /-- MB.SEQ.DONE_COUNT. 32 bits; 12 (MB.SEQ); reset 0 -/
  doneCount : Nat
  /-- command header in the Headgate's buffer. 64 bytes; 12 R366; reset DESIGN CHOICE empty (log 5) -/
  hdr : List Byte
  /-- command body in the Headgate's buffer. 960 bytes; 12 R366; reset DESIGN CHOICE empty (log 5) -/
  body : List Byte
  /-- xtb_accepted of the command. 64 bits; 12 R366; reset DESIGN CHOICE 0 (log 5) -/
  accepted : Nat
  /-- outcome that awaits COMMAND_COMPLETE. optional; 12 R367; reset none -/
  outcome : Option CmdOutcome
  /-- whether the command's effect is journaled. 1 bit; 12 R385; reset 0 -/
  journaled : Bool
  /-- response header area. 64 bytes; 12 R367, R386; reset 0 (empty list) -/
  rspHdr : List Byte
  /-- response body area. 2,752 bytes; 12 R367, R386; reset 0 (empty list) -/
  rspBody : List Byte
  deriving DecidableEq, Repr

/-- A channel nothing has used since MB_READY became 1. -/
def Channel.fresh (ch : Nat) : Channel :=
  { ch, page := [], st := .idle, errBusy := false, errSeq := false, retried := false, lastSeq := 0, doneCount := 0
    hdr := [], body := [], accepted := 0, outcome := none, journaled := false, rspHdr := [], rspBody := [] }

/-- The mailbox. -/
structure Mailbox where
  /-- the channels that differ from a fresh one. 256 channels; 12; reset empty (every channel fresh) -/
  chans : List Channel
  /-- queued commands in the order their doorbells were accepted. list; 12 R369; reset empty -/
  queue : List Nat
  /-- channels in the order in which their last doorbells were accepted. list; 04 R111, 09 R306; reset empty -/
  order : List Nat
  /-- host software's Rantil version that it compares, (major, minor). 2 x 16 bits; 12 R373; reset DESIGN CHOICE (1, 0) (log 7) -/
  hostRantil : Nat × Nat
  deriving DecidableEq, Repr

/-- A session (12, Sessions). -/
structure Session where
  /-- session id. 32 bits; 12 R381; none at reset -/
  id : Nat
  /-- client name, informational. 16 bytes; 12 SESSION_OPEN; none at reset -/
  name : List Byte
  /-- session token. 128 bits; 12 R381; none at reset -/
  token : Nat
  /-- orphan hold time, s. 12 bits; 12 R381; none at reset -/
  hold : Nat
  /-- XTB of the last accepted doorbell under the session. 64 bits; 12 R382; none at reset -/
  lastDoorbell : Nat
  /-- XTB at which the session became ORPHANED. optional 64 bits; 12 R382; none at reset -/
  orphaned : Option Nat
  /-- whether the close has begun. 1 bit; 12 R383; none at reset -/
  closing : Bool
  /-- whether the close has read consumed of the session's result rings. 1 bit; 06 R211; none at reset -/
  closeRead : Bool
  /-- XTB of the AUTH_FAIL results of the last 60 s. list; 12 R384; none at reset -/
  authFails : List Nat
  /-- end of the reattach lock-out. optional 64 bits; 12 R384; none at reset -/
  lockout : Option Nat
  deriving DecidableEq, Repr

/-- The sessions. -/
structure Sessions where
  /-- open sessions, ORPHANED ones included. at most 64; 12 R380; reset empty -/
  list : List Session
  /-- next session id. 32 bits; 12 R381 (1 to 0xFFFF_FFFF, not reused); reset DESIGN CHOICE 1 (log 5) -/
  nextId : Nat
  deriving DecidableEq, Repr

end Sys2Proof.Machine
end

