-- ==== Sys2Proof/Machine/Parts/Manage.lean ====
section
/-!
DEFINITION. State of bring-up (chapter 15), spares and the Field Defect Map (chapter 16), firmware, flash and trust
(chapter 17), faults and the event log (chapter 18), pins and test access (chapter 19).
-/

namespace Sys2Proof.Machine

/-- An entry of the bring-up log (R433). -/
structure BringLog where
  xtb : Nat
  stage : Nat
  kind : Nat
  cause : Nat
  unit : Nat
  value : Nat
  deriving DecidableEq, Repr

/-- Bring-up. -/
structure Bringup where
  /-- PERST# asserted. 1 bit; 15 R427, 19; reset DESIGN CHOICE 0: the state after its deassertion (log 8) -/
  perst : Bool
  /-- whether the stages run. 1 bit; 15 R427; reset 1 -/
  running : Bool
  /-- XTB at which the stage in progress began. 64 bits; 15 R432; reset 0 -/
  stageStart : Nat
  /-- flags [2] and [3] of the stage's report. 2 bits; 15 R432; reset 0 -/
  repeated : Bool
  stepped : Bool
  /-- whether the Field Defect Map changed in this stage. 1 bit; 15 R432; reset 0 -/
  fdmChanged : Bool
  /-- positions that answered discovery. list; 15 R435; reset empty -/
  replied : List Nat
  /-- positions that answered discovery and agree. list; 15 R435, R436; reset empty -/
  answered : List Nat
  /-- positions excluded for this start (Basin ports, 0x80 + Wellhead). list; 15 R436, R437; reset empty -/
  excluded : List Nat
  /-- stewards that report running (Basin ports). list; 15 R437; reset empty -/
  stewards : List Nat
  /-- full memory test selected. 1 bit; 15 R431; reset 0 -/
  fullTest : Bool
  /-- the previous start ended by a trip or an input below 40 V. 1 bit; 15 R431; reset DESIGN CHOICE 0 (log 8) -/
  badEnd : Bool
  /-- bring-up log, newest first. at most 16,384; 15 R433; reset empty -/
  log : List BringLog
  deriving DecidableEq, Repr

/-- An entry of the Field Defect Map (R459). -/
structure FdmEntry where
  unit : Nat
  type : Nat
  source : Nat
  value : Nat
  first : Nat
  last : Nat
  deriving DecidableEq, Repr

/-- The Field Defect Map as the flash holds it (R459): header counts and entries. `hbm`: an HBM event stands in it since the last
full memory test (R431). -/
structure FdmCopy where
  gen : Nat
  starts : Nat
  fullTest : Nat
  dropped : Nat
  hbm : Bool
  entries : List FdmEntry
  deriving DecidableEq, Repr

/-- A substitution under preparation (R449): failed unit, substitute, XTB at which its preparation completed. -/
structure Subst where
  unit : Nat
  substitute : Nat
  ready : Option Nat
  deriving DecidableEq, Repr

/-- Spares and the Field Defect Map. -/
structure Spares where
  /-- units the fuses mark bad. list; 15 R438; reset DESIGN CHOICE empty (log 8) -/
  fuseBad : List Nat
  /-- entries of the FDM in force, held changes included. at most 131,070; 16 R459; reset DESIGN CHOICE empty (log 8) -/
  fdm : List FdmEntry
  /-- FDM generation. 64 bits; 16 R459; reset DESIGN CHOICE 0 (log 8) -/
  fdmGen : Nat
  /-- start count. 32 bits; 16 R459; reset DESIGN CHOICE 0 (log 8) -/
  starts : Nat
  /-- start count of the last full memory test. 32 bits; 16 R459; reset DESIGN CHOICE 0 (log 8) -/
  fullTest : Nat
  /-- TRANSIENT entries dropped. 32 bits; 16 R459; reset DESIGN CHOICE 0 (log 8) -/
  dropped : Nat
  /-- validity of FDM copies 0 and 1 in the flash. 2 bits; 15 R434; reset DESIGN CHOICE both valid (log 8) -/
  copies : Bool × Bool
  /-- whether FDM changes are held and not yet written, since which XTB. optional; 16 R459; reset none -/
  held : Option Nat
  /-- the map as the flash holds it, held changes not included. 4 MiB; 16 R459; reset DESIGN CHOICE empty (log 8) -/
  flash : FdmCopy
  /-- an HBM event was recorded since the last full test. 1 bit; 15 R431; reset 0 -/
  hbmEvent : Bool
  /-- physical Stands excluded at this start: (site, Stand). list; 16 R447; reset empty -/
  standsOut : List (Nat × Nat)
  /-- physical cores excluded or failed at this start: (site, Stand, position). list; 16 R447; reset empty -/
  coresOut : List (Nat × Nat × Nat)
  /-- Coppice: logical Stands whose physical Stand is not that of R447: (site, logical, physical or absent). list; 16 R449, R451; reset empty -/
  standMap : List (Nat × Nat × Option Nat)
  /-- Coppice: logical positions on a spare Mill: (site, physical Stand, logical position, physical position). list; 16 R449, R451; reset empty -/
  coreMap : List (Nat × Nat × Nat × Nat)
  /-- units judged lasting failed since the start. list; 16 R449; reset empty -/
  failed : List Nat
  /-- bond lanes on spares: (site, group, lane, spare). list; 16 R452; reset empty -/
  lanes : List (Nat × Nat × Nat × Nat)
  /-- substitutions under preparation. list; 16 R449; reset empty -/
  substs : List Subst
  /-- Stand substitutions since start: (site, count). list; 12 (spares record); reset empty -/
  substituted : List (Nat × Nat)
  /-- compute sites out of service. list; 16 R456, 18 R497; reset empty -/
  out : List Nat
  /-- capacity axis DEGRADED. 1 bit; 16 R458; reset 0 FULL -/
  degraded : Bool
  deriving DecidableEq, Repr

/-- Header fields of a firmware image that the slot holds (17, image header). -/
structure SlotImage where
  version : Nat
  handoffMin : Nat
  handoff : Nat
  rollback : Nat
  length : Nat
  rantilMajor : Nat
  rantilMinor : Nat
  arborMinor : Nat
  deriving DecidableEq, Repr

/-- A flash slot (R466): committed image, blocks written by an update, whether the image verifies. -/
structure Slot where
  image : Option SlotImage
  /-- blocks of an update: (index, 65,536 bytes) -/
  blocks : List (Nat × List Byte)
  /-- verify_slot's outcome for the committed image (R469), rollback apart -/
  verified : Bool
  deriving DecidableEq, Repr

/-- The boot record (R466). -/
structure BootRec where
  generation : Nat
  preferred : Nat
  trial : Bool
  tried : Bool
  versionA : Nat
  versionB : Nat
  deriving DecidableEq, Repr

/-- The configuration record (R479). -/
structure ConfigRec where
  generation : Nat
  memtest : Nat
  plane3 : Nat
  mirror : Nat
  tbMode : Nat
  ppsDelay : Nat
  cap : Nat
  /-- the 16 bytes of the COOLANT_CONFIG body -/
  coolant : List Byte
  deriving DecidableEq, Repr

/-- An update procedure in progress (R470): target, length, version. -/
structure Update where
  target : Nat
  length : Nat
  version : Nat
  /-- blocks of a configuration procedure -/
  blocks : List (Nat × List Byte)
  deriving DecidableEq, Repr

/-- A live activation (R474). -/
structure Live where
  /-- XTB of the switch-over boundary m -/
  m : Nat
  /-- XTB of the command -/
  started : Nat
  /-- the standby reported ready on the new image -/
  ready : Bool
  /-- the handoff block has been written -/
  block : Bool
  /-- control has passed -/
  passed : Bool
  deriving DecidableEq, Repr

/-- State of a Ranger that is not active (R477, R478). -/
inductive Standby
  | current | stale | booting | selfTest | bad | unused
  deriving DecidableEq, Repr

/-- Firmware, flash, Rangers and trust. -/
structure Firmware where
  /-- unit serial. 64 bits; 15 R435 (fuses); reset DESIGN CHOICE 0 (log 8) -/
  serial : Nat
  /-- lifecycle: 0 MANUFACTURE, 1 DEPLOYED, 2 DEBUG_UNLOCKED, 3 RETIRED. 2 bits; 17 R483; reset DESIGN CHOICE 1 (log 8) -/
  lifecycle : Nat
  /-- debug latch. 1 bit; 17 R485; reset 0 -/
  debugLatch : Bool
  /-- scope of the UNLOCK token. 64 bits; 17 R484; reset DESIGN CHOICE 0 (log 5) -/
  scope : Nat
  /-- debug nonce held. optional 256 bits; 17 R484; reset none -/
  nonce : Option Nat
  /-- anti-rollback fuse count F. 6 bits; 17 R469; reset DESIGN CHOICE 0 (log 8) -/
  fuseF : Nat
  /-- thermal policy fuse: none when blank. optional; 14 R419, 19 R511; reset DESIGN CHOICE blank (log 8) -/
  policyFuse : Option Nat
  /-- flash slot A. 40 MiB; 17 R466; reset DESIGN CHOICE a verified image of version 1 (log 8) -/
  slotA : Slot
  /-- flash slot B. 40 MiB; 17 R466; reset DESIGN CHOICE erased (log 8) -/
  slotB : Slot
  /-- boot record copies 0 and 1, none when invalid. 2 x 64 bytes; 17 R466, R467; reset DESIGN CHOICE copy 0 prefers slot A (log 8) -/
  boot0 : Option BootRec
  boot1 : Option BootRec
  /-- configuration record copies 0 and 1, none when invalid. 2 x 64 bytes; 17 R479; reset DESIGN CHOICE copy 0 with every default (log 8) -/
  conf0 : Option ConfigRec
  conf1 : Option ConfigRec
  /-- package manifest agrees with signature and serial. 1 bit; 15 R435; reset DESIGN CHOICE 1 (log 8) -/
  manifestOk : Bool
  /-- package manifest has its magic, version and entry count. 1 bit; 15 (cause table, S3); reset DESIGN CHOICE 1 (log 8) -/
  manifestForm : Bool
  /-- manifest entries whose identifiers are not 0: (position, kind, die_id, die_id2). 63; 15 R435; reset DESIGN CHOICE empty (log 8) -/
  manifest : List (Nat × Nat × Nat × Nat)
  /-- licence records stored, 256 bytes each. at most 4,096; 17 R466; reset DESIGN CHOICE empty (log 8) -/
  licences : List (List Byte)
  /-- records valid at S7 or installed since. 32 bits; 12 (LICENCE_QUERY); reset 0 -/
  licValid : Nat
  /-- features in force. 64 bits; 17 R481; reset 0 -/
  features : Nat
  /-- features that join at the next boundary. 64 bits; 17 R481; reset 0 -/
  featNext : Nat
  /-- calibration store valid. 1 bit; 15 R434; reset DESIGN CHOICE 1 (log 8) -/
  calOk : Bool
  /-- slot the running image booted from. 1 bit; 17 R468; reset 0 (slot A; set at S1) -/
  booted : Nat
  /-- the running image. header fields; 12 (DEV_QUERY); reset DESIGN CHOICE all 0 until S1 (log 9) -/
  running : SlotImage
  /-- active Ranger: true B. 1 bit; 11 (DEVSTAT.RANGER); reset 0 (set at S0) -/
  rangerB : Bool
  /-- whether a Ranger runs the firmware. 1 bit; 12 R365; reset 0 -/
  rangerUp : Bool
  /-- the other Ranger. enumeration; 17 R477; reset current (HG.DEVSTAT.SIMPLEX resets to 0) -/
  standby : Standby
  /-- XTB of the handover in progress. optional; 17 R476; reset none -/
  handover : Option Nat
  /-- its cause code (event log). 3 bits; 18 (HANDOVER); reset 0 -/
  handoverCause : Nat
  /-- update axis: 0 NONE, 1 STAGED, 2 HANDOFF. 2 bits; 17 R470; reset 0 (set at S1, R505) -/
  update : Nat
  /-- update procedure in progress. optional; 17 R470; reset none -/
  proc : Option Update
  /-- FW_ACTIVATE with mode 1 has completed in this start. 1 bit; 17 R470; reset 0 -/
  activated : Bool
  /-- live activation in progress. optional; 17 R474; reset none -/
  live : Option Live
  /-- restart that follows a DEBUG_UNLOCK or TEST_MODE_EXIT: XTB at which it falls due. optional; 12 R376; reset none -/
  restartAt : Option Nat
  deriving DecidableEq, Repr

/-- An entry of the event log (R488). -/
structure Event where
  number : Nat
  xtb : Nat
  unit : Nat
  outcome : Nat
  code : Nat
  value : Nat
  deriving DecidableEq, Repr

/-- The event log. -/
structure EventLog where
  /-- entries, newest first. at most 524,288; 18 R488; reset DESIGN CHOICE empty (log 8) -/
  entries : List Event
  /-- number of the next entry. 64 bits; 18 R488; reset DESIGN CHOICE 0 (log 8) -/
  next : Nat
  /-- entries held for the flash, newest first. at most 256; 14 R424; reset empty -/
  held : List Event
  /-- entries dropped. 32 bits; 14 R424; reset 0 -/
  dropped : Nat
  deriving DecidableEq, Repr

/-- A fault report in the queue (R498). -/
structure Report where
  unit : Nat
  kind : FaultKind
  deriving DecidableEq, Repr

/-- A recovery in progress (R498): its report, start and whether it re-tests an isolated site. -/
structure Recovery where
  report : Report
  started : Nat
  retest : Bool
  deriving DecidableEq, Repr

/-- Error counts of a unit (R490, error count record). -/
structure ErrCount where
  unit : Nat
  hour : Nat
  corrected : Nat
  uncorrectable : Nat
  deriving DecidableEq, Repr

/-- Faults and recovery. -/
structure Faults where
  /-- queued reports, oldest first. at most 256; 18 R498; reset empty -/
  queue : List Report
  /-- recovery in progress. optional; 18 R498; reset none -/
  now : Option Recovery
  /-- units under targeted self-test: they carry no traffic and no work. list; 18 R492; reset empty -/
  testing : List Nat
  /-- units that resume at the next boundary. list; 18 R492; reset empty -/
  resume : List Nat
  /-- isolated sites awaiting their re-test: (Basin port, units merged). list; 18 R496, R500; reset empty -/
  isolated : List (Nat × List Nat)
  /-- sites that return at the next boundary. list; 18 R497; reset empty -/
  returning : List Nat
  /-- resets of a die within the last 1 h: (Basin port, XTB). list; 18 R496; reset empty -/
  resets : List (Nat × Nat)
  /-- Stands judged lasting in this round: (site, count). list; 18 R496; reset empty -/
  lastingStands : List (Nat × Nat)
  /-- transients of units within 24 h: (unit, XTB). list; 18 R494; reset empty -/
  transients : List (Nat × Nat)
  /-- error counts. list; 18 R490; reset empty -/
  counts : List ErrCount
  /-- TIMEOUT completions of this round. counter; 18 (TIMEOUTS); reset 0 -/
  timeouts : Nat
  /-- SAFE_HOLD cause. 3 bits; 18 (SAFE_HOLD causes); reset 0 -/
  safeCause : Nat
  /-- PLDM restart requests sent to the board. counter; 18 R502; reset 0 -/
  pldm : Nat
  deriving DecidableEq, Repr

/-- A self-test that SELFTEST_RUN runs (R378). -/
structure SelfRun where
  /-- channel of the command while it runs; none when the unit passed and waits for the boundary. optional 8 bits; 12 R378; none at reset -/
  ch : Option Nat
  /-- unit under test. 64 bits; 12 R378; none at reset -/
  unit : Nat
  /-- XTB at which the test began. 64 bits; 12 R378; none at reset -/
  since : Nat
  /-- whether the capacity axis was DEGRADED then. 1 bit; 12 R378; none at reset -/
  degraded : Bool
  /-- whether the unit was out of service already. 1 bit; 12 R378; none at reset -/
  wasOut : Bool
  deriving DecidableEq, Repr

/-- Pins and test access. -/
structure TestPins where
  /-- STRAP_TPOL. 2 bits; 19 R511; reset DESIGN CHOICE 0 (log 8) -/
  tpol : Nat
  /-- STRAP_I3CA. 2 bits; 19 R511; reset DESIGN CHOICE 0 (log 8) -/
  i3ca : Nat
  /-- I3C and SMBus address of the Headgate target. 7 bits; 19 R511; reset 0x40 + STRAP_I3CA (read at S0) -/
  i3cAddr : Nat
  /-- COOL_VALVE driver enabled. 1 bit; 19 R510; reset 0 (S0 enables it) -/
  valveDriven : Bool
  /-- TAP instruction register. 8 bits; 19 R516; reset PRESUMED IDCODE 0x01 (IEEE 1149.1, log 12) -/
  ir : Nat
  /-- boundary register, as one number; its bits' order is the board's BSDL. 1 number; 19 R516; reset DESIGN CHOICE 0 (log 5) -/
  boundary : Nat
  /-- whether the boundary cells drive the pins, or HIGHZ floats them: 0 no, 1 drive, 2 high-impedance. 2 bits; 19 R517; reset 0 -/
  pinsHeld : Nat
  /-- pins as an EXTEST or SAMPLE captured them. 1 number; 19 R516; reset DESIGN CHOICE 0 (log 5) -/
  captured : Nat
  /-- CHAIN_SELECT data register. 64 bits; 19 R520; reset 0 -/
  chain : Nat
  /-- loopback started by JTAG: 0 none, 1 port, 2 bond. 2 bits; 19 R517; reset 0 -/
  jtagLoop : Nat
  /-- Ranger run control through RANGER_DEBUG. 1 bit; 19 R517; reset 0 -/
  rangerDebug : Bool
  /-- test selector of TEST. optional; 19 R521; reset none -/
  selector : Option Nat
  /-- XTB of its entry. 64 bits; 19 R522; reset 0 -/
  entered : Nat
  /-- session that entered TEST. 32 bits; 12 R376; reset 0 -/
  session : Nat
  /-- self-tests on command that run or whose units wait to resume. list; 12 R378; reset empty -/
  runs : List SelfRun
  deriving DecidableEq, Repr

end Sys2Proof.Machine
end

