-- ==== Sys2Proof/Machine/Parts/Power.lean ====
section
/-!
DEFINITION. State of power, thermal control and cooling (chapter 14).
-/

namespace Sys2Proof.Machine

/-- A power limiter (R406): of one compute site, or of the package. -/
structure Limiter where
  /-- site, or none for the package limiter. optional; 14 R406 -/
  site : Option Nat
  /-- readings of the last 1 ms, mW, newest first. at most 1,000; 14 R405; reset empty -/
  readings : List Nat
  /-- work cycle skipping, sixteenths. 4 bits; 14 R406; reset 0 -/
  skip : Nat
  /-- steps taken off the Trickle ratio, sixteenths. 5 bits; 14 R406; reset 0 -/
  trickleOff : Nat
  /-- XTB of the last 10 µs step. 64 bits; 14 R406; reset 0 -/
  lastStep : Nat
  /-- XTB of the last step undone. 64 bits; 14 R406; reset 0 -/
  lastUndo : Nat
  deriving DecidableEq, Repr

/-- A limiter that holds no step. -/
def Limiter.fresh (site : Option Nat) : Limiter :=
  { site, readings := [], skip := 0, trickleOff := 0, lastStep := 0, lastUndo := 0 }

/-- A control sensor (R411, R412). Die: Basin port of the die (the Understory at a compute site), 0x40 + field,
0x80 + Wellhead, 0x100 + site for a Canopy (the model's own code, log 4). -/
structure Sensor where
  die : Nat
  idx : Nat
  /-- reading, 0.1 °C -/
  reading : Int
  /-- not sampled since the last handover (R31): loops do not use the reading -/
  stale : Bool
  suspect : Bool
  /-- consecutive samples off the neighbours' median by more than 8 K -/
  off : Nat
  /-- XTB since which a suspect sensor agrees within 4 K -/
  agreeSince : Option Nat
  /-- XTB at which it became suspect, last 24 h -/
  times : List Nat
  /-- suspect until the next restart -/
  stuck : Bool
  deriving DecidableEq, Repr

/-- Throttle state of one zone and source of demand (R414). -/
structure Throttle where
  site : Nat
  zone : Nat
  source : DemandSource
  skip : Nat
  div : Nat
  /-- control value of the previous sample, 0.1 °C; none before the first sample after a handover (R31) -/
  last : Option Int
  above : Bool
  /-- since when the reading has stayed at or above the demand, or the divider last rose -/
  aboveSince : Nat
  /-- since when it has been below the demand less 2 K, or skip last fell -/
  below2 : Option Nat
  /-- since when it has been below the demand less 5 K with skip 0, or the divider last fell -/
  below5 : Option Nat
  deriving DecidableEq, Repr

/-- Power. -/
structure Power where
  /-- input voltage, 0.1 V. 16 bits; 14 R401; reset DESIGN CHOICE 480, the nominal input (log 8) -/
  volts : Nat
  /-- whether the input is good for bring-up. 1 bit; 14 R401, 19 R514; reset DESIGN CHOICE 1 (log 8) -/
  inputGood : Bool
  /-- cap in force before derating, W. 14 bits; 14 R403; reset 15,000 -/
  cap : Nat
  /-- cap that takes effect at the next boundary. optional; 14 R403; reset none -/
  capNext : Option Nat
  /-- effective cap, W. 14 bits; 14 R422; reset 15,000 -/
  effCap : Nat
  /-- whether a POWER_CAP_SET was made in this round. 1 bit; 14 R407; reset 0 -/
  capSetRound : Bool
  /-- limiters that hold something. list; 14 R406; reset empty -/
  limiters : List Limiter
  /-- steps of the ramp governor in force: XTB of each. list; 14 R407; reset empty -/
  ramp : List Nat
  /-- Trickle enable. 1 bit; 14 R409; reset DESIGN CHOICE 0 (S9 enables it, log 9) -/
  trickleOn : Bool
  /-- Trickle level, sixteenths. 5 bits; 14 R409; reset DESIGN CHOICE 0 (S9 sets 12, log 9) -/
  trickleLevel : Nat
  /-- settings that take effect at the next boundary: (enable, level). optional; 14 R409; reset none -/
  trickleNext : Option (Bool × Nat)
  /-- Trickle ratio of the sites, sixteenths. 5 bits; 14 R410; reset DESIGN CHOICE 0 (log 9) -/
  trickleRatio : Nat
  /-- XTB of the last ratio step. 64 bits; 14 R410; reset 0 -/
  trickleStep : Nat
  /-- compute sites whose Mill cores run Trickle now. list; 14 R408; reset empty -/
  trickling : List Nat
  /-- power axis: 0 NORMAL, 1 CAPPED, 2 THROTTLED. 2 bits; 14 R416; reset 0 -/
  axis : Nat
  /-- whether power has been removed from compute and memory dies (shutdown or stage FAIL). 1 bit; 14 R418, 15 R444; reset 0 -/
  diesOff : Bool
  deriving DecidableEq, Repr

/-- Temperatures and cooling. -/
structure Thermal where
  /-- control sensors that have been sampled. list; 14 R411; reset empty -/
  sensors : List Sensor
  /-- throttle states that differ from skip 0, divider 1. list; 14 R414; reset empty -/
  throttles : List Throttle
  /-- time under any thermal skip or divider since start: (site, ns, since when now). list; 12 (site power record); reset empty -/
  throttled : List (Nat × Nat × Option Nat)
  /-- trip groups whose 2 of 3 sensors exceeded the trip at the last sample. list; 14 R417; reset empty -/
  tripOver : List Nat
  /-- trip group that tripped. optional 16 bits; 14 R417; reset none -/
  tripped : Option Nat
  /-- readings and XTB of the trip record. list; 14 R419; reset empty -/
  tripRecord : List Int
  /-- whether the trip record has been written to the flash. 1 bit; 14 R419; reset 0 -/
  tripWritten : Bool
  /-- hardware trips since manufacture. 32 bits; 14 R425; reset DESIGN CHOICE 0 (log 8) -/
  trips : Nat
  /-- thermal policy: 0 RESTART, 1 RECORD, 2 BOTH, as read at S0. 2 bits; 14 R419, 19 R511; reset DESIGN CHOICE 0 (log 8) -/
  policy : Nat
  /-- its source: 0 fused, 1 strapped. 1 bit; 14 R425; reset DESIGN CHOICE 1 (log 8) -/
  policySource : Nat
  /-- whether every die is held in reset (policy RECORD). 1 bit; 14 R419; reset 0 -/
  heldInReset : Bool
  /-- THERMTRIP# asserted. 1 bit; 14 R418; reset 0 -/
  thermtrip : Bool
  /-- ALERT# asserted. 1 bit; 14 R416, 18 R502; reset 0 -/
  alert : Bool
  /-- COOL_VALVE duty, 0.1 %. 10 bits; 14 R421; reset 1,000 -/
  duty : Nat
  /-- coolant sensor I3C addresses (inlet, outlet, flow). 3 x 8 bits; 14 R420, 17 R479; reset 0x30, 0x31, 0x32 -/
  coolAddr : Nat × Nat × Nat
  /-- min_flow, 0.1 L/min. 16 bits; 14 R420; reset 240 -/
  minFlow : Nat
  /-- duty_min, 0.1 %. 16 bits; 14 R420; reset 200 -/
  dutyMin : Nat
  /-- duty_max, 0.1 %. 16 bits; 14 R420; reset 1,000 -/
  dutyMax : Nat
  /-- target rise, 0.1 K. 16 bits; 14 R420; reset 100 -/
  rise : Nat
  /-- inlet, outlet (0.01 °C) and flow (0.01 L/min) as last read. 3 x 16 bits; 14 R420; reset DESIGN CHOICE 0 (log 5) -/
  inlet : Int
  outlet : Int
  flow : Nat
  /-- consecutive failed reads of inlet, outlet and flow. 3 x 2 bits; 14 R420; reset 0 -/
  coolFail : Nat × Nat × Nat
  /-- since when the flow has been below min_flow. optional; 14 R422; reset none -/
  lowFlowSince : Option Nat
  /-- since when no derating condition has held. optional; 14 R422; reset none -/
  derateClear : Option Nat
  /-- derating factor that holds from the next boundary, millionths of the cap. optional; 14 R422; reset none -/
  derate : Option Nat
  /-- FLASH_IF reading, 0.1 °C. signed 16 bits; 14 R423; reset DESIGN CHOICE 250 (log 8) -/
  flashIf : Int
  /-- event-log writing has stopped, FLASH_IF having read out of range. 1 bit; 14 R424; reset 0 -/
  flashHold : Bool
  /-- since when FLASH_IF has read within range while writing is stopped. optional; 14 R424; reset none -/
  flashOkSince : Option Nat
  /-- since when every powered sensor has read below 70 °C after a trip. optional; 14 R419; reset none -/
  coolSince : Option Nat
  /-- trip groups of powered dies whose last sample had a reading of 70 °C or more. list; 14 R419; reset empty -/
  warm : List Nat
  /-- memory sites whose stack's activate rate is halved. list; 14 R413; reset empty -/
  halved : List Nat
  deriving DecidableEq, Repr

end Sys2Proof.Machine
end

