-- ==== Sys2Proof/Machine/Parts/Basin.lean ====
section
/-!
DEFINITION. State of the Basin: cells, planes, ports and schedulers (chapter 07); lasers, rings and calibration
(chapter 08).
-/

namespace Sys2Proof.Machine

/-- A record of a RECORDS cell (07, record header). `fromHost` marks a host write over CXL.mem (R299). -/
structure Rec where
  op : Nat
  aop : Nat
  aty : Nat
  size : Nat
  status : Nat
  address : Nat
  /-- requester's Basin port, [5:0] of the requester field -/
  port : Nat
  /-- unit and thread, [31:6] of the requester field -/
  unit : Nat
  tag : Nat
  data : List Byte
  fromHost : Bool
  /-- an add of which no old value is wanted (R327) -/
  posted : Bool := false
  deriving DecidableEq, Repr

/-- A message of a CONTROL cell: what it is, and its operands. -/
inductive CtlMsg
  /-- firmware image for a steward or engine (R437) -/
  | image
  /-- a steward reports that it runs (R437) -/
  | running
  /-- discovery (R435) -/
  | discover
  /-- frequency-step decision (R396) -/
  | decision (dom : Domain) (commit : Bool)
  /-- a site's vote on a frequency step, 0 ready or its cause (R396) -/
  | vote (dom : Domain) (cause : Nat)
  /-- journal entry or heartbeat between the Rangers (R477) -/
  | journal
  /-- barrier outcome from a Spillway engine (R281) -/
  | barrier (round arrivals outcome withdrawn : Nat)
  /-- discovery answer (R435) -/
  | answer (kind id1 id2 : Nat)
  /-- data of a MULTICAST cell (R234) -/
  | data (bytes : List Byte)
  deriving DecidableEq, Repr

/-- A cell (07, cell header). -/
structure BCell where
  dst : Nat
  src : Nat
  kind : Nat
  last : Bool
  poison : Bool
  standing : Bool
  copy : Bool
  length : Nat
  set : Nat
  plane : Nat
  address : Nat
  transfer : Nat
  offset : Nat
  total : Nat
  payload : List Byte
  recs : List Rec
  ctl : Option CtlMsg
  /-- Cruiser check of the transfer (R308): polynomial code -/
  check : Option Nat
  /-- a Spillway frame that crosses to another engine (R337): since when it is held, fibre port whose buffer it occupies -/
  frame : Option (Nat × Option Nat × Frame)
  /-- slot in which its receiver took it (R292) -/
  arrived : Nat
  deriving DecidableEq, Repr

/-- A cell in an outbound queue (R223): router port, since when, and the slot of its first request. -/
structure Queued where
  port : Nat
  plane : Nat
  cell : BCell
  /-- XTB at which it was queued (R231) -/
  since : Nat
  asked : Option Nat
  deriving DecidableEq, Repr

/-- A match in the request-to-transmit pipeline (R228): it is sent in slot `slot`; empty `dsts` never occurs. -/
structure Match where
  plane : Nat
  slot : Nat
  src : Nat
  dsts : List Nat
  /-- a Cascade match: its set -/
  set : Option Nat
  deriving DecidableEq, Repr

/-- Pointers of a scheduler for one port (R225): grant pointer, the source accepted last and how many times in a row,
accept pointer. -/
structure Pointer where
  plane : Nat
  port : Nat
  grant : Nat
  last : Nat
  row : Nat
  accept : Nat
  deriving DecidableEq, Repr

/-- A standing grant (R229 to R232). -/
structure Standing where
  plane : Nat
  src : Nat
  dst : Nat
  r : Nat
  journal : Bool
  suspended : Bool
  unused : Nat
  used : Nat
  /-- graph whose placement made it; none for the journal -/
  graph : Option Nat
  /-- its slot positions in a frame of 64 (R229) -/
  slots : List Nat
  /-- a cell for its destination has been requested while it is suspended (R232) -/
  wake : Bool
  /-- a port of it has been in Understory reset: it waits for a frame to begin (R247) -/
  stopped : Bool
  deriving DecidableEq, Repr

/-- Why a plane port is held out of the matching (R250, R253, R259, R268, R457, R492). -/
inductive Hold
  | relock | switchPort | selfTest | calibration | comb | identity
  deriving DecidableEq, Repr

/-- State of one plane port (R215, R240, R379). -/
structure PlanePort where
  port : Nat
  plane : Nat
  /-- reasons for which it is held out of the matching. list; 07 R240, 08 R259, 16 R457; reset empty -/
  holds : List Hold
  /-- retired. 1 bit; 07 R240; reset 0 -/
  retired : Bool
  /-- retires at the next boundary. 1 bit; 07 R240; reset 0 -/
  retiring : Bool
  /-- spare switch port it is steered to. optional; 07 R215, 16 R457; reset none -/
  steer : Option Nat
  corrected : Nat
  discarded : Nat
  misdelivered : Nat
  aged : Nat
  suspended : Nat
  sent : Nat
  received : Nat
  /-- corrected symbols of this round (R244) -/
  corrRound : Nat
  /-- cells discarded in this round (R491) -/
  discRound : Nat
  /-- loopback self-test waits for the calibration window to close (R247) -/
  testWaits : Bool
  deriving DecidableEq, Repr

/-- A plane port nothing has happened to. -/
def PlanePort.fresh (port plane : Nat) : PlanePort :=
  { port, plane, holds := [], retired := false, retiring := false, steer := none, corrected := 0
    discarded := 0, misdelivered := 0, aged := 0, suspended := 0, sent := 0, received := 0, corrRound := 0, discRound := 0
    testWaits := false }

/-- Partial transfer state at a receiver (R220): bytes received and when it expires. -/
structure Partial where
  port : Nat
  src : Nat
  transfer : Nat
  got : Nat
  total : Nat
  expires : Nat
  poison : Bool
  /-- data that a Cruiser check holds (R308): (offset, bytes) -/
  held : List (Nat × List Byte)
  /-- address of the first byte of a checked transfer -/
  base : Nat
  /-- check of the transfer (R308): polynomial code -/
  check : Option Nat
  deriving DecidableEq, Repr

/-- The Basin. -/
structure Basin where
  /-- whether the Basin runs (from S2). 1 bit; 07 R222; reset 0 -/
  up : Bool
  /-- number of the slot in progress. natural; 07 R222; reset 0 -/
  slot : Nat
  /-- XTB at which the slot began. 64 bits; 07 R221; reset 0 -/
  slotStart : Nat
  /-- role of PLANE[3]: true Cascade. 1 bit; 07 R233; reset 0 Bulk -/
  cascade : Bool
  /-- splitter-tree calibration valid. 1 bit; 07 R236, 15 R442; reset 0 -/
  splitterOk : Bool
  /-- planes whose scheduler has failed. list; 07 R240; reset empty -/
  failed : List Nat
  /-- outbound queues, in queue order; their cells of kind RECORDS_RSP are the response buffers: the first 256 cells and 32 response cells of a plane port, those after them wait at their units. list; 07 R223, R224; reset empty -/
  out : List Queued
  /-- plane ports that a round boundary retires at the next slot boundary. list; 07 R222, R240; reset empty -/
  dueRetire : List (Nat × Nat)
  /-- plane ports that a round boundary steers to a spare switch port at the next slot boundary: (port, plane, spare). list; 07 R215, R222; reset empty -/
  dueSteer : List (Nat × Nat × Nat)
  /-- a round boundary changes standing grants at the next slot boundary. 1 bit; 07 R222, R230; reset 0 -/
  dueGrants : Bool
  /-- matches in the pipeline. list; 07 R228; reset empty -/
  matches_ : List Match
  /-- scheduler pointers that differ from 0. list; 07 R225; reset empty -/
  pointers : List Pointer
  /-- standing grants in force. list; 07 R229; reset empty -/
  standing : List Standing
  /-- cells on the wire: (receiving port, plane, cell), in order of arrival. list; 07 R221; reset empty -/
  wire : List (Nat × Nat × BCell)
  /-- receive buffers: (port, plane, cell), in order of arrival. 64 cells per plane port; 07 R224; reset empty -/
  recv : List (Nat × Nat × BCell)
  /-- partial transfers at receivers. list; 07 R220; reset empty -/
  partials : List Partial
  /-- plane ports that differ from a fresh one. 55 x 4; 07; reset empty -/
  ports : List PlanePort
  /-- firmware loads and messages that CONTROL cells delivered: (port, message), newest first. list; 07 (CONTROL), R83; reset empty -/
  ctlIn : List (Nat × CtlMsg)
  deriving DecidableEq, Repr

/-- A Wellhead (R249 to R251, R264, R265). -/
structure Wellhead where
  w : Nat
  /-- bias, 0.5 mA units. 10 bits; 08 R264; reset DESIGN CHOICE 400 = 200 mA, the typical value (log 10) -/
  bias : Nat
  /-- bias of the source not in use, 0.5 mA units. 10 bits; 08 R274; reset DESIGN CHOICE 400 (log 10) -/
  spareBias : Nat
  /-- source in use: 0 or 1. 1 bit; 08 R250; reset DESIGN CHOICE 0 (log 10) -/
  source : Nat
  /-- spare used or failed. 1 bit; 08 R251; reset 0 -/
  spareUsed : Bool
  /-- end-of-life alarm. 1 bit; 08 R265; reset 0 -/
  alarm : Bool
  /-- XTB at which a selector switch in progress began. optional; 08 R250; reset none -/
  switching : Option Nat
  /-- that switch was made at a round boundary. 1 bit; 08 R251; reset 0 -/
  scheduled : Bool
  /-- a move to the spare is due at the next boundary. 1 bit; 08 R251; reset 0 -/
  moveNext : Bool
  /-- a bias step is due at the next boundary. 1 bit; 08 R264; reset 0 -/
  biasNext : Bool
  deriving DecidableEq, Repr

/-- A Wellhead as at the beginning of life. -/
def Wellhead.fresh (w : Nat) : Wellhead :=
  { w, bias := 400, spareBias := 400, source := 0, spareUsed := false, alarm := false, switching := none, scheduled := false, moveNext := false, biasNext := false }

/-- A ring's temperature set (R266): heater code, and biases in 1/1000 mV (log 10). -/
structure TempSet where
  heater : Int
  biases : List Int
  deriving DecidableEq, Repr

/-- A ring and its tuning loop (R254 to R256, R266). -/
structure Ring where
  id : RingId
  /-- heater code. 12 or 15 bits; 08 R254; reset DESIGN CHOICE 2,048, its nominal set-point (log 10) -/
  code : Int
  /-- feedforward not yet in the code, 1/2000 LSB. signed; 08 R255; reset 0 -/
  rest : Int
  /-- consecutive updates outside the lock window. 2 bits; 08 R256; reset 0 -/
  out : Nat
  /-- locked. 1 bit; 08 R256; reset DESIGN CHOICE 1 from S2 on (log 10) -/
  locked : Bool
  /-- identity checked since the last lock. 1 bit; 08 R253; reset DESIGN CHOICE 1 from S2 on (log 10) -/
  checked : Bool
  /-- sweeps whose identity check failed. 2 bits; 08 R253; reset 0 -/
  sweeps : Nat
  /-- the five temperature sets. 5; 08 R266; reset DESIGN CHOICE heater 2,048 and no bias (log 10) -/
  sets : List TempSet
  deriving DecidableEq, Repr

/-- A ring that nothing has moved. -/
def Ring.fresh (id : RingId) : Ring :=
  { id, code := 2048, rest := 0, out := 0, locked := true, checked := true, sweeps := 0, sets := List.replicate 5 { heater := 2048, biases := [] } }

/-- A change of a plane port's lane map or set-point that takes effect at the next slot boundary (R256, R257, R270, R274). -/
inductive OpticMove where
  /-- A lane moves to a spare; one that only waits to relock holds its port when no spare is free (R256, R259). -/
  | spare (port plane : Nat) (side : Side) (lane : Nat) (relocks : Bool)
  /-- A lane returns from the fault spare to its own ring (R256). -/
  | back (port plane : Nat) (side : Side) (lane : Nat)
  /-- A ring takes the code of its new set-point (R270). -/
  | code (ring : RingId) (code : Int)
  deriving DecidableEq, Repr

/-- Optical state of one plane port (R257 to R259, R267 to R275), or of fibre port p as port 64 + p, plane 0 (R311 to R314). -/
structure OptPort where
  port : Nat
  plane : Nat
  /-- lane on the transmit fault spare, or 0xFF. 8 bits; 08 R275; reset 0xFF -/
  txFault : Nat
  /-- lane permanently on the transmit calibration spare, or 0xFF. 8 bits; 08 R275; reset 0xFF -/
  txCal : Nat
  /-- lane on the receive fault spare, or 0xFF. 8 bits; 08 R275; reset 0xFF -/
  rxFault : Nat
  /-- lane permanently on the receive calibration spare, or 0xFF. 8 bits; 08 R275; reset 0xFF -/
  rxCal : Nat
  /-- position under calibration. optional; 08 R267; reset none -/
  cal : Option Nat
  /-- lane whose traffic is on the calibration spares of both sides while it is calibrated. optional; 08 R257, R267; reset none -/
  onCal : Option Nat
  /-- next position in rotation. 5 bits; 08 R275; reset 0 -/
  next : Nat
  /-- positions queued ahead of rotation. list; 08 R253, R256, 07 R244; reset empty -/
  ahead : List Nat
  /-- consecutive disagreements per position. 18; 08 R271; reset empty (0) -/
  disagree : List (Nat × Nat)
  /-- suspect positions. list; 08 R271; reset empty -/
  suspect : List Nat
  /-- lowest line margin, 0.01 dB. 32 bits; 08 R263; reset DESIGN CHOICE 320, the typical 3.2 dB (log 10) -/
  margin : Int
  /-- XTB of the last accepted calibration. 64 bits; 08 R275; reset 0 -/
  lastCal : Nat
  /-- calibrations accepted. 16 bits; 08 R275; reset 0 -/
  accepted : Nat
  /-- disagreements. 16 bits; 08 R275; reset 0 -/
  disagreed : Nat
  /-- stage of the last loss location. 8 bits; 08 R261; reset 0 -/
  lossStage : Nat
  /-- its line. 8 bits; 08 R275; reset 0 -/
  lossLine : Nat
  /-- its excess, 0.01 dB. 16 bits; 08 R275; reset 0 -/
  lossExcess : Int
  /-- XTB since which it waits to relock without a spare. optional; 08 R259; reset none -/
  relockSince : Option Nat
  /-- lanes that lost lock under calibration and move to a spare when the window closes: (side, lane). list; 08 R274; reset empty -/
  atClose : List (Side × Nat)
  /-- monitor readings of stages 1 to 10 per line, 0.01 dBm. list; 08 R260; reset empty -/
  monitors : List (Nat × List Int)
  /-- received power of this round per (source, line): sum, 0.01 dBm, and samples. list; 08 R263; reset empty -/
  sums : List ((Nat × Nat) × Int × Nat)
  /-- mean received power of the last round that has samples, per (source, line), 0.01 dBm. list; 08 R263; reset empty -/
  means : List ((Nat × Nat) × Int)
  /-- expected readings per line that an accepted calibration has updated, 0.01 dBm. list; 08 R260; reset empty: those of manufacture (log 10) -/
  expected : List (Nat × List Int)
  deriving DecidableEq, Repr

/-- A plane port's optics after start. -/
def OptPort.fresh (port plane : Nat) : OptPort :=
  { port, plane, txFault := 255, txCal := 255, rxFault := 255, rxCal := 255, cal := none, onCal := none, next := 0, ahead := [], disagree := []
    suspect := [], margin := 320, lastCal := 0, accepted := 0, disagreed := 0, lossStage := 0, lossLine := 0, lossExcess := 0
    relockSince := none, atClose := [], monitors := [], sums := [], means := [], expected := [] }

/-- Lasers, rings and calibration. -/
structure Optics where
  /-- Wellheads that differ from the beginning of life. 8; 08 R249; reset empty -/
  wells : List Wellhead
  /-- whether the Wellheads are dark. 1 bit; 14 R418, 15 R444; reset 1 (lit at S2) -/
  dark : Bool
  /-- rings that differ from a fresh one. list; 08 R254; reset empty -/
  rings : List Ring
  /-- plane ports whose optics differ from a fresh one. list; 08 R275; reset empty -/
  ports : List OptPort
  /-- changes that wait for the next slot boundary. list; 08 R256, R257, R270; reset empty -/
  due : List OpticMove
  /-- calibration window open. 1 bit; 08 R267; reset 0 -/
  window : Bool
  /-- temperature sets in the calibration store, as last written. list; 08 R273; reset empty: those of manufacture (log 10) -/
  stored : List (RingId × List TempSet)
  /-- comb biases in the calibration store, as last written: (Wellhead, source in use, spare). list; 08 R264, R273; reset empty (log 10) -/
  storedBias : List (Nat × Nat × Nat)
  /-- calibration values that await the hourly write. 1 bit; 08 R273; reset 0 -/
  dirty : Bool
  /-- XTB of the last hourly write attempt. 64 bits; 08 R273; reset 0 -/
  lastWrite : Nat
  /-- XTB of the last ageing check. 64 bits; 08 R264; reset 0 -/
  lastAgeing : Nat
  deriving DecidableEq, Repr

end Sys2Proof.Machine
end

