-- ==== Sys2Proof/Machine/Parts/Memory.lean ====
section
/-!
DEFINITION. State of the memory sites: HBM stacks and Cisterns (chapter 09), and of the compute stacks (chapter 03).
-/

namespace Sys2Proof.Machine

/-- Who waits for the completion of an operation at a Cistern. -/
inductive Reply
  /-- a record response through the response buffers of the unit's port -/
  | record (port plane : Nat) (r : Rec)
  /-- one line of a bulk transfer to a unit: its XFER_ACK follows when all is applied -/
  | bulk (port src transfer : Nat)
  /-- nobody: a host write over CXL.mem, a forwarded mirror copy -/
  | none
  deriving DecidableEq, Repr

/-- What a line operation does to its 256-byte line (R294, R295). -/
inductive LineAct
  /-- store: offset in the line, bytes -/
  | store (off : Nat) (data : List Byte)
  | atomic (op : AtomicOp) (ty : AtomicTy) (off : Nat) (operand compare : Nat) (posted : Bool)
  /-- read: offset in the line, length; served in arrival order (R293) -/
  | read (off len : Nat)
  /-- poison the whole line: a poisoned host write (R354) -/
  | poison
  deriving DecidableEq, Repr

/-- A pending operation of a line-op queue (R292 to R297). -/
structure LineOp where
  stack : Nat
  line : Nat
  act : LineAct
  reply : Reply
  deriving DecidableEq, Repr

/-- An entry of a line buffer (R293): the 256 bytes, and the XTB of the last update. -/
structure BufLine where
  stack : Nat
  line : Nat
  data : List Byte
  touched : Nat
  deriving DecidableEq, Repr

/-- A Gather-reduce job (R300): its 64-byte descriptor and who waits. -/
structure GrJob where
  desc : List Byte
  reply : Reply
  deriving DecidableEq, Repr

/-- A fenced channel (R304). -/
structure FencedCh where
  channel : Nat
  /-- its retrain and row tests run: it may return; else it stays fenced until the next start -/
  retrain : Bool
  /-- returns at the next boundary when its retrain and row tests have passed -/
  returns : Bool
  deriving DecidableEq, Repr

/-- State of one stack and its Cistern. -/
structure Stack where
  /-- stack number. 4 bits; 09 R22; reset the stack's number -/
  stack : Nat
  /-- fenced. 1 bit; 09 R304; reset 0 -/
  fenced : Bool
  /-- fenced for its temperature, and the XTB since which it has been below 90 °C. optional; 14 R413; reset none -/
  hotFence : Option (Option Nat)
  /-- channels retrained since that fence. list; 14 R413; reset empty -/
  retrained : List Nat
  /-- fenced channels. list; 09 R304; reset empty -/
  channels : List FencedCh
  /-- channel timeouts of this round: (channel, count). list; 09 R304; reset empty -/
  timeouts : List (Nat × Nat)
  /-- parity alerts of this round: (channel, count). list; 09 R304; reset empty -/
  parity : List (Nat × Nat)
  /-- XTB of lines poisoned in the last 1 s: (channel, XTB). list; 09 R304; reset empty -/
  poisonTimes : List (Nat × Nat)
  /-- refresh doubled. 1 bit; 09 R288; reset 0 -/
  refresh2 : Bool
  /-- control temperature, 0.1 °C. signed; 09 R303; reset DESIGN CHOICE 250 (log 8) -/
  ctlTemp : Int
  /-- consecutive implausible reports. 2 bits; 09 R303; reset 0 -/
  implausible : Nat
  /-- pending operations in arrival order. at most 1,024; 09 R296; reset empty -/
  ops : List LineOp
  /-- line buffer. 512 lines of 256 bytes; 09 R293; reset empty -/
  buf : List BufLine
  /-- read-only table: (first offset, length). 256 ranges; 09 R299; reset empty -/
  ro : List (Nat × Nat)
  /-- forwarded mirror lines that await the odd copy: (line, reply, its status, its data). list; 09 R290; reset empty -/
  copies : List (Nat × Reply × Nat × List Byte)
  /-- Gather-reduce jobs: the first 256 are queued, those behind are held as pending operations. list; 09 R281, R296, R300; reset empty -/
  jobs : List GrJob
  /-- rows under repair. list of row identifiers; 09 R287; reset empty -/
  repairing : List Nat
  /-- rows whose test runs. list of row identifiers; 09 R286; reset empty -/
  testing : List Nat
  /-- Cistern in reset. 1 bit; 09 R309; reset 0 -/
  resetting : Bool
  /-- generation of the AES-XTS keys, counted; the keys themselves are nowhere readable. natural; 09 R284; reset 0 -/
  keys : Nat
  /-- corrected errors. counter; 09 R283; reset 0 -/
  corrected : Nat
  /-- corrections that the stack has reported. counter; 09 R283; reset 0 -/
  reported : Nat
  deriving DecidableEq, Repr

/-- A stack and Cistern nothing has happened to. -/
def Stack.fresh (stack : Nat) : Stack :=
  { stack, fenced := false, hotFence := none, retrained := [], channels := [], timeouts := [], parity := [], poisonTimes := [], refresh2 := false
    ctlTemp := 250, implausible := 0, ops := [], buf := [], ro := [], copies := [], jobs := [], repairing := [], testing := []
    resetting := false, keys := 0, corrected := 0, reported := 0 }

/-- The memory sites. -/
structure Mem where
  /-- bytes of HBM, keyed by stack-local DPA, and of the Understory windows, keyed by window DPA; an unlisted byte reads 0. sparse; 09 R276, R284, 03 R103; reset empty -/
  cells : List Host.Cell
  /-- poisoned units: 256-byte line numbers (DPA >> 8) of the same keys. sparse; 09 R286; reset empty -/
  poison : List Nat
  /-- stacks that differ from a fresh one. 16; 09; reset empty -/
  stackList : List Stack
  /-- mirrored 64 GiB units in force (M = m x 64 GiB). 4 bits; 09 R289; reset 0 -/
  mirror : Nat
  /-- whether HBM may be accessed (S6 complete). 1 bit; 11 R353; reset 0 -/
  ready : Bool
  deriving DecidableEq, Repr

/-- What a Tally thread that is parked waits for (R79). -/
structure Parked where
  t : Thread
  op : RemoteOp
  rack : Bool
  /-- XTB at which it was issued -/
  issued : Nat
  /-- requester's tag, or frame tag with its generation -/
  tag : Nat
  /-- covered operations that had timed out, for a fence (R298, R329) -/
  lost : Nat
  /-- bond group that its request used and its response uses (R96); none within the Canopy -/
  group : Option Nat
  deriving DecidableEq, Repr

/-- What a remote access left for its thread (R79, R149): status, data. -/
structure Finished where
  t : Thread
  status : Nat
  data : List Byte
  deriving DecidableEq, Repr

/-- The part of a transfer that one port is home for, or a Spillway engine (R220, R326). -/
structure XferPart where
  tag : Nat
  port : Nat
  total : Nat
  /-- bytes acknowledged, of a SCATTER in mode 1 -/
  got : Nat
  done : Bool
  deriving DecidableEq, Repr

/-- A pending transfer descriptor (R80). -/
structure Transfer where
  tag : Nat
  t : Thread
  /-- scope of the fences that cover it (R298, R329): RACK -/
  rack : Bool
  desc : XferDesc
  issued : Nat
  /-- bytes queued so far -/
  sent : Nat
  /-- its parts, one for each home -/
  parts : List XferPart
  /-- worst status of what has answered -/
  status : Nat
  /-- a frame of it timed out (R326) -/
  timedOut : Bool
  /-- bond group between its Stand and the engine (R96) -/
  group : Option Nat
  deriving DecidableEq, Repr

/-- The buffers of a Mill core (R70), as its last share left them. -/
structure MillBuf where
  /-- logical core. 17 bits; 03 R71; none at reset -/
  core : Nat
  /-- operand buffers. 32 KiB each; 03 R70; none at reset -/
  a : List Byte
  w : List Byte
  /-- accumulators, FP32 codes. 64 KiB; 03 R70, 02 R56; none at reset -/
  acc : List Nat
  deriving DecidableEq, Repr

/-- A stage of a graph that waits for an access of one of its remote nodes to another node (R148): the Tally thread that is parked for
it, the node and its open loops, the accesses still to be made and what the others gave. -/
structure Suspended where
  stream : Nat
  stage : Nat
  thread : Thread
  /-- sequence numbers of the items of the batch -/
  items : List Nat
  node : Nat
  /-- open loops, innermost first: LOOP_BEGIN, trip -/
  loops : List (Nat × Nat)
  /-- accesses to be made, the one in progress first: item, index -/
  todo : List (Nat × Nat)
  /-- accesses made: item, index, status, bytes -/
  got : List (Nat × Nat × Nat × List Byte)
  deriving DecidableEq, Repr

/-- Phase of a compute site (R103 to R107). -/
inductive SitePhase
  | running
  /-- Understory in reset -/
  | usReset
  /-- Canopy in reset -/
  | cpReset
  /-- Canopy reloading after its reset or the Understory's -/
  | reloading
  /-- reload complete: issue resumes at the next boundary -/
  | resuming
  deriving DecidableEq, Repr

/-- State of one compute site. -/
structure Site where
  /-- site id. 6 bits; 00 R10; reset the site's id -/
  site : Nat
  /-- phase. enumeration; 03 R103, R104, R107; reset running -/
  phase : SitePhase
  /-- scratch ways w. 4 bits; 03 R88; reset DESIGN CHOICE 0 (log 11) -/
  ways : Nat
  /-- retired bond groups (and slices). list; 16 R453; reset empty -/
  retired : List Nat
  /-- cache: (line number DPA >> 8, 256 bytes), newest first. 256 x 16 x 1,024 lines; 03 R91, R92; reset empty -/
  cache : List (Nat × List Byte)
  /-- outstanding fills: (line, readers waiting). 64 per slice; 03 R93; reset empty -/
  fills : List (Nat × List Thread)
  /-- Stand memory, keyed (physical Stand x 2 MiB + byte); unlisted bytes read 0. 133 x 2 MiB; 03 R73; reset empty (17 R485 zero-fill) -/
  stand : List Host.Cell
  /-- poisoned 16-byte words of Stand memory, keyed alike. list; 03 R77; reset empty -/
  standPoison : List Nat
  /-- corrected SRAM errors. counter; 03 R77, R95; reset 0 -/
  corrected : Nat
  /-- core programs that the Canopy holds: (graph handle, placement generation). list; 03 R104; reset empty -/
  programs : List (Nat × Nat)
  deriving DecidableEq, Repr

/-- A compute site nothing has happened to. -/
def Site.fresh (site : Nat) : Site :=
  { site, phase := .running, ways := 0, retired := [], cache := [], fills := [], stand := []
    standPoison := [], corrected := 0, programs := [] }

/-- The compute stacks. -/
structure Compute where
  /-- compute sites that differ from a fresh one. 32; 03; reset empty -/
  sites : List Site
  /-- parked threads. list; 03 R79; reset empty -/
  parked : List Parked
  /-- completions of remote accesses, newest first. list; 03 R79, 04 R149; reset empty -/
  finished : List Finished
  /-- pending transfer descriptors. at most 32 per Stand; 03 R80; reset empty -/
  transfers : List Transfer
  /-- threads that wait to write a 33rd descriptor. list; 03 R80; reset empty -/
  waiting : List (Thread × XferDesc)
  /-- completed transfers and jobs: (tag, status). list; 03 R80; reset empty -/
  ended : List (Nat × Nat)
  /-- Gather-reduce jobs submitted that are not complete: (tag, thread, XTB). list; 09 R298; reset empty -/
  jobs : List (Nat × Thread × Nat)
  /-- operations that a fence counts as timed out, per thread: (thread, rack, count). list; 09 R298, 10 R329; reset empty -/
  lost : List (Thread × Bool × Nat)
  /-- next transfer and record tag. 32 bits; 07 (record header); reset DESIGN CHOICE 1 (log 5) -/
  nextTag : Nat
  /-- core maxima below the fused 2,200 or 2,400 MHz: (site, Stand, position, MHz). list; 03 R84; reset DESIGN CHOICE empty: every core at the top of its domain (log 11) -/
  maxima : List (Nat × Nat × Nat × Nat)
  /-- lowerings that take effect at the next boundary. list; 03 R84; reset empty -/
  lowering : List (Nat × Nat × Nat)
  /-- SR generators in use: (logical core, seed, state). 64 bits each; 02 R51, R52; reset empty -/
  sr : List (Nat × Nat × Nat)
  /-- Mill buffers that are in use. 48,000 × 128 KiB; 03 R70; reset empty -/
  mill : List MillBuf
  /-- stages that wait for another node of the rack. list; 04 R148; reset empty -/
  suspended : List Suspended
  deriving DecidableEq, Repr

end Sys2Proof.Machine
end

