-- ==== Sys2Proof/Machine/Parts/Spillway.lean ====
section
/-!
DEFINITION. State of the Spillway rack fabric (chapter 10).
-/

namespace Sys2Proof.Machine

/-- Port states, coded 0 to 4 in this order (`FABRIC_QUERY` port record). -/
inductive PortSt
  | dark | probing | training | up | down
  deriving DecidableEq, Repr

/-- A LINK_MGMT message that a port sends (R321). -/
inductive LinkMsg
  /-- protocol version, node, membership epoch, request and response credits offered, encryption policy -/
  | hello (version node epoch requests responses : Nat) (required : Bool)
  | laneMap (map : List Nat) (seq : Nat)
  | leave
  | spdm
  | keySwitch (seq : Nat)
  deriving DecidableEq, Repr

/-- A frame that waits in a transmit queue (R324): since when it is held on this module (R338). -/
structure TxFrame where
  frame : Frame
  since : Nat
  /-- fibre port whose request buffer it occupies until it leaves, for a transit frame -/
  from_ : Option Nat
  deriving DecidableEq, Repr

/-- State of a fibre port (R311 to R324). -/
structure FPort where
  /-- port number. 3 bits; 10 R311; reset the port's number -/
  port : Nat
  /-- state. 3 bits; 10 (port record); reset 0 DARK -/
  st : PortSt
  /-- cause of the last DOWN. 8 bits; 10 (port record); reset 0 -/
  cause : Nat
  /-- link encryption in force. 1 bit; 10 R341; reset 0 -/
  enc : Bool
  /-- partner node from HELLO. 16 bits; 10 R321; reset DESIGN CHOICE 0 (log 5) -/
  partner : Nat
  /-- partner's epoch from HELLO. 32 bits; 10 R321; reset DESIGN CHOICE 0 (log 5) -/
  partnerEpoch : Nat
  /-- partner's HELLO received in this training. 1 bit; 10 R322; reset 0 -/
  helloIn : Bool
  /-- lane on line 17, or 0xFF. 8 bits; 10 (port record); reset 0xFF -/
  faultLane : Nat
  /-- lane permanently on line 16, or 0xFF. 8 bits; 10 (port record); reset 0xFF -/
  calLane : Nat
  /-- request and response credits held. 2 counts; 10 R324; reset 0 (offered in HELLO) -/
  reqCredit : Nat
  rspCredit : Nat
  /-- request and response buffers occupied. 48 and 16; 10 R324; reset 0 -/
  reqUsed : Nat
  rspUsed : Nat
  /-- credits freed and not yet returned: request, response. 2 counts; 10 R324; reset 0 -/
  reqFree : Nat
  rspFree : Nat
  /-- transmit queue. list; 10 R334; reset empty -/
  queue : List TxFrame
  /-- last marker sequence number received. optional 32 bits; 10 R318; reset none -/
  marker : Option Nat
  /-- discarding until the next marker's next_start. 1 bit; 10 R319; reset 0 -/
  skipping : Bool
  /-- lane map sent and awaited: (map, effective marker, confirmed). optional; 10 R314; reset none -/
  laneMap : Option (List Nat × Nat × Bool)
  /-- that map is for a calibration. 1 bit; 10 R314; reset 0 -/
  calMap : Bool
  /-- lane on line 16 while it is calibrated. optional; 10 R314; reset none -/
  calNow : Option Nat
  /-- key switch that the partner announced: effective marker. optional; 10 R342; reset none -/
  keySwitch : Option Nat
  /-- key switch announced to the partner: effective marker. optional; 10 R342; reset none -/
  txSwitch : Option Nat
  /-- key agreement completed in this training. 1 bit; 10 R341; reset 0 -/
  keyed : Bool
  /-- frame counters of the key: sent, last accepted. 2 x 64 bits; 10 R341; reset 0 -/
  txCounter : Nat
  /-- generation of the key that this end sends under, counted; the keys themselves are nowhere readable. natural; 10 R341, R342; reset 0 -/
  txKey : Nat
  /-- generation of the key that this end receives under. natural; 10 R341, R342; reset 0 -/
  rxKey : Nat
  rxCounter : Option Nat
  /-- XTB at which the key came into use. 64 bits; 10 R342; reset 0 -/
  keySince : Nat
  /-- XTB of tag failures within the last 1 s. list; 10 R323; reset empty -/
  tagFails : List Nat
  framesTx : Nat
  framesRx : Nat
  corrected : Nat
  discarded : Nat
  authFail : Nat
  /-- frames discarded in this round. counter; 18 R491; reset 0 -/
  discRound : Nat
  /-- XTB of the last state change. 64 bits; 10 (port record); reset 0 -/
  changed : Nat
  /-- XTB at which it left PROBING. optional; 10 R322; reset none -/
  trainSince : Option Nat
  /-- retired (engine excluded or reset too often). 1 bit; 15 R436, 18 R496; reset 0 -/
  retired : Bool
  /-- stays DOWN until the next start (comb lost). 1 bit; 10 R312; reset 0 -/
  lost : Bool
  /-- fed by the engine's hot spare, source 2. 1 bit; 10 R312; reset 0 -/
  onSpare : Bool
  deriving DecidableEq, Repr

/-- A dark fibre port. -/
def FPort.fresh (port : Nat) : FPort :=
  { port, st := .dark, cause := 0, enc := false, partner := 0, partnerEpoch := 0, helloIn := false, faultLane := 255, calLane := 255
    reqCredit := 0, rspCredit := 0, reqUsed := 0, rspUsed := 0, reqFree := 0, rspFree := 0, queue := [], marker := none
    skipping := false, laneMap := none, calMap := false, calNow := none, keySwitch := none, txSwitch := none, keyed := false, txCounter := 0, txKey := 0, rxKey := 0, rxCounter := none
    keySince := 0, tagFails := [], framesTx := 0, framesRx := 0, corrected := 0, discarded := 0, authFail := 0, discRound := 0
    changed := 0, trainSince := none, retired := false, lost := false, onSpare := false }

/-- A comb source of a Spillway engine (R312). -/
structure SwComb where
  engine : Nat
  source : Nat
  bias : Nat
  failed : Bool
  alarm : Bool
  /-- a move to the spare is due at the next boundary -/
  moveNext : Bool
  /-- a bias step is due at the next boundary -/
  biasNext : Bool
  deriving DecidableEq, Repr

/-- An outstanding RACK-scope frame of this node (R330). -/
structure SwOp where
  gen : Nat
  unit : Nat
  /-- Basin port of the engine that sent it, and the plane its request came on -/
  engine : Nat
  plane : Nat
  /-- what asked: a record (LOAD, STORE, ATOMIC), or code 4 or 5 for a bulk write or read, with the transfer's tag -/
  ask : Rec
  issued : Nat
  /-- XTB at which its frame left; none while it waits -/
  left : Option Nat
  deriving DecidableEq, Repr

/-- A request frame that the package serves for another node: the engine's tag, its fibre port, the frame, bytes still to come. -/
structure Inbound where
  tag : Nat
  fibre : Nat
  frame : Frame
  deriving DecidableEq, Repr

/-- The Spillway fabric. -/
structure Spillway where
  /-- fibre ports that differ from a dark one. 8; 10; reset empty -/
  ports : List FPort
  /-- comb sources that differ from the beginning of life. 12; 10 R312; reset empty -/
  combs : List SwComb
  /-- whether the fabric is joined or isolated (axis not OFF). 1 bit; 10 R332; reset 0 OFF -/
  joined : Bool
  /-- node id. 16 bits; 10 R332; reset DESIGN CHOICE 0xFFFF, as FABRIC_QUERY reports OFF (log 5) -/
  node : Nat
  /-- membership epoch E. 32 bits; 10 R332; reset DESIGN CHOICE 0 (log 5) -/
  epoch : Nat
  /-- Spillway timeout, µs. 17 bits; 10 R330; reset 1,000 -/
  timeout : Nat
  /-- max_hops. 5 bits; 10 R332; reset 8 -/
  maxHops : Nat
  /-- enabled ports. 8 bits; 10 R332; reset 0 -/
  enabled : Nat
  /-- encryption REQUIRED mask. 8 bits; 10 R332; reset 0 -/
  encMask : Nat
  /-- barrier role: 0 none, 1 member, 2 root. 2 bits; 10 R332; reset 0 -/
  role : Nat
  /-- barrier group. 16 bits; 10 R332; reset DESIGN CHOICE 0 (log 5) -/
  group : Nat
  /-- root node. 16 bits; 10 R332; reset DESIGN CHOICE 0xFFFF (log 5) -/
  root : Nat
  /-- members of the root. list; 10 R332; reset empty -/
  members : List Nat
  /-- members withdrawn. list; 10 R344; reset empty -/
  withdrawn : List Nat
  /-- whether this module has withdrawn. 1 bit; 10 R344; reset 0 -/
  selfOut : Bool
  /-- whether the root has withdrawn. 1 bit; 10 R344; reset 0 -/
  rootOut : Bool
  /-- nodes whose BARRIER_REJOIN takes effect at the next boundary. list; 10 R344; reset empty -/
  rejoins : List Nat
  /-- round from which this module takes part again. optional; 10 R344; reset none -/
  rejoinAt : Option Nat
  /-- arrivals at the root for the round: (node, incomplete). list; 10 R343; reset empty -/
  arrivals : List (Nat × Bool)
  /-- whether the arrival of the round has been sent. 1 bit; 10 R343; reset 0 -/
  arrived : Bool
  /-- whether the release of the round has been sent. 1 bit; 10 R343; reset 0 -/
  released : Bool
  /-- outcome of the round held for the word: (round, arrivals, outcome, withdrawn). optional; 10 R343; reset none -/
  outcome : Option (Nat × Nat × Nat × Nat)
  /-- barrier word: (round, arrivals, outcome, withdrawn). 16 bytes; 10 R345; reset (0, 0, 4 NONE, 0) -/
  word : Nat × Nat × Nat × Nat
  /-- route table: (node, entry), absent entries 0. 65,536 x 16 bits; 10 R332; reset empty -/
  table : List (Nat × Nat)
  /-- outstanding RACK-scope operations. list; 10 R330; reset empty -/
  ops : List SwOp
  /-- next issue generation. 8 bits; 10 R331; reset DESIGN CHOICE 0 (log 5) -/
  gen : Nat
  /-- frames of other nodes that the package serves now. list; 10 R325; reset empty -/
  inbound : List Inbound
  /-- channel whose FABRIC_LEAVE waits, and operations timed out since. optional; 10 R336; reset none -/
  leaving : Option (Nat × Nat)
  /-- counters: no_route, epoch_discard, hop_discard, stale_discard, late_rsp. 5 x 64 bits; 10 (FABRIC_QUERY header); reset 0 -/
  noRoute : Nat
  epochDiscard : Nat
  hopDiscard : Nat
  staleDiscard : Nat
  lateRsp : Nat
  /-- frames delivered to this node that wait for room in the engine's Basin queues: (fibre port, XTB since which it is held, frame). list; 10 R338, R340; reset empty -/
  deliver : List (Nat × Nat × Frame)
  /-- frames that left: (fibre port, frame), newest first. list; 10 R317; reset empty -/
  sent : List (Nat × Frame)
  /-- LINK_MGMT messages sent: (fibre port, message), newest first. list; 10 R321; reset empty -/
  mgmt : List (Nat × LinkMsg)
  /-- engines in reset. list; 18 R496; reset empty -/
  engineReset : List Nat
  deriving DecidableEq, Repr

end Sys2Proof.Machine
end

