-- ==== Sys2Proof/Machine/Parts/Time.lean ====
section
/-!
DEFINITION. State of the timebase and the rounds (chapter 05), of the clocks and frequency steps (chapter 13).
-/

namespace Sys2Proof.Machine

/-- Timebase states, coded 0 to 3 in this order (R160, R167). -/
inductive TbState
  | free | acquiring | locked | holdover
  deriving DecidableEq, Repr

/-- A TB_TOD frame that counted for an edge (R158): unlocked flag and seconds. -/
structure TodFrame where
  unlocked : Bool
  seconds : Nat
  deriving DecidableEq, Repr

/-- The timebase. -/
structure Timebase where
  /-- master count, ns. 64 bits; 05 R155, R162; reset 0 -/
  ns : Nat
  /-- fraction of the master count, 2^-16 ns. 16 bits; 05 R155; reset DESIGN CHOICE 0 (log 5) -/
  frac : Nat
  /-- increment per CD14 cycle less 1 ns, in 2^-16 ns, within -3 to 3. signed; 05 R531; reset 0 (nominal rate, R162) -/
  incr : Int
  /-- timebase state. enumeration; 05 R162; reset FREE -/
  st : TbState
  /-- state from which ACQUIRING was entered. enumeration; 05 R160, R165; reset FREE -/
  acqFrom : TbState
  /-- whether ACQUIRING may still step the count (entered from FREE or by reacquire, no step yet). 1 bit; 05 R164; reset 0 -/
  mayStep : Bool
  /-- mode setting: true FREE_RUN. 1 bit; 05 R159; reset 0 EXTERNAL (configuration record applies at S1) -/
  freeRun : Bool
  /-- pps_delay, ns. 14 bits; 05 R159; reset 0 (configuration record applies at S1) -/
  ppsDelay : Nat
  /-- TB_CLK present. 1 bit; 05 (timebase states); reset DESIGN CHOICE 1 (log 8) -/
  clk : Bool
  /-- TB_PPS present. 1 bit; 05 (timebase states); reset 0 (no edge yet) -/
  pps : Bool
  /-- timestamp of the last TB_PPS edge on the master count, ns. optional; 05 (timebase states); reset none -/
  lastEdge : Option Nat
  /-- measured offset, signed, 2^-16 ns. 64 bits; 05 R167; reset 0 -/
  offset : Int
  /-- frame that counted for the last edge. optional; 05 R158; reset none -/
  frame : Option TodFrame
  /-- frame that counted for the edge before it. optional; 05 R160; reset none -/
  prevFrame : Option TodFrame
  /-- consecutive edges with a valid frame that is not unlocked (and, in HOLDOVER, with offset at most 1 ms). 8 bits; 05 R160; reset 0 -/
  goodEdges : Nat
  /-- whether one of those edges in HOLDOVER had an offset above 1 ms. 1 bit; 05 R161; reset 0 -/
  farEdge : Bool
  /-- consecutive edges that meet the LOCKED condition. 8 bits; 05 R160; reset 0 -/
  lockEdges : Nat
  /-- consecutive edges with offset above 100 ns in LOCKED. 8 bits; 05 R160; reset 0 -/
  offEdges : Nat
  /-- consecutive seconds with a missing, invalid, unlocked or differing frame in LOCKED. 8 bits; 05 R160; reset 0 -/
  badSecs : Nat
  /-- cause code of the last transition. 32 bits; 05 R167; reset DESIGN CHOICE 0 (log 5) -/
  cause : Nat
  /-- slewing. 1 bit; 05 R164, R167; reset 0 -/
  slewing : Bool
  /-- LOCKED reached since start. 1 bit; 05 R167; reset 0 -/
  everLocked : Bool
  /-- XTB of the entry from which the HOLDOVER age counts. optional; 05 R165; reset none -/
  holdSince : Option Nat
  /-- XTB of the last rate correction to the replicas. 64 bits; 05 R157; reset 0 -/
  lastRate : Nat
  /-- by how much the replicas of the other dies differ from the master count: (die, 2^-16 ns), those that differ. list; 05 R157; reset empty -/
  skew : List (Nat × Int)
  /-- TB_CLK-to-CD0 rate ratio last measured in LOCKED, less 1, 2^-16. signed; 05 R163; reset DESIGN CHOICE 0 (log 18) -/
  ratio : Int
  /-- RELOCK_BLOCKED: only reacquire leaves HOLDOVER. 1 bit; 05 R161; reset 0 -/
  blocked : Bool
  /-- last frame valid and not unlocked. 1 bit; 05 R167; reset DESIGN CHOICE 0 (log 5) -/
  lastGood : Bool
  deriving DecidableEq, Repr

/-- Points of the round table and of the barrier and vote tables that take place once a round (R172, R343, R396). -/
inductive RoundPoint
  | descRead | calOpen | dispatch | calClose | voltRise | stageDeadline | window | arriveSend | arriveDeadline
  | releaseDeadline | pubDeadline | barrierMissed | decision | missing
  deriving DecidableEq, Repr

/-- What a running ROUND_CONFIG sets as its response is written (R169, R242): its channel, period, epoch, on-package timeout. -/
structure NewRounds where
  ch : Nat
  period : Nat
  epoch : Nat
  timeout : Nat
  deriving DecidableEq, Repr

/-- Rounds. -/
structure Rounds where
  /-- period P, ns. 24 bits; 05 R168; reset 400,000 -/
  period : Nat
  /-- epoch, ns. 64 bits; 05 R168; reset 0 -/
  epoch : Nat
  /-- whether a round is in progress. 1 bit; 05 R168; reset 0 -/
  active : Bool
  /-- number of the round in progress, or of the last that ended. 64 bits; 05 R168; reset 0 -/
  number : Nat
  /-- XTB of the boundary that began the round in progress. 64 bits; 05 R168; reset 0 -/
  start : Nat
  /-- XTB of the next boundary. 64 bits; 05 R168, R170; reset 0 (the count begins at 0 = epoch) -/
  next : Nat
  /-- whether a round has begun since the start. 1 bit; 05 R168, R170; reset 0 -/
  begun : Bool
  /-- points of the round in progress that have taken place or take place no more. list; 05 R170, R172; reset empty -/
  done : List RoundPoint
  /-- highest round number used since the start. 64 bits; 05 R170; reset 0 -/
  top : Nat
  /-- schedules of ROUND_CONFIGs whose responses are still to be written. list; 05 R169; reset empty -/
  pending : List NewRounds
  /-- on-package timeout, ns. 20 bits; 07 R242; reset 10,000 -/
  timeout : Nat
  /-- OVERRUN events since start. 32 bits; 05 R167; reset 0 -/
  overruns : Nat
  deriving DecidableEq, Repr

/-- A pending frequency-step request (R394): step in MHz, and the boundary it is first voted for. -/
structure StepReq where
  mhz : Nat
  at_ : Nat
  deriving DecidableEq, Repr

/-- A site's vote (R396): cause 0 is ready. -/
structure Vote where
  site : Nat
  dom : Domain
  cause : Nat
  deriving DecidableEq, Repr

/-- Droop of one core region (R391, R392). -/
structure Droop where
  site : Nat
  stand : Nat
  pos : Nat
  /-- frequency the supply supports, MHz; below 70 % of the ceiling the clock stops (R391) -/
  mhz : Nat
  since : Nat
  sustained : Bool
  deriving DecidableEq, Repr

/-- Droop counts of one core region (R392, R379). -/
structure DroopCount where
  site : Nat
  stand : Nat
  pos : Nat
  droops : Nat
  sustained : Nat
  time : Nat
  deriving DecidableEq, Repr

/-- Clocks and frequency steps. -/
structure Clocks where
  /-- CD9 step in force, MHz. 12 bits; 13 R393; reset DESIGN CHOICE 1,950, the value at S9 (log 9) -/
  cd9 : Nat
  /-- CD10 step in force, MHz. 12 bits; 13 R393; reset DESIGN CHOICE 1,950, the value at S9 (log 9) -/
  cd10 : Nat
  /-- pending request of CD9. optional; 13 R394; reset none -/
  req9 : Option StepReq
  /-- pending request of CD10. optional; 13 R394; reset none -/
  req10 : Option StepReq
  /-- rails of CD9 raised for a step-up: its target, MHz. optional; 13 R396; reset none -/
  rails9 : Option Nat
  /-- rails of CD10 raised for a step-up: its target, MHz. optional; 13 R396; reset none -/
  rails10 : Option Nat
  /-- setpoints that the retention block of a site in Understory reset holds: (site, domain, step whose voltage it is). list; 03 R100; reset empty -/
  retained : List (Nat × Domain × Nat)
  /-- votes of the round in progress. list; 13 R396; reset empty -/
  votes : List Vote
  /-- decision for CD9 of the round in progress: true COMMIT. optional; 13 R396; reset none -/
  dec9 : Option Bool
  /-- decision for CD10 of the round in progress: true COMMIT. optional; 13 R396; reset none -/
  dec10 : Option Bool
  /-- sites that hold no decision at the coming boundary. list; 13 R398; reset empty -/
  noDecision : List Nat
  /-- sites whose ceiling differs from the step in force: (site, domain, MHz). list; 13 R393, R398; reset empty -/
  siteCeil : List (Nat × Domain × Nat)
  /-- steps to restore when Slack ends: (CD9, CD10). optional; 06 R213, 13 R395; reset none -/
  slackSteps : Option (Nat × Nat)
  /-- regions in droop. list; 13 R392; reset empty -/
  droops : List Droop
  /-- droop counts. list; 13 R392; reset empty (0) -/
  droopCounts : List DroopCount
  /-- pulses swallowed of every 64: (site, physical Stand, physical position, k), absent 0. 6 bits each; 03 R85; reset empty -/
  swallow : List (Nat × Nat × Nat × Nat)
  /-- dies without the Chime reference (Basin port, or 0x80 + Wellhead). list; 13 R389; reset empty -/
  chimeLost : List Nat
  /-- XTB at which REFCLK was lost. optional; 13 R390; reset none -/
  refLost : Option Nat
  deriving DecidableEq, Repr

end Sys2Proof.Machine
end

