-- ==== Sys2Proof/Machine/State.lean ====
section
/-!
DEFINITION. The state of the block: the device (one part per chapter of the spec) and the queue of waiting commands; why
a step stops; the state after reset.
-/

namespace Sys2Proof.Machine

/-- Why a step stops with a fault. -/
inductive Fault
  /-- Raised by COMMAND_START for a command other than `DEV_QUERY` of a host whose Rantil version does not match the
  firmware's: the behaviour is undefined (00 R19). Safe: the model stops where the spec gives no effect. -/
  | versionMismatch
  deriving DecidableEq, Repr

/-- Why a step refuses a command. -/
inductive Refusal
  /-- Raised by `exec` for a command that has no meaning yet. Safe: the model stops. No arm raises it now. -/
  | notModelled (mnemonic : String)
  deriving DecidableEq, Repr

/-- The device: everything but the queue. -/
structure Dev where
  /-- The model's own counter of free values drawn (log 13), not the spec's. natural; reset DESIGN CHOICE 0 (log 13) -/
  free : Nat
  hg : HostPort
  mb : Mailbox
  ses : Sessions
  gr : Graphs
  str : Streams
  tb : Timebase
  rd : Rounds
  ck : Clocks
  pw : Power
  th : Thermal
  ba : Basin
  op : Optics
  mem : Mem
  cs : Compute
  sw : Spillway
  bu : Bringup
  sp : Spares
  fw : Firmware
  lg : EventLog
  fa : Faults
  ts : TestPins
  deriving DecidableEq, Repr

/-- The machine. -/
structure State where
  /-- the device -/
  dev : Dev
  /-- commands that wait, first in, first out -/
  pending : List Instr
  deriving DecidableEq, Repr

/-- The host port at power-on (11, register field tables). -/
def HostPort.reset : HostPort :=
  { devState := .bringup, stage := 0, stageFail := false, memActive := false, mbReady := false, xtbShown := false
    linkWidth := 0, linkRate := 0, lopt := false, ide := 0, cacheEn := false, memEn := false, bme := false, hdmBase := 0
    msixEn := false, msixFnMask := false, msixTable := [], msixUnmasked := [], msixPending := [], msixSent := []
    errstat := 0, intstat := 0, intmask := 0, stageLog := [], snoopFilter := [], snoops := [], snoopLost := [], devCache := []
    hostReads := [], hostMem := [], cxlOut := [], doeOut := [] }

/-- Slot contents of a flash as shipped: a verified image of version 1 (log 8). -/
def Slot.factory : Slot :=
  { image := some { version := 1, handoffMin := 0, handoff := 0, rollback := 0, length := 4096, rantilMajor := 1, rantilMinor := 0, arborMinor := 0 }
    blocks := [], verified := true }

/-- A configuration record in which every field has its default (R479). -/
def ConfigRec.default : ConfigRec :=
  { generation := 0, memtest := 0, plane3 := 1, mirror := 0, tbMode := 0, ppsDelay := 0, cap := 15000
    coolant := [0x30, 0x31, 0x32, 0] ++ leBytes 2 240 ++ leBytes 2 200 ++ leBytes 2 1000 ++ leBytes 2 100 ++ zeros 4 }

/-- Firmware and flash at power-on. -/
def Firmware.reset : Firmware :=
  { serial := 0, lifecycle := 1, debugLatch := false, scope := 0, nonce := none, fuseF := 0, policyFuse := none
    slotA := Slot.factory, slotB := { image := none, blocks := [], verified := false }
    boot0 := some { generation := 0, preferred := 0, trial := false, tried := false, versionA := 1, versionB := 0 }
    boot1 := none, conf0 := some ConfigRec.default, conf1 := none, manifestOk := true, manifestForm := true, manifest := [], licences := []
    licValid := 0, features := 0, featNext := 0, calOk := true, booted := 0
    running := { version := 0, handoffMin := 0, handoff := 0, rollback := 0, length := 0, rantilMajor := 0, rantilMinor := 0, arborMinor := 0 }
    rangerB := false, rangerUp := false, standby := .current, handover := none, handoverCause := 0, update := 0, proc := none
    activated := false, live := none, restartAt := none }

/-- The device after deassertion of PERST#, before firmware writes it (R15): bring-up stands at the beginning of S0. -/
def Dev.reset : Dev :=
  { free := 0
    hg := HostPort.reset
    mb := { chans := [], queue := [], order := [], hostRantil := (1, 0) }
    ses := { list := [], nextId := 1 }
    gr := { list := [], nextHandle := 1, regions := [], nextRegion := 1 }
    str := { list := [], intakes := [], results := [], nextRing := 1, emptyRounds := 0, slack := false, slackExit := none
             carryAt := none, touched := [], waiting := false, busy := false }
    tb := { ns := 0, frac := 0, incr := 0, st := .free, acqFrom := .free, mayStep := false, freeRun := false, ppsDelay := 0
            clk := true, pps := false, lastEdge := none, offset := 0, frame := none, prevFrame := none, goodEdges := 0
            farEdge := false, lockEdges := 0, offEdges := 0, badSecs := 0, cause := 0, slewing := false, everLocked := false
            holdSince := none, lastRate := 0, skew := [], ratio := 0, blocked := false, lastGood := false }
    rd := { period := 400000, epoch := 0, active := false, number := 0, start := 0, next := 0, begun := false, done := [], top := 0, pending := []
            timeout := 10000, overruns := 0 }
    ck := { cd9 := 1950, cd10 := 1950, req9 := none, req10 := none, rails9 := none, rails10 := none, retained := [], votes := [], dec9 := none
            dec10 := none, noDecision := [], siteCeil := [], slackSteps := none, droops := [], droopCounts := [], swallow := []
            chimeLost := [], refLost := none }
    pw := { volts := 480, inputGood := true, cap := 15000, capNext := none, effCap := 15000, capSetRound := false
            limiters := [], ramp := [], trickleOn := false, trickleLevel := 0, trickleNext := none, trickleRatio := 0
            trickleStep := 0, trickling := [], axis := 0, diesOff := false }
    th := { sensors := [], throttles := [], throttled := [], tripOver := [], tripped := none, tripRecord := [], tripWritten := false, trips := 0
            policy := 0, policySource := 1, heldInReset := false, thermtrip := false, alert := false, duty := 1000
            coolAddr := (0x30, 0x31, 0x32), minFlow := 240, dutyMin := 200, dutyMax := 1000, rise := 100, inlet := 0, outlet := 0
            flow := 0, coolFail := (0, 0, 0), lowFlowSince := none, derateClear := none, derate := none, flashIf := 250
            flashHold := false, flashOkSince := none, coolSince := none, warm := [], halved := [] }
    ba := { up := false, slot := 0, slotStart := 0, cascade := false, splitterOk := false, failed := [], out := [], dueRetire := [], dueSteer := [], dueGrants := false, matches_ := [], pointers := [], standing := [], wire := [], recv := []
            partials := [], ports := [], ctlIn := [] }
    op := { wells := [], dark := true, rings := [], ports := [], due := [], window := false, stored := [], storedBias := [], dirty := false, lastWrite := 0, lastAgeing := 0 }
    mem := { cells := [], poison := [], stackList := [], mirror := 0, ready := false }
    cs := { sites := [], parked := [], finished := [], transfers := [], waiting := [], ended := [], jobs := [], lost := [], nextTag := 1, maxima := []
            lowering := [], sr := [], mill := [], suspended := [] }
    sw := { ports := [], combs := [], joined := false, node := 0xFFFF, epoch := 0, timeout := 1000, maxHops := 8, enabled := 0
            encMask := 0, role := 0, group := 0, root := 0xFFFF, members := [], withdrawn := [], selfOut := false
            rootOut := false, rejoins := [], rejoinAt := none, arrivals := [], arrived := false, released := false, outcome := none
            word := (0, 0, 4, 0), table := [], ops := [], gen := 0, inbound := [], leaving := none, noRoute := 0
            epochDiscard := 0, hopDiscard := 0, staleDiscard := 0, lateRsp := 0, deliver := [], sent := [], mgmt := []
            engineReset := [] }
    bu := { perst := false, running := true, stageStart := 0, repeated := false, stepped := false
            fdmChanged := false, replied := [], answered := [], excluded := [], stewards := [], fullTest := false, badEnd := false, log := [] }
    sp := { fuseBad := [], fdm := [], fdmGen := 0, starts := 0, fullTest := 0, dropped := 0, copies := (true, true), held := none
            flash := { gen := 0, starts := 0, fullTest := 0, dropped := 0, hbm := false, entries := [] }
            hbmEvent := false, standsOut := [], coresOut := [], standMap := [], coreMap := [], failed := [], lanes := [], substs := [], substituted := []
            out := [], degraded := false }
    fw := Firmware.reset
    lg := { entries := [], next := 0, held := [], dropped := 0 }
    fa := { queue := [], now := none, testing := [], resume := [], isolated := [], returning := [], resets := []
            lastingStands := [], transients := [], counts := [], timeouts := 0, safeCause := 0, pldm := 0 }
    ts := { tpol := 0, i3ca := 0, i3cAddr := 0x40, valveDriven := false, ir := 1, boundary := 0, pinsHeld := 0, captured := 0
            chain := 0, jtagLoop := 0, rangerDebug := false, selector := none, entered := 0, session := 0, runs := [] } }

/-- The machine right after reset: bring-up at S0, nothing waits. -/
def State.reset : State := { dev := Dev.reset, pending := [] }

end Sys2Proof.Machine
end

