-- ==== Sys2Proof/Machine/Operands.lean ====
section
/-!
DEFINITION. Operand forms: little-endian fields of bodies, structures and images (R6, R7), lists keyed by a number, sparse
bytes, and the arithmetic of times.
-/

namespace Sys2Proof.Machine

/-- One byte at an offset; bytes beyond the list read 0. -/
def u8 (bs : List Byte) (o : Nat) : Nat := ((bs[o]?).getD 0).toNat

/-- A field of `n` bytes at offset `o`, little-endian (R6). -/
def field (bs : List Byte) (o n : Nat) : Nat := leNat ((bs.drop o).take n)

/-- A 2-byte field. -/
def u16 (bs : List Byte) (o : Nat) : Nat := field bs o 2
/-- A 4-byte field. -/
def u32 (bs : List Byte) (o : Nat) : Nat := field bs o 4
/-- An 8-byte field. -/
def u64 (bs : List Byte) (o : Nat) : Nat := field bs o 8

/-- A signed value as `n` bytes, two's complement, little-endian. -/
def leInt (n : Nat) (v : Int) : List Byte := leBytes n (v % (2 ^ (8 * n) : Nat)).toNat

/-- A 2-byte value as a signed number. -/
def sign16 (v : Nat) : Int := if v % 65536 < 32768 then (v % 65536 : Nat) else (v % 65536 : Nat) - 65536

/-- All ones in 4 bytes: 'does not apply' (R150). -/
def none32 : Nat := 0xFFFFFFFF

/-- All ones in 8 bytes: the effect 'at the next start' (R368). -/
def atNextStart : Nat := 0xFFFFFFFFFFFFFFFF

/-- Whether every byte of a list is 0. -/
def allZero (bs : List Byte) : Bool := bs.all (· == 0)

/-- Bytes [o, o + n) of a list, filled with zeros beyond its end. -/
def slice (bs : List Byte) (o n : Nat) : List Byte := padTo n ((bs.drop o).take n)

/-- Sets the bytes at offset `o` of a list that holds them. -/
def patch (bs : List Byte) (o : Nat) (v : List Byte) : List Byte := bs.take o ++ v ++ bs.drop (o + v.length)

/-- Update the first entry that `p` finds, or append `f` of a fresh one. -/
def upsert {α : Type} (p : α → Bool) (fresh : α) (f : α → α) : List α → List α
  | [] => [f fresh]
  | a :: as => if p a then f a :: as else a :: upsert p fresh f as

/-- The first entry that `p` finds, or the fresh one. -/
def lookup {α : Type} (p : α → Bool) (fresh : α) (l : List α) : α := (l.find? p).getD fresh

/-- Apply `f` to the entries that `p` finds. -/
def mapIf {α : Type} (p : α → Bool) (f : α → α) (l : List α) : List α := l.map fun a => if p a then f a else a

/-- Add to a list without repeats. -/
def insertNew {α : Type} [BEq α] (a : α) (l : List α) : List α := if l.contains a then l else l ++ [a]

/-- The count of a key in a list of counts. -/
def countOf (k : Nat) (l : List (Nat × Nat)) : Nat := (l.find? (·.1 == k)).elim 0 (·.2)

/-- Add to the count of a key. -/
def bump (k n : Nat) (l : List (Nat × Nat)) : List (Nat × Nat) := upsert (·.1 == k) (k, 0) (fun e => (e.1, e.2 + n)) l

/-- The value of a key. -/
def valueOf {α : Type} (k : Nat) (l : List (Nat × α)) : Option α := (l.find? (·.1 == k)).map (·.2)

/-- Fold a device update over a list. -/
def each {α β : Type} (l : List α) (f : α → β → β) (b : β) : β := l.foldl (fun acc a => f a acc) b

/-- Do `f` when `c` holds. -/
def onlyIf {β : Type} (c : Bool) (f : β → β) (b : β) : β := if c then f b else b

/-! ## Sparse bytes -/

/-- The byte at an address of a sparse memory; an unlisted byte reads 0 (R284, R103). -/
def cellGet : List Host.Cell → Nat → Byte
  | [], _ => 0
  | (k, b) :: m, a => if k = a then b else cellGet m a

/-- Write one byte, keeping addresses strictly rising and no zero entry. -/
def cellSet : List Host.Cell → Nat → Byte → List Host.Cell
  | [], a, b => if b = 0 then [] else [(a, b)]
  | (k, c) :: m, a, b =>
    if a < k then (if b = 0 then (k, c) :: m else (a, b) :: (k, c) :: m)
    else if a = k then (if b = 0 then m else (a, b) :: m)
    else (k, c) :: cellSet m a b

/-- The canonical form of a sparse memory: addresses strictly rising, no zero entry. -/
def cellsWf : List Host.Cell → Bool
  | [] => true
  | [(_, b)] => b != 0
  | (k, b) :: (k', b') :: m => b != 0 && decide (k < k') && cellsWf ((k', b') :: m)

/-- `n` bytes from an address. -/
def cellsRead (m : List Host.Cell) (a : Nat) : Nat → List Byte
  | 0 => []
  | n + 1 => cellGet m a :: cellsRead m (a + 1) n

/-- Write bytes from an address on. -/
def cellsWrite (m : List Host.Cell) (a : Nat) : List Byte → List Host.Cell
  | [] => m
  | b :: bs => cellsWrite (cellSet m a b) (a + 1) bs

/-- Zero every byte of [lo, hi). -/
def cellsClear (m : List Host.Cell) (lo hi : Nat) : List Host.Cell := m.filter fun c => !(decide (lo ≤ c.1) && decide (c.1 < hi))

/-! ## Units (R460) -/

/-- Identifier of a unit: kind, [55:48], [47:40], [39:32], [31:16], [15:0]. -/
def unitId (kind a b c e f : Nat) : Nat := 2 ^ 56 * kind + 2 ^ 48 * a + 2 ^ 40 * b + 2 ^ 32 * c + 2 ^ 16 * e + f
/-- Kind of a unit. -/
def unitKind (u : Nat) : Nat := bitsOf u 63 56
/-- Bits [55:48] of a unit: its site, port, stack or engine. -/
def unitPlace (u : Nat) : Nat := bitsOf u 55 48
/-- Identifier of a compute site. -/
def siteUnit (site : Nat) : Nat := unitId 0x05 site 0 0 0 0
/-- Identifier of a physical core. -/
def coreUnit (site stand pos : Nat) : Nat := unitId 0x01 site 0 pos stand 0
/-- Identifier of a physical Stand. -/
def standUnit (site stand : Nat) : Nat := unitId 0x02 site 0 0 stand 0
/-- Identifier of a bond group. -/
def groupUnit (site group : Nat) : Nat := unitId 0x04 site 0 0 group 0
/-- Identifier of a switch port. -/
def switchUnit (port plane steered : Nat) : Nat := unitId 0x07 port plane 0 0 steered
/-- Identifier of a Basin lane. -/
def laneUnit (port plane side pos : Nat) : Nat := unitId 0x06 port plane side 0 pos
/-- Identifier of a comb source. -/
def combUnit (place source : Nat) : Nat := unitId 0x08 place 0 source 0 0
/-- Identifier of an HBM channel. -/
def channelUnit (stack channel : Nat) : Nat := unitId 0x0A stack channel 0 0 0
/-- Identifier of an HBM stack. -/
def stackUnit (stack : Nat) : Nat := unitId 0x0B stack 0 0 0 0
/-- Identifier of a Ranger: 49 or 50. -/
def rangerUnit (port : Nat) : Nat := unitId 0x0E port 0 0 0 0

/-- Whether a site id is a compute site (R21). -/
def isCompute (site : Nat) : Bool := decide (8 ≤ site) && decide (site ≤ 39)
/-- Whether a site id is a memory site (R21). -/
def isMemory (site : Nat) : Bool := decide (site < 8) || (decide (40 ≤ site) && decide (site ≤ 47))
/-- Site of a stack (R22). -/
def stackSite (k : Nat) : Nat := if k < 8 then k else k + 32
/-- Stack of a memory site (R22). -/
def siteStack (site : Nat) : Nat := if site < 8 then site else site - 32
/-- The compute sites. -/
def computeSites : List Nat := (List.range 32).map (· + 8)

/-- The Basin port of the die that contains a unit (R460, R498). -/
def unitPort (u : Nat) : Nat :=
  match unitKind u with
  | 0x09 => stackSite (unitPlace u)
  | 0x0A => stackSite (unitPlace u)
  | 0x0B => stackSite (unitPlace u)
  | 0x0D => 51 + unitPlace u / 2
  | _ => unitPlace u

/-! ## CRCs (R305) -/

/-- One step of a reflected CRC register. -/
def crcRefStep (poly v : Nat) : Nat := if v % 2 = 1 then (v / 2) ^^^ poly else v / 2
/-- One byte into a reflected CRC register. -/
def crcRefByte (poly v : Nat) (b : Byte) : Nat :=
  (List.range 8).foldl (fun v _ => crcRefStep poly v) (v ^^^ b.toNat)
/-- One step of an unreflected CRC register of width `w`. -/
def crcFwdStep (w poly v : Nat) : Nat :=
  if bitOf v (w - 1) then ((2 * v) % 2 ^ w) ^^^ poly else (2 * v) % 2 ^ w
/-- One byte into an unreflected CRC register. -/
def crcFwdByte (w poly v : Nat) (b : Byte) : Nat :=
  (List.range 8).foldl (fun v _ => crcFwdStep w poly v) (v ^^^ (b.toNat * 2 ^ (w - 8)))

/-- Initial running value of a polynomial code (R305). -/
def crcInit : Nat → Nat
  | 0 => 0xFFFFFFFF
  | 1 => 0xFFFFFFFF
  | 2 => 0
  | _ => 0xFFFF
/-- Running value after some bytes (R305); the reflected polynomials in reflected form. -/
def crcRun (code v : Nat) (bs : List Byte) : Nat :=
  match code with
  | 0 => bs.foldl (crcRefByte 0x82F63B78) v
  | 1 => bs.foldl (crcRefByte 0xEDB88320) v
  | 2 => bs.foldl (crcFwdByte 64 0x42F0E1EBA9EA3693) v
  | _ => bs.foldl (crcFwdByte 16 0x1021) v
/-- Final value of a running value (R305). -/
def crcFinal (code v : Nat) : Nat :=
  match code with
  | 0 => v ^^^ 0xFFFFFFFF
  | 1 => v ^^^ 0xFFFFFFFF
  | _ => v
/-- Bytes of a final value (R305, R308). -/
def crcBytes : Nat → Nat
  | 0 => 4
  | 1 => 4
  | 2 => 8
  | _ => 2
/-- CRC-32C of bytes. -/
def crc32c (bs : List Byte) : Nat := crcFinal 0 (crcRun 0 (crcInit 0) bs)
/-- CRC-16/CCITT of bytes (R158). -/
def crc16 (bs : List Byte) : Nat := crcFinal 3 (crcRun 3 (crcInit 3) bs)

/-- Element `i` of a list, or the default. -/
def pick {α : Type} (dflt : α) (l : List α) (i : Nat) : α := (l[i]?).getD dflt

end Sys2Proof.Machine
end

