-- ==== Sys2Proof/Machine/Arith.lean ====
section
/-!
DEFINITION. Number formats, conversions, rounding and the FP32 operations (chapter 02). Finite values are dyadic: a sign, a
magnitude and a power of two, so that every operation is exact until its one rounding (R48, R63).
-/

namespace Sys2Proof.Machine

/-- A value of a floating-point format (R34 to R36). -/
inductive Val
  | nan
  | inf (neg : Bool)
  /-- (−1)^neg × m × 2^e; m = 0 is a signed zero -/
  | fin (neg : Bool) (m : Nat) (e : Int)
  deriving DecidableEq, Repr

/-- Number of bits of a natural number, with fuel. -/
def bitLenFuel : Nat → Nat → Nat
  | 0, _ => 0
  | fuel + 1, n => if n = 0 then 0 else bitLenFuel fuel (n / 2) + 1
/-- Number of bits of a natural number. -/
def bitLen (n : Nat) : Nat := bitLenFuel 4096 n

/-- A floating-point format (R34, R36): exponent bits, significand bits, bias, and its specials: 0 none, 1 IEEE 754, 2 NaN
alone in the last code. -/
structure Fmt where
  eb : Nat
  mb : Nat
  bias : Nat
  special : Nat
  deriving DecidableEq, Repr

/-- FP32 (R34). -/
def fmtFp32 : Fmt := { eb := 8, mb := 23, bias := 127, special := 1 }
/-- BF16 (R34). -/
def fmtBf16 : Fmt := { eb := 8, mb := 7, bias := 127, special := 1 }
/-- FP16 (R34). -/
def fmtFp16 : Fmt := { eb := 5, mb := 10, bias := 15, special := 1 }
/-- E4M3 (R34). -/
def fmtE4m3 : Fmt := { eb := 4, mb := 3, bias := 7, special := 2 }
/-- E5M2 (R34). -/
def fmtE5m2 : Fmt := { eb := 5, mb := 2, bias := 15, special := 1 }
/-- E3M2 (R34). -/
def fmtE3m2 : Fmt := { eb := 3, mb := 2, bias := 3, special := 0 }
/-- E2M3 (R34). -/
def fmtE2m3 : Fmt := { eb := 2, mb := 3, bias := 1, special := 0 }
/-- E2M1 (R34). -/
def fmtE2m1 : Fmt := { eb := 2, mb := 1, bias := 1, special := 0 }
/-- The UE5M3 block scale without its sign (R37). -/
def fmtUe5m3 : Fmt := { eb := 5, mb := 3, bias := 15, special := 2 }

/-- Magnitude of a code without sign (R34, R35). -/
def Fmt.decodeMag (f : Fmt) (neg : Bool) (code : Nat) : Val :=
  let ex := code / 2 ^ f.mb
  let m := code % 2 ^ f.mb
  let top := 2 ^ f.eb - 1
  if f.special = 1 ∧ ex = top then (if m = 0 then .inf neg else .nan)
  else if f.special = 2 ∧ ex = top ∧ m = 2 ^ f.mb - 1 then .nan
  else if ex = 0 then .fin neg m (1 - (f.bias : Int) - f.mb)
  else .fin neg (2 ^ f.mb + m) ((ex : Int) - f.bias - f.mb)

/-- Value of a code of a signed format (R34). -/
def Fmt.decode (f : Fmt) (code : Nat) : Val := f.decodeMag (bitOf code (f.eb + f.mb)) (code % 2 ^ (f.eb + f.mb))

/-- Largest finite code without sign (02, special and limit encodings). -/
def Fmt.maxCode (f : Fmt) : Nat :=
  match f.special with
  | 0 => 2 ^ (f.eb + f.mb) - 1
  | 1 => (2 ^ f.eb - 1) * 2 ^ f.mb - 1
  | _ => 2 ^ (f.eb + f.mb) - 2

/-- The NaN the device writes (R38), sign 0; formats without NaN have none and give 0. -/
def Fmt.nanCode (f : Fmt) : Nat :=
  match f.special with
  | 0 => 0
  | 1 => (2 ^ f.eb - 1) * 2 ^ f.mb + 2 ^ (f.mb - 1)
  | _ => 2 ^ (f.eb + f.mb) - 1

/-- Rounding of a magnitude: nearest even, or stochastic with the draw to use (R49, R50). -/
inductive Round
  | rne
  | sr (r : Nat)
  deriving DecidableEq, Repr

/-- Whether a magnitude with remainder `rem` of 2^sh rounds up (R49, R50). -/
def roundUp (mode : Round) (kept rem sh : Nat) : Bool :=
  if rem = 0 then false
  else match mode with
    | .rne => decide (2 ^ sh < 2 * rem) || (decide (2 * rem = 2 ^ sh) && kept % 2 == 1)
    | .sr r => decide (65536 ≤ rem * 65536 / 2 ^ sh + r)

/-- Round a magnitude to a format's precision (R48): its code without sign before overflow is tested, and whether it was
inexact (a draw is consumed, R50). -/
def Fmt.roundMag (f : Fmt) (mode : Round) (m : Nat) (e : Int) : Nat × Bool :=
  if m = 0 then (0, false)
  else
    let emin : Int := 1 - (f.bias : Int) - f.mb
    let lead : Int := e + (bitLen m : Int) - 1
    let q := max (lead - f.mb) emin
    let base := (q - emin).toNat * 2 ^ f.mb
    if q ≤ e then (base + m * 2 ^ (e - q).toNat, false)
    else
      let sh := (q - e).toNat
      let k := m / 2 ^ sh
      let rem := m % 2 ^ sh
      (base + k + natOf (roundUp mode k rem sh), decide (rem ≠ 0))

/-- Sign bit of a format's code. -/
def Fmt.signed (f : Fmt) (neg : Bool) (code : Nat) : Nat := code + natOf neg * 2 ^ (f.eb + f.mb)

/-- Encode a value (R47): overflow SAT (or INF when `inf`), NaN and infinity by the R47 table. The second value says
whether a stochastic draw was consumed. -/
def Fmt.encode (f : Fmt) (mode : Round) (inf : Bool) (v : Val) : Nat × Bool :=
  let overflow := fun (neg : Bool) =>
    if inf && f.special == 1 then f.signed neg ((2 ^ f.eb - 1) * 2 ^ f.mb) else f.signed neg f.maxCode
  match v with
  | .nan => (f.nanCode, false)
  | .inf neg => (overflow neg, false)
  | .fin neg m e =>
    let r := f.roundMag mode m e
    (if f.maxCode < r.1 then overflow neg else f.signed neg r.1, r.2)

/-- Round to nearest even into FP32 as IEEE 754 does (R63): overflow gives infinity. -/
def toFp32 (v : Val) : Nat := (fmtFp32.encode .rne true v).1
/-- Value of an FP32 code. -/
def ofFp32 (c : Nat) : Val := fmtFp32.decode c

/-! ## Exact arithmetic -/

/-- Signed mantissa at a given exponent (at most the value's own). -/
def signedAt (neg : Bool) (m : Nat) (e goal : Int) : Int :=
  let v : Int := (m * 2 ^ (e - goal).toNat : Nat)
  if neg then -v else v

/-- Exact sum (IEEE 754 signs of zero under nearest even). -/
def Val.add : Val → Val → Val
  | .nan, _ => .nan
  | _, .nan => .nan
  | .inf a, .inf b => if a = b then .inf a else .nan
  | .inf a, .fin _ _ _ => .inf a
  | .fin _ _ _, .inf b => .inf b
  | .fin a m e, .fin b n g =>
    let goal := min e g
    let s := signedAt a m e goal + signedAt b n g goal
    if s = 0 then .fin (a && b && m == 0 && n == 0) 0 0
    else .fin (decide (s < 0)) s.natAbs goal

/-- Exact product. -/
def Val.mul : Val → Val → Val
  | .nan, _ => .nan
  | _, .nan => .nan
  | .inf a, .inf b => .inf (a != b)
  | .inf a, .fin b n _ => if n = 0 then .nan else .inf (a != b)
  | .fin a m _, .inf b => if m = 0 then .nan else .inf (a != b)
  | .fin a m e, .fin b n g => .fin (a != b) (m * n) (e + g)

/-- Sign flipped. -/
def Val.neg : Val → Val
  | .nan => .nan
  | .inf a => .inf (!a)
  | .fin a m e => .fin (!a) m e

/-- Magnitude. -/
def Val.abs : Val → Val
  | .nan => .nan
  | .inf _ => .inf false
  | .fin _ m e => .fin false m e

/-- Quotient, with a sticky last bit, enough bits for one correct FP32 rounding. -/
def Val.div : Val → Val → Val
  | .nan, _ => .nan
  | _, .nan => .nan
  | .inf _, .inf _ => .nan
  | .inf a, .fin b _ _ => .inf (a != b)
  | .fin a _ _, .inf b => .fin (a != b) 0 0
  | .fin a m e, .fin b n g =>
    if n = 0 then (if m = 0 then .nan else .inf (a != b))
    else if m = 0 then .fin (a != b) 0 0
    else
      let sh := bitLen n + 64
      let q := m * 2 ^ sh / n
      .fin (a != b) (2 * q + natOf (m * 2 ^ sh % n != 0)) (e - g - sh - 1)

/-- Integer square root, bit by bit. -/
def isqrtFuel : Nat → Nat → Nat → Nat
  | 0, _, r => r
  | k + 1, n, r => let t := r + 2 ^ k; isqrtFuel k n (if t * t ≤ n then t else r)
/-- Integer square root. -/
def isqrt (n : Nat) : Nat := isqrtFuel (bitLen n / 2 + 1) n 0

/-- Square root, with a sticky last bit. -/
def Val.sqrt : Val → Val
  | .nan => .nan
  | .inf a => if a then .nan else .inf false
  | .fin a m e =>
    if m = 0 then .fin a 0 0
    else if a then .nan
    else
      let e2 := e - (e % 2)
      let n := m * 2 ^ (e % 2).toNat * 2 ^ 128
      let r := isqrt n
      .fin false (2 * r + natOf (r * r != n)) (e2 / 2 - 64 - 1)

/-- Numeric order: none when either is NaN; −0 equals +0. -/
def Val.cmp : Val → Val → Option Ordering
  | .nan, _ => none
  | _, .nan => none
  | .inf a, .inf b => some (compare (natOf (!a)) (natOf (!b)))
  | .inf a, .fin _ _ _ => some (if a then .lt else .gt)
  | .fin _ _ _, .inf b => some (if b then .gt else .lt)
  | .fin a m e, .fin b n g =>
    let goal := min e g
    some (compare (signedAt a m e goal) (signedAt b n g goal))

/-! ## FP32 operations (R63) -/

/-- a + b. -/
def fpAdd (a b : Nat) : Nat := toFp32 ((ofFp32 a).add (ofFp32 b))
/-- a × b. -/
def fpMul (a b : Nat) : Nat := toFp32 ((ofFp32 a).mul (ofFp32 b))
/-- a × b + c with one rounding. -/
def fpFma (a b c : Nat) : Nat := toFp32 (((ofFp32 a).mul (ofFp32 b)).add (ofFp32 c))
/-- a / b. -/
def fpDiv (a b : Nat) : Nat := toFp32 ((ofFp32 a).div (ofFp32 b))
/-- Square root. -/
def fpSqrt (a : Nat) : Nat := toFp32 (ofFp32 a).sqrt
/-- −a. -/
def fpNeg (a : Nat) : Nat := toFp32 (ofFp32 a).neg
/-- Sign bit of an FP32 code. -/
def fpSign (a : Nat) : Bool := bitOf a 31
/-- Minimum (R63): NaN when either is NaN, −0 below +0. -/
def fpMin (a b : Nat) : Nat :=
  match (ofFp32 a).cmp (ofFp32 b) with
  | none => fmtFp32.nanCode
  | some .lt => a
  | some .gt => b
  | some .eq => if fpSign a then a else b
/-- Maximum (R63). -/
def fpMax (a b : Nat) : Nat :=
  match (ofFp32 a).cmp (ofFp32 b) with
  | none => fmtFp32.nanCode
  | some .lt => b
  | some .gt => a
  | some .eq => if fpSign a then b else a
/-- Whether a < b; NaN compares false. -/
def fpLt (a b : Nat) : Bool := (ofFp32 a).cmp (ofFp32 b) == some .lt
/-- Whether a = b; NaN compares false. -/
def fpEq (a b : Nat) : Bool := (ofFp32 a).cmp (ofFp32 b) == some .eq
/-- Whether a ≤ b; NaN compares false. -/
def fpLe (a b : Nat) : Bool := fpLt a b || fpEq a b
/-- Ranking order of R64: a before b in ascending order; every NaN above +infinity. -/
def rankLt (a b : Nat) : Bool :=
  match ofFp32 a, ofFp32 b with
  | .nan, _ => false
  | _, .nan => true
  | x, y => x.cmp y == some .lt

/-- FP32 of an integer, nearest even (R46). -/
def fpOfInt (v : Int) : Nat := toFp32 (.fin (decide (v < 0)) v.natAbs 0)
/-- FP32 code of 1. -/
def fpOne : Nat := 0x3F800000

/-! ## Integers (R39) -/

/-- A two's complement value of `w` bits. -/
def toSigned (w v : Nat) : Int := if v % 2 ^ w < 2 ^ (w - 1) then (v % 2 ^ w : Nat) else ((v % 2 ^ w : Nat) : Int) - (2 ^ w : Nat)
/-- The `w` low bits of an integer. -/
def ofSigned (w : Nat) (v : Int) : Nat := (v % (2 ^ w : Nat)).toNat
/-- Saturation to `w` bits (R47, first row). -/
def satInt (w : Nat) (v : Int) : Int := max (-(2 ^ (w - 1) : Nat)) (min v ((2 ^ (w - 1) : Nat) - 1))

/-- Conversion of a value to a `w`-bit integer (R47): NaN 0, infinities and overflow saturate; and whether a draw was
consumed. -/
def toInt (w : Nat) (mode : Round) : Val → Int × Bool
  | .nan => (0, false)
  | .inf neg => (satInt w (if neg then -(2 ^ w : Nat) else (2 ^ w : Nat)), false)
  | .fin neg m e =>
    if 0 ≤ e then
      let v : Int := (m * 2 ^ (min e 256).toNat : Nat)
      (satInt w (if neg then -v else v), false)
    else
      let sh := (-e).toNat
      let k := m / 2 ^ sh
      let rem := m % 2 ^ sh
      let v : Int := (k + natOf (roundUp mode k rem sh) : Nat)
      (satInt w (if neg then -v else v), decide (rem ≠ 0))

/-! ## Stochastic generators and draws (R51, R139) -/

/-- 64-bit wrap. -/
def wrap64 (v : Nat) : Nat := v % 2 ^ 64
/-- sr_init (R51). -/
def srInit (seed core : Nat) : Nat :=
  let s := wrap64 seed ^^^ wrap64 (0x9E3779B97F4A7C15 * (core + 1))
  if s = 0 then 1 else s
/-- State after one sr_draw (R51). -/
def srNext (s : Nat) : Nat :=
  let a := s ^^^ (s >>> 12)
  let b := a ^^^ wrap64 (a <<< 25)
  b ^^^ (b >>> 27)
/-- The 16-bit value of the draw that leaves state `s` (R51). -/
def srValue (s : Nat) : Nat := wrap64 (s * 0x2545F4914F6CDD1D) >>> 48
/-- mix (R139). -/
def mix (z : Nat) : Nat :=
  let a := wrap64 (z + 0x9E3779B97F4A7C15)
  let b := wrap64 ((a ^^^ (a >>> 30)) * 0xBF58476D1CE4E5B9)
  let c := wrap64 ((b ^^^ (b >>> 27)) * 0x94D049BB133111EB)
  c ^^^ (c >>> 31)
/-- draw_u (R139): an FP32 code. -/
def drawU (seed item pos : Nat) : Nat := toFp32 (.fin false (mix (seed ^^^ mix (item ^^^ mix pos)) >>> 40) (-24))

/-! ## Formats of tensors (R32, format codes of R117) -/

/-- Floating-point layout of an element of a format code; `variant` is the L6 variant flag. -/
def elemFmt (code variant : Nat) : Option Fmt :=
  match code with
  | 0x01 => some fmtFp32
  | 0x02 => some fmtBf16
  | 0x03 => some fmtFp16
  | 0x04 => some fmtE4m3
  | 0x05 => some fmtE5m2
  | 0x08 => some fmtE4m3
  | 0x09 => some (if variant = 0 then fmtE2m3 else fmtE3m2)
  | 0x0A => some fmtE2m1
  | _ => none

/-- Bits of an element of a format code (R32). -/
def elemBits (code : Nat) : Nat :=
  match code with
  | 0x01 => 32
  | 0x02 => 16
  | 0x03 => 16
  | 0x07 => 4
  | 0x09 => 6
  | 0x0A => 4
  | 0x0B => 32
  | 0x0C => 64
  | _ => 8

/-- Whether a format code is a Ladder format. -/
def isLadder (code : Nat) : Bool := code == 0x08 || code == 0x09 || code == 0x0A
/-- Whether a format code is an integer format. -/
def isInteger (code : Nat) : Bool := code == 0x06 || code == 0x07 || code == 0x0B || code == 0x0C
/-- Bytes of a tile record (R43). -/
def tileBytes (code : Nat) : Nat := elemBits code * 2048 + 1040

/-- An element without scales. -/
def Elem.plain (code : Nat) : Elem := { code, scale := 0, tile := 0 }

/-- Exact value of a floating-point or Ladder element (R34, R41). DESIGN CHOICE (log 84): for a block scale of zero under a tile scale
that is NaN or infinite two sentences of R41 give different answers; the value is NaN. -/
def Elem.val (fmt variant : Nat) (x : Elem) : Val :=
  match elemFmt fmt variant with
  | none => .fin false 0 0
  | some f =>
    if isLadder fmt then
      let s := fmtUe5m3.decodeMag false x.scale
      let t := ofFp32 x.tile
      match s, t with
      | .nan, _ => .nan
      | _, .nan => .nan
      | _, .inf _ => .nan
      | s, t => if x.scale = 0 then .fin false 0 0 else (t.mul s).mul (f.decode x.code)
    else f.decode x.code

/-- Integer value of an integer element (R39). -/
def Elem.int (fmt : Nat) (x : Elem) : Int := toSigned (elemBits fmt) x.code

/-- FP32 code of an element as an Edger core loads it (R46; integers and Ladder values round to nearest even, R130, R41, R527). -/
def Elem.fp (fmt variant : Nat) (x : Elem) : Nat :=
  if isInteger fmt then fpOfInt (x.int fmt) else toFp32 (x.val fmt variant)

/-- Whether a conversion between format codes is widening, so exact, infinities included (R46); a Ladder element is loaded as FP32
before anything converts it. -/
def widens (src dst : Nat) : Bool :=
  src == dst ||
  match dst with
  | 0x01 => [2, 3, 4, 5, 6, 7, 8, 9, 10].contains src
  | 0x02 => [4, 5, 6, 7].contains src
  | 0x03 => [4, 5, 6, 7].contains src
  | 0x06 => src == 7
  | 0x0B => [6, 7].contains src
  | 0x0C => [6, 7, 11].contains src
  | _ => false

/-- Conversion of an exact value to an element of a format that is not Ladder (R46, R47): the element and whether a draw was
consumed. -/
def narrow (fmt : Nat) (mode : Round) (inf : Bool) (v : Val) : Elem × Bool :=
  if isInteger fmt then
    let r := toInt (elemBits fmt) mode v
    (Elem.plain (ofSigned (elemBits fmt) r.1), r.2)
  else match elemFmt fmt 0 with
    | some f => let r := f.encode mode inf v; (Elem.plain r.1, r.2)
    | none => (Elem.plain 0, false)

/-! ## Ladder quantization (R45) -/

/-- Emax of a Ladder format, as an exact value. -/
def emaxOf (fmt variant : Nat) : Val :=
  match elemFmt fmt variant with
  | some f => f.decode f.maxCode
  | none => .fin false 1 0

/-- Whether 2^k × Emax is at least a finite magnitude. -/
def coversExp (emax amax : Val) (k : Int) : Bool :=
  ((emax.mul (.fin false 1 k)).cmp amax).elim false (· != .lt)

/-- The smallest integer k for which 2^k × Emax is at least the magnitude (R45), searched upwards from below it. -/
def ceilLog2Exact (emax amax : Val) : Int :=
  match amax with
  | .fin _ m e =>
    let start : Int := e + (bitLen m : Int) - 16
    match (List.range 32).find? (fun (i : Nat) => coversExp emax amax (start + (i : Int))) with
    | some i => start + (i : Int)
    | none => start + 32
  | _ => 0

/-- Largest finite magnitude of FP32 codes. -/
def amaxOf (xs : List Nat) : Val :=
  xs.foldl (fun a x => match ofFp32 x with
    | .fin _ m e => if ((Val.fin false m e).cmp a).elim false (· == .gt) then .fin false m e else a
    | _ => a) (.fin false 0 0)

/-- Tile scale exponent e_t (R45). -/
def tileExp (fmt variant : Nat) (xs : List Nat) : Int :=
  let a := amaxOf xs
  match a with
  | .fin _ 0 _ => 0
  | _ => min 127 (max (-149) (ceilLog2Exact (emaxOf fmt variant) a - 16))

/-- ue5m3_up (R45): the smallest UE5M3 code at or above a non-negative value, at most 0xFE. -/
def ue5m3Up (q : Val) : Nat :=
  match q with
  | .fin _ 0 _ => 0
  | q => ((List.range 255).find? (fun c => ((fmtUe5m3.decodeMag false c).cmp q).elim false (· != .lt))).getD 0xFE

/-- Whether a list of FP32 codes holds a NaN or an infinity. -/
def hasSpecial (xs : List Nat) : Bool :=
  xs.any fun x => match ofFp32 x with
    | .fin _ _ _ => false
    | _ => true

/-- Block scale of 16 FP32 values in a tile of scale exponent `et` (R45). -/
def blockScale (fmt variant : Nat) (et : Int) (xs : List Nat) : Nat :=
  if hasSpecial xs then 0xFF
  else
    let t := Val.fin false 1 et
    let d := ofFp32 (toFp32 (t.mul (emaxOf fmt variant)))
    ue5m3Up (ofFp32 (toFp32 ((amaxOf xs).div d)))

/-- FP32 divisor of a block: t × the scale's value (R45). -/
def blockDiv (et : Int) (scale : Nat) : Nat := toFp32 ((Val.fin false 1 et).mul (fmtUe5m3.decodeMag false scale))

/-- One element of a block (R45, R47): saturating; zero in a block of scale 0 or 0xFF. -/
def blockElem (fmt variant : Nat) (et : Int) (scale : Nat) (mode : Round) (x : Nat) : Elem × Bool :=
  let tile := toFp32 (.fin false 1 et)
  if scale = 0 ∨ scale = 0xFF then ({ code := 0, scale, tile }, false)
  else match elemFmt fmt variant with
    | some f =>
      let r := f.encode mode false (ofFp32 (fpDiv x (blockDiv et scale)))
      ({ code := r.1, scale, tile }, r.2)
    | none => ({ code := 0, scale, tile }, false)

/-! ## Group sums and accumulation (R54 to R58) -/

/-- Exact sum of products (R54, R55); a zero sum is +0. -/
def groupSum (ps : List Val) : Val :=
  match ps.foldl Val.add (.fin false 0 0) with
  | .fin neg m e => if m = 0 then .fin false 0 0 else .fin neg m e
  | v => v

/-- A product cut below the 48-bit window of the Half class (R54). -/
def cutBelow (lsb : Int) : Val → Val
  | .fin neg m e => if lsb ≤ e then .fin neg m e else .fin neg (m / 2 ^ (lsb - e).toNat) lsb
  | v => v

/-- Group sum of the Half class (R54): products keep 48 bits below the leading bit of the largest. -/
def halfSum (ps : List Val) : Val :=
  let lead := ps.foldl (fun (a : Option Int) p => match p with
    | .fin _ m e => if m = 0 then a else
        let l := e + (bitLen m : Int) - 1
        some (match a with
          | some x => max x l
          | none => l)
    | _ => a) none
  match lead with
  | some l => groupSum (ps.map (cutBelow (l - 48)))
  | none => groupSum ps

/-- Accumulator plus a group sum with one rounding (R56). -/
def accAdd (acc : Nat) (g : Val) : Nat := toFp32 ((ofFp32 acc).add g)

/-! ## Atomics (R65) -/

/-- New value of a location after an atomic (R65, R148): add wraps or is one FP32 addition, min and max compare as their
type, CAS stores when the compare value matches. -/
def atomicNew (op : AtomicOp) (ty : AtomicTy) (old operand compare : Nat) : Nat :=
  let w := ty.bytes * 8
  match op with
  | .cas => if old = compare then operand % 2 ^ w else old
  | .add =>
    match ty with
    | .fp32 => fpAdd old operand
    | _ => (old + operand) % 2 ^ w
  | .min =>
    match ty with
    | .fp32 => fpMin old operand
    | .int32 => if toSigned 32 operand < toSigned 32 old then operand % 2 ^ w else old
    | .int64 => if toSigned 64 operand < toSigned 64 old then operand % 2 ^ w else old
    | _ => min old (operand % 2 ^ w)
  | .max =>
    match ty with
    | .fp32 => fpMax old operand
    | .int32 => if toSigned 32 old < toSigned 32 operand then operand % 2 ^ w else old
    | .int64 => if toSigned 64 old < toSigned 64 operand then operand % 2 ^ w else old
    | _ => max old (operand % 2 ^ w)

/-- Types an atomic operation accepts (R148). -/
def atomicLegal (op : AtomicOp) (ty : AtomicTy) : Bool :=
  match op with
  | .add => ty == .int32 || ty == .int64 || ty == .fp32
  | .cas => ty == .int32 || ty == .int64 || ty == .cas128
  | _ => ty != .cas128

end Sys2Proof.Machine
end

