-- ==== Sys2Proof/Machine/Flags.lean ====
section
/-!
DEFINITION. Status words, mode axes and the views of registers (11, 12, 18 R503): each computed from the state it reports.
-/

namespace Sys2Proof.Machine

/-- Code of a device state (11). -/
def DevState.code : DevState → Nat
  | .bringup => 0
  | .ready => 1
  | .service => 2
  | .safeHold => 3
  | .test => 4
  | .debug => 5

/-- Code of a timebase state (R167). -/
def TbState.code : TbState → Nat
  | .free => 0
  | .acquiring => 1
  | .locked => 2
  | .holdover => 3

/-- Axis code of a state that is not ACQUIRING (R165). -/
def TbState.axis : TbState → Nat
  | .locked => 0
  | .holdover => 1
  | _ => 2

/-- The timebase axis: 0 LOCKED, 1 HOLDOVER, 2 FREE (R165). -/
def Dev.tbAxis (d : Dev) : Nat := if d.tb.st = .acquiring then d.tb.acqFrom.axis else d.tb.st.axis

/-- HOLDOVER age in ns (R165). -/
def Dev.holdAge (d : Dev) : Nat := d.tb.holdSince.elim 0 (d.tb.ns - ·)

/-- Whether the device is held in reset: PERST# asserted (R362), no good input (R401), or after a trip (R419). -/
def Dev.heldReset (d : Dev) : Bool := d.bu.perst || !d.pw.inputGood || d.th.heldInReset

/-- Whether the timebase rules out rack barriers (R166, R343). -/
def Dev.noBarrier (d : Dev) : Bool := d.tbAxis == 2 || (d.tbAxis == 1 && decide (10000000000 < d.holdAge))

/-- Whether the management axis is SIMPLEX (R429, R477). -/
def Dev.simplex (d : Dev) : Bool := d.fw.standby != .current

/-- The fabric axis: 0 OFF, 1 JOINED, 2 ISOLATED (R332). -/
def Dev.fabricAxis (d : Dev) : Nat :=
  if !d.sw.joined then 0 else if d.sw.ports.any (·.st == .up) then 1 else 2

/-- Whether the calibration axis is PAUSED (R272). -/
def Dev.calPaused (d : Dev) : Bool := d.pw.axis == 2 || !(d.hg.devState == .ready || d.hg.devState == .service)

/-- Whether the Trickle axis is ON (R409). -/
def Dev.trickleAxisOn (d : Dev) : Bool := d.pw.trickleOn && decide (0 < d.pw.trickleLevel) && !d.str.slack && d.hg.devState != .test

/-- Sessions that are ORPHANED. -/
def Dev.orphans (d : Dev) : Nat := (d.ses.list.filter (·.orphaned.isSome)).length

/-- The `DEV_STATE` response body, 32 bytes (12). -/
def Dev.stateBody (d : Dev) : List Byte :=
  leBytes 1 d.hg.devState.code ++ leBytes 1 d.hg.stage ++ leBytes 1 d.tbAxis ++ leBytes 1 (natOf (decide (0 < d.orphans))) ++
  leBytes 1 (natOf d.simplex) ++ leBytes 1 (natOf d.sp.degraded) ++ leBytes 1 (natOf (decide (0 < d.mem.mirror))) ++
  leBytes 1 d.fabricAxis ++ leBytes 1 d.fw.update ++ leBytes 1 (natOf d.calPaused) ++ leBytes 1 (natOf (!d.trickleAxisOn)) ++
  leBytes 1 d.pw.axis ++ leBytes 1 d.th.policy ++ leBytes 1 d.fw.lifecycle ++ leBytes 2 d.fw.features ++
  leBytes 8 d.rd.number ++ leBytes 4 d.ses.list.length ++ leBytes 4 d.orphans

/-- The conflict block (R371): object kind, object state, object id. -/
def Dev.conflict (d : Dev) (object state id : Nat) : List Byte :=
  d.stateBody ++ leBytes 1 object ++ leBytes 1 state ++ leBytes 2 0 ++ leBytes 4 id

/-- HG.DEVSTAT as the host reads it (11). -/
def Dev.devstat (d : Dev) : Nat :=
  d.hg.devState.code + d.hg.stage * 2 ^ 4 + natOf d.hg.stageFail * 2 ^ 8 + natOf d.fw.rangerB * 2 ^ 9 + natOf d.simplex * 2 ^ 10 +
  natOf d.sp.degraded * 2 ^ 11 + natOf d.hg.memActive * 2 ^ 12 + natOf d.hg.mbReady * 2 ^ 13 + d.fw.lifecycle * 2 ^ 14 +
  d.tbAxis * 2 ^ 16 + natOf (d.pw.axis == 2) * 2 ^ 18

/-- HG.LINKSTAT as the host reads it (11). -/
def Dev.linkstat (d : Dev) : Nat :=
  d.hg.linkWidth + d.hg.linkRate * 2 ^ 5 + natOf d.hg.lopt * 2 ^ 9 + d.hg.ide * 2 ^ 10 + natOf d.hg.cacheEn * 2 ^ 12 +
  natOf d.hg.memEn * 2 ^ 13 + natOf d.hg.bme * 2 ^ 14

/-- A Headgate register as the host reads it (11, register map); HG.DOORBELL is write-only and reads 0 (R13). -/
def Dev.readHg (d : Dev) (off : Nat) : Nat :=
  match off with
  | 0x000 => 0x8000 + 0x0001 * 2 ^ 16
  | 0x008 => d.devstat
  | 0x010 => if d.hg.xtbShown then d.tb.ns else 0
  | 0x018 => if d.hg.xtbShown then d.rd.number else 0
  | 0x020 => d.linkstat
  | 0x028 => d.hg.errstat.toNat
  | 0x030 => d.hg.intstat.toNat
  | 0x038 => d.hg.intmask.toNat
  | _ => 0

/-- A channel. -/
def Dev.chan (d : Dev) (ch : Nat) : Channel := lookup (·.ch == ch) (Channel.fresh ch) d.mb.chans

/-- Code of ST (12, MB.STATE). -/
def ChanSt.code : ChanSt → Nat
  | .idle => 1
  | .queued => 2
  | .running => 3
  | .done => 4

/-- MB.STATE as the host reads it (R365). -/
def Dev.mbState (d : Dev) (ch : Nat) : Nat :=
  if !d.hg.mbReady then 0
  else let c := d.chan ch
    c.st.code + natOf c.errBusy * 8 + natOf c.errSeq * 16 + natOf c.retried * 32

/-- MB.SEQ as the host reads it. -/
def Dev.mbSeq (d : Dev) (ch : Nat) : Nat :=
  if !d.hg.mbReady then 0 else (d.chan ch).lastSeq + (d.chan ch).doneCount * 2 ^ 32

/-- Index of a domain: 9 or 10 (R394). -/
def domNo : Domain → Nat
  | .cd9 => 9
  | .cd10 => 10

/-- The step in force of a domain, MHz (R393). -/
def Dev.step (d : Dev) : Domain → Nat
  | .cd9 => d.ck.cd9
  | .cd10 => d.ck.cd10

/-- Effective frequency under R85: the smallest k for which step × (64 − k) / 64 does not exceed the maximum; 0 to 63. -/
def swallowK (step max : Nat) : Nat :=
  ((List.range 64).find? fun k => decide (step * (64 - k) ≤ max * 64)).getD 63

/-- gen_of (R198). -/
def genOf (k n : Nat) : Nat := (k / n) % 0xFFFFFFFF + 1

/-- fold (R277). -/
def fold (x : Nat) : Nat :=
  x ^^^ (x >>> 4) ^^^ (x >>> 8) ^^^ (x >>> 12) ^^^ (x >>> 16) ^^^ (x >>> 20) ^^^ (x >>> 24) ^^^ (x >>> 28)

/-- Bytes of the interleaved view before mirroring, and of one stack. -/
def hbmBytes : Nat := 1280000000000
/-- Bytes of one stack (R276). -/
def stackBytes : Nat := 80000000000
/-- 64 GiB, one mirror unit (R289). -/
def mirrorUnit : Nat := 0x1000000000

/-- map_interleaved (R277): stack, offset. A mirrored line's home is the even stack. -/
def mapInterleaved (a m : Nat) : Nat × Nat :=
  let g := a >>> 12
  let lo := a &&& 0xFFF
  if a < m then (2 * ((g ^^^ fold (g >>> 3)) &&& 7), ((g >>> 3) <<< 12) ||| lo)
  else
    let h := g - (m >>> 12)
    ((h ^^^ fold (h >>> 4)) &&& 0xF, m / 8 + ((h >>> 4) <<< 12) ||| lo)

/-- Where a DPA leads (R276, R280, R281). -/
inductive Place
  /-- stack and stack-local offset -/
  | hbm (stack off : Nat)
  /-- compute site and window offset -/
  | scratch (site off : Nat)
  /-- offset in the MMIO range, of a populated page -/
  | mmio (off : Nat)
  | nowhere
  deriving DecidableEq, Repr

/-- Whether an MMIO page is populated (R281). -/
def mmioPage (off : Nat) : Bool :=
  let p := off / 0x1000
  p == 0 || p == 1 || (decide (0x10 ≤ p) && decide (p < 0x20))

/-- The device address map for mirrored size M (R276, R280, R281); whether scratch is populated is the site's (R90). -/
def placeOf (m dpa : Nat) : Place :=
  if dpa < 0x100000000000 then
    if dpa < hbmBytes - m then let so := mapInterleaved dpa m; .hbm so.1 so.2 else .nowhere
  else if dpa < 0x120000000000 then
    let o := (dpa - 0x100000000000) % 0x2000000000
    if o < stackBytes then .hbm ((dpa - 0x100000000000) / 0x2000000000) o else .nowhere
  else if 0x200000000000 ≤ dpa ∧ dpa < 0x200000000000 + 48 * 0x40000000 then
    let s := (dpa - 0x200000000000) / 0x40000000
    if isCompute s then .scratch s ((dpa - 0x200000000000) % 0x40000000) else .nowhere
  else if 0x300000000000 ≤ dpa ∧ dpa < 0x300001000000 then
    if mmioPage (dpa - 0x300000000000) then .mmio (dpa - 0x300000000000) else .nowhere
  else .nowhere

/-- M in force, bytes. -/
def Dev.mBytes (d : Dev) : Nat := mirrorUnit * d.mem.mirror

/-- Stack-local DPA of a stack and offset (R276): the key of HBM bytes. -/
def hbmKey (stack off : Nat) : Nat := 0x100000000000 + 0x2000000000 * stack + off
/-- Window DPA of a site and offset (R89): the key of scratch bytes. -/
def scratchKey (site off : Nat) : Nat := 0x200000000000 + 0x40000000 * site + off

/-- Size of the HDM decoder (R353). -/
def decoderSize (m : Nat) : Nat := (hbmBytes - m + 0xFFFFFFF) / 0x10000000 * 0x10000000

/-- Pseudo-channel of a line (R278). -/
def pseudoChannel (l : Nat) : Nat := (l ^^^ (l >>> 5) ^^^ (l >>> 10) ^^^ (l >>> 15)) &&& 0x1F

/-- Nominal slice of a line (R92). -/
def nominalSlice (l : Nat) : Nat := (l ^^^ (l >>> 8) ^^^ (l >>> 16) ^^^ (l >>> 24) ^^^ (l >>> 32)) &&& 0xFF

/-- Slice of a CACHED line, given the retired slices (R92, R454). -/
def sliceOf (retired : List Nat) (l : Nat) : Nat :=
  let n := nominalSlice l
  if retired.contains n then
    let act := (List.range 256).filter (fun s => !retired.contains s)
    (act[(l >>> 18) % act.length]?).getD 0
  else n

/-- Set of a CACHED line (R92). -/
def setOf (l : Nat) : Nat := (l >>> 8) &&& 0x3FF

/-- The bond groups beneath a physical Stand (R96). -/
def groupsOf (stand : Nat) : List Nat := (List.range 256).filter (· % 133 == stand)

/-- Distance of two physical Stands on the 7 × 19 grid (R81). -/
def standDistance (a b : Nat) : Nat :=
  let apart := fun (x y : Nat) => max x y - min x y
  apart (a / 19) (b / 19) + apart (a % 19) (b % 19)

/-- Zone of a physical Stand (14, zones). -/
def zoneOf (stand : Nat) : Nat :=
  let col := stand % 19
  let row := stand / 19
  (if col < 5 then 0 else if col < 10 then 1 else if col < 15 then 2 else 3) + (if row < 4 then 0 else 4)

/-- Data lane of symbol j of codeword c (R217, R317). -/
def symbolLane (c j : Nat) : Nat := (j + c) % 16

/-- Fairness weight of a source port (R226). -/
def weightOf (port : Nat) : Nat :=
  if isCompute port then 1 else if port = 49 ∨ port = 50 then 4 else 2

/-- Whether a 16-bit epoch field is accepted at epoch E (R333): bits [15:0] of E or of E − 1. -/
def epochOk (e f : Nat) : Bool := f == e % 65536 || f == (e - 1) % 65536

end Sys2Proof.Machine
end

