-- ==== Sys2Proof/WellFormed.lean ====
section
/-!
DEFINITION. Which commands are well formed: every operand names a place the package has (00 R10, 01 R21 to R24). A command
that is not well formed names nothing, and changes nothing (log 3).
-/

namespace Sys2Proof

/-- Whether a site id is a compute site (R21): SITE[8] to SITE[39]. -/
def isComputeSite (site : Nat) : Bool := decide (8 ≤ site) && decide (site ≤ 39)

/-- A core thread that exists (R71, R78): 133 physical Stands of 21 positions and 8 threads. -/
def Thread.wf (t : Thread) : Bool :=
  isComputeSite t.site && decide (t.stand < 133) && decide (t.pos < 21) && decide (t.thread < 8)

/-- A plane port, or a fibre port's optics: port 64 + p, plane 0 (R311). -/
def opticWf (port plane : Nat) : Bool := (decide (port < 55) && decide (plane < 4)) || (decide (64 ≤ port) && decide (port < 72) && plane == 0)

/-- A ring that exists (R254, R258, R311): 18 fixed rings on each side, two roaming drop rings on a receive side of the Basin. -/
def RingId.wf (r : RingId) : Bool :=
  opticWf r.port r.plane && decide (r.idx < (if r.side = .rx ∧ r.port < 55 then 20 else 18))

/-- A frame whose header fields fit (R318). -/
def Frame.wf (f : Frame) : Bool :=
  decide (f.dst < 65536) && decide (f.src < 65536) && decide (f.address < 2 ^ 64) && decide (f.gen < 256) &&
  decide (f.unit < 2 ^ 24) && decide (f.epoch < 65536) && decide (f.hops < 32) && decide (f.size < 65536)

/-- A transfer descriptor whose values fit (R80, R148). -/
def XferDesc.wf (x : XferDesc) : Bool :=
  decide (x.local_ < 2 ^ 64) && decide (x.remote < 2 ^ 64) && decide (x.length < 2 ^ 32)

/-- A remote access whose address fits (R148). -/
def RemoteOp.wf : RemoteOp → Bool
  | .load addr _ => decide (addr < 2 ^ 64)
  | .store addr data => decide (addr < 2 ^ 64) && decide (data.length < 65536)
  | .atomic _ _ addr _ _ => decide (addr < 2 ^ 64)
  | .standLoad stand off _ => decide (stand < 133) && decide (off < 0x200000)
  | .standStore stand off data => decide (stand < 133) && decide (off < 0x200000) && decide (data.length < 65536)
  | .standAtomic _ _ stand off _ _ => decide (stand < 133) && decide (off < 0x200000)
  | .fence => true
  | .awaitDescriptor _ => true

/-- Whether every operand of a command names a place the package has. -/
def Instr.wf : Instr → Bool
  | .mbDoorbellWrite ch _ => decide (ch < 256)
  | .commandStart => true
  | .commandComplete ch => decide (ch < 256)
  | .registerWrite _ _ => true
  | .hgDoorbellRestart _ => true
  | .devQuery ch => decide (ch < 256)
  | .devState ch => decide (ch < 256)
  | .bringupLogRead ch => decide (ch < 256)
  | .sessionOpen ch => decide (ch < 256)
  | .sessionClose ch => decide (ch < 256)
  | .sessionReattach ch => decide (ch < 256)
  | .hostKeepalive ch => decide (ch < 256)
  | .graphLoad ch => decide (ch < 256)
  | .graphUnload ch => decide (ch < 256)
  | .graphPlace ch => decide (ch < 256)
  | .graphQuery ch => decide (ch < 256)
  | .roundConfig ch => decide (ch < 256)
  | .streamCreate ch => decide (ch < 256)
  | .streamDestroy ch => decide (ch < 256)
  | .intakeRingCreate ch => decide (ch < 256)
  | .resultRingCreate ch => decide (ch < 256)
  | .streamPause ch => decide (ch < 256)
  | .streamResume ch => decide (ch < 256)
  | .decodePoolConfig ch => decide (ch < 256)
  | .regionMap ch => decide (ch < 256)
  | .regionUnmap ch => decide (ch < 256)
  | .mirrorConfig ch => decide (ch < 256)
  | .fabricJoin ch => decide (ch < 256)
  | .fabricLeave ch => decide (ch < 256)
  | .fabricTableSet ch => decide (ch < 256)
  | .fabricQuery ch => decide (ch < 256)
  | .powerCapSet ch => decide (ch < 256)
  | .freqStepSet ch => decide (ch < 256)
  | .trickleConfig ch => decide (ch < 256)
  | .thermalPolicyQuery ch => decide (ch < 256)
  | .timebaseConfig ch => decide (ch < 256)
  | .timebaseStatus ch => decide (ch < 256)
  | .coolantConfig ch => decide (ch < 256)
  | .fwUpdateBegin ch => decide (ch < 256)
  | .fwUpdateBlock ch _ => decide (ch < 256)
  | .fwUpdateCommit ch => decide (ch < 256)
  | .fwActivate ch => decide (ch < 256)
  | .fwActivateLive ch => decide (ch < 256)
  | .licenceInstall ch => decide (ch < 256)
  | .licenceQuery ch => decide (ch < 256)
  | .debugNonceRequest ch => decide (ch < 256)
  | .debugUnlock ch => decide (ch < 256)
  | .telemetryRead ch => decide (ch < 256)
  | .eventLogRead ch => decide (ch < 256)
  | .defectMapRead ch => decide (ch < 256)
  | .calibrationStatus ch => decide (ch < 256)
  | .selftestRun ch _ _ => decide (ch < 256)
  | .cruiserRun ch => decide (ch < 256)
  | .testModeEnter ch => decide (ch < 256)
  | .testModeExit ch => decide (ch < 256)
  | .perstAssert => true
  | .perstDeassert => true
  | .linkUp width rate _ => (width == 1 || width == 2 || width == 4 || width == 8 || width == 16) && decide (rate < 16)
  | .hotReset _ => true
  | .cxlMemRead _ => true
  | .cxlMemWrite _ data _ => data.length == 64
  | .biSnoopResponse _ data => data.elim true (fun b => b.length == 64)
  | .biSnoopTimeout _ => true
  | .cxlCacheReadComplete _ _ => true
  | .cxlCacheReadTimeout _ => true
  | .hostSnoop _ => true
  | .ideIntegrityFail => true
  | .ideKeyExchange => true
  | .spdmRequest _ => true
  | .msixUnmask vector => decide (vector < 2048)
  | .inputUndervoltage _ => true
  | .inputRestored _ => true
  | .powerSample site _ _ => site.elim true isComputeSite
  | .limiterStep site => site.elim true isComputeSite
  | .limiterRelease site => site.elim true isComputeSite
  | .trickleRatioStep => true
  | .sensorSample _ _ _ => true
  | .throttleDividerTimer site zone _ => isComputeSite site && decide (zone < 8)
  | .throttleSkipDecay site zone _ => isComputeSite site && decide (zone < 8)
  | .thermalTrip _ readings => readings.length == 3
  | .thermalPolicyRestart => true
  | .coolantPoll _ _ _ => true
  | .capDerateTimer => true
  | .flashWriteResume => true
  | .chimeLoss port => (decide (port < 55) || (decide (0x80 ≤ port) && decide (port < 0x88)))
  | .refclkLoss => true
  | .refclkHoldExpiry => true
  | .supplyDroop site stand pos _ => isComputeSite site && decide (stand < 133) && decide (pos < 21)
  | .supplyRecovery site stand pos => isComputeSite site && decide (stand < 133) && decide (pos < 21)
  | .sustainedDroop site stand pos => isComputeSite site && decide (stand < 133) && decide (pos < 21)
  | .voltageRiseStart => true
  | .frequencyStepVote site _ _ _ => isComputeSite site
  | .frequencyStepDecision => true
  | .stepDecisionMissing sites => sites.all isComputeSite
  | .tbPpsEdge _ => true
  | .tbTodFrame bytes => bytes.length == 16
  | .tbClkLoss => true
  | .tbPpsLoss => true
  | .xtbRateCorrection => true
  | .holdoverAgeLimit => true
  | .roundBoundary => true
  | .intakeDescriptorRead => true
  | .calibrationWindowOpen => true
  | .calibrationWindowClose => true
  | .dispatch => true
  | .shareComplete _ share => isComputeSite share.site
  | .stageDeadline => true
  | .publicationWindowOpen => true
  | .publicationDeadline => true
  | .sessionOrphanTimer _ => true
  | .orphanHoldExpiry _ => true
  | .reattachLockoutExpiry _ => true
  | .tallyRemoteAccess t _ op => t.wf && op.wf
  | .remoteAccessComplete read => read.t.wf
  | .remoteAccessTimeout t => t.wf
  | .transferDescriptorWrite t desc => t.wf && desc.wf
  | .bondBeatUncorrectable site group beat =>
    isComputeSite site && decide (group < 256) && (match beat with
      | .access t => t.wf
      | _ => true)
  | .coreAgeingLower site stand pos => isComputeSite site && decide (stand < 133) && decide (pos < 21)
  | .understoryReset site => isComputeSite site
  | .understoryReady site => isComputeSite site
  | .canopyReset site => isComputeSite site
  | .canopyReloadComplete site => isComputeSite site
  | .slotBoundary => true
  | .cellReceive port plane wrong astray =>
    decide (port < 55) && decide (plane < 4) && wrong.all (fun w => decide (w.1 < 258) && decide (w.2 < 36)) &&
    astray.all fun a => decide (a.1 < 55) && decide (a.2 < 4)
  | .bulkWrite port plane => decide (port < 55) && decide (plane < 4)
  | .bulkReadData port plane => decide (port < 55) && decide (plane < 4)
  | .control port plane => decide (port < 55) && decide (plane < 4)
  | .multicast port plane => decide (port < 55) && decide (plane < 4)
  | .load port read => decide (port < 55) && decide (read.plane < 4)
  | .store port plane => decide (port < 55) && decide (plane < 4)
  | .atomic port read => decide (port < 55) && decide (read.plane < 4)
  | .loadRsp port plane => decide (port < 55) && decide (plane < 4)
  | .storeAck port plane => decide (port < 55) && decide (plane < 4)
  | .atomicRsp port plane => decide (port < 55) && decide (plane < 4)
  | .xferAck port plane => decide (port < 55) && decide (plane < 4)
  | .partialTransferExpiry port src _ => decide (port < 55) && decide (src < 55)
  | .planeSchedulerFail plane => decide (plane < 4)
  | .switchPortFail port plane => decide (port < 55) && decide (plane < 4)
  | .combFailure wellhead => decide (wellhead < 8)
  | .combSwitchComplete wellhead => decide (wellhead < 8)
  | .tuningLoopUpdate ring _ _ _ => ring.wf
  | .laneIdentityCheck ring _ => ring.wf
  | .relockTimeout port plane => decide (port < 55) && decide (plane < 4)
  | .opticalMonitorSample port plane line sample =>
    opticWf port plane && decide (line < 18) && sample.levels.length == 10 && (decide (64 ≤ port) || decide (sample.src < 55))
  | .laserAgeingCheck => true
  | .calibrationMeasurementComplete port plane _ _ _ _ _ => opticWf port plane
  | .calibrationStoreWrite => true
  | .lineFillComplete stack line _ => decide (stack < 16) && decide (line < 312500000)
  | .lineUpdate stack line => decide (stack < 16) && decide (line < 312500000)
  | .lineWriteback stack line => decide (stack < 16) && decide (line < 312500000)
  | .mirrorCopyAck stack line => decide (stack < 16) && decide (line < 312500000)
  | .scrubRead stack line _ => decide (stack < 16) && decide (line < 312500000)
  | .rowTestComplete _ _ _ => true
  | .softPprComplete _ => true
  | .channelTimeout stack line => decide (stack < 16) && decide (line < 312500000)
  | .parityAlert stack channel => decide (stack < 16) && decide (channel < 16)
  | .channelRetrainComplete stack channel _ => decide (stack < 16) && decide (channel < 16)
  | .ieee1500Activity stack => decide (stack < 16)
  | .stackTempRead stack _ die => decide (stack < 16) && die.length == 4
  | .gatherReduceJobSubmit port plane => decide (port < 55) && decide (plane < 4)
  | .gatherReduceJobComplete stack => decide (stack < 16)
  | .barrierWordLoad plane => decide (plane < 4)
  | .cisternReset stack => decide (stack < 16)
  | .frameTransmit port => decide (port < 8)
  | .marker port _ _ _ => decide (port < 8)
  | .frameUncorrectable port e _ =>
    decide (port < 8) && decide (e.index < 259) && decide (e.c < 1024) && e.wrong.all (decide <| · < 36)
  | .spillwayLoad port f => decide (port < 8) && f.wf
  | .spillwayStore port f => decide (port < 8) && f.wf
  | .spillwayAtomic port f => decide (port < 8) && f.wf
  | .spillwayBulkWrite port f => decide (port < 8) && f.wf
  | .spillwayBulkRead port f => decide (port < 8) && f.wf
  | .spillwayResponse port f => decide (port < 8) && f.wf
  | .transitForward port f => decide (port < 8) && f.wf
  | .spillwayTimeout _ _ => true
  | .staleFrameExpiry port => decide (port < 8)
  | .hello port _ _ _ _ _ _ => decide (port < 8)
  | .helloTimer port => decide (port < 8)
  | .laneMap port map _ => decide (port < 8) && map.length == 18
  | .leave port => decide (port < 8)
  | .spdm port _ _ => decide (port < 8)
  | .keySwitch port _ => decide (port < 8)
  | .rekeyTimer port => decide (port < 8)
  | .portLossOfLight port _ _ => decide (port < 8)
  | .aprEntry port => decide (port < 8)
  | .aprProbeLight port => decide (port < 8)
  | .portUp port => decide (port < 8)
  | .trainingTimeout port => decide (port < 8)
  | .spillwayCombFailure engine source => decide (engine < 4) && decide (source < 3)
  | .barrierArriveSend => true
  | .barrierArriveDeadline => true
  | .barrierArrive port f => decide (port < 8) && f.wf
  | .barrierReleaseDeadline => true
  | .barrierRelease port f _ => decide (port < 8) && f.wf
  | .barrierMissed => true
  | .barrierWithdraw port f => decide (port < 8) && f.wf
  | .barrierRejoin port f => decide (port < 8) && f.wf
  | .faultReport _ _ => true
  | .recoveryStart => true
  | .targetedSelfTestComplete _ _ => true
  | .recoveryTimeout => true
  | .stewardHeartbeatMissed port => decide (port < 55)
  | .correctedErrorHour => true
  | .coppicePreparationComplete _ => true
  | .rangerHandover _ => true
  | .rangerWatchdogExpiry => true
  | .rangerPeriodicSelfTest _ => true
  | .handoverComplete => true
  | .journalHeartbeatMissed => true
  | .standbyResyncComplete => true
  | .rangerRomSelfTestComplete _ _ => true
  | .handoffBlockWrite => true
  | .liveActivationTimeout => true
  | .fdmWrite => true
  | .bringupStageComplete _ => true
  | .bringupStageTimeout => true
  | .discoveryResponse _ _ _ _ => true
  | .stewardStartTimeout port => decide (port < 55)
  | .bypass => true
  | .idcode => true
  | .samplePreload _ => true
  | .extest => true
  | .clamp => true
  | .highz => true
  | .chainSelect _ => true
  | .portLoopback => true
  | .bondLoopback => true
  | .rangerDebug => true
  | .trstAssert => true
  | .refclkRestored => true
  | .tbClkRestored => true
  | .cisternResetComplete stack => decide (stack < 16)
  | .discoveryTimeout _ => true
  | .idleCodeword port _ => decide (port < 8)
  | .cdatTableAccess => true

end Sys2Proof
end

