-- ==== Sys2Proof/Machine/Ops.lean ====
section
/-!
DEFINITION. The named operations over the device's state that the meanings share: interrupts, the event log, accesses to
device memory, sparse records of units, capacity, SAFE_HOLD, restart.
-/

namespace Sys2Proof.Machine

/-- The result of a meaning. -/
abbrev Result := Host.Outcome State Fault Refusal

/-- Run a command's effect on the device: the queue stays, and a command that is not well formed changes nothing (log 3). -/
def State.run (s : State) (i : Instr) (f : Dev → Dev) : Result := .next { s with dev := if i.wf then f s.dev else s.dev }

/-! ## Time -/

/-- Rate of the master count less 1 ns for each CD14 cycle, 2^-16 ns (R162, R163, R531): the increment in force; in HOLDOVER without TB_CLK the
ratio last measured. -/
def Dev.rate (d : Dev) : Int := if d.tb.st = .holdover ∧ !d.tb.clk then max (-65536) d.tb.ratio else d.tb.incr

/-- One CD14 cycle passes (R155, R531): the master count advances by 1 ns and the correction in force. -/
def Dev.tick (d : Dev) : Dev :=
  let t := (((d.tb.ns * 65536 + d.tb.frac + 65536 : Nat) : Int) + d.rate).toNat
  { d with tb.ns := t / 65536, tb.frac := t % 65536 }

/-- The instant of an event has come: the count stands at it, when it lay ahead (log 3). -/
def Dev.reach (t : Nat) (d : Dev) : Dev :=
  if d.tb.ns < t then { d with tb.ns := t, tb.frac := 0 } else d

/-- Draw a fresh index for a free value (log 13). -/
def Dev.draw (d : Dev) : Dev := { d with free := d.free + 1 }

/-! ## Interrupts (R352) -/

/-- Whether a message on a vector can be sent (R352, R360). -/
def Dev.canSend (d : Dev) (v : Nat) : Bool :=
  d.hg.msixEn && d.hg.bme && !d.hg.msixFnMask && d.hg.msixUnmasked.contains v && d.hg.linkWidth != 0

/-- A message due on a vector: sent, or its pending bit set (R352). -/
def Dev.sendMsix (v : Nat) (d : Dev) : Dev :=
  if d.canSend v then { d with hg.msixSent := v :: d.hg.msixSent }
  else { d with hg.msixPending := insertNew v d.hg.msixPending }

/-- Send the pending messages that can now be sent (R352). -/
def Dev.flushMsix (d : Dev) : Dev :=
  let go := d.hg.msixPending.filter d.canSend
  { d with hg.msixPending := d.hg.msixPending.filter (fun v => !d.canSend v), hg.msixSent := go.reverse ++ d.hg.msixSent }

/-- A cause of HG.INTSTAT (R352): its bit becomes 1, and vector 0 sends one message when it was 0 and is enabled. -/
def Dev.raiseInt (bit : Nat) (d : Dev) : Dev :=
  if d.hg.intstat.getLsbD bit then d
  else
    let d := { d with hg.intstat := d.hg.intstat ||| ((1 : Word) <<< bit) }
    if d.hg.intmask.getLsbD bit then d.sendMsix 0 else d

/-- A bit of HG.ERRSTAT becomes 1 (11): HG.INTSTAT.ERROR is its cause. -/
def Dev.setErr (bit : Nat) (d : Dev) : Dev :=
  if d.hg.errstat.getLsbD bit then d
  else Dev.raiseInt 5 { d with hg.errstat := d.hg.errstat ||| ((1 : Word) <<< bit) }

/-- HG.DEVSTAT.STATE changes (11, INTSTAT.STATE). -/
def Dev.setState (s : DevState) (d : Dev) : Dev :=
  if d.hg.devState = s then d else Dev.raiseInt 0 { d with hg.devState := s }

/-! ## Event log (R488, R424) -/

/-- Whether the flash may be written (R423): FLASH_IF from 0 °C to 85 °C. -/
def Dev.flashOk (d : Dev) : Bool := decide (0 ≤ d.th.flashIf) && decide (d.th.flashIf ≤ 850)

/-- One event-log entry (R488): written, held for the flash (R424), or dropped and counted. -/
def Dev.log (unit outcome code value : Nat) (d : Dev) : Dev :=
  let e : Event := { number := d.lg.next, xtb := d.tb.ns, unit, outcome, code, value }
  if d.flashOk && !d.th.flashHold then
    Dev.raiseInt 2 { d with lg.entries := (e :: d.lg.entries).take 524288, lg.next := d.lg.next + 1 }
  else if d.lg.held.length < 256 then { d with lg.held := e :: d.lg.held, lg.next := d.lg.next + 1 }
  else { d with lg.dropped := d.lg.dropped + 1 }

/-- A NOTICE (R489): an event without a code of its own. -/
def Dev.notice (unit value : Nat) (d : Dev) : Dev := d.log unit 0 0x07FF value

/-- A principal entry and its continuations (R530). -/
def Dev.logWith (unit outcome code value : Nat) (conts : List (Nat × Nat)) (d : Dev) : Dev :=
  each conts (fun c d => d.log c.1 0 0x07FE c.2) (d.log unit outcome code value)

/-! ## Sparse records -/

/-- A plane port. -/
def Dev.pport (d : Dev) (port plane : Nat) : PlanePort :=
  lookup (fun p => p.port == port && p.plane == plane) (PlanePort.fresh port plane) d.ba.ports
/-- Update a plane port. -/
def Dev.onPort (port plane : Nat) (f : PlanePort → PlanePort) (d : Dev) : Dev :=
  { d with ba.ports := upsert (fun p => p.port == port && p.plane == plane) (PlanePort.fresh port plane) f d.ba.ports }
/-- The optics of a plane port. -/
def Dev.optic (d : Dev) (port plane : Nat) : OptPort :=
  lookup (fun p => p.port == port && p.plane == plane) (OptPort.fresh port plane) d.op.ports
/-- Expected reading of a stage (1 to 10) of a path (R260). -/
def Dev.expectedAt (d : Dev) (port plane line stage : Nat) : Int :=
  match valueOf line (d.optic port plane).expected with
  | some rs => (rs[stage - 1]?).getD 0
  | none => Config.expected port plane line stage

/-- Reading of a stage of a path: as sampled, else as expected. -/
def Dev.readingAt (d : Dev) (port plane line stage : Nat) : Int :=
  match valueOf line (d.optic port plane).monitors with
  | some rs => (rs[stage - 1]?).getD 0
  | none => d.expectedAt port plane line stage
/-- Update the optics of a plane port. -/
def Dev.onOptic (port plane : Nat) (f : OptPort → OptPort) (d : Dev) : Dev :=
  { d with op.ports := upsert (fun p => p.port == port && p.plane == plane) (OptPort.fresh port plane) f d.op.ports }
/-- A ring. -/
def Dev.ring (d : Dev) (id : RingId) : Ring := lookup (·.id == id) (Ring.fresh id) d.op.rings
/-- Update a ring. -/
def Dev.onRing (id : RingId) (f : Ring → Ring) (d : Dev) : Dev :=
  { d with op.rings := upsert (·.id == id) (Ring.fresh id) f d.op.rings }
/-- Basin port of the active Ranger. -/
def Dev.activePort (d : Dev) : Nat := if d.fw.rangerB then 50 else 49
/-- Basin port of the other Ranger. -/
def Dev.otherPort (d : Dev) : Nat := if d.fw.rangerB then 49 else 50
/-- Whether the traffic of a lane under calibration is on the calibration spares (R257, R267). -/
def Dev.calMoved (d : Dev) (port plane lane : Nat) : Bool := (d.optic port plane).onCal == some lane
/-- Line, which is also the modulator ring, on which a port transmits a data lane (R257). -/
def Dev.txLine (d : Dev) (port plane lane : Nat) : Nat :=
  let o := d.optic port plane
  if o.txFault = lane then 17 else if o.txCal = lane ∨ d.calMoved port plane lane then 16 else lane
/-- Drop ring with which a port receives a line (R258). -/
def Dev.rxRing (d : Dev) (port plane line : Nat) : Nat :=
  let o := d.optic port plane
  if o.rxFault = line then 19 else if o.rxCal = line ∨ d.calMoved port plane line then 18 else line
/-- Whether the rings of one side that carry a plane port's data lanes have passed their identity checks (R253): a ring carries no traffic
before. -/
def Dev.ringsChecked (d : Dev) (port plane : Nat) : Side → Bool
  | .tx => (List.range 16).all fun l => (d.ring { port, plane, side := .tx, idx := d.txLine port plane l }).checked
  | .rx => (List.range 16).all fun l => (d.ring { port, plane, side := .rx, idx := d.rxRing port plane l }).checked
/-- Whether a data lane reaches a receiver (R217, R257, R258): the rings that carry it hold lock. -/
def Dev.laneLive (d : Dev) (src dst plane lane : Nat) : Bool :=
  let line := d.txLine src plane lane
  (d.ring { port := src, plane, side := .tx, idx := line }).locked && (d.ring { port := dst, plane, side := .rx, idx := d.rxRing dst plane line }).locked
/-- A Wellhead. -/
def Dev.well (d : Dev) (w : Nat) : Wellhead := lookup (·.w == w) (Wellhead.fresh w) d.op.wells
/-- Update a Wellhead. -/
def Dev.onWell (w : Nat) (f : Wellhead → Wellhead) (d : Dev) : Dev :=
  { d with op.wells := upsert (·.w == w) (Wellhead.fresh w) f d.op.wells }
/-- A stack. -/
def Dev.stack (d : Dev) (k : Nat) : Stack := lookup (·.stack == k) (Stack.fresh k) d.mem.stackList
/-- Update a stack. -/
def Dev.onStack (k : Nat) (f : Stack → Stack) (d : Dev) : Dev :=
  { d with mem.stackList := upsert (·.stack == k) (Stack.fresh k) f d.mem.stackList }
/-- A compute site. -/
def Dev.site (d : Dev) (s : Nat) : Site := lookup (·.site == s) (Site.fresh s) d.cs.sites
/-- Update a compute site. -/
def Dev.onSite (s : Nat) (f : Site → Site) (d : Dev) : Dev :=
  { d with cs.sites := upsert (·.site == s) (Site.fresh s) f d.cs.sites }
/-- A fibre port. -/
def Dev.fport (d : Dev) (p : Nat) : FPort := lookup (·.port == p) (FPort.fresh p) d.sw.ports
/-- Update a fibre port. -/
def Dev.onFport (p : Nat) (f : FPort → FPort) (d : Dev) : Dev :=
  { d with sw.ports := upsert (·.port == p) (FPort.fresh p) f d.sw.ports }
/-- Update a channel. -/
def Dev.onChan (ch : Nat) (f : Channel → Channel) (d : Dev) : Dev :=
  { d with mb.chans := upsert (·.ch == ch) (Channel.fresh ch) f d.mb.chans }
/-- Update a session. -/
def Dev.onSession (id : Nat) (f : Session → Session) (d : Dev) : Dev := { d with ses.list := mapIf (·.id == id) f d.ses.list }
/-- Update a graph. -/
def Dev.onGraph (h : Nat) (f : Graph → Graph) (d : Dev) : Dev := { d with gr.list := mapIf (·.handle == h) f d.gr.list }
/-- Update a stream. -/
def Dev.onStream (id : Nat) (f : Stream → Stream) (d : Dev) : Dev := { d with str.list := mapIf (·.id == id) f d.str.list }
/-- Update an intake ring. -/
def Dev.onIntake (h : Nat) (f : IntakeRing → IntakeRing) (d : Dev) : Dev :=
  { d with str.intakes := mapIf (·.handle == h) f d.str.intakes }
/-- Update a result ring. -/
def Dev.onResult (h : Nat) (f : ResultRing → ResultRing) (d : Dev) : Dev :=
  { d with str.results := mapIf (·.handle == h) f d.str.results }
/-- A graph by handle. -/
def Dev.graph? (d : Dev) (h : Nat) : Option Graph := d.gr.list.find? (·.handle == h)
/-- A stream by id. -/
def Dev.stream? (d : Dev) (id : Nat) : Option Stream := d.str.list.find? (·.id == id)
/-- A session by id. -/
def Dev.session? (d : Dev) (id : Nat) : Option Session := d.ses.list.find? (·.id == id)

/-- Whether a graph is PLACED or BOUND. -/
def Graph.isPlaced (g : Graph) : Bool := g.placed.isSome
/-- Streams bound to a graph. -/
def Dev.bound (d : Dev) (h : Nat) : Nat := (d.str.list.filter (·.graph == h)).length
/-- State of a graph: 0 LOADED, 1 PLACED, 2 BOUND (R110). -/
def Dev.graphState (d : Dev) (g : Graph) : Nat :=
  if !g.isPlaced then 0 else if d.bound g.handle = 0 then 1 else 2

/-! ## Device memory -/

/-- The partner of a mirrored line's stack (R290): the other stack of the pair, when the offset is in the mirrored part. -/
def Dev.partner (d : Dev) (stack off : Nat) : Option Nat := if off < d.mBytes / 8 then some (stack ^^^ 1) else none

/-- Home of a store or atomic (R276, R290): the even stack of a mirrored line. -/
def Dev.home (d : Dev) (stack off : Nat) : Nat := if off < d.mBytes / 8 then stack - stack % 2 else stack

/-- Whether accesses to a line of a stack complete with POISON at once (R304): stack or channel fenced. -/
def Dev.fencedLine (d : Dev) (stack off : Nat) : Bool :=
  let s := d.stack stack
  s.fenced || s.channels.any (·.channel == pseudoChannel (off / 256) / 2)

/-- The Cistern that is home for writes to a line (R276, R290, R291): the even stack of a mirrored line, its partner when that
copy is fenced. -/
def Dev.homeStack (d : Dev) (stack off : Nat) : Nat :=
  let h := d.home stack off
  match d.partner h off with
  | some p => if d.fencedLine h off && !d.fencedLine p off then p else h
  | none => h

/-- Whether a range of offsets of a stack touches its read-only table (R299). -/
def Dev.readOnly (d : Dev) (stack off n : Nat) : Bool :=
  (d.stack stack).ro.any fun r => decide (r.1 < off + n) && decide (off < r.1 + r.2)

/-- DPA of the barrier word (R345). -/
def barrierDpa : Nat := 0x300000001000

/-- Stack of a job page (R281), when an address is its first byte. -/
def jobStack (a : Nat) : Option Nat :=
  let o := a % 2 ^ 48
  if 0x300000010000 ≤ o ∧ o < 0x300000020000 ∧ o % 0x1000 = 0 then some ((o - 0x300000010000) / 0x1000) else none

/-- The 16 bytes of the barrier word (R345). -/
def Dev.barrierWord (d : Dev) : List Byte :=
  leBytes 8 d.sw.word.1 ++ leBytes 4 d.sw.word.2.1 ++ leBytes 2 d.sw.word.2.2.1 ++ leBytes 2 d.sw.word.2.2.2

/-- The bytes of a whole line as a read at its Cistern finds them (R293): the line buffer's, or the stack's. -/
def Dev.lineData (d : Dev) (stack line : Nat) : List Byte :=
  match (d.stack stack).buf.find? (fun b => b.stack == stack && b.line == line) with
  | some b => b.data
  | none => cellsRead d.mem.cells (hbmKey stack (line * 256)) 256

/-- Whether a line is poisoned (R286). -/
def Dev.linePoison (d : Dev) (stack line : Nat) : Bool := d.mem.poison.contains (hbmKey stack (line * 256) / 256)

/-- A copy that can serve a read of a line (R290): the named stack, or the partner of a mirrored line. -/
def Dev.goodCopy (d : Dev) (stack off : Nat) : Option Nat :=
  let bad := fun s => d.fencedLine s off || d.linePoison s (off / 256)
  if !bad stack then some stack
  else match d.partner stack off with
    | some p => if bad p then none else some p
    | none => none

/-- Whether scratch offset `o` of a site is populated and its slice is in service (R90, R453). -/
def Dev.scratchOk (d : Dev) (site o : Nat) : Bool :=
  let s := d.site site
  decide (o < s.ways * 0x4000000) && !s.retired.contains (o / 256 % 256)

/-- One byte that a device access reads at a DPA: its value, or none with POISON (R276, R280, R286, R290, R90, R453), or while
the dies are without power (R418, R444). -/
def Dev.readByte (d : Dev) (a : Nat) : Option Byte :=
  if d.pw.diesOff then none
  else match placeOf d.mBytes a with
  | .hbm s o =>
    match d.goodCopy s o with
    | some s' => ((d.lineData s' (o / 256))[o % 256]?).getD 0
    | none => none
  | .scratch s o => if d.scratchOk s o && !d.mem.poison.contains (scratchKey s o / 256) then some (cellGet d.mem.cells (scratchKey s o)) else none
  | _ => none

/-- Bytes that a device access reads: none when any byte is poisoned or unpopulated. -/
def Dev.readBytes (d : Dev) (a : Nat) : Nat → Option (List Byte)
  | 0 => some []
  | n + 1 => match d.readByte a, d.readBytes (a + 1) n with
    | some b, some bs => some (b :: bs)
    | _, _ => none

/-- Whether a DPA range is wholly in the populated part of an HBM view (R276, R178). -/
def Dev.hbmRange (d : Dev) (a n : Nat) : Bool :=
  (decide (a + n ≤ hbmBytes - d.mBytes)) ||
  (decide (0x100000000000 ≤ a) && decide (a + n ≤ 0x120000000000) &&
    decide ((a - 0x100000000000) % 0x2000000000 + n ≤ stackBytes))

/-- Write part of a line (R293, R294): into the line buffer when the line is there, else into the stack. -/
def Dev.pokeLine (stack line off : Nat) (data : List Byte) (d : Dev) : Dev :=
  let here := fun (b : BufLine) => b.stack == stack && b.line == line
  let up := fun (b : BufLine) => { b with data := patch b.data off data, touched := d.tb.ns }
  if (d.stack stack).buf.any here then d.onStack stack fun s => { s with buf := mapIf here up s.buf }
  else { d with mem.cells := cellsWrite d.mem.cells (hbmKey stack (line * 256 + off)) data }

/-- Poison a line (R286). -/
def Dev.poisonLine (stack line : Nat) (d : Dev) : Dev :=
  { d with mem.poison := insertNew (hbmKey stack (line * 256) / 256) d.mem.poison }

/-- Clear the poison of a line: a write of the whole line (R286). -/
def Dev.unpoison (stack line : Nat) (d : Dev) : Dev :=
  { d with mem.poison := d.mem.poison.filter (· != hbmKey stack (line * 256) / 256) }

/-- A store of bytes within one line, applied at one copy (R286, R294): whole lines clear poison, part of a poisoned line is
not applied. -/
def Dev.storeCopy (stack off : Nat) (data : List Byte) (d : Dev) : Dev :=
  let line := off / 256
  if off % 256 = 0 ∧ data.length = 256 then (d.unpoison stack line).pokeLine stack line 0 data
  else if d.linePoison stack line then d
  else d.pokeLine stack line (off % 256) data

/-- A store of bytes within one line, at both copies of a mirrored line (R290); fenced copies are left alone (R304). -/
def Dev.storeLine (stack off : Nat) (data : List Byte) (d : Dev) : Dev :=
  let d1 := if d.fencedLine stack off then d else d.storeCopy stack off data
  match d.partner stack off with
  | some p => if d.fencedLine p off then d1 else d1.storeCopy p off data
  | none => d1

/-- A device store at a DPA, piece by piece of each line (fuel: the number of lines it can touch). -/
def Dev.storeFuel : Nat → Nat → List Byte → Dev → Dev
  | 0, _, _, d => d
  | fuel + 1, a, data, d =>
    if data.isEmpty then d
    else
      let n := min (256 - a % 256) data.length
      let d1 := match placeOf d.mBytes a with
        | .hbm s o => d.storeLine s o (data.take n)
        | .scratch s o =>
          let cells := cellsWrite d.mem.cells (scratchKey s o) (data.take n)
          if d.scratchOk s o then { d with mem.cells := cells } else d
        | _ => d
      Dev.storeFuel fuel (a + n) (data.drop n) d1

/-! ## Coherence with host caches (R355) -/

/-- Number of the 64-byte line of device memory at a DPA, by the stack-local DPA of its home. -/
def Dev.hostLine (d : Dev) (a : Nat) : Option Nat :=
  match placeOf d.mBytes a with
  | .hbm s o => some (hbmKey (d.home s o) o / 64)
  | _ => none

/-- Lines of a DPA range that the snoop filter tracks, those it may hold modified only when `modified`. -/
def Dev.tracked (d : Dev) (modified : Bool) (a n : Nat) : List Nat :=
  if d.hg.snoopFilter.any (fun e => e.2 || !modified) then
    ((List.range ((a % 64 + n + 63) / 64)).filterMap fun i => d.hostLine (a / 64 * 64 + 64 * i)).filter fun l =>
      d.hg.snoopFilter.any fun e => e.1 == l && (e.2 || !modified)
  else []

/-- Send a snoop of a line, unless one is outstanding. -/
def Dev.sendSnoop (inv : Bool) (line : Nat) (d : Dev) : Dev :=
  if d.hg.snoops.any (·.line == line) then d
  else { d with hg.snoops := d.hg.snoops ++ [{ line, inv, sent := d.tb.ns }] }

/-- Whether a read of a range waits for BISnpData (R355). -/
def Dev.mustSnoop (d : Dev) (a n : Nat) : Bool := !(d.tracked true a n).isEmpty

/-- Send BISnpData for every line of a range that the host may hold modified (R355). -/
def Dev.snoopRange (a n : Nat) (d : Dev) : Dev := each (d.tracked true a n) (Dev.sendSnoop false) d

/-- Whether a range has a line whose snoop was not answered while a read waited for it (R355): that read gets POISON. -/
def Dev.rangeLost (d : Dev) (a n : Nat) : Bool :=
  !d.hg.snoopLost.isEmpty && (List.range ((a % 64 + n + 63) / 64)).any fun i => (d.hostLine (a / 64 * 64 + 64 * i)).any fun l => d.hg.snoopLost.contains l

/-- The read has had its POISON. -/
def Dev.dropLost (a n : Nat) (d : Dev) : Dev :=
  let ls := (List.range ((a % 64 + n + 63) / 64)).filterMap fun i => d.hostLine (a / 64 * 64 + 64 * i)
  { d with hg.snoopLost := d.hg.snoopLost.filter fun l => !ls.contains l }

/-- The Headgate's own store takes tracked lines from the host (R355): BISnpInv is sent, and the filter drops them at once, since
the store gives them their new contents (log 26). A write that a home is sent waits instead (`Dev.mustTake`). -/
def Dev.takeLines (a n : Nat) (d : Dev) : Dev :=
  let ls := d.tracked false a n
  let d1 := each ls (Dev.sendSnoop true) d
  { d1 with hg.snoopFilter := d1.hg.snoopFilter.filter fun e => !ls.contains e.1 }

/-- A device store of bytes at a DPA: rings, reports, buffers that the host names; lost while the dies are without power (R418). -/
def Dev.store (a : Nat) (data : List Byte) (d : Dev) : Dev :=
  if d.pw.diesOff then d else Dev.storeFuel (data.length / 256 + 2) a data (d.takeLines a data.length)

/-- Write host memory over CXL.cache (R356). -/
def Dev.storeHost (a : Nat) (data : List Byte) (d : Dev) : Dev := { d with hg.hostMem := cellsWrite d.hg.hostMem a data }

/-- Whether the device may reach host memory (R360, R357). -/
def Dev.hostOk (d : Dev) : Bool := d.hg.linkWidth != 0 && d.hg.bme && d.hg.ide != 2

/-- Write into a ring's memory, device or host (R178). -/
def Dev.storeRing (host : Bool) (a : Nat) (data : List Byte) (d : Dev) : Dev :=
  if host then (if d.hostOk then d.storeHost a data else d) else d.store a data

/-! ## Capacity (R458) -/

/-- Record that the capacity axis became DEGRADED. -/
def Dev.degrade (d : Dev) : Dev := { d with sp.degraded := true }

/-- Whether a physical Stand is usable and stands at its place (R447). -/
def Dev.standUsable (d : Dev) (site p : Nat) : Bool := !d.sp.standsOut.contains (site, p)

/-- Physical Stand of a logical Stand (R447, R451, R458): none when absent. -/
def Dev.physStand (d : Dev) (site s : Nat) : Option Nat :=
  match d.sp.standMap.find? (fun e => e.1 == site && e.2.1 == s) with
  | some e => e.2.2
  | none => ((List.range 133).filter (d.standUsable site))[s]?

/-- Whether a compute site is in service (R456, R497, R436). -/
def Dev.inService (d : Dev) (site : Nat) : Bool := !d.sp.out.contains site && !d.bu.excluded.contains site

/-- Logical Stands of a site that are present. -/
def Dev.standsPresent (d : Dev) (site : Nat) : Nat :=
  if d.inService site then ((List.range 125).filter (fun s => (d.physStand site s).isSome)).length else 0

/-- Logical Stands present (R28, R458). -/
def Dev.standCount (d : Dev) : Nat := (computeSites.map d.standsPresent).sum

/-- Compute sites in service. -/
def Dev.siteCount (d : Dev) : Nat := (computeSites.filter d.inService).length

/-- Whether the capacity axis is FULL (R458). -/
def Dev.fullCapacity (d : Dev) : Bool :=
  let stands := fun (s : Nat) => decide ((d.sp.standsOut.filter (·.1 == s)).length ≤ 8) && !d.sp.standMap.any fun e => e.1 == s && e.2.2.isNone
  (computeSites.all fun s => d.inService s && stands s) && !(d.bu.excluded ++ d.sp.out).any isMemory &&
  !(d.mem.stackList.any fun s => s.fenced || !s.channels.isEmpty) && !d.ba.ports.any (·.retired) && d.ba.failed.isEmpty && !d.sw.ports.any (·.retired)

/-- Stacks not fenced and not excluded. -/
def Dev.stackCount (d : Dev) : Nat :=
  ((List.range 16).filter fun k => !(d.stack k).fenced && !d.bu.excluded.contains (stackSite k)).length

/-- Usable Mill positions of a physical Stand at the last S5, ascending (R447): the thirteenth is the spare. -/
def Dev.mills (d : Dev) (site stand : Nat) : List Nat := (List.range 13).filter fun q => !d.sp.coresOut.contains (site, stand, q)

/-- Physical position of a logical position of a Stand (R447, R451). -/
def Dev.physPos (d : Dev) (site stand p : Nat) : Option Nat :=
  match d.sp.coreMap.find? (fun e => e.1 == site && e.2.1 == stand && e.2.2.1 == p) with
  | some e => some e.2.2.2
  | none => if p < 12 then (d.mills site stand)[p]? else some (p + 1)

/-- Physical Stand and position of a logical core; none when absent. -/
def Dev.corePlace (d : Dev) (core : Nat) : Option (Nat × Nat × Nat) :=
  let site := core / 2500 + 8
  match d.physStand site (core / 20 % 125) with
  | some ps => (d.physPos site ps (core % 20)).map fun q => (site, ps, q)
  | none => none

/-- Where a Mill core has its operands in its Stand's memory (R70): site, and byte of the site's Stand memories. DESIGN CHOICE (log 96):
64 KiB for each position, from the first byte on: A, then W at 32 KiB. -/
def Dev.millPlace (d : Dev) (core : Nat) : Option (Nat × Nat) :=
  (d.corePlace core).map fun q => (q.1, q.2.1 * 0x200000 + core % 20 * 0x10000)

/-- Whether word `w` of a site's Stand memories lies in the operands of a Mill core. -/
def Dev.millWord (d : Dev) (core site w : Nat) : Bool :=
  (d.millPlace core).elim false fun q => q.1 == site && decide (q.2 ≤ w * 16) && decide (w * 16 < q.2 + 0x10000)

/-- Whether a word of the operands of a Mill core is poisoned (R77). -/
def Dev.millPoison (d : Dev) (core : Nat) : Bool :=
  (d.millPlace core).elim false fun q => (d.site q.1).standPoison.any (d.millWord core q.1)

/-- Whether a range at a DPA is read-only at its home (R94, R299). -/
def Dev.sealed (d : Dev) (a n : Nat) : Bool :=
  match placeOf d.mBytes a with
  | .hbm s o => d.readOnly (d.homeStack s o) o n
  | _ => false

/-- Whether a physical core belongs to a unit: a core, or its Stand (R460). -/
def unitHasCore (u : Nat) (p : Nat × Nat × Nat) : Bool := u == coreUnit p.1 p.2.1 p.2.2 || u == standUnit p.1 p.2.1

/-- Logical cores whose physical core is stopped (R449, R450, R492): under test, waiting to resume, or being replaced. -/
def Dev.stoppedCores (d : Dev) : List Nat :=
  let units := (d.fa.testing ++ d.fa.resume ++ d.sp.substs.map (·.unit)).filter fun u => unitKind u == 1 || unitKind u == 2
  if units.isEmpty then []
  else
    let sites := (units.map unitPlace).eraseDups.filter isCompute
    (sites.map fun s => (List.range 2500).map ((s - 8) * 2500 + ·)).flatten.filter fun c =>
      (d.corePlace c).elim false fun p => units.any fun u => unitHasCore u p

/-- Maximum frequency of a physical core (R84): the top of its domain until it is lowered (log 11). -/
def Dev.coreMax (d : Dev) (site stand pos : Nat) : Nat :=
  match d.cs.maxima.find? (fun e => e.1 == site && e.2.1 == stand && e.2.2.1 == pos) with
  | some e => e.2.2.2
  | none => if pos < 13 then 2200 else 2400

/-- Domain of a physical core position (R387): Mill cores in CD9, Edger and Tally cores in CD10. -/
def posDomain (pos : Nat) : Domain := if pos < 13 then .cd9 else .cd10

/-- Ceiling of a domain at a site (R393, R398): the step in force, unless the site missed a decision. -/
def Dev.ceiling (d : Dev) (site : Nat) (dom : Domain) : Nat :=
  (d.ck.siteCeil.find? fun e => e.1 == site && e.2.1 == dom).elim (d.step dom) (·.2.2)

/-- Effective frequency of a physical core, MHz rounded down (R85). -/
def Dev.effective (d : Dev) (site stand pos : Nat) : Nat :=
  let st := d.ceiling site (posDomain pos)
  let k := (d.ck.swallow.find? fun e => e.1 == site && e.2.1 == stand && e.2.2.1 == pos).elim 0 (·.2.2.2)
  st * (64 - k) / 64

/-! ## Field Defect Map (R459) -/

/-- Record an entry of the FDM: a repeated occurrence updates the entry of its unit and type; a full map drops its oldest
TRANSIENT entry (R459). -/
def Dev.fdm (unit type source value : Nat) (d : Dev) : Dev :=
  let e : FdmEntry := { unit, type, source, value, first := d.tb.ns, last := d.tb.ns }
  let hbm := unitKind unit == 0x09 || unitKind unit == 0x0A || unitKind unit == 0x0B
  let d := { d with sp.held := some (d.sp.held.getD d.tb.ns), bu.fdmChanged := true, sp.hbmEvent := d.sp.hbmEvent || hbm }
  let same := fun (x : FdmEntry) => x.unit == unit && x.type == type
  let again := fun (x : FdmEntry) =>
    { x with value := if type = 2 ∨ type = 5 ∨ type = 6 then value else x.value + 1, last := d.tb.ns }
  if d.sp.fdm.any same then { d with sp.fdm := mapIf same again d.sp.fdm }
  else if d.sp.fdm.length < 131070 then { d with sp.fdm := d.sp.fdm ++ [e] }
  else match d.sp.fdm.find? (·.type == 5) with
    | some x => { d with sp.fdm := d.sp.fdm.erase x ++ [e], sp.dropped := d.sp.dropped + 1 }
    | none => d

/-! ## Axes that change -/

/-- Set the standby Ranger's state; a change of the management axis is recorded (18, MANAGEMENT_AXIS). -/
def Dev.setStandby (st : Standby) (d : Dev) : Dev :=
  let d1 := { d with fw.standby := st }
  if d1.simplex = d.simplex then d1 else d1.log 0 0 0x0302 (natOf d1.simplex)

/-- Whether a thermal skip or divider is in force at a site (R414). -/
def Dev.throttledSite (d : Dev) (site : Nat) : Bool :=
  d.th.throttles.any fun t => t.site == site && (decide (0 < t.skip) || decide (1 < t.div))

/-- Keep the time that each site has spent under a skip or divider (12, site power record). -/
def Dev.throttleClock (d : Dev) : Dev :=
  let sites := (d.th.throttles.map (·.site) ++ d.th.throttled.map (·.1)).eraseDups
  let one := fun (s : Nat) =>
    let e := lookup (fun (e : Nat × Nat × Option Nat) => e.1 == s) (s, 0, none) d.th.throttled
    match e.2.2 with
    | none => (s, e.2.1, if d.throttledSite s then some d.tb.ns else none)
    | some t => if d.throttledSite s then e else (s, e.2.1 + (d.tb.ns - t), none)
  { d with th.throttled := sites.map one }

/-- Recompute the power axis (R416): 2 while a thermal demand holds, 1 while a limiter or a derating holds a step. -/
def Dev.powerAxis (d : Dev) : Dev :=
  let d := d.throttleClock
  let thr := d.th.throttles.any (fun t => decide (0 < t.skip) || decide (1 < t.div)) || !d.th.halved.isEmpty
  let cap := d.pw.limiters.any (fun l => decide (0 < l.skip) || decide (0 < l.trickleOff)) || !d.pw.ramp.isEmpty ||
    decide (d.pw.effCap < d.pw.cap)
  let a := if thr then 2 else if cap then 1 else 0
  if a = d.pw.axis then d
  else
    let d := ({ d with pw.axis := a, th.alert := decide (a = 2) || d.hg.devState == DevState.safeHold }).log 0 0 0x0502 a
    if a = 0 then d else d.raiseInt 4

/-! ## Items -/

/-- End an item with a status and detail (R192): its work is complete now; of a decode item it is the last result (R205). -/
def Item.finish (status detail now : Nat) (it : Item) : Item :=
  { it with stage := .finished, status, detail, completion := now, tokens := 0, flags := if it.decode.isSome then it.flags ||| 16 else it.flags }

/-- Whether an item's work is still under way. -/
def Item.working (it : Item) : Bool :=
  match it.stage with
  | .finished => false
  | _ => true

/-- Update every item of every stream. -/
def Dev.onItems (f : Stream → Item → Item) (d : Dev) : Dev :=
  { d with str.list := d.str.list.map fun st => { st with items := st.items.map (f st) } }

/-- Sites of a placement's nodes as a bit mask. -/
def Placement.siteBits (p : Placement) : Nat := p.nodes.foldl (fun m n => m ||| n.sites) 0

/-- Whether a stream's graph is placed on a site. -/
def Dev.usesSite (d : Dev) (st : Stream) (site : Nat) : Bool :=
  match d.graph? st.graph with
  | some g => g.placed.elim false (fun p => bitOf p.siteBits site)
  | none => false

/-- Site of a page by its number. -/
def pageSite : List (Nat × Nat) → Nat → Option Nat
  | [], _ => none
  | (s, n) :: xs, i => if i < n then some s else pageSite xs (i - n)

/-- Sites that hold the write pages of a decode stream (R105, R202). -/
def Placement.kvSites (p : Placement) (g : Graph) (decl stream : Nat) : List Nat :=
  let before := ((g.image.decls.take decl).zipIdx.map fun (x, k) =>
    if x.kind = 1 then x.decodeStreams * (p.pools.find? (·.decl == k)).elim 0 (·.layers) else 0).sum
  let layers := (p.pools.find? (·.decl == decl)).elim 0 (·.layers)
  ((List.range layers).filterMap fun l => pageSite p.kv (before + stream * layers + l)).eraseDups

/-- Whether the write pages of an item's decode stream lie in the scratch of a site (R105). -/
def Dev.pagesIn (d : Dev) (st : Stream) (it : Item) (site : Nat) : Bool :=
  match it.decode, d.graph? st.graph with
  | some n, some g => g.placed.elim false fun p => (p.kvSites g st.decl n).contains site
  | _, _ => false

/-- The current items of the decode streams whose write pages lie in the scratch of a site complete with ITEM_FAULT, detail 0x13 (R453). -/
def Dev.faultPages (site : Nat) (d : Dev) : Dev :=
  d.onItems fun st it => if it.working && d.pagesIn st it site then { it.finish 3 0x13 d.tb.ns with due := d.rd.number } else it

/-- Items in flight on a site complete with ITEM_FAULT, detail 0x13, in this round's publication (R105, R496); where the scratch of the
site is `lost`, so do the current items of the decode streams whose pages were in it. -/
def Dev.faultItems (site : Nat) (lost : Bool) (d : Dev) : Dev :=
  let end_ := fun (it : Item) => { it.finish 3 0x13 d.tb.ns with due := d.rd.number }
  d.onItems fun st it =>
    if it.working && lost && d.pagesIn st it site then end_ it
    else match it.stage with
    | .running _ left => if left.contains site || d.usesSite st site then end_ it else it
    | .between _ => if d.usesSite st site then end_ it else it
    | _ => it

/-! ## Placements (R153) -/

/-- The sites on which a graph may run: its mask, the sites in service (R151, R153). -/
def Dev.permitted (d : Dev) (b : Binding) : List Nat := computeSites.filter fun s => bitOf b.siteMask s && d.inService s

/-- A placement that uses a site, or that has work unplaced and may use it, is updated at the next boundary (R153, R496, R497). -/
def Dev.replaceFor (site : Nat) (d : Dev) : Dev :=
  let touched := fun (p : Placement) => bitOf p.siteBits site || (p.kv.any (·.1 == site)) || (!p.unplaced.isEmpty && bitOf p.binding.siteMask site)
  let upd := fun (g : Graph) => if g.placed.elim false touched || g.installing.elim false touched then { g with stale := true } else g
  { d with gr.list := d.gr.list.map upd }

/-- Take a compute site out of service (R456, R496): capacity DEGRADED, work moves under R153. -/
def Dev.siteOut (site : Nat) (d : Dev) : Dev :=
  let d := ({ d with sp.out := insertNew site d.sp.out }).degrade
  (d.faultItems site false).replaceFor site

/-- Complete every outstanding Canopy transfer and remote access of a site with POISON (R103). -/
def Dev.poisonSite (site : Nat) (d : Dev) : Dev :=
  let mine := fun (t : Thread) => t.site == site
  let fin := (d.cs.parked.filter (fun p => mine p.t)).map fun p => ({ t := p.t, status := 2, data := [] } : Finished)
  { d with cs.finished := fin ++ d.cs.finished, cs.parked := d.cs.parked.filter (fun p => !mine p.t)
           cs.transfers := d.cs.transfers.filter (fun x => !mine x.t), cs.waiting := d.cs.waiting.filter (fun x => !mine x.1) }

/-! ## SAFE_HOLD (R501, R502) and restart (R362) -/

/-- Enter SAFE_HOLD with a cause (R501): outputs hold, dispatch stops, a restart is requested in three ways (R502). A
running command that is not journaled and not legal in SAFE_HOLD is ended when it completes (R386). -/
def Dev.safeHold (cause : Nat) (d : Dev) : Dev :=
  if d.hg.devState = .safeHold then d
  else
    let d := (d.setState .safeHold).log 0 6 0x0701 cause
    { d with fa.safeCause := cause, th.alert := true, fa.pldm := d.fa.pldm + 1
             fw.update := if d.fw.update = 2 then 1 else d.fw.update, fw.live := none }

/-- The minimum configuration (R443): Headgate and active Ranger have a plane port, 24 compute sites, 12 stacks, a Ranger
runs. -/
def Dev.minimumOk (d : Dev) : Bool :=
  let hasPort := fun p => (List.range 4).any fun q => !(d.pport p q).retired
  hasPort 48 && hasPort (if d.fw.rangerB then 50 else 49) && decide (24 ≤ d.siteCount) && decide (12 ≤ d.stackCount) &&
  d.fw.rangerUp

/-- SAFE_HOLD when the minimum configuration is lost in service (R496). -/
def Dev.checkMinimum (d : Dev) : Dev :=
  if (d.hg.devState = .ready ∨ d.hg.devState = .service) ∧ !d.minimumOk then d.safeHold 6 else d

/-- Isolate the die of a fault (R496): grants stop, a compute site leaves service, a memory site's stack is fenced while it
awaits its re-test (R500). A device that falls below the minimum configuration by it enters SAFE_HOLD. -/
def Dev.isolate (port unit : Nat) (d : Dev) : Dev :=
  if d.fa.isolated.any (·.1 == port) then
    { d with fa.isolated := mapIf (·.1 == port) (fun e => (e.1, insertNew unit e.2)) d.fa.isolated }
  else
    let d := { d with fa.isolated := d.fa.isolated ++ [(port, [unit])] }
    let d := d.log unit 5 0x0205 0
    if isCompute port then (d.siteOut port).checkMinimum
    else if isMemory port then ({ d with sp.out := insertNew port d.sp.out }).degrade
    else d

/-- Whether CHAIN_SELECT holds the die of a Basin port, or the Basin keeper at 55 (R520, R523). -/
def Dev.chained (d : Dev) (port : Nat) : Bool := bitOf d.ts.chain port

/-- Whether the port loopback runs, through TEST or through JTAG (R521): every transmitter is joined to its own receiver. -/
def Dev.portLooped (d : Dev) : Bool := d.ts.selector == some 1 || d.ts.jtagLoop == 1

/-- Whether a bond loopback runs, through TEST or through JTAG (R521): Stands issue nothing. -/
def Dev.bondLooped (d : Dev) : Bool := d.ts.selector == some 2 || d.ts.selector == some 3 || d.ts.jtagLoop == 2

/-- What survives a full device reset (R362, R402, R485): the flash and the fuses, the state of the board's inputs, and, when
`keepLatch`, the debug latch. Everything else is as at power-on. -/
def Dev.restarted (d : Dev) (keepLatch badEnd : Bool) : Dev :=
  let z := Dev.reset
  let unlocked := keepLatch && d.fw.debugLatch
  let tapOpen := d.fw.lifecycle == 0 || unlocked
  { z with
    free := d.free
    mb.hostRantil := d.mb.hostRantil
    tb.clk := d.tb.clk
    pw.volts := d.pw.volts
    pw.inputGood := d.pw.inputGood
    th.flashIf := d.th.flashIf
    th.trips := d.th.trips
    bu.badEnd := badEnd
    op.stored := d.op.stored
    op.storedBias := d.op.storedBias
    op.wells := (d.op.wells.map fun w =>
      let b := (d.op.storedBias.find? (·.1 == w.w)).elim (400, 400) (·.2)
      { Wellhead.fresh w.w with bias := b.1, spareBias := b.2, spareUsed := w.spareUsed, source := w.source })
    op.rings := d.op.stored.map (fun r => { Ring.fresh r.1 with sets := r.2 })
    sw.combs := d.sw.combs
    sp.fuseBad := d.sp.fuseBad
    sp.fdm := d.sp.flash.entries
    sp.fdmGen := d.sp.flash.gen
    sp.starts := d.sp.flash.starts
    sp.fullTest := d.sp.flash.fullTest
    sp.dropped := d.sp.flash.dropped
    sp.copies := d.sp.copies
    sp.flash := d.sp.flash
    sp.hbmEvent := d.sp.flash.hbm
    fw.serial := d.fw.serial
    fw.lifecycle := if d.fw.lifecycle = 2 then (if unlocked then 2 else 1) else d.fw.lifecycle
    fw.debugLatch := unlocked
    fw.scope := if unlocked then d.fw.scope else 0
    fw.fuseF := d.fw.fuseF
    fw.policyFuse := d.fw.policyFuse
    fw.slotA := d.fw.slotA
    fw.slotB := d.fw.slotB
    fw.boot0 := d.fw.boot0
    fw.boot1 := d.fw.boot1
    fw.conf0 := d.fw.conf0
    fw.conf1 := d.fw.conf1
    fw.manifestOk := d.fw.manifestOk
    fw.manifestForm := d.fw.manifestForm
    fw.manifest := d.fw.manifest
    fw.licences := d.fw.licences
    fw.calOk := d.fw.calOk
    lg.entries := d.lg.entries
    lg.next := d.lg.next
    ts.tpol := d.ts.tpol
    ts.i3ca := d.ts.i3ca
    ts.ir := if d.ts.ir = 0xFF ∨ d.ts.ir = 1 ∨ d.ts.ir = 2 ∨ tapOpen then d.ts.ir else 0xFF
    ts.pinsHeld := if tapOpen then d.ts.pinsHeld else 0
    ts.boundary := d.ts.boundary
    ts.captured := d.ts.captured
    bu.running := d.pw.inputGood }

/-! ## Rounds -/

/-- A point of the round in progress, at an offset from its boundary (R172): it takes place once, at its instant. `none`:
no round is in progress, or it has taken place. -/
def Dev.atPoint (p : RoundPoint) (offset : Nat) (d : Dev) : Option Dev :=
  if d.rd.active && !d.rd.done.contains p then
    let d := d.reach (d.rd.start + offset)
    some { d with rd.done := p :: d.rd.done }
  else none

/-- Do `f` at a point of the round; nothing when the point is not to come. -/
def Dev.onPoint (p : RoundPoint) (offset : Nat) (f : Dev → Dev) (d : Dev) : Dev :=
  match d.atPoint p offset with
  | some d => f d
  | none => d

end Sys2Proof.Machine
end

