-- ==== Sys2Proof/Machine/Cells.lean ====
section
/-!
DEFINITION. Cells, records and frames: which planes a cell may take, the outbound queues of the source routers (chapter 07),
and the answers that a home returns over the Basin or over Spillway (chapter 10).
-/

namespace Sys2Proof.Machine

/-! ## Planes (R237 to R241) -/

/-- Whether a cell may be sent to or from a port on a plane at all: the plane's scheduler runs, the port is not retired there. -/
def Dev.portPlane (d : Dev) (port plane : Nat) : Bool := !d.ba.failed.contains plane && !(d.pport port plane).retired

/-- Flows that the Ranger pins to one plane (R241, R328): the journal's and those that carry CONTROL cells, which go to and from the Rangers
and from the Spillway engines to the Headgate; and the flow between each pair of Spillway engines. -/
def pinnedFlow (src dst : Nat) : Bool :=
  src == 49 || src == 50 || dst == 49 || dst == 50 || (decide (51 ≤ src) && (dst == 48 || decide (51 ≤ dst)))

/-- The plane mask table of a source router (R238 to R241): planes allowed from a port to a port, for a pinned flow the lowest of them;
none to ports 55 to 63. Its entries follow from the retired plane ports, the failed planes and the pins. -/
def Dev.planes (d : Dev) (src dst : Nat) : List Nat :=
  let all := if dst < 55 then (List.range 4).filter fun p => d.portPlane src p && d.portPlane dst p else []
  if pinnedFlow src dst then all.take 1 else all

/-- Entry of a source router's plane mask table, bit p for `PLANE[p]` (R238). -/
def Dev.planeMask (d : Dev) (src dst : Nat) : Nat := ((d.planes src dst).map (2 ^ ·)).sum

/-- Cells queued at a port toward a plane. -/
def Dev.queued (d : Dev) (port plane : Nat) : Nat := (d.ba.out.filter fun q => q.port == port && q.plane == plane).length

/-- Plane that a source router takes (R238): the allowed plane with the shortest queue, the lowest on a tie. -/
def Dev.choosePlane (d : Dev) (src dst : Nat) : Option Nat :=
  let ps := d.planes src dst
  let best := (ps.map (d.queued src)).foldl min ((ps.map (d.queued src)).headD 0)
  ps.find? fun p => d.queued src p == best

/-- A cell without a payload. -/
def BCell.blank (kind src dst : Nat) : BCell :=
  { dst, src, kind, last := false, poison := false, standing := false, copy := false, length := 0, set := 0, plane := 0
    address := 0, transfer := 0, offset := 0, total := 0, payload := [], recs := [], ctl := none, check := none, frame := none, arrived := 0 }

/-- Queue a cell at its source router on a plane. -/
def Dev.putCell (plane : Nat) (c : BCell) (d : Dev) : Dev :=
  { d with ba.out := d.ba.out ++ [{ port := c.src, plane, cell := { c with plane }, since := d.tb.ns, asked := none }] }

/-- Queue a cell on the plane that R238 chooses; with none allowed it is lost, and its operation times out (R239). -/
def Dev.sendCell (c : BCell) (d : Dev) : Dev :=
  match d.choosePlane c.src c.dst with
  | some p => d.putCell p c
  | none => d

/-- A CONTROL cell, on the lowest plane allowed (R241, R246). -/
def Dev.sendCtl (src dst : Nat) (m : CtlMsg) (d : Dev) : Dev :=
  match (d.planes src dst).head? with
  | some p => d.putCell p { BCell.blank 5 src dst with ctl := some m }
  | none => d

/-- A CONTROL message to several ports, as repeated single sends (R236, R246). -/
def Dev.sendCtlCopies (src : Nat) (dsts : List Nat) (m : CtlMsg) (d : Dev) : Dev :=
  each dsts (fun t d => match (d.planes src t).head? with
    | some p => d.putCell p { BCell.blank 5 src t with ctl := some m, copy := true }
    | none => d) d

/-! ## Records (R219) -/

/-- Bytes of a record in a cell: its header and its data, padded to 32. -/
def Rec.bytes (r : Rec) : Nat := 32 + (r.data.length + 31) / 32 * 32

/-- Whether a record still fits a cell (R219): 4,096 bytes, 128 records. -/
def BCell.room (c : BCell) (r : Rec) : Bool :=
  decide ((c.recs.map Rec.bytes).sum + r.bytes ≤ 4096) && decide (c.recs.length < 128)

/-- Add a record to the last cell of its kind for its destination on the plane, or to a new one (R219): in queue order. -/
def addRec (now port plane kind dst : Nat) (r : Rec) (q : List Queued) : List Queued :=
  let same := fun (x : Queued) => x.port == port && x.plane == plane && x.cell.kind == kind && x.cell.dst == dst
  let put := fun (c : BCell) => { c with recs := c.recs ++ [r], length := c.length + r.bytes }
  match (q.zipIdx.filter fun e => same e.1).getLast? with
  | some e =>
    if e.1.cell.room r then (q.take e.2) ++ { e.1 with cell := put e.1.cell } :: q.drop (e.2 + 1)
    else q ++ [{ port, plane, cell := put { BCell.blank kind port dst with plane }, since := now, asked := none }]
  | none => q ++ [{ port, plane, cell := put { BCell.blank kind port dst with plane }, since := now, asked := none }]

/-- Queue a record: kind 3 for requests, 4 for responses. -/
def Dev.sendRec (kind src dst : Nat) (r : Rec) (d : Dev) : Dev :=
  match d.choosePlane src dst with
  | some p => { d with ba.out := addRec d.tb.ns src p kind dst r d.ba.out }
  | none => d

/-- Whether the response buffer of a plane port has room (R224): 32 cells. -/
def Dev.rspRoom (d : Dev) (port plane : Nat) : Bool :=
  decide ((d.ba.out.filter fun q => q.port == port && q.plane == plane && q.cell.kind == 4).length < 32)

/-- Whether there is room for a response to a port (R224, R238): on the plane that it would take; a response that no plane takes is lost
(R239). -/
def Dev.rspRoomTo (d : Dev) (port dst : Nat) : Bool := (d.choosePlane port dst).elim true (d.rspRoom port)

/-- The response to a request record (07, record header). -/
def Rec.response (r : Rec) (status : Nat) (data : List Byte) : Rec :=
  { r with op := r.op + 0x80, status, data, size := data.length }

/-- Send the response to a request record from the port that served it (R238), on the allowed plane with the shortest queue. -/
def Dev.respondRec (port : Nat) (r : Rec) (status : Nat) (data : List Byte) (d : Dev) : Dev := d.sendRec 4 port r.port (r.response status data)

/-- An XFER_ACK record to a transfer's source (R220). -/
def Dev.sendAck (port src transfer status : Nat) (d : Dev) : Dev :=
  let r : Rec := { op := 0x84, aop := 0, aty := 0, size := 0, status, address := 0, port := src, unit := 0, tag := transfer
                   data := [], fromHost := false }
  d.sendRec 4 port src r

/-! ## Answers -/

/-- The Basin port of a stack's Cistern. -/
def cisternPort (stack : Nat) : Nat := stackSite stack

/-- Whether lines of a bulk transfer are still pending anywhere, or frames of it have no response (R220, R326). -/
def Dev.bulkPending (d : Dev) (port src transfer : Nat) : Bool :=
  (d.sw.ops.any fun o => o.engine == port && o.ask.op == 4 && o.ask.port == src && o.ask.tag == transfer) ||
  d.mem.stackList.any fun s => s.ops.any (fun o => o.reply == .bulk port src transfer) ||
    s.copies.any (fun c => c.2.1 == .bulk port src transfer)

/-- Send the XFER_ACK of a transfer that has all its bytes, applied (R220, R297), and drop its partial state. -/
def Dev.ackWhole (port src transfer : Nat) (d : Dev) : Dev :=
  match d.ba.partials.find? fun p => p.port == port && p.src == src && p.transfer == transfer with
  | some p =>
    if p.total ≤ p.got ∧ !d.bulkPending port src transfer then
      ({ d with ba.partials := d.ba.partials.filter (· != p) }).sendAck port src transfer (if p.poison then 2 else 0)
    else d
  | none => d

/-- A transfer is marked: its XFER_ACK will say POISON (R243, R299). -/
def Dev.poisonBulk (port src transfer : Nat) (d : Dev) : Dev :=
  { d with ba.partials := mapIf (fun p => p.port == port && p.src == src && p.transfer == transfer) (fun p => { p with poison := true }) d.ba.partials }

/-- Give an operation's status and data to whoever waits for it. A bulk line's answer is the transfer's XFER_ACK. -/
def Dev.answerOp (stack status : Nat) (data : List Byte) (r : Reply) (d : Dev) : Dev :=
  match r with
  | .record _ _ rq => d.respondRec (cisternPort stack) rq status data
  | .bulk port src transfer =>
    let d1 := if status = 2 then d.poisonBulk port src transfer else d
    d1.ackWhole port src transfer
  | .none => d

end Sys2Proof.Machine
end

