-- ==== Sys2Proof/Machine/Fibre.lean ====
section
/-!
DEFINITION. Threads that wait for remote accesses (chapter 03), and the fibre ports of Spillway (chapter 10): port states, routes,
transmit queues, frames of this node that have no response, and lanes that move to a spare.
-/

namespace Sys2Proof.Machine

/-! ## Threads (R79) -/

/-- Code of a thread within its port (07, requester field): Stand, position and thread. -/
def threadCode (t : Thread) : Nat := t.stand * 168 + t.pos * 8 + t.thread
/-- The thread of a code. -/
def codeThread (site c : Nat) : Thread := { site, stand := c / 168, pos := c / 8 % 21, thread := c % 8 }
/-- Unit code of a site's transfer engine (log 32). -/
def engineUnit : Nat := 0x3FFFFFF
/-- Unit code of a site's cache slices (log 32). -/
def cacheUnit : Nat := 0x3FFFFFE
/-- Unit code of a Spillway engine's requests for other nodes (log 32). -/
def spillUnit : Nat := 0x3FFFFFD

/-- The access a thread waits for. -/
def Dev.parkedOp (d : Dev) (t : Thread) : Option Parked := d.cs.parked.find? (·.t == t)

/-- A thread's access completes (R79, R149): it becomes ready with a status and data. -/
def Dev.finishThread (t : Thread) (status : Nat) (data : List Byte) (d : Dev) : Dev :=
  { d with cs.parked := d.cs.parked.filter (·.t != t)
           cs.finished := { t, status, data } :: d.cs.finished.filter (·.t != t) }

/-- An operation of a thread ended with TIMEOUT: its next fence of the scope counts it (R298, R329). -/
def Dev.lose (t : Thread) (rack : Bool) (d : Dev) : Dev :=
  { d with cs.lost := upsert (fun e => e.1 == t && e.2.1 == rack) (t, rack, 0) (fun e => (e.1, e.2.1, e.2.2 + 1)) d.cs.lost
           fa.timeouts := d.fa.timeouts + 1 }

/-- A frame of a transfer timed out (R326): counted for the thread's next fence. -/
def Dev.loseFrame (tag : Nat) (d : Dev) : Dev :=
  let mine := fun (x : Transfer) => x.parts.any (·.tag == tag)
  match d.cs.transfers.find? mine with
  | some x => Dev.lose x.t true { d with cs.transfers := mapIf mine (fun (x : Transfer) => { x with timedOut := true }) d.cs.transfers }
  | none => d

/-! ## Routes (R334) -/

/-- First of primary, alt1 and alt2 that is valid and whose port is UP (R334). -/
def Dev.route (d : Dev) (node : Nat) : Option Nat :=
  let e := (valueOf node d.sw.table).getD 0
  let port := fun (lo : Nat) => if bitOf e (lo + 3) then some (bitsOf e (lo + 2) lo) else none
  ([port 0, port 4, port 8].filterMap id).find? fun p => (d.fport p).st == .up

/-- Basin port of the engine that holds a fibre port (R23). -/
def engineOf (fibre : Nat) : Nat := 51 + fibre / 2

/-- Put a frame into a port's transmit queue. -/
def Dev.enqueue (p since : Nat) (from_ : Option Nat) (f : Frame) (d : Dev) : Dev :=
  d.onFport p fun x => { x with queue := x.queue ++ [{ frame := f, since, from_ }] }

/-- Whether a frame belongs to the response class. -/
def isRsp (f : Frame) : Bool := decide (0x80 ≤ f.kind)

/-- A buffer of a port is freed: its credit goes back to the partner (R324). -/
def Dev.freeBuf (port : Nat) (rsp : Bool) (d : Dev) : Dev :=
  d.onFport port fun p =>
    if rsp then { p with rspUsed := p.rspUsed - 1, rspFree := p.rspFree + 1 } else { p with reqUsed := p.reqUsed - 1, reqFree := p.reqFree + 1 }

/-- An engine sends a frame toward another node (R334, R337): on a port of its own, or over the Basin to the engine whose port the
route selects, as one BULK_WRITE transfer of one cell or two. `false` when no route exists. -/
def Dev.emit (engine since : Nat) (from_ : Option Nat) (f : Frame) (d : Dev) : Dev × Bool :=
  match d.route f.dst with
  | none => (d, false)
  | some p =>
    if engineOf p = engine then (d.enqueue p since from_ f, true)
    else
      let tag := d.cs.nextTag
      let n := 32 + f.payload.length
      let c := { BCell.blank 1 engine (engineOf p) with transfer := tag, total := n }
      let whole := { c with frame := some (since, from_, f), last := true }
      let d1 := { d with cs.nextTag := (tag + 1) % 2 ^ 32 }
      let send := Dev.sendCell
      (if n ≤ 4096 then send { whole with length := n } d1
       else send { whole with length := n - 4096, offset := 4096 } (send { c with length := 4096 } d1), true)

/-- The response to a request frame (10, frame kinds). -/
def frameResponse (f : Frame) (maxHops epoch status : Nat) (data : List Byte) : Frame :=
  { f with kind := f.kind + 0x80, enc := false, poison := false, posted := false, dst := f.src, src := f.dst
           hops := maxHops, credit := 0, epoch := epoch % 65536, status, size := data.length, counter := 0, tagOk := true
           payload := data }

/-- Answer a request frame by the routes in force now (R329); with none the answer is lost. -/
def Dev.respondFrame (engine : Nat) (f : Frame) (status : Nat) (data : List Byte) (d : Dev) : Dev :=
  (d.emit engine d.tb.ns none (frameResponse f d.sw.maxHops d.sw.epoch status data)).1

/-! ## Frames without a response (R326, R331) -/

/-- A bulk read's data goes to its requester (R220); none is POISON. -/
def Dev.readBack (o : SwOp) (data : Option (List Byte)) : Dev → Dev :=
  Dev.sendCell { BCell.blank 2 o.engine o.ask.port with
    poison := data.isNone, payload := data.getD [], length := o.ask.size, address := u64 o.ask.data 0, transfer := o.ask.tag, total := u32 o.ask.data 8 }

/-- The response of a frame has come (R326, R330): the record's response, the part of a transfer, or the data of a bulk read. -/
def Dev.endOp (o : SwOp) (status : Nat) (data : List Byte) (d : Dev) : Dev :=
  let d1 := { d with sw.ops := d.sw.ops.erase o }
  match o.ask.op with
  | 4 => (if status = 2 then d1.poisonBulk o.engine o.ask.port o.ask.tag else d1).ackWhole o.engine o.ask.port o.ask.tag
  | 5 => d1.readBack o (if status = 0 then some data else none)
  | _ => d1.respondRec o.engine o.ask status data

/-- A frame's operation ends with TIMEOUT (R331), counted for the fence that covers it (R329) and for a leave (R336). -/
def Dev.timeoutOp (o : SwOp) (d : Dev) : Dev :=
  let d1 := { d with sw.ops := d.sw.ops.erase o, sw.leaving := d.sw.leaving.map fun (l : Nat × Nat) => (l.1, l.2 + 1) }
  match o.ask.op with
  | 4 => (d1.loseFrame o.ask.tag).ackWhole o.engine o.ask.port o.ask.tag
  | 5 => (d1.loseFrame o.ask.tag).readBack o none
  | _ =>
    if o.ask.unit = engineUnit then (d1.loseFrame o.ask.tag).respondRec o.engine o.ask 1 []
    else
      let t := codeThread o.ask.port o.ask.unit
      if (d1.parkedOp t).any (fun (p : Parked) => p.tag == o.ask.tag) then (d1.lose t true).finishThread t 1 [] else d1

/-- The operation of a frame. -/
def Dev.opOf (d : Dev) (f : Frame) : Option SwOp := d.sw.ops.find? fun o => o.gen == f.gen && o.unit == f.unit && o.ask.address == f.address

/-- An operation that finds no route (R331): TIMEOUT at once, counted as NO_ROUTE. -/
def Dev.noRouteOp (o : SwOp) (d : Dev) : Dev := Dev.timeoutOp o { d with sw.noRoute := d.sw.noRoute + 1 }

/-- A frame that can go no further: its operation ends, or the buffer of a transit frame is freed. -/
def Dev.dropFrame (x : TxFrame) (d : Dev) : Dev :=
  match x.from_ with
  | some p => d.freeBuf p (isRsp x.frame)
  | none =>
    if isRsp x.frame then d
    else match d.opOf x.frame with
      | some o => d.noRouteOp o
      | none => d

/-! ## Ports (R316, R322, R323) -/

/-- Identifier of a fibre port in the event log. -/
def fibreUnit (port : Nat) : Nat := unitId 0x0D port 0 0 0 0

/-- Code of a port state. -/
def stateCode : PortSt → Nat
  | .dark => 0
  | .probing => 1
  | .training => 2
  | .up => 3
  | .down => 4

/-- A port changes its state: recorded (10, after `FABRIC_QUERY`). -/
def Dev.setPort (port : Nat) (st : PortSt) (d : Dev) : Dev :=
  if (d.fport port).st = st then d
  else (d.onFport port fun p => { p with st, changed := d.tb.ns }).notice (fibreUnit port) (stateCode st)

/-- Send a LINK_MGMT message (R321). -/
def Dev.sendMgmt (port : Nat) (m : LinkMsg) (d : Dev) : Dev := { d with sw.mgmt := (port, m) :: d.sw.mgmt }

/-- Type of a LINK_MGMT message, bytes 0 to 1 of its payload (R321). -/
def LinkMsg.type : LinkMsg → Nat
  | .hello .. => 1
  | .laneMap _ _ => 2
  | .leave => 3
  | .spdm => 4
  | .keySwitch _ => 5

/-- HELLO of a port (R321, R324): version 1, this node and its epoch, its buffers as credits, and its encryption policy. -/
def Dev.helloOf (d : Dev) (port : Nat) : LinkMsg := .hello 1 d.sw.node d.sw.epoch 48 16 (bitOf d.sw.encMask port)

/-- Send HELLO (R321). -/
def Dev.sendHello (port : Nat) (d : Dev) : Dev := d.sendMgmt port (d.helloOf port)

/-- What a link held is gone: alignment, credits, keys, lane maps in flight. -/
def FPort.unlink (p : FPort) : FPort :=
  { p with enc := false, helloIn := false, reqCredit := 0, rspCredit := 0, reqFree := 0, rspFree := 0, marker := none, skipping := false
           laneMap := none, calMap := false, calNow := none, keySwitch := none
           txSwitch := none, keyed := false, txCounter := 0, rxCounter := none, tagFails := [] }

/-- A port trains (R322): HELLO, and the key agreement where its policy requires encryption. -/
def Dev.train (port : Nat) (d : Dev) : Dev :=
  let d1 := ((d.onFport port fun p => { p with helloIn := false, keyed := false, trainSince := some d.tb.ns }).setPort port .training).sendHello port
  if bitOf d.sw.encMask port then d1.sendMgmt port .spdm else d1

/-- PORT_DOWN (R323, R334): the routes select again, frames that waited move to the new selection or are dropped; the port retrains
while it receives light. -/
def Dev.portDown (port cause : Nat) (light : Bool) (d : Dev) : Dev :=
  let p := d.fport port
  if p.st = .dark ∨ p.st = .down then d
  else
    let d1 := (d.onFport port fun p => { p.unlink with cause, queue := [], trainSince := none }).setPort port .down
    let d2 := each p.queue (fun x d => match d.route x.frame.dst with
      | some q => d.enqueue q x.since x.from_ x.frame
      | none => d.dropFrame x) d1
    if light ∧ !(d2.fport port).lost then d2.train port else d2

/-- A port goes dark (R316, R336, R496): its queue is lost, and the frames in it time out. -/
def Dev.darken (port : Nat) (d : Dev) : Dev :=
  let lost := fun (o : SwOp) => o.left.isNone && (d.fport port).queue.any fun x => d.opOf x.frame == some o
  let d1 := { d with sw.ops := mapIf lost (fun o => { o with left := some d.tb.ns }) d.sw.ops }
  (d1.onFport port fun p => { p.unlink with queue := [], trainSince := none }).setPort port .dark

/-- An enabled port that may be lit begins to probe (R316, R332). -/
def Dev.probe (port : Nat) (d : Dev) : Dev :=
  let p := d.fport port
  if p.retired ∨ p.lost ∨ !bitOf d.sw.enabled port ∨ !d.sw.joined then d else d.setPort port .probing

/-! ## Lanes (R313, R314) -/

/-- Optics of a fibre port: its rings and its calibration are those of port 64 + p on plane 0. -/
def fibreOptic (port : Nat) : Nat := 64 + port

/-- Rings of a fibre port are to be locked, or only checked, anew (R253, R313): those of a side. -/
def Dev.recheckFibre (port : Nat) (side : Side) (lock : Bool) (d : Dev) : Dev :=
  each (List.range 18) (fun i => Dev.onRing { port := fibreOptic port, plane := 0, side, idx := i } fun r =>
    { r with locked := r.locked && !lock, checked := false, sweeps := 0 }) d

/-- Whether every line of a fibre port is locked and has passed its identity check (R322), but those whose lanes are on a spare. -/
def Dev.linesReady (d : Dev) (port : Nat) : Bool :=
  let p := d.fport port
  let good := fun (side : Side) (i : Nat) =>
    let r := d.ring { port := fibreOptic port, plane := 0, side, idx := i }
    r.locked && r.checked
  (List.range 18).all fun i => i == p.faultLane || i == p.calLane || (good .tx i && good .rx i)

/-- Lane on each of the 18 lines, with two lanes on the spares. -/
def laneLines (fault cal : Nat) : List Nat :=
  (List.range 18).map fun l =>
    if l = 17 then (if fault = 255 then 17 else fault) else if l = 16 then (if cal = 255 then 16 else cal)
    else if l = fault then 17 else if l = cal then 16 else l

/-- Send a lane map to the partner (R314): it takes effect 16 markers ahead. -/
def Dev.sendMap (port fault cal : Nat) (forCal : Bool) (d : Dev) : Dev :=
  let at_ := (d.fport port).marker.getD 0 + 16
  (d.onFport port fun p => { p with laneMap := some (laneLines fault cal, at_, false), calMap := forCal }).sendMgmt port (.laneMap (laneLines fault cal) at_)

/-- A lane of a fibre port needs a spare (R314): agreed with the partner by LANE_MAP, at least 16 markers ahead; a third takes the
port DOWN with cause LANES. -/
def Dev.fibreLane (port lane : Nat) (d : Dev) : Dev :=
  let p := d.fport port
  if p.faultLane = lane ∨ p.calLane = lane then d
  else if p.faultLane ≠ 255 ∧ p.calLane ≠ 255 then d.portDown port 7 true
  else
    let fault := if p.faultLane = 255 then lane else p.faultLane
    let cal := if p.faultLane = 255 then p.calLane else lane
    if p.st = .up then d.sendMap port fault cal false
    else d.onFport port fun p => { p with faultLane := fault, calLane := cal }

/-! ## Comb sources (R312) -/

/-- A comb source as at the beginning of life. -/
def freshComb (engine source : Nat) : SwComb := { engine, source, bias := 400, failed := false, alarm := false, moveNext := false, biasNext := false }
/-- A comb source of an engine. -/
def Dev.comb (d : Dev) (engine source : Nat) : SwComb := lookup (fun c => c.engine == engine && c.source == source) (freshComb engine source) d.sw.combs
/-- Update a comb source. -/
def Dev.onComb (engine source : Nat) (f : SwComb → SwComb) (d : Dev) : Dev :=
  { d with sw.combs := upsert (fun c => c.engine == engine && c.source == source) (freshComb engine source) f d.sw.combs }

/-- Comb source that feeds a port. -/
def Dev.feedOf (d : Dev) (port : Nat) : Nat := if (d.fport port).onSpare then 2 else port % 2

/-- The port that a source feeds. -/
def Dev.portFed (d : Dev) (engine source : Nat) : Option Nat := [2 * engine, 2 * engine + 1].find? fun p => d.feedOf p == source

/-- Whether an engine's hot spare is free for a port: it serves no port and has not failed. -/
def Dev.spareFree (d : Dev) (engine : Nat) : Bool := (d.portFed engine 2).isNone && !(d.comb engine 2).failed

/-- A port leaves its source for the hot spare, or is lost until the next start (R312): DOWN with cause LASER either way; the rings that
the spare feeds repeat their identity check (R274, R311). -/
def Dev.toSpare (port : Nat) (d : Dev) : Dev :=
  if (d.fport port).onSpare ∨ !d.spareFree (port / 2) then (d.onFport port fun p => { p with lost := true }).portDown port 8 false
  else ((d.onFport port fun p => { p with onSpare := true }).recheckFibre port .tx false).portDown port 8 true

/-- Ageing of an engine's sources that give light (R312), once per second: judged on their own laser-out readings. -/
def Dev.ageEngine (engine : Nat) (d : Dev) : Dev :=
  let one := fun (source : Nat) (d : Dev) =>
    match d.portFed engine source with
    | none => d
    | some port =>
      let low := ((List.range 18).map fun l => d.expectedAt (fibreOptic port) 0 l 1 - d.readingAt (fibreOptic port) 0 l 1).foldl max 0
      let c := d.comb engine source
      if (d.fport port).st = .dark then d
      else
        let d1 := if 50 < low ∧ c.bias < 560 then d.onComb engine source fun c => { c with biasNext := true } else d
        if 560 ≤ c.bias ∧ 200 < low then
          let d2 := onlyIf (!c.alarm) (Dev.notice (combUnit (51 + engine) source) 0) (d1.onComb engine source fun c => { c with alarm := true })
          if source < 2 ∧ d2.spareFree engine then d2.onComb engine source fun c => { c with moveNext := true } else d2
        else d1
  each (List.range 3) one d

/-- The sources of every engine (R312). -/
def Dev.ageEngines (d : Dev) : Dev := each (List.range 4) Dev.ageEngine d

/-- At a round boundary (R312): a move to the spare, or the bias step. -/
def Dev.engineCombBoundary (d : Dev) : Dev :=
  let one := fun (c : SwComb) (d : Dev) =>
    let d1 := d.onComb c.engine c.source fun x => { x with bias := if x.biasNext && !x.moveNext then min 560 (x.bias + 1) else x.bias, biasNext := false, moveNext := false }
    if c.moveNext ∧ d.spareFree c.engine then (d.portFed c.engine c.source).elim d1 fun p => d1.toSpare p else d1
  each (d.sw.combs.filter fun c => c.moveNext || c.biasNext) one d

/-- Engine reset (R496): its two ports go dark. -/
def Dev.resetEngine (engine : Nat) (d : Dev) : Dev :=
  { ((d.darken (2 * engine)).darken (2 * engine + 1)) with sw.engineReset := insertNew engine d.sw.engineReset }

/-! ## Requests of this node (R326, R330, R331) -/

/-- Whether RACK-scope operations are issued at all (R336): the fabric axis is not OFF and no leave is under way. -/
def Dev.rackOpen (d : Dev) : Bool := d.sw.joined && d.sw.leaving.isNone

/-- Unit and thread of a frame's tag (10, frame header; log 32): a thread of a site, or a transfer's tag. -/
def frameUnit (r : Rec) : Nat := if r.unit = engineUnit then 2 ^ 23 + r.tag % 2 ^ 23 else r.port * 2 ^ 15 + r.unit % 2 ^ 15

/-- The request frame of a record, a bulk cell (code 4) or a bulk read (code 5). -/
def Dev.requestFrame (d : Dev) (r : Rec) (poison last : Bool) : Frame :=
  { kind := r.op, enc := false, poison, posted := r.op == 3 && (r.unit == engineUnit || r.posted), last, dst := r.address / 2 ^ 48 % 65536
    src := d.sw.node, address := r.address % 2 ^ 64, gen := d.sw.gen, unit := frameUnit r, hops := d.sw.maxHops, credit := 0
    epoch := d.sw.epoch % 65536, aop := r.aop, aty := r.aty, status := 0, size := r.size, counter := 0, tagOk := true
    payload := if r.op = 1 ∨ r.op = 5 then [] else r.data }

/-- An engine sends a frame for a request of the package (R326, R330): with no route it ends with TIMEOUT at once (R331), with the
fabric OFF too (R336). -/
def Dev.toFibre (engine plane : Nat) (r : Rec) (poison last : Bool) (d : Dev) : Dev :=
  let f := d.requestFrame r poison last
  let o : SwOp := { gen := d.sw.gen, unit := f.unit, engine, plane, ask := r, issued := d.tb.ns, left := none }
  let d1 := { d with sw.ops := d.sw.ops ++ [o], sw.gen := (d.sw.gen + 1) % 256 }
  if !d.rackOpen then d1.timeoutOp o
  else
    let s := d1.emit engine d.tb.ns none f
    if s.2 then s.1 else d1.noRouteOp o

/-- What the package answers to a request of another node goes back as a frame (R325, R329). -/
def Dev.inboundRsp (engine tag status : Nat) (data : List Byte) (d : Dev) : Dev :=
  match d.sw.inbound.find? (·.tag == tag) with
  | some x => Dev.respondFrame engine x.frame status data { d with sw.inbound := d.sw.inbound.erase x }
  | none => d

end Sys2Proof.Machine
end

