-- ==== Sys2Proof/Machine/GraphImage.lean ====
section
/-!
DEFINITION. The Arbor container (chapter 04, R109 to R130): the checks of its frame, its records, and the sizes and byte
layouts of tensors.
-/

namespace Sys2Proof.Machine

/-- The values of R150 that a failed load or placement returns: detail, section, byte offset and node. -/
structure LoadFail where
  detail : Nat
  sect : Nat
  offset : Nat
  node : Nat
  deriving DecidableEq, Repr

/-- A failure that names an offset alone. -/
def LoadFail.at_ (detail offset : Nat) : LoadFail := { detail, sect := none32, offset, node := none32 }
/-- A failure in a section. -/
def LoadFail.inSection (detail sect offset : Nat) : LoadFail := { detail, sect, offset, node := none32 }
/-- A failure that names nothing. -/
def LoadFail.bare (detail : Nat) : LoadFail := { detail, sect := none32, offset := none32, node := none32 }

/-- An entry of the section table (R114). -/
structure SectEntry where
  index : Nat
  /-- byte offset of the entry -/
  entry : Nat
  type : Nat
  flags : Nat
  count : Nat
  offset : Nat
  size : Nat
  crc : Nat
  reserved : Nat
  deriving DecidableEq, Repr

/-- The section table (R114). -/
def sectionTable (img : List Byte) : List SectEntry :=
  let at_ := u32 img 0x14
  (List.range (min 16 (u32 img 0x10))).map fun i =>
    let e := at_ + 32 * i
    let b := (img.drop e).take 32
    { index := i, entry := e, type := u16 b 0, flags := u16 b 2, count := u32 b 4, offset := u64 b 8, size := u64 b 16
      crc := u32 b 24, reserved := u32 b 28 }

/-- Header magic and length, version, trailer and image CRC, in the order of R116. -/
def checkFrame (minor : Nat) (img : List Byte) : Option LoadFail :=
  let n := img.length
  if n < 72 ∨ u32 img 0 ≠ 0x52425241 then some (.at_ 0x01 0)
  else if u64 img 8 ≠ n ∨ n % 8 ≠ 0 ∨ 0x40000000 < n then some (.at_ 0x01 8)
  else if u16 img 4 ≠ 1 ∨ minor < u16 img 6 then some (.at_ 0x02 4)
  else if u32 img (n - 4) ≠ 0x444E4541 then some (.at_ 0x01 (n - 4))
  else if u32 img (n - 8) ≠ crc32c (img.take (n - 8)) then some (.at_ 0x03 (n - 8))
  else none

/-- Bytes of an entry of a section type; none: a variable or byte section (R115). -/
def entryBytes : Nat → Option Nat
  | 2 => some 64
  | 4 => some 32
  | 5 => some 32
  | _ => none

/-- Whether two spans of bytes overlap. -/
def overlaps (a n b m : Nat) : Bool := decide (a < b + m) && decide (b < a + n)

/-- Whether a section entry is well placed and of a legal kind (R112, R115, R122): inside the image, aligned, behind the header and the
section table, not over the trailer or an earlier section, not a second of its type, its size that of its entries. -/
def sectionOk (img : List Byte) (earlier : List SectEntry) (s : SectEntry) : Bool :=
  let n := img.length
  let known := decide (1 ≤ s.type) && decide (s.type ≤ 6)
  s.offset % 64 == 0 && decide (u32 img 0x14 + 32 * u32 img 0x10 ≤ s.offset) && decide (s.offset + s.size ≤ n - 8) &&
  earlier.all (fun e => !overlaps s.offset s.size e.offset e.size && (!known || e.type != s.type)) &&
  (known || s.flags % 2 == 1) && (entryBytes s.type).elim true (fun k => s.size == s.count * k) &&
  !(s.type == 3 && decide (0x10000000 < s.size)) && !(s.type == 2 && decide (65535 < s.count))

/-- The section table's own checks (R112, R115). -/
def checkTable (img : List Byte) : Option LoadFail :=
  let k := u32 img 0x10
  let at_ := u32 img 0x14
  if k < 3 ∨ 16 < k ∨ at_ % 64 ≠ 0 ∨ at_ < 64 ∨ img.length < at_ + 32 * k + 8 then some (.at_ 0x04 0x10)
  else
    let t := sectionTable img
    match t.find? fun s => !sectionOk img (t.take s.index) s with
    | some s => some (.inSection 0x04 s.index s.entry)
    | none => if [1, 2, 5].all (fun ty => t.any (·.type == ty)) then none else some (.at_ 0x04 at_)

/-- The bytes of a section. -/
def SectEntry.bytes (img : List Byte) (s : SectEntry) : List Byte := (img.drop s.offset).take s.size

/-- Section CRCs (R116). -/
def checkCrcs (img : List Byte) : Option LoadFail :=
  ((sectionTable img).find? fun s => crc32c (s.bytes img) != s.crc).map fun s => .inSection 0x05 s.index s.offset

/-! ## Records -/

/-- A section of a type. -/
def sectionOf (img : List Byte) (type : Nat) : Option SectEntry := (sectionTable img).find? (·.type == type)
/-- Bytes of the section of a type; none of it: empty. -/
def sectionData (img : List Byte) (type : Nat) : List Byte := (sectionOf img type).elim [] (·.bytes img)
/-- Entries of the section of a type. -/
def sectionCount (img : List Byte) (type : Nat) : Nat := (sectionOf img type).elim 0 (·.count)

/-- A tensor descriptor (R117). -/
def tensorOf (b : List Byte) : Tensor :=
  { format := u8 b 0, rank := u8 b 1, cls := u8 b 2, flags := u8 b 3, source := u16 b 4
    dims := (List.range 6).map fun i => u32 b (8 + 4 * i)
    offset := u64 b 0x20, size := u64 b 0x28 }

/-- A weight-region reference (R122). -/
def weightRefOf (b : List Byte) : WeightRef :=
  { region := u64 b 0, offset := u64 b 8, length := u64 b 16, flags := u32 b 24, crc := u32 b 28 }

/-- A stream declaration (R123, R124). -/
def declOf (b : List Byte) : Decl :=
  { kind := u16 b 0, maxItems := u16 b 2, payload := u16 b 4, param := u16 b 6, result := u16 b 8, kvState := u16 b 10
    resultBytes := u32 b 12, drafts := u8 b 16, rounds := u8 b 17, decodeStreams := u16 b 18 }

/-- The records of a fixed size of a section. -/
def recordsOf {α : Type} (img : List Byte) (type size : Nat) (f : List Byte → α) : List α :=
  let b := sectionData img type
  (List.range (sectionCount img type)).map fun i => f ((b.drop (size * i)).take size)

/-- The end of the ids of a node record, rounded up to 8. -/
def idsEnd (inputs outputs : Nat) : Nat := (8 + 2 * (inputs + outputs) + 7) / 8 * 8

/-- A node record at an offset of the image (R125). -/
def nodeOf (at_ : Nat) (b : List Byte) : Node :=
  let i := u8 b 4
  let o := u8 b 5
  { opcode := u16 b 0, inputs := (List.range i).map (fun k => u16 b (8 + 2 * k))
    outputs := (List.range o).map (fun k => u16 b (8 + 2 * (i + k))), flags := u16 b 6
    attrs := (b.take (u16 b 2)).drop (idsEnd i o), at_ }

/-- Whether a node record's own lengths agree (R125). -/
def nodeRecordOk (b : List Byte) : Bool :=
  let n := u16 b 2
  decide (8 ≤ b.length) && decide (u8 b 4 ≤ 8) && decide (u8 b 5 ≤ 4) && n % 8 == 0 && decide (idsEnd (u8 b 4) (u8 b 5) ≤ n) &&
  decide (n ≤ b.length)

/-- The node records of the graph section, and where the sequence breaks: offset and index of the first malformed record. -/
def nodesFrom : Nat → Nat → Nat → List Byte → List Node × Option (Nat × Nat)
  | 0, at_, i, b => ([], if b.isEmpty then none else some (at_, i))
  | k + 1, at_, i, b =>
    if nodeRecordOk b then
      let r := nodesFrom k (at_ + u16 b 2) (i + 1) (b.drop (u16 b 2))
      (nodeOf at_ b :: r.1, r.2)
    else ([], some (at_, i))

/-- The node records of an image. DESIGN CHOICE (log 51): R150 names no detail for more than 16,384 nodes or for bytes left after the
last record (R125); the sequence is malformed there, detail 0x0B. -/
def nodeRecords (img : List Byte) : List Node × Option (Nat × Nat) :=
  match sectionOf img 1 with
  | some s => if 16384 < s.count then ([], some (s.offset, none32)) else nodesFrom s.count s.offset 0 (s.bytes img)
  | none => ([], none)

/-- An expression node (R130). -/
def exprNodeOf (b : List Byte) : ExprNode := { op := u8 b 0, a := u8 b 1, b := u8 b 2, c := u8 b 3, imm := u32 b 4 }

/-- Offsets of the expressions in their section (R130). -/
def exprOffsets (b : List Byte) : List Nat := (List.range (min (u32 b 0) (b.length / 4))).map fun i => u32 b (4 + 4 * i)

/-- The nodes of the expression at an offset of the section. -/
def exprAt (b : List Byte) (o : Nat) : List ExprNode :=
  (List.range (min 64 (u16 b o))).map fun i => exprNodeOf ((b.drop (o + 4 + 8 * i)).take 8)

/-- The content of an image. -/
def imageOf (img : List Byte) : Image :=
  { name := slice img 0x20 16, features := u64 img 0x18
    tensors := recordsOf img 2 64 tensorOf
    nodes := (nodeRecords img).1
    constants := sectionData img 3
    weights := recordsOf img 4 32 weightRefOf
    decls := recordsOf img 5 32 declOf
    exprs := (exprOffsets (sectionData img 6)).map (exprAt (sectionData img 6))
    graphSect := (sectionOf img 1).elim none32 (·.index)
    weightSect := (sectionOf img 4).elim none32 (·.index)
    weightBase := (sectionOf img 4).elim 0 (·.offset) }

/-! ## Tensor sizes and layouts (R39, R40, R42, R43, R61, R118) -/

/-- Extents of a tensor, innermost first. -/
def Tensor.extents (t : Tensor) : List Nat := t.dims.take t.rank
/-- Variant of an L6 tensor. -/
def Tensor.variant (t : Tensor) : Nat := bitsOf t.flags 1 1
/-- Sparse values kept of every 4: 2, 1, or 0 for a dense tensor. -/
def Tensor.kept (t : Tensor) : Nat := if bitOf t.flags 2 then 2 else if bitOf t.flags 3 then 1 else 0
/-- Whether a tensor is per-item (R119). -/
def Tensor.perItem (t : Tensor) : Bool := bitOf t.flags 4 || t.cls == 3 || t.cls == 4 || t.cls == 5
/-- Whether a tensor may not be written by a node (R120). -/
def Tensor.readOnly (t : Tensor) : Bool := bitOf t.flags 0 || t.cls == 1 || t.cls == 3 || t.cls == 4

/-- Product of extents. -/
def volume (ds : List Nat) : Nat := ds.foldl (· * ·) 1
/-- Tiles over an extent (R42). -/
def tilesOver (n : Nat) : Nat := (n + 127) / 128
/-- Tiles of a Ladder tensor of some extents, innermost first (R42). -/
def tileCount (ds : List Nat) : Nat :=
  tilesOver (ds.headD 1) * tilesOver ((ds.tail).headD 1) * volume (ds.drop 2)

/-- Runs of 4 along K (R61). DESIGN CHOICE (log 30): where K is not a multiple of 4, the last run of each row counts as a whole run. -/
def sparseRuns (ds : List Nat) : Nat := (ds.headD 1 + 3) / 4 * volume ds.tail
/-- Bytes of the metadata of a sparse tensor (R61): nibbles, or 2-bit positions. -/
def metaBytes (kept : Nat) (ds : List Nat) : Nat := if kept = 2 then (sparseRuns ds + 1) / 2 else (sparseRuns ds + 3) / 4

/-- Bytes of a tensor of a format and extents (R118). In a sparse Ladder tensor each record holds the kept elements and every
block scale, and the metadata follows the records (log 30). -/
def bytesOf (format kept : Nat) (ds : List Nat) : Nat :=
  if isLadder format then
    let record := if kept = 0 then tileBytes format else elemBits format * 512 * kept + 1040
    tileCount ds * record + (if kept = 0 then 0 else metaBytes kept ds)
  else if kept = 0 then (volume ds * elemBits format + 7) / 8
  else (sparseRuns ds * kept * elemBits format + 7) / 8 + metaBytes kept ds

/-- Extents by which a tensor is stored: those of its descriptor; a sparse weight of CONV2D is the matrix [O, K] of R128 with
K = kh × kw × C, along which its runs are cut (R61, log 30). -/
def Tensor.layout (conv : Bool) (t : Tensor) : List Nat :=
  if conv && t.kept != 0 then [volume (t.extents.take (t.rank - 1)), (t.extents.getLast?).getD 1] else t.extents

/-- Bytes of a tensor (R118); `conv`: it is the weight of a CONV2D. -/
def Tensor.bytes (conv : Bool) (t : Tensor) : Nat := bytesOf t.format t.kept (t.layout conv)

/-- Extents of one item's slice of a per-item tensor; the whole of another (R119). -/
def Tensor.sliceDims (t : Tensor) : List Nat := if t.perItem then t.extents.take (t.rank - 1) else t.extents
/-- Elements of a slice. -/
def Tensor.sliceCount (t : Tensor) : Nat := volume t.sliceDims
/-- Bytes of a slice. -/
def Tensor.sliceBytes (t : Tensor) : Nat := bytesOf t.format t.kept t.sliceDims

/-- Element `i` of packed bytes (R39, R40): sub-byte formats fill bytes from the low bits. -/
def packedAt (bits : Nat) (b : List Byte) (i : Nat) : Nat :=
  let start := i * bits
  field b (start / 8) 9 / 2 ^ (start % 8) % 2 ^ bits

/-- Pack codes of a width (R39, R40). -/
def packBits (bits : Nat) (codes : List Nat) : List Byte :=
  let v := codes.foldr (fun c acc => c % 2 ^ bits + acc * 2 ^ bits) 0
  leBytes ((codes.length * bits + 7) / 8) v

/-- Pack codes into bytes: whole bytes one by one, INT4 and 4-bit codes in pairs, L6 codes in fours. -/
def packCodes (bits : Nat) (codes : List Nat) : List Byte :=
  let per := if bits = 4 then 2 else if bits = 6 then 4 else 1
  ((List.range ((codes.length + per - 1) / per)).map fun i => packBits bits ((codes.drop (i * per)).take per)).flatten

/-- Where element `i` (linear, innermost fastest) of a Ladder tensor lies: tile, row, column (R42, R43). -/
def tilePlace (ds : List Nat) (i : Nat) : Nat × Nat × Nat :=
  let k := max 1 (ds.headD 1)
  let m := max 1 ((ds.tail).headD 1)
  let c := i % k
  let r := i / k % m
  let outer := i / k / m
  (outer * (tilesOver k * tilesOver m) + (r / 128) * tilesOver k + c / 128, r % 128, c % 128)

/-- Reads `n` bytes at an offset of a tensor, and whether one of them is poisoned. -/
abbrev Reader := Nat → Nat → List Byte × Bool

/-- The reader of bytes that are at hand. -/
def readList (b : List Byte) : Reader := fun o n => (slice b o n, false)

/-- Element at a place of a tile record (R43): its code, the scale of its block, the scale of its tile. -/
def tileElem (rd : Reader) (bits base slot scaleAt elemBytes : Nat) : Elem × Bool :=
  let c := rd (base + slot * bits / 8) 2
  let s := rd (base + elemBytes + scaleAt) 1
  let t := rd (base + elemBytes + 1024) 4
  ({ code := leNat c.1 / 2 ^ (slot * bits % 8) % 2 ^ bits, scale := leNat s.1, tile := leNat t.1 }, c.2 || s.2 || t.2)

/-- Element `i` (linear, innermost fastest) of a dense tensor, and whether a byte that holds it is poisoned (R39, R40, R43). -/
def elemAt (rd : Reader) (format : Nat) (ds : List Nat) (i : Nat) : Elem × Bool :=
  let bits := elemBits format
  if isLadder format then
    let p := tilePlace ds i
    tileElem rd bits (p.1 * tileBytes format) (p.2.1 * 128 + p.2.2) (p.2.1 * 8 + p.2.2 / 16) (bits * 2048)
  else
    let b := rd (i * bits / 8) ((i * bits % 8 + bits + 7) / 8)
    (Elem.plain (leNat b.1 / 2 ^ (i * bits % 8) % 2 ^ bits), b.2)

/-- Elements [lo, lo + n) of a dense tensor, and whether one is poisoned. -/
def elemsAt (rd : Reader) (format : Nat) (ds : List Nat) (lo n : Nat) : List Elem × Bool :=
  let es := (List.range n).map fun i => elemAt rd format ds (lo + i)
  (es.map (·.1), es.any (·.2))

/-- Elements of dense bytes of a format and extents. -/
def unpack (format : Nat) (ds : List Nat) (b : List Byte) : List Elem := (elemsAt (readList b) format ds 0 (volume ds)).1

/-- One tile record (R43): the elements in their tile, padding encoded as zero. -/
def tileRecord (format : Nat) (cell : Nat → Nat → Option Elem) : List Byte :=
  let at_ := fun (i : Nat) => (cell (i / 128) (i % 128))
  let codes := (List.range 16384).map fun i => (at_ i).elim 0 (·.code)
  let scales := (List.range 1024).map fun i => BitVec.ofNat 8 ((at_ (16 * i)).elim 0 (·.scale))
  let tile := (at_ 0).elim 0 (·.tile)
  packCodes (elemBits format) codes ++ scales ++ leBytes 4 tile ++ zeros 12

/-- Bytes of a dense tensor of a format and extents. -/
def pack (format : Nat) (ds : List Nat) (xs : List Elem) : List Byte :=
  if isLadder format then
    let k := max 1 (ds.headD 1)
    let m := max 1 ((ds.tail).headD 1)
    ((List.range (tileCount ds)).map fun t =>
      let tk := tilesOver k
      let tm := tilesOver m
      let outer := t / (tk * tm)
      let r0 := t / tk % tm * 128
      let c0 := t % tk * 128
      tileRecord format fun r c =>
        if r0 + r < m ∧ c0 + c < k then xs[(outer * m + r0 + r) * k + c0 + c]? else none).flatten
  else packCodes (elemBits format) (xs.map (·.code))

/-- The stored entries of run `r` of row `row` of a sparse weight (R61, R62): positions along K and elements. A Ladder record holds the
kept values of its tile in order, and every block scale (log 30). -/
def sparseRun (rd : Reader) (t : Tensor) (conv : Bool) (row r : Nat) : List ((Nat × Elem) × Bool) :=
  let ds := t.layout conv
  let k := ds.headD 1
  let bits := elemBits t.format
  let run := row * ((k + 3) / 4) + r
  let meta_ := t.bytes conv - metaBytes t.kept ds
  (List.range t.kept).map fun j =>
    let m := if t.kept = 2 then rd (meta_ + run / 2) 1 else rd (meta_ + run / 4) 1
    let pos := if t.kept = 2 then leNat m.1 / 16 ^ (run % 2) / 4 ^ j % 4 else leNat m.1 / 4 ^ (run % 4) % 4
    let e :=
      if isLadder t.format then
        let p := tilePlace ds (row * k + 4 * r)
        let eb := bits * 512 * t.kept
        tileElem rd bits (p.1 * (eb + 1040)) ((p.2.1 * 32 + p.2.2 / 4) * t.kept + j) (p.2.1 * 8 + p.2.2 / 16) eb
      else elemAt rd t.format [] (run * t.kept + j)
    ((4 * r + pos, e.1), e.2 || m.2)

/-- The entries of one row along K of a weight: position and element, and whether one is poisoned; a dense row holds each position
once (R61, R62, R128). -/
def weightRow (rd : Reader) (t : Tensor) (conv : Bool) (row : Nat) : List (Nat × Elem) × Bool :=
  let k := if conv then volume (t.extents.take (t.rank - 1)) else t.extents.headD 1
  let es :=
    if t.kept = 0 then (List.range k).map fun c => let e := elemAt rd t.format t.extents (row * k + c); ((c, e.1), e.2)
    else ((List.range ((k + 3) / 4)).map (sparseRun rd t conv row)).flatten
  (es.map (·.1), es.any (·.2))

end Sys2Proof.Machine
end

