-- ==== Sys2Proof/Machine/GraphCheck.lean ====
section
/-!
DEFINITION. Validation of an image's content (R114, R116 to R148, R150, R524 to R526): every failing condition, of which
the one of the lowest detail code and then of the lowest offset is reported.
-/

namespace Sys2Proof.Machine

/-- Failures that a list of (condition holds, detail) gives at one place. -/
def failsAt (sect offset node : Nat) (cs : List (Bool × Nat)) : List LoadFail :=
  (cs.filter fun c => !c.1).map fun c => { detail := c.2, sect, offset, node }

/-! ## Tensors, weight references, declarations -/

/-- Whether a format code exists (R117). -/
def formatKnown (f : Nat) : Bool := decide (1 ≤ f) && decide (f ≤ 12)

/-- Source and offset of a tensor (R117, R121, R122). -/
def sourceOk (img : Image) (t : Tensor) : Bool :=
  match t.cls with
  | 1 => t.offset % 64 == 0 && decide (t.offset + t.size ≤ img.constants.length)
  | 2 => (img.weights[t.source]?).elim false (fun w => decide (t.offset + t.size ≤ w.length))
  | 3 => decide (t.source < img.decls.length)
  | 4 => decide (t.source < img.decls.length) && decide (t.offset + t.sliceBytes ≤ 32)
  | 5 => decide (t.source < img.decls.length)
  | 6 => decide (t.source < img.decls.length)
  | _ => t.source == 0

/-- Rank and extents of a tensor (R117). -/
def extentsOk (t : Tensor) : Bool :=
  decide (1 ≤ t.rank) && decide (t.rank ≤ 6) && t.extents.all (· != 0) && (t.dims.drop t.rank).all (· == 0)

/-- Whether a tensor is the weight operand of a CONV2D (R128). -/
def convWeight (img : Image) (id : Nat) : Bool := img.nodes.any fun n => n.opcode == 2 && n.inputs[1]? == some id

/-- Failures of a tensor descriptor (R117, R118): the first that applies, by detail. -/
def tensorFails (img : Image) (id sect at_ : Nat) (b : List Byte) (t : Tensor) : List LoadFail :=
  if !formatKnown t.format || decide (7 < t.cls) || decide (32 ≤ t.flags) || u16 b 6 != 0 || !allZero ((b.drop 0x30).take 16) then
    [.inSection 0x06 sect at_]
  else if !extentsOk t then [.inSection 0x07 sect (at_ + 8)]
  else if (bitOf t.flags 2 && bitOf t.flags 3) || (t.kept != 0 && t.cls != 1 && t.cls != 2) then [.inSection 0x07 sect (at_ + 3)]
  else if t.bytes (convWeight img id) ≠ t.size ∨ (t.cls = 4 ∧ 32 < t.sliceBytes) then [.inSection 0x07 sect (at_ + 0x28)]
  else if !sourceOk img t then [.inSection 0x08 sect (at_ + 4)]
  else []

/-- Failures of a weight-region reference (R123). -/
def weightFails (sect at_ : Nat) (w : WeightRef) : List LoadFail :=
  failsAt sect (at_ + 0x18) none32 [(decide (w.flags < 4), 0x06)] ++ failsAt sect (at_ + 8) none32 [(w.offset % 64 == 0, 0x08)]

/-- The declaration whose per-item data a node works on: that of its inputs, else of its outputs; none: every item's. The list
holds (tensor, declaration) of tensors so far (log 31). -/
def nodeDeclOf (img : Image) (known : List (Nat × Nat)) (n : Node) : Option Nat :=
  let own := fun (t : Nat) => (img.tensors[t]?).bind fun x =>
    if x.cls = 3 ∨ x.cls = 4 ∨ x.cls = 5 then some x.source else valueOf t known
  (n.inputs.findSome? own).or (n.outputs.findSome? own)

/-- The nodes of the body that a LOOP_BEGIN opens, by the depth inside it. -/
def loopBody : Nat → List Node → List Node
  | _, [] => []
  | depth, n :: ns =>
    if n.opcode = 0x41 ∧ depth = 0 then [n]
    else n :: loopBody (if n.opcode = 0x40 then depth + 1 else if n.opcode = 0x41 then depth - 1 else depth) ns

/-- The declaration of every node, in order; a loop whose carried values belong to none is of the declaration of its body. -/
def nodeDecls (img : Image) : List (Nat × Nat) → List Node → List (Option Nat)
  | _, [] => []
  | known, n :: ns =>
    let k := (nodeDeclOf img known n).or (if n.opcode = 0x40 then (loopBody 0 ns).findSome? (nodeDeclOf img known) else none)
    k :: nodeDecls img (k.elim known (fun x => n.outputs.map (·, x) ++ known)) ns

/-- Whether a per-item tensor that nodes of a declaration use has the item extent of the declaration (R119). -/
def itemExtents (img : Image) (k items : Nat) : Bool :=
  let mine := (img.nodes.zip (nodeDecls img [] img.nodes)).filter (·.2 == some k)
  mine.all fun p => (p.1.inputs ++ p.1.outputs).all fun id => (img.tensors[id]?).elim true fun t =>
    !t.perItem || t.extents.getLast? == some items

/-- Whether a declaration's per-item tensor is of its class, names the declaration and has its item extent (R119). -/
def declTensor (img : Image) (k cls items id : Nat) : Bool :=
  (img.tensors[id]?).elim false fun t => t.cls == cls && t.source == k && t.extents.getLast? == some items

/-- Whether a declaration agrees with its tensors (R123, R124). -/
def declOk (img : Image) (k : Nat) (x : Decl) : Bool :=
  decide (x.kind ≤ 1) && decide (1 ≤ x.maxItems) && decide (x.maxItems ≤ 4096) && decide (1 ≤ x.resultBytes) &&
  decide (x.resultBytes ≤ 4032) && decide (x.drafts ≤ 4) && decide (1 ≤ x.rounds) && decide (x.rounds ≤ 16) &&
  (x.kind == 1 || (x.drafts == 0 && x.decodeStreams == 0)) && declTensor img k 3 x.maxItems x.payload &&
  (x.param == 0xFFFF || declTensor img k 4 x.maxItems x.param) && declTensor img k 5 x.maxItems x.result &&
  (img.tensors[x.result]?).elim false (fun t => t.sliceBytes == x.resultBytes) &&
  (x.kvState == 0xFFFF || (img.tensors[x.kvState]?).elim false (·.cls == 6)) && itemExtents img k x.maxItems

/-- Failures of a declaration. -/
def declFails (img : Image) (sect at_ k : Nat) (b : List Byte) (x : Decl) : List LoadFail :=
  if !allZero ((b.drop 0x14).take 12) then [.inSection 0x06 sect (at_ + 0x14)]
  else failsAt sect at_ none32 [(declOk img k x, 0x11)]

/-! ## Expressions (R130) -/

/-- Operands an expression operation uses: none for an unknown code. -/
def exprArity (op : Nat) : Option Nat :=
  if op ≤ 1 then some 0
  else if op = 0x14 ∨ op = 0x33 then some 3
  else if (0x10 ≤ op ∧ op ≤ 0x16) ∨ (0x30 ≤ op ∧ op ≤ 0x32) then some 2
  else if (0x17 ≤ op ∧ op ≤ 0x1A) ∨ (0x20 ≤ op ∧ op ≤ 0x2A) then some 1
  else none

/-- Whether node `i` of an expression is well formed: operands earlier, unused fields 0. -/
def exprNodeOk (i : Nat) (x : ExprNode) : Bool :=
  match exprArity x.op with
  | none => false
  | some n =>
    let ok := fun (j v : Nat) => if j < n then decide (v < i) else v == 0
    ok 0 x.a && ok 1 x.b && ok 2 x.c && (decide (x.op ≤ 1) || x.imm == 0)

/-- Failures of the expressions section. -/
def exprFails (img : List Byte) : List LoadFail :=
  match sectionOf img 6 with
  | none => []
  | some s =>
    let b := s.bytes img
    let n := u32 b 0
    if b.length < 4 + 4 * n then [.inSection 0x10 s.index s.offset]
    else ((exprOffsets b).map fun o =>
      let k := u16 b o
      failsAt s.index (s.offset + o + 2) none32 [(u16 b (o + 2) == 0, 0x06)] ++
      if b.length < o + 4 + 8 * k ∨ k < 1 ∨ 64 < k then [LoadFail.inSection 0x10 s.index (s.offset + o)]
      else match (List.range k).find? (fun i => !exprNodeOk i (exprNodeOf ((b.drop (o + 4 + 8 * i)).take 8))) with
        | some i => [LoadFail.inSection 0x10 s.index (s.offset + o + 4 + 8 * i)]
        | none => []).flatten

/-! ## Nodes -/

/-- An attribute byte. -/
def Node.at8 (n : Node) (o : Nat) : Nat := u8 n.attrs o
/-- An attribute of 2 bytes. -/
def Node.at16 (n : Node) (o : Nat) : Nat := u16 n.attrs o
/-- An attribute of 4 bytes. -/
def Node.at32 (n : Node) (o : Nat) : Nat := u32 n.attrs o

/-- Input counts, output counts and attribute bytes of an opcode (the operation set): none for an unknown opcode. Optional
inputs follow their attribute bits. -/
def opShape (n : Node) : Option (Nat × Nat × Nat) :=
  match n.opcode with
  | 0x01 => some (2 + n.at8 1 % 2 + n.at8 1 / 2 % 2, 1, 2)
  | 0x02 => some (2 + n.at8 9 % 2, 1, 10)
  | 0x03 => some (max 1 n.inputs.length, 1, 4)
  | 0x04 => some (1, 1, 2)
  | 0x05 => some (1 + n.at8 4 % 2, 1, 5)
  | 0x06 => some (1 + n.at8 4 % 2 + n.at8 4 / 2 % 2, 1, 5)
  | 0x07 => some (1 + n.at8 4 % 2, 1, 5)
  | 0x08 => some (2, 1, 7)
  | 0x09 => some (5, 1, 12)
  | 0x0A => some (3 + n.at8 1 % 2, 1, 2)
  | 0x0B => some (2, 1, 0)
  | 0x0C => some (3, 0, 1)
  | 0x0D => some (1, 2, 5)
  | 0x0E => some (1, 2, 1)
  | 0x0F => some (1 + n.at8 1 % 2, 2, 12)
  | 0x10 => some (2, 1, 2)
  | 0x11 => some (1, 1, 0)
  | 0x12 => some (1, 1, 7)
  | 0x20 => some (1, 1, 2)
  | 0x30 => some (1, 2, 6)
  | 0x31 => some (2, 1, 6)
  | 0x32 => some ((if n.at8 4 = 3 then 3 else 2), 2, 6)
  | 0x33 => some (0, 1, 6)
  | 0x40 => some (n.outputs.length + n.at8 4 % 2, n.outputs.length, 5)
  | 0x41 => some (n.outputs.length, n.outputs.length, 0)
  | 0x42 => some (3, 1, 0)
  | 0x43 => some (1, 0, 0)
  | _ => none

/-- Operand class of a matmul input (R53): 0 FP32, 1 Half, 2 FP8, 3 Integer, 4 Ladder. -/
def matClass (f : Nat) : Option Nat :=
  match f with
  | 1 => some 0
  | 2 => some 1
  | 3 => some 1
  | 4 => some 2
  | 5 => some 2
  | 6 => some 3
  | 7 => some 3
  | 8 => some 4
  | 9 => some 4
  | 10 => some 4
  | _ => none

/-- Whether two tensors may be multiplied (R53). -/
def sameClass (a w : Tensor) : Bool := (matClass a.format).isSome && matClass a.format == matClass w.format

/-- Broadcast of two shapes, innermost first: extents equal or 1. -/
def broadcast2 : List Nat → List Nat → Option (List Nat)
  | [], b => some b
  | a, [] => some a
  | x :: a, y :: b =>
    if x = y ∨ x = 1 ∨ y = 1 then (broadcast2 a b).map (max x y :: ·) else none

/-- Broadcast of several shapes. -/
def broadcastAll (ss : List (List Nat)) : Option (List Nat) :=
  ss.foldl (fun a s => a.bind (broadcast2 s)) (some [])

/-- FP32 vector of an extent. -/
def isVec (n : Nat) (t : Tensor) : Bool := t.format == 1 && t.extents == [n]
/-- Tensor of INT32. -/
def isI32 (t : Tensor) : Bool := t.format == 0x0B
/-- Tensor of INT32 or INT64. -/
def isIdx (t : Tensor) : Bool := t.format == 0x0B || t.format == 0x0C
/-- Predicate or mask over the items: INT8 [items]. -/
def isMask (t : Tensor) : Bool := t.format == 6 && t.rank == 1 && t.perItem

/-- Format of the operands of an atomic type (R148), and whether it is a pair. -/
def atomicFormat (ty : Nat) : Nat × Bool :=
  match ty with
  | 0 => (0x0B, false)
  | 1 => (0x0C, false)
  | 2 => (0x01, false)
  | 3 => (0x0B, false)
  | 4 => (0x0C, false)
  | _ => (0x0C, true)

/-- Extents of a list without the entry at an index. -/
def without (i : Nat) (l : List Nat) : List Nat := l.take i ++ l.drop (i + 1)

/-- Output extents of REDUCE (R525). -/
def reduceShape (axis : Nat) (ds : List Nat) : List Nat := if ds.length = 1 then [1] else without axis ds

/-- The permutation of a VIEW (R526). -/
def Node.perm (n : Node) (rank : Nat) : List Nat := (List.range rank).map fun i => n.at8 (1 + i)

/-- Whether two tensors have one format, the L6 variant included (R44, R117). -/
def sameFormat (a b : Tensor) : Bool := a.format == b.format && (a.format != 9 || a.variant == b.variant)

/-- Shapes and formats of a node (R127, R128, R131 to R145, R525): detail 0x0C. -/
def shapeOk (img : Image) (n : Node) (i o : List Tensor) : Bool :=
  match n.opcode, i, o with
  | 0x01, a :: w :: ep, [y] =>
    let k := a.extents.headD 0
    let nn := (w.extents.tail).headD 0
    let batch := a.extents.drop 2
    let bias := n.at8 1 % 2
    decide (2 ≤ a.rank) && decide (2 ≤ w.rank) && w.extents.headD 0 == k && (w.rank == 2 || w.extents.drop 2 == batch) &&
    y.extents == nn :: a.extents.tail && sameClass a w && (ep.take bias).all (isVec nn) &&
    (ep.drop bias).all fun t => isVec nn t || isVec 1 t
  | 0x02, x :: w :: ep, [y] =>
    match x.extents, w.extents, y.extents with
    | [c, wd, h, items], [c', kw, kh, oo], [oo', wo, ho, items'] =>
      let hp := h + n.at8 4 + n.at8 6
      let wp := wd + n.at8 5 + n.at8 7
      c == c' && kh == n.at8 0 && kw == n.at8 1 && oo == oo' && items == items' && decide (kh ≤ hp) && decide (kw ≤ wp) &&
      ho == (hp - kh) / max 1 (n.at8 2) + 1 && wo == (wp - kw) / max 1 (n.at8 3) + 1 && sameClass x w && ep.all (isVec oo)
    | _, _, _ => false
  | 0x03, ts, [y] =>
    broadcastAll (ts.map (·.extents)) == some y.extents &&
    ((img.exprs[n.at32 0]?).getD []).all fun x => x.op != 0 || decide (x.imm < ts.length)
  | 0x04, [x], [y] =>
    (decide (x.rank ≤ n.at8 1) || y.extents == reduceShape (n.at8 1) x.extents) && (decide (n.at8 0 < 4) || isI32 y)
  | 0x05, x :: m, [y] =>
    y.extents == x.extents && m.all fun t => t.format == 6 && t.extents == x.extents.take t.rank
  | 0x06, x :: g, [y] => y.extents == x.extents && g.all (isVec (x.extents.headD 0))
  | 0x07, x :: g, [y] => y.extents == x.extents && g.all (isVec (x.extents.headD 0))
  | 0x08, [x, p], [y] => x.rank == 4 && y.extents == x.extents && isI32 p && p.extents == x.extents.drop 2
  | 0x09, [q, kn, vn, kv, len], [y] =>
    match q.extents with
    | [d, hq, t, items] =>
      d == n.at16 8 && hq == n.at16 4 && kn.extents == [d, n.at16 6, t, items] && vn.extents == kn.extents && kv.cls == 6 &&
      (kv.format == 2 || kv.format == 3 || kv.format == 4) && isI32 len && len.extents == [items] && y.extents == q.extents
    | _ => false
  | 0x0A, tb :: ix :: of_ :: rs, [y] =>
    match ix.extents, of_.extents, y.extents with
    | [k, items], [b1, items1], [w, b, items2] =>
      tb.cls == 2 && tb.rank == 2 && [1, 6, 8, 10].contains tb.format && isIdx ix && isI32 of_ && y.format == 1 && b1 == b + 1 &&
      items1 == items && items2 == items && tb.extents.headD 0 == w && rs.all fun r => r.format == 1 && r.extents == [k, items]
    | _, _, _ => false
  | 0x0B, [tb, ix], [y] => tb.rank == 2 && isIdx ix && y.extents == tb.extents.headD 0 :: ix.extents
  | 0x0C, [dst, ix, src], [] =>
    dst.rank == 2 && isIdx ix && src.extents == dst.extents.headD 0 :: ix.extents && src.format == dst.format &&
    (n.at8 0 == 0 || [1, 0x0B, 0x0C].contains dst.format)
  | 0x0D, [x], [v, ix] =>
    let k := n.at32 0
    decide (x.extents.headD 0 ≤ 1048576) && decide (k ≤ x.extents.headD 0) && v.extents == k :: x.extents.tail &&
    ix.extents == v.extents && isI32 ix
  | 0x0E, [x], [v, ix] => decide (x.extents.headD 0 ≤ 65536) && v.extents == x.extents && ix.extents == x.extents && isI32 ix
  | 0x0F, l :: dr, [tk, ac] =>
    match l.extents with
    | [_, t, items] =>
      l.format == 1 && isI32 tk && isI32 ac && tk.extents == [t, items] && ac.extents == [items] &&
      dr.all fun x => isI32 x && decide (2 ≤ t) && decide (t ≤ 5) && x.extents == [t - 1, items]
    | _ => false
  | 0x10, [s, th], [m] =>
    s.format == 1 && s.rank == 2 && th.cls == 1 && isVec (s.extents.headD 0) th && m.format == 6 && m.extents == s.extents.tail
  | 0x11, [x], [y] => y.extents == x.extents
  | 0x12, [x], [y] => sameFormat y x && (n.at8 0 != 0 || volume x.extents == volume y.extents)
  | 0x20, [x], [y] => decide (1 < n.at8 0) || y.extents == x.extents
  | 0x30, [ad], [dt, st] =>
    ad.format == 0x0C && dt.extents.tail == ad.extents && dt.extents.headD 0 * elemBits dt.format == n.at16 2 * 8 && isI32 st &&
    st.extents == ad.extents
  | 0x31, [ad, dt], [st] =>
    ad.format == 0x0C && dt.extents.tail == ad.extents && dt.extents.headD 0 * elemBits dt.format == n.at16 2 * 8 && isI32 st &&
    st.extents == ad.extents
  | 0x32, ad :: ops, [old, st] =>
    let f := atomicFormat (n.at8 5)
    let sh := if f.2 then 2 :: ad.extents else ad.extents
    ad.format == 0x0C && (old :: ops).all (fun t => t.format == f.1 && t.extents == sh) && isI32 st && st.extents == ad.extents
  | 0x33, [], [st] => isI32 st && st.extents == [1]
  | 0x40, ts, os =>
    ((ts.take os.length).zip os).all (fun p => sameFormat p.1 p.2 && p.1.extents == p.2.extents) &&
    (ts.drop os.length).all fun t => isI32 t && t.rank == 1
  | 0x41, ts, os => (ts.zip os).all fun p => sameFormat p.1 p.2 && p.1.extents == p.2.extents
  | 0x42, [p, a, b], [y] =>
    isMask p && sameFormat a b && a.extents == b.extents && sameFormat y a && y.extents == a.extents && a.perItem && b.perItem &&
    y.perItem && p.extents.getLast? == a.extents.getLast?
  | 0x43, [p], [] => isMask p
  | _, _, _ => false

/-- Whether a Boolean attribute byte is 0 or 1. -/
def isFlag (v : Nat) : Bool := decide (v ≤ 1)

/-- Tokens of one KV page (R133): none when not a whole number of at least 1. -/
def tokensPerPage (hkv d bytes : Nat) : Option Nat :=
  let u := 2 * hkv * d * bytes
  if u = 0 ∨ 65536 % u ≠ 0 then none else some (65536 / u)

/-- Ranges of a node's attributes (R126, R128, R132, R133, R138, R139, R144, R148, R524, R526): detail 0x0D. -/
def attrsOk (img : Image) (n : Node) (i o : List Tensor) : Bool :=
  match n.opcode with
  | 0x01 => decide (n.at8 0 ≤ 5) && decide (n.at8 1 ≤ 3)
  | 0x02 =>
    let kh := n.at8 0
    let kw := n.at8 1
    decide (1 ≤ kh) && decide (kh ≤ 32) && decide (1 ≤ kw) && decide (kw ≤ 32) && decide (1 ≤ n.at8 2) && decide (n.at8 2 ≤ kh) &&
    decide (1 ≤ n.at8 3) && decide (n.at8 3 ≤ kw) && decide (n.at8 8 ≤ 5) && isFlag (n.at8 9) &&
    decide (kh * kw * (i.headD (tensorOf [])).extents.headD 0 ≤ 65536)
  | 0x03 => decide (n.at32 0 < img.exprs.length)
  | 0x04 => decide (n.at8 0 ≤ 5) && i.all fun x => decide (n.at8 1 < x.rank)
  | 0x05 => isFlag (n.at8 4)
  | 0x06 => decide (n.at8 4 ≤ 3)
  | 0x07 => isFlag (n.at8 4)
  | 0x08 => n.at16 4 % 2 == 0 && decide (n.at16 4 ≤ (i.headD (tensorOf [])).extents.headD 0) && isFlag (n.at8 6)
  | 0x09 =>
    let d := n.at16 8
    let kv : Nat := (i[3]?).elim 0 (·.format)
    decide (1 ≤ d) && d % 16 == 0 && decide (d ≤ 256) && decide (1 ≤ n.at16 6) && decide (1 ≤ n.at16 4) &&
    n.at16 4 % max 1 (n.at16 6) == 0 && isFlag (n.at8 10) && (tokensPerPage (n.at16 6) d (if kv = 4 then 1 else 2)).isSome
  | 0x0A => decide (n.at8 0 ≤ 2) && isFlag (n.at8 1)
  | 0x0C => isFlag (n.at8 0)
  | 0x0D => decide (1 ≤ n.at32 0) && decide (n.at32 0 ≤ 1024) && isFlag (n.at8 4)
  | 0x0E => isFlag (n.at8 0)
  | 0x0F =>
    decide (n.at8 0 ≤ 2) && isFlag (n.at8 1) && (n.at8 0 == 0 || fpLt 0 (n.at32 4)) &&
    (n.at8 0 != 2 || (fpLt 0 (n.at32 8) && fpLe (n.at32 8) fpOne))
  | 0x10 => decide (n.at8 0 ≤ 3) && isFlag (n.at8 1)
  | 0x12 =>
    match i, o with
    | [x], [y] =>
      if n.at8 0 = 0 then true
      else
        let p := n.perm x.rank
        n.at8 0 == 1 && p.all (fun v => decide (v < x.rank)) && p.eraseDups.length == x.rank &&
        (List.range (6 - x.rank)).all (fun k => n.at8 (1 + x.rank + k) == 0) &&
        y.extents == p.map (fun v => (x.extents[v]?).getD 0)
    | _, _ => true
  | 0x20 => decide (n.at8 0 ≤ 3) && decide (n.at8 1 ≤ 2)
  | 0x30 => isFlag (n.at8 0) && isFlag (n.at8 1)
  | 0x31 => isFlag (n.at8 0) && isFlag (n.at8 1)
  | 0x32 =>
    isFlag (n.at8 0) && isFlag (n.at8 1) &&
    match AtomicOp.ofCode (n.at8 4), AtomicTy.ofCode (n.at8 5) with
    | some op, some ty => atomicLegal op ty
    | _, _ => false
  | 0x33 => isFlag (n.at8 0) && isFlag (n.at8 1)
  | 0x40 => decide (1 ≤ n.at32 0) && decide (n.at32 0 ≤ 65536) && isFlag (n.at8 4)
  | _ => true

/-- Formats that encode infinity (R47). -/
def hasInfinity (f : Nat) : Bool := f == 1 || f == 2 || f == 3 || f == 5

/-- Targets of a node's narrowing conversions: its value outputs, the cache of ATTENTION, and the Ladder rows that a SCATTER writes (R137). -/
def conversionTargets (n : Node) (i o : List Tensor) : List Tensor :=
  let outs := if n.opcode == 0x0D || n.opcode == 0x0E then o.take 1 else if n.opcode == 0x0F || n.opcode == 0x33 then [] else o
  if n.opcode == 0x09 then outs ++ (i.drop 3).take 1
  else if n.opcode == 0x0C then (i.take 1).filter fun t => [8, 9, 10].contains t.format
  else outs

/-- Whether the rounding and overflow flags are legal (R126). -/
def flagsOk (n : Node) (i o : List Tensor) : Bool :=
  decide (n.flags % 4 ≤ 1) && (!bitOf n.flags 2 || (conversionTargets n i o).all (fun t => hasInfinity t.format))

/-- Whether a node may write its outputs (R117, R120): not read-only, of a class that nodes write; and the destination of a
SCATTER (R137). -/
def outputsOk (n : Node) (i o : List Tensor) : Bool :=
  let remote := decide (0x30 ≤ n.opcode) && decide (n.opcode ≤ 0x32)
  o.all (fun t => !t.readOnly && (t.cls != 7 || remote)) &&
  (n.opcode != 0x0C || (i.take 1).all fun t => !t.readOnly && (t.cls == 0 || t.cls == 2 || t.cls == 6))

/-- Whether the attribute bytes that an opcode does not define are 0 (R126): those after its `na` bytes, and bytes 2 and 3 of SAMPLE. -/
def Node.spareZero (n : Node) (na : Nat) : Bool := allZero (n.attrs.drop na) && (n.opcode != 0x0F || n.at16 2 == 0)

/-- Failures of one node, given the tensors that earlier nodes have produced. -/
def nodeFails (img : Image) (sect : Nat) (made : List Nat) (k : Nat) (n : Node) : List LoadFail :=
  let here := failsAt sect n.at_ k
  let known := (n.inputs ++ n.outputs).all fun t => decide (t < img.tensors.length)
  failsAt sect (n.at_ + 6) k [(decide (n.flags < 8), 0x06)] ++
  match opShape n with
  | none => here [(false, 0x0B)]
  | some (ni, no, na) =>
    if !known || n.inputs.length != ni || n.outputs.length != no then here [(n.spareZero na, 0x06), (false, 0x0B)]
    else
      let i := n.inputs.filterMap (img.tensors[·]?)
      let o := n.outputs.filterMap (img.tensors[·]?)
      let transient := fun (t : Nat) => (img.tensors[t]?).elim false (·.cls == 0)
      let fed := (n.inputs.filter transient).all made.contains
      let fresh := (n.outputs.filter transient).all (fun t => !made.contains t) && n.outputs.eraseDups.length == n.outputs.length
      failsAt sect (n.at_ + 6) k [(flagsOk n i o, 0x0D)] ++
      here [(n.spareZero na, 0x06), (shapeOk img n i o, 0x0C),
            (decide (na ≤ n.attrs.length) && attrsOk img n i o, 0x0D), (outputsOk n i o && fed && fresh, 0x0E)]

/-- Failures of all nodes, in order. -/
def nodesFails (img : Image) (sect : Nat) : List Nat → Nat → List Node → List LoadFail
  | _, _, [] => []
  | made, k, n :: ns => nodeFails img sect made k n ++ nodesFails img sect (n.outputs ++ made) (k + 1) ns

/-- Loop structure (R143, R144): matched, at most 4 deep, pairing formats and shapes, no EXIT_IF inside. The list holds the
open LOOP_BEGIN nodes with their indices, innermost first. -/
def loopFails (img : Image) (sect : Nat) : List (Nat × Node) → Nat → List Node → List LoadFail
  | st, _, [] => (st.map fun b => failsAt sect b.2.at_ b.1 [(false, 0x0F)]).flatten
  | st, k, n :: ns =>
    let bad := failsAt sect n.at_ k [(false, 0x0F)]
    match n.opcode with
    | 0x40 => (if 4 ≤ st.length then bad else []) ++ loopFails img sect ((k, n) :: st) (k + 1) ns
    | 0x41 =>
      match st with
      | [] => bad ++ loopFails img sect [] (k + 1) ns
      | b :: st =>
        let same := (b.2.outputs.zip n.inputs).all fun p =>
          match img.tensors[p.1]?, img.tensors[p.2]? with
          | some x, some y => sameFormat x y && x.extents == y.extents
          | _, _ => true
        failsAt sect n.at_ k [(b.2.outputs.length == n.inputs.length, 0x0F), (same, 0x0C)] ++ loopFails img sect st (k + 1) ns
    | 0x43 => (if st.isEmpty then [] else bad) ++ loopFails img sect st (k + 1) ns
    | _ => loopFails img sect st (k + 1) ns

/-! ## The whole content -/

/-- Features that the content uses (R114): bit 0 SPILLWAY, 1 MICROFORMATS, 2 HIGH_STREAM. -/
def usedFeatures (img : Image) : Nat :=
  let micro := img.tensors.any fun t => t.format == 7 || t.format == 9 || t.format == 10
  let rack := img.nodes.any fun n => decide (0x30 ≤ n.opcode) && decide (n.opcode ≤ 0x33) && n.at8 0 == 1
  let high := decide (1024 < ((img.decls.filter (·.kind == 1)).map (·.decodeStreams)).sum)
  natOf rack + 2 * natOf micro + 4 * natOf high

/-- Whether a sparse tensor is used, and only as a weight operand (R118). -/
def sparseUsed (img : Image) (id : Nat) : Bool :=
  (img.nodes.any fun n => (n.opcode == 1 || n.opcode == 2) && n.inputs[1]? == some id) &&
  img.nodes.all fun n =>
    !(n.inputs ++ n.outputs).contains id ||
    ((n.opcode == 1 || n.opcode == 2) && !n.outputs.contains id && !(without 1 n.inputs).contains id)

/-- Every content failure of an image (R116). -/
def contentFails (features : Nat) (b : List Byte) : List LoadFail :=
  let img := imageOf b
  let sect := fun ty => (sectionOf b ty).elim none32 (·.index)
  let base := fun ty => (sectionOf b ty).elim 0 (·.offset)
  let entries := (sectionTable b).map fun s => failsAt s.index s.entry none32 [(decide (s.flags < 2) && s.reserved == 0, 0x06)]
  let recs := fun (ty size : Nat) (i : Nat) => ((b.drop (base ty + size * i)).take size)
  let tensors := (img.tensors.zipIdx.map fun (t, i) =>
    tensorFails img i (sect 2) (base 2 + 64 * i) (recs 2 64 i) t ++
    (if t.kept = 0 ∨ sparseUsed img i then [] else [.inSection 0x07 (sect 2) (base 2 + 64 * i + 3)]) ++
    (if t.cls = 0 ∧ !img.nodes.any (fun n => n.outputs.contains i) then [.inSection 0x0E (sect 2) (base 2 + 64 * i)] else []))
  let weights := img.weights.zipIdx.map fun (w, i) => weightFails (sect 4) (base 4 + 32 * i) w
  let decls := img.decls.zipIdx.map fun (x, i) => declFails img (sect 5) (base 5 + 32 * i) i (recs 5 32 i) x
  let declCount := failsAt (sect 5) (base 5) none32 [(decide (1 ≤ img.decls.length) && decide (img.decls.length ≤ 8), 0x11)]
  let broken := match (nodeRecords b).2 with
    | some (o, i) => failsAt (sect 1) o i [(false, 0x0B)]
    | none => []
  let used := usedFeatures img
  failsAt none32 0x38 none32 [(u64 b 0x38 == 0, 0x06)] ++
  failsAt none32 0x18 none32 [(img.features == used, 0x09), (used &&& features == used, 0x0A)] ++
  entries.flatten ++ tensors.flatten ++ weights.flatten ++ declCount ++ decls.flatten ++ broken ++ exprFails b ++
  nodesFails img (sect 1) [] 0 img.nodes ++ loopFails img (sect 1) [] 0 img.nodes

/-- The failure to report (R116): lowest detail code, then lowest offset. -/
def firstFail : List LoadFail → Option LoadFail
  | [] => none
  | f :: fs =>
    match firstFail fs with
    | none => some f
    | some g => if g.detail < f.detail ∨ (g.detail = f.detail ∧ g.offset < f.offset) then some g else some f

/-- The checks of a readable image in the order of R116, for the Arbor minor version and the features of the unit. -/
def checkImage (minor features : Nat) (b : List Byte) : Option LoadFail :=
  (checkFrame minor b).or ((checkTable b).or ((checkCrcs b).or (firstFail (contentFails features b))))

end Sys2Proof.Machine
end

