-- ==== Sys2Proof/Machine/Mailbox.lean ====
section
/-!
DEFINITION. The Rantil mailbox (chapter 12): doorbells, the start and the completion of commands, the checks of R370, and
the operations with which a command reads its body and leaves its outcome.
-/

namespace Sys2Proof.Machine

/-! ## Status codes (12) -/

/-- Status OK. -/
def stOk : Nat := 0x0000
/-- Status ACCEPTED (R368). -/
def stAccepted : Nat := 0x0001
/-- Status BAD_OPCODE. -/
def stBadOpcode : Nat := 0x0010
/-- Status BAD_PARAM. -/
def stBadParam : Nat := 0x0011
/-- Status BAD_SESSION. -/
def stBadSession : Nat := 0x0012
/-- Status STATE_CONFLICT. -/
def stConflict : Nat := 0x0020
/-- Status NO_RESOURCE. -/
def stNoResource : Nat := 0x0021
/-- Status NOT_LICENSED. -/
def stNotLicensed : Nat := 0x0022
/-- Status TEMP_RANGE (R372). -/
def stTempRange : Nat := 0x0023
/-- Status INCOMPATIBLE. -/
def stIncompatible : Nat := 0x0024
/-- Status AUTH_FAIL. -/
def stAuthFail : Nat := 0x0025
/-- Status RETRY_AFTER_FAILOVER (R385). -/
def stRetry : Nat := 0x0030
/-- Status DEGRADED (R378). -/
def stDegraded : Nat := 0x0031

/-! ## Opcodes (R375, R377, R380) -/

/-- The state sets of R375. -/
inductive Legal
  | all | op | qry | ses | diag | unlock | enter | cruise | test
  deriving DecidableEq, Repr

/-- One row of the opcode tables: bytes of the listed body fields, session needed, legal states, and whether the command
changes no state (R385). -/
structure OpInfo where
  body : Nat
  session : Bool
  legal : Legal
  query : Bool
  deriving DecidableEq, Repr

/-- The opcode tables (R375) with the bodies of R377 and the sessions of R380. -/
def opInfo : Nat → Option OpInfo
  | 0x0001 => some { body := 0, session := false, legal := .all, query := true }
  | 0x0002 => some { body := 0, session := false, legal := .all, query := true }
  | 0x0003 => some { body := 16, session := false, legal := .all, query := true }
  | 0x0010 => some { body := 20, session := false, legal := .ses, query := false }
  | 0x0011 => some { body := 0, session := true, legal := .ses, query := false }
  | 0x0012 => some { body := 24, session := false, legal := .ses, query := false }
  | 0x0013 => some { body := 0, session := true, legal := .ses, query := true }
  | 0x0100 => some { body := 16, session := true, legal := .op, query := false }
  | 0x0101 => some { body := 4, session := true, legal := .op, query := false }
  | 0x0102 => some { body := 40, session := true, legal := .op, query := false }
  | 0x0103 => some { body := 24, session := true, legal := .qry, query := true }
  | 0x0200 => some { body := 16, session := true, legal := .op, query := false }
  | 0x0201 => some { body := 48, session := true, legal := .op, query := false }
  | 0x0202 => some { body := 2, session := true, legal := .op, query := false }
  | 0x0203 => some { body := 24, session := true, legal := .op, query := false }
  | 0x0204 => some { body := 24, session := true, legal := .op, query := false }
  | 0x0205 => some { body := 2, session := true, legal := .op, query := false }
  | 0x0206 => some { body := 2, session := true, legal := .op, query := false }
  | 0x0207 => some { body := 24, session := true, legal := .op, query := false }
  | 0x0300 => some { body := 32, session := true, legal := .op, query := false }
  | 0x0301 => some { body := 1, session := true, legal := .op, query := false }
  | 0x0302 => some { body := 32, session := true, legal := .op, query := false }
  | 0x0303 => some { body := 0, session := true, legal := .op, query := false }
  | 0x0304 => some { body := 16, session := true, legal := .op, query := false }
  | 0x0305 => some { body := 0, session := true, legal := .qry, query := true }
  | 0x0400 => some { body := 5, session := true, legal := .op, query := false }
  | 0x0401 => some { body := 4, session := true, legal := .op, query := false }
  | 0x0402 => some { body := 2, session := true, legal := .op, query := false }
  | 0x0403 => some { body := 0, session := true, legal := .ses, query := true }
  | 0x0404 => some { body := 8, session := true, legal := .op, query := false }
  | 0x0405 => some { body := 0, session := true, legal := .qry, query := true }
  | 0x0406 => some { body := 16, session := true, legal := .op, query := false }
  | 0x0500 => some { body := 12, session := true, legal := .op, query := false }
  | 0x0501 => some { body := 16, session := true, legal := .op, query := false }
  | 0x0502 => some { body := 0, session := true, legal := .op, query := false }
  | 0x0503 => some { body := 1, session := true, legal := .op, query := false }
  | 0x0504 => some { body := 256, session := true, legal := .op, query := false }
  | 0x0505 => some { body := 0, session := true, legal := .ses, query := true }
  | 0x0506 => some { body := 136, session := true, legal := .unlock, query := false }
  | 0x0600 => some { body := 24, session := true, legal := .ses, query := true }
  | 0x0601 => some { body := 24, session := true, legal := .ses, query := true }
  | 0x0602 => some { body := 16, session := true, legal := .ses, query := true }
  | 0x0603 => some { body := 1, session := true, legal := .qry, query := true }
  | 0x0604 => some { body := 9, session := true, legal := .diag, query := false }
  | 0x0605 => some { body := 32, session := true, legal := .cruise, query := true }
  | 0x0700 => some { body := 1, session := true, legal := .enter, query := false }
  | 0x0701 => some { body := 0, session := true, legal := .test, query := false }
  | _ => none

/-- Whether a device state is in a state set (R375). -/
def Dev.legal (d : Dev) : Legal → Bool
  | .all => true
  | .op => d.hg.devState == .ready || d.hg.devState == .service
  | .qry => d.hg.devState == .ready || d.hg.devState == .service || d.hg.devState == .test || d.hg.devState == .safeHold
  | .ses => d.hg.devState != .bringup
  | .diag => d.hg.devState == .ready || d.hg.devState == .service || d.hg.devState == .test || d.hg.devState == .debug
  | .unlock => d.hg.devState == .ready || d.hg.devState == .debug
  | .enter => (d.hg.devState == .ready && d.str.list.isEmpty) || d.hg.devState == .debug
  | .cruise => d.hg.devState == .ready || d.hg.devState == .service || d.hg.devState == .test
  | .test => d.hg.devState == .test

/-! ## Headers and bodies -/

/-- Opcode of the captured command. -/
def Channel.opcode (c : Channel) : Nat := u16 c.hdr 0
/-- Flags of the captured command. -/
def Channel.flags (c : Channel) : Nat := u16 c.hdr 2
/-- Sequence number of the captured command. -/
def Channel.seq (c : Channel) : Nat := u32 c.hdr 4
/-- Session field of the captured command. -/
def Channel.session (c : Channel) : Nat := u32 c.hdr 8
/-- Body length of the captured command. -/
def Channel.bodyLen (c : Channel) : Nat := u16 c.hdr 12
/-- The command body: body_length bytes of the captured page. -/
def Channel.cmdBody (c : Channel) : List Byte := c.body.take c.bodyLen

/-- An open session that is not ORPHANED and not closing. -/
def Dev.sessionOk (d : Dev) (id : Nat) : Bool :=
  match d.session? id with
  | some s => s.orphaned.isNone && !s.closing
  | none => false

/-- Leave the outcome of a running command for COMMAND_COMPLETE; a command that changed state is journaled with it (R385). -/
def Dev.answer (ch status : Nat) (body : List Byte) (effect : Nat) (d : Dev) : Dev :=
  let done := status == stOk || status == stAccepted || status == stDegraded
  d.onChan ch fun c =>
    { c with outcome := some { status, body, effect }, journaled := done && (opInfo c.opcode).elim false (fun i => !i.query) }

/-- A failing status without a body: no side effect (R370). -/
def Dev.fail (ch status : Nat) (d : Dev) : Dev := d.answer ch status [] 0

/-- STATE_CONFLICT with its conflict block, after any body of the command's own rules (R371). -/
def Dev.failConflict (ch : Nat) (pre : List Byte) (object state id : Nat) (d : Dev) : Dev :=
  d.answer ch stConflict (pre ++ d.conflict object state id) 0

/-- STATE_CONFLICT on account of the device state or a mode axis. -/
def Dev.failState (ch : Nat) (d : Dev) : Dev := d.failConflict ch [] 0 0 none32

/-- Whether a channel RUNS a command of an opcode that has no outcome yet, while a Ranger runs it. -/
def Dev.runs (d : Dev) (op ch : Nat) : Bool :=
  let c := d.chan ch
  c.st == .running && c.opcode == op && c.outcome.isNone && d.fw.handover.isNone

/-- Run a mailbox command: nothing unless the channel runs a command of that opcode (log 3). A command that the entry to
SAFE_HOLD finds running and that is not legal there ends with STATE_CONFLICT (R386). The effect is given the command's
session and its body. -/
def Dev.onCommand (op ch : Nat) (f : Nat → List Byte → Dev → Dev) (d : Dev) : Dev :=
  if d.runs op ch then
    if d.hg.devState = .safeHold ∧ !((opInfo op).elim false fun i => d.legal i.legal) then d.failState ch
    else f (d.chan ch).session (d.chan ch).cmdBody d
  else d

/-! ## Objects (R369, R529) -/

/-- Whether an object of a kind and id belongs to a session: 1 graph, 2 stream, 3 ring, 5 region (R529). -/
def Dev.owns (d : Dev) (session kind id : Nat) : Bool :=
  match kind with
  | 1 => d.gr.list.any fun g => g.handle == id && g.session == session
  | 2 => d.str.list.any fun s => s.id == id && s.session == session
  | 3 => (d.str.intakes.any fun r => r.handle == id && r.session == session) ||
      (d.str.results.any fun r => r.handle == id && r.session == session)
  | 5 => d.gr.regions.any fun r => r.handle == id && r.session == session
  | _ => false

/-- Objects that a command names in its body (R369): kind and id. -/
def Channel.names (c : Channel) : List (Nat × Nat) :=
  let b := c.cmdBody
  match c.opcode with
  | 0x0101 => [(1, u32 b 0)]
  | 0x0102 => [(1, u32 b 0)]
  | 0x0207 => [(1, u32 b 0), (5, u64 b 16)]
  | 0x0103 => [(1, u32 b 0)]
  | 0x0201 => (1, u32 b 0) :: (2, u16 b 6) :: (3, u32 b 8) :: (List.range (min (u8 b 5) 8)).map (fun k => (3, u32 b (16 + 4 * k)))
  | 0x0202 => [(2, u16 b 0)]
  | 0x0205 => [(2, u16 b 0)]
  | 0x0206 => [(2, u16 b 0)]
  | 0x0300 => if bitOf (u8 b 1) 1 then [(5, u64 b 24)] else []
  | 0x0012 => [(4, u32 b 0)]
  | 0x0011 => [(4, c.session)]
  | _ => []

/-- Objects that a command names and that are its session's (R529); the session of SESSION_REATTACH and SESSION_CLOSE, and the graph of
any session of GRAPH_QUERY. -/
def Dev.namedBy (d : Dev) (c : Channel) : List (Nat × Nat) :=
  c.names.filter fun o => o.1 == 4 || c.opcode == 0x0103 || d.owns c.session o.1 o.2

/-- An object on which another running command acts (R369). -/
def Dev.busyObject (d : Dev) (c : Channel) : Option (Nat × Nat) :=
  let others := d.mb.chans.filter fun x => x.ch != c.ch && x.st == .running
  (d.namedBy c).find? fun o => others.any fun x => (d.namedBy x).contains o

/-! ## Doorbell (R366, R382) -/

/-- Whether a channel's last doorbell was accepted before another's. -/
def Dev.cameBefore (d : Dev) (a b : Nat) : Bool := (d.mb.order.takeWhile (· != b)).contains a

/-- A session becomes ORPHANED (R382): recorded. -/
def Dev.orphan (id : Nat) (d : Dev) : Dev :=
  (d.onSession id fun s => { s with orphaned := some d.tb.ns }).log 0 0 0x0601 1

/-- Whether a session has had no doorbell for 5 s (R382); the gap of a switch-over does not count (R385). -/
def Dev.silent (d : Dev) (s : Session) : Bool :=
  s.orphaned.isNone && !s.closing && d.fw.handover.isNone && decide (s.lastDoorbell + 5000000000 ≤ d.tb.ns)

/-- Whether host accesses to the mailbox BAR reach it (R365, R357). -/
def Dev.mailboxOpen (d : Dev) : Bool := d.hg.linkWidth != 0 && d.hg.mbReady && d.hg.ide != 2

/-- An accepted doorbell (R366): the command is copied, xtb_accepted recorded, ST QUEUED; activity of its session (R382). At
or after the 5 s instant the session is ORPHANED first (R386). -/
def Dev.acceptDoorbell (ch : Nat) (d : Dev) : Dev :=
  let c := d.chan ch
  let hdr := cellsRead c.page 0 64
  let body := cellsRead c.page 64 960
  let id := u32 hdr 8
  let d1 := d.onChan ch fun c =>
    { c with st := .queued, hdr, body, accepted := d.tb.ns, outcome := none, journaled := false }
  let d2 := { d1 with mb.queue := d1.mb.queue ++ [ch], mb.order := d1.mb.order.filter (· != ch) ++ [ch] }
  match d2.session? id with
  | some s =>
    if d2.silent s then d2.orphan id
    else if s.orphaned.isNone && !s.closing then d2.onSession id fun s => { s with lastDoorbell := d.tb.ns }
    else d2
  | none => d2

/-- A host write of MB.DOORBELL as one 8-byte store (R366). -/
def mbDoorbell (ch : Nat) (value : Word) (d : Dev) : Dev :=
  if !d.mailboxOpen then d
  else if !value.getLsbD 32 then d
  else
    let c := d.chan ch
    let seq := value.toNat % 2 ^ 32
    if c.st = .queued ∨ c.st = .running then d.onChan ch fun c => { c with errBusy := true }
    else if leNat (cellsRead c.page 4 4) ≠ seq ∨ seq = c.lastSeq then d.onChan ch fun c => { c with errSeq := true }
    else d.acceptDoorbell ch

/-- MB_DOORBELL_WRITE (R366). -/
def execMbDoorbellWrite (ch : Nat) (value : Word) (s : State) : Result := s.run (.mbDoorbellWrite ch value) (mbDoorbell ch value)

/-! ## Start (R369, R370) -/

/-- Channels whose commands are RUNNING. -/
def Dev.running (d : Dev) : Nat := (d.mb.chans.filter (·.st == .running)).length

/-- The channel whose command starts next (R369): doorbell order, at most 16 at once, none in the gap of a switch-over
(R385), none once the handoff block of a live activation is written (R474). -/
def Dev.nextStart (d : Dev) : Option Nat :=
  if d.hg.mbReady && d.fw.rangerUp && d.fw.handover.isNone && decide (d.running < 16) && !d.fw.live.elim false (·.block) then d.mb.queue.head? else none

/-- Checks 1 to 4 of R370 and the conflict of R369: none when the command's own rules apply next. -/
def Dev.startCheck (d : Dev) (c : Channel) : Option (Nat × List Byte) :=
  match opInfo c.opcode with
  | none => some (stBadOpcode, [])
  | some i =>
    let n := c.bodyLen
    if c.flags / 2 ≠ 0 ∨ !allZero (c.hdr.drop 14) ∨ 960 < n ∨ n < i.body ∨ (i.body = 0 ∧ n ≠ 0) then some (stBadParam, [])
    else if i.session ∧ !d.sessionOk c.session then some (stBadSession, [])
    else if !d.legal i.legal then some (stConflict, d.conflict 0 0 none32)
    else if c.opcode ≠ 0x0304 ∧ !allZero (c.cmdBody.drop i.body) then some (stBadParam, [])
    else match d.busyObject c with
      | some o => some (stConflict, d.conflict 6 0 o.2)
      | none => none

/-- Whether the host's Rantil version matches the firmware's (R373): the same major, minor at least the host's. -/
def Dev.versionMatches (d : Dev) : Bool := d.mb.hostRantil.1 == d.fw.running.rantilMajor && decide (d.mb.hostRantil.2 ≤ d.fw.running.rantilMinor)

/-- The command at the head of the queue starts (R367, R369): ST RUNNING, and the checks that can decide it at once. -/
def commandStart (d : Dev) : Dev :=
  match d.nextStart with
  | none => d
  | some ch =>
    let d1 := { d.onChan ch (fun c => { c with st := .running }) with mb.queue := d.mb.queue.tail }
    match d1.startCheck (d1.chan ch) with
    | some (status, body) => d1.answer ch status body 0
    | none => d1

/-- COMMAND_START (R369). A command other than DEV_QUERY of a host whose version does not match has undefined behaviour
(R19): a fault. -/
def execCommandStart (s : State) : Result :=
  match s.dev.nextStart with
  | some ch =>
    if (s.dev.chan ch).opcode ≠ 0x0001 ∧ !s.dev.versionMatches then .fault .versionMismatch
    else s.run .commandStart commandStart
  | none => s.run .commandStart commandStart

/-! ## Completion (R367, R368) -/

/-- The 64 bytes of a response header (12). -/
def responseHeader (status seq accepted completed len effect : Nat) : List Byte :=
  leBytes 2 status ++ zeros 2 ++ leBytes 4 seq ++ leBytes 8 accepted ++ leBytes 8 completed ++ leBytes 2 len ++ zeros 6 ++
  leBytes 8 effect ++ zeros 24

/-- The response of a channel is written and ST becomes DONE (R367). -/
def Dev.respond (ch : Nat) (o : CmdOutcome) (d : Dev) : Dev :=
  let c := d.chan ch
  let d1 := d.onChan ch fun c =>
    { c with st := .done, lastSeq := c.seq, doneCount := (c.doneCount + 1) % 2 ^ 32, outcome := none, journaled := false
             retried := c.retried || o.status == stRetry, rspBody := o.body ++ c.rspBody.drop o.body.length
             rspHdr := responseHeader o.status c.seq c.accepted d.tb.ns o.body.length o.effect }
  if c.flags % 2 = 1 then d1.sendMsix (1 + ch) else d1

/-- What follows the response: DEBUG_UNLOCK and TEST_MODE_EXIT restart the device within 1 ms of it (R376). -/
def Dev.afterResponse (op : Nat) (o : CmdOutcome) (d : Dev) : Dev :=
  if (op = 0x0506 ∨ op = 0x0701) ∧ o.status = stAccepted then { d with fw.restartAt := some (d.tb.ns + 1000000) } else d

/-- The first boundary of a schedule strictly after an instant (R169). -/
def firstAfter (period epoch t : Nat) : Nat := epoch + ((t - epoch) / period + 1) * period

/-- A channel's ROUND_CONFIG takes effect as its response is written (R169): the round in progress ends, and the response gives the first
boundary of the new schedule. -/
def Dev.newSchedule (ch : Nat) (o : CmdOutcome) (d : Dev) : CmdOutcome × Dev :=
  match d.rd.pending.find? (·.ch == ch) with
  | none => (o, d)
  | some n =>
    let first := firstAfter n.period n.epoch d.tb.ns
    ({ o with body := leBytes 8 first, effect := first },
     { d with rd.period := n.period, rd.epoch := n.epoch, rd.timeout := n.timeout, rd.active := false, rd.next := first })

/-- Where a response body gives the master count at the response, and its bytes (R167, R306; 12). -/
def Dev.countAt (d : Dev) : Nat → Option (Nat × List Byte)
  | 0x0001 => some (40, leBytes 8 d.tb.ns)
  | 0x0013 => some (8, leBytes 8 d.tb.ns)
  | 0x0405 => some (8, leBytes 8 d.tb.ns ++ leBytes 2 d.tb.frac)
  | 0x0605 => some (16, leBytes 8 d.tb.ns)
  | _ => none

/-- A response body that gives the count gives it as the response is written. -/
def Dev.countInBody (d : Dev) (op : Nat) (o : CmdOutcome) : CmdOutcome :=
  match d.countAt op with
  | some (off, bs) => if o.status = stOk then { o with body := patch o.body off bs } else o
  | none => o

/-- A running command completes with an outcome (R367): for ROUND_CONFIG the new schedule begins now. -/
def Dev.complete (ch : Nat) (o : CmdOutcome) (d : Dev) : Dev :=
  let op := (d.chan ch).opcode
  let r := if op = 0x0200 ∧ o.status = stAccepted then d.newSchedule ch o
    else (d.countInBody op o, d)
  let d1 := { r.2 with rd.pending := r.2.rd.pending.filter (·.ch != ch) }
  (d1.respond ch r.1).afterResponse op r.1

/-- A running command that has its outcome completes (R367); none does in the gap of a switch-over (R385). -/
def commandComplete (ch : Nat) (d : Dev) : Dev :=
  match (d.chan ch).outcome with
  | some o => if (d.chan ch).st = .running ∧ d.fw.handover = none then d.complete ch o else d
  | none => d

/-- COMMAND_COMPLETE (R367). -/
def execCommandComplete (ch : Nat) (s : State) : Result := s.run (.commandComplete ch) (commandComplete ch)

end Sys2Proof.Machine
end

