-- ==== Sys2Proof/Machine/HostPort.lean ====
section
/-!
DEFINITION. The host port (chapter 11): register writes, restart, link, IDE, DOE; and the queries of the device itself
(chapter 12).
-/

namespace Sys2Proof.Machine

/-! ## Register writes (R350, R364, R13) -/

/-- Whether an access is naturally aligned of 4 or 8 bytes (R350, R364). -/
def aligned48 (off size : Nat) : Bool := (size == 4 || size == 8) && off % size == 0

/-- The 64-bit word that an access of 4 or 8 bytes at an offset writes, and the mask of its bits. -/
def accessWord (off size : Nat) (value : Word) : Word × Word :=
  if size = 8 then (value, BitVec.allOnes 64)
  else
    let v : Word := value &&& 0xFFFFFFFF
    if off % 8 = 0 then (v, 0xFFFFFFFF) else (v <<< 32, (0xFFFFFFFF : Word) <<< 32)

/-- A full device reset at the host's or the board's request (R362): bring-up begins when the input is good. -/
def Dev.restart (keepLatch : Bool) (d : Dev) : Dev :=
  { d.restarted keepLatch d.th.tripped.isSome with hg.hostMem := d.hg.hostMem }

/-- A write of HG.DOORBELL (R351). -/
def hgDoorbell (value : Word) (d : Dev) : Dev :=
  if d.hg.linkWidth = 0 then d
  else if value.toNat % 65536 = 0x5A3C ∧ value.getLsbD 16 then d.restart false
  else d.setErr 3

/-- A write of a Headgate register (R13, R350). -/
def writeHg (off size : Nat) (value : Word) (d : Dev) : Dev :=
  if !aligned48 off size then d.setErr 3
  else
    let a := accessWord off size value
    match off / 8 * 8 with
    | 0x028 => { d with hg.errstat := d.hg.errstat &&& ~~~a.1 }
    | 0x030 => { d with hg.intstat := d.hg.intstat &&& ~~~a.1 }
    | 0x038 => { d with hg.intmask := ((d.hg.intmask &&& ~~~a.2) ||| a.1) &&& 0x3F }
    | 0x040 => if off = 0x040 then hgDoorbell value d else d.setErr 3
    | _ => d

/-- A write of the MSI-X table (R349, R352): word 3 of an entry holds its mask bit. -/
def writeMsix (off size : Nat) (value : Word) (d : Dev) : Dev :=
  if !aligned48 off size then d
  else
    let set := fun (w v : Nat) (d : Dev) =>
      let vec := w / 4
      if w % 4 = 3 then
        let rest := d.hg.msixUnmasked.filter (· != vec)
        { d with hg.msixUnmasked := if v % 2 = 0 then rest ++ [vec] else rest }
      else
        let rest := d.hg.msixTable.filter (fun e => !(e.1 == vec && e.2.1 == w % 4))
        { d with hg.msixTable := if v = 0 then rest else rest ++ [(vec, w % 4, v)] }
    let w := off / 4
    let d1 := set w (value.toNat % 2 ^ 32) d
    (if size = 8 then set (w + 1) (value.toNat / 2 ^ 32) d1 else d1).flushMsix

/-- A write of the control BAR (R349, R350). -/
def writeControl (off size : Nat) (value : Word) (d : Dev) : Dev :=
  if off < 0x1000 then writeHg off size value d
  else if off < 0x1400 then (if aligned48 off size then d else d.setErr 3)
  else if 0x10000 ≤ off ∧ off < 0x18000 then writeMsix (off - 0x10000) size value d
  else d

/-- A write of the mailbox BAR (R364, R365). -/
def writeMailbox (off size : Nat) (value : Word) (d : Dev) : Dev :=
  if !d.mailboxOpen then d
  else
    let ch := off / 0x1000
    let o := off % 0x1000
    if 256 ≤ ch then d
    else if o < 0x400 then
      if (size = 1 ∨ size = 2 ∨ size = 4 ∨ size = 8) ∧ o % size = 0 then
        d.onChan ch fun c => { c with page := cellsWrite c.page o (leBytes size value.toNat) }
      else d
    else if 0xF00 ≤ o ∧ o < 0xF18 then
      if !aligned48 o size ∨ (o < 0xF08 ∧ size ≠ 8) then d.setErr 3
      else if o < 0xF08 then mbDoorbell ch value d
      else if o = 0xF08 then
        d.onChan ch fun c => { c with errBusy := c.errBusy && !value.getLsbD 3, errSeq := c.errSeq && !value.getLsbD 4
                                      retried := c.retried && !value.getLsbD 5 }
      else d
    else d

/-- A write of a configuration field (R352, R358): messages that can now be sent are sent. -/
def writeConfig (r : CfgReg) (value : Word) (d : Dev) : Dev :=
  let on := value.getLsbD 0
  match r with
  | .busMaster => Dev.flushMsix { d with hg.bme := on }
  | .msixEnable => Dev.flushMsix { d with hg.msixEn := on }
  | .msixMask => Dev.flushMsix { d with hg.msixFnMask := on }
  | .cacheEnable => { d with hg.cacheEn := on }
  | .hdmCommit => { d with hg.memEn := on }
  | .hdmBase => { d with hg.hdmBase := value.toNat }

/-- A host write to a register or field (R13): nothing arrives while the link is down. -/
def registerWrite (target : RegTarget) (value : Word) (d : Dev) : Dev :=
  if d.hg.linkWidth = 0 then d
  else match target with
    | .control off size => writeControl off size value d
    | .mailbox off size => writeMailbox off size value d
    | .config r => writeConfig r value d

/-- REGISTER_WRITE (R13). -/
def execRegisterWrite (target : RegTarget) (value : Word) (s : State) : Result :=
  s.run (.registerWrite target value) (registerWrite target value)

/-- HG_DOORBELL_RESTART (R351). -/
def execHgDoorbellRestart (value : Word) (s : State) : Result := s.run (.hgDoorbellRestart value) (hgDoorbell value)

/-- A vector is unmasked (R352): its pending message is sent when it can be. -/
def msixUnmask (v : Nat) (d : Dev) : Dev :=
  if d.hg.linkWidth = 0 then d else Dev.flushMsix { d with hg.msixUnmasked := insertNew v d.hg.msixUnmasked }

/-- MSIX_UNMASK (R352). -/
def execMsixUnmask (vector : Nat) (s : State) : Result := s.run (.msixUnmask vector) (msixUnmask vector)

/-! ## Link (R348, R349) -/

/-- The link comes up (R349): below x16 at 64 GT/s LINK_DEGRADED is set and the event recorded (R348). -/
def linkUp (width rate : Nat) (lopt : Bool) (d : Dev) : Dev :=
  if d.bu.perst || d.th.heldInReset then d
  else
    let d1 := Dev.flushMsix { d with hg.linkWidth := width, hg.linkRate := rate, hg.lopt := lopt }
    if width = 16 ∧ rate = 6 then d1 else (d1.setErr 5).notice 0 0

/-- LINK_UP (R348). -/
def execLinkUp (width rate : Nat) (lopt : Bool) (s : State) : Result := s.run (.linkUp width rate lopt) (linkUp width rate lopt)

/-! ## IDE (R357) -/

/-- Whether the device key is usable (R483): MANUFACTURE and DEPLOYED. -/
def Dev.keyUsable (d : Dev) : Bool := d.fw.lifecycle == 0 || d.fw.lifecycle == 1

/-- An integrity check of a secured stream fails (R357). -/
def ideFail (d : Dev) : Dev := if d.hg.ide = 1 then Dev.setErr 2 { d with hg.ide := 2 } else d

/-- IDE_INTEGRITY_FAIL (R357). -/
def execIdeIntegrityFail (s : State) : Result := s.run .ideIntegrityFail ideFail

/-- The host completes an IDE_KM key exchange (R357): SECURE, unless the lifecycle rules it out (R483). -/
def ideKeys (d : Dev) : Dev := if d.hg.linkWidth ≠ 0 ∧ d.keyUsable then { d with hg.ide := 1 } else d

/-- IDE_KEY_EXCHANGE (R357). -/
def execIdeKeyExchange (s : State) : Result := s.run .ideKeyExchange ideKeys

/-! ## DOE (R347, R482) -/

/-- The 64 bytes of a configuration record (R479). -/
def ConfigRec.bytes (c : ConfigRec) : List Byte :=
  let body := leBytes 4 0x46434250 ++ leBytes 2 1 ++ zeros 2 ++ leBytes 8 c.generation ++ leBytes 1 c.memtest ++
    leBytes 1 c.plane3 ++ leBytes 1 c.mirror ++ leBytes 1 c.tbMode ++ leBytes 4 c.ppsDelay ++ leBytes 4 c.cap ++
    c.coolant ++ zeros 16
  body ++ leBytes 4 (crc32c body)

/-- The configuration record in force (R479): of the valid copies, the one of the higher generation; defaults when none. -/
def Dev.conf (d : Dev) : ConfigRec :=
  match d.fw.conf0, d.fw.conf1 with
  | some a, some b => if a.generation < b.generation then b else a
  | some a, none => a
  | none, some b => b
  | none, none => ConfigRec.default

/-- A new copy of the configuration record in which only some fields change (R479): the copy of the older generation, or the
invalid one, is written (R467). -/
def Dev.writeConf (f : ConfigRec → ConfigRec) (d : Dev) : Dev :=
  let c := d.conf
  let new := { f c with generation := c.generation + 1 }
  let second := match d.fw.conf0, d.fw.conf1 with
    | some a, some b => decide (b.generation ≤ a.generation)
    | some _, none => true
    | none, _ => false
  if second then { d with fw.conf1 := some new } else { d with fw.conf0 := some new }

/-- A measurement (R482). -/
def Dev.measurement (d : Dev) (index : Nat) : Option (List Nat) :=
  match index with
  | 1 => some [Config.imageDigest 1 0]
  | 2 => some [Config.imageDigest 2 d.fw.running.version]
  | 3 => some [Config.imageDigest 3 d.fw.running.version]
  | 4 => some [d.fw.lifecycle, natOf d.fw.debugLatch, d.th.policy]
  | 5 => some [d.fw.fuseF, d.fw.running.rollback]
  | 6 => some [d.fw.features]
  | 7 => some [Config.sha256 d.conf.bytes]
  | 8 => some [Config.imageDigest 8 d.fw.serial]
  | _ => none

/-- The answer to an SPDM request (R482, R483): requests that need a signature or a key exchange are answered with an ERROR
while the device key is unusable or destroyed; a chain whose key does not match is not served, and recorded. -/
def spdmAnswer (req : SpdmReq) (d : Dev) : Dev :=
  let put := fun (code : Nat) (error : Bool) (data : List Nat) (d : Dev) =>
    { d with hg.doeOut := { code, error, data } :: d.hg.doeOut }
  let signed := fun (code : Nat) (data : List Nat) (d : Dev) =>
    if d.keyUsable then put code false (data ++ [Config.spdmSign (d.free :: d.fw.serial :: code :: data)]) d.draw
    else put code true [] d
  match req with
  | .getCertificate =>
    if Config.sigValid 3 Config.certChain then put 0x82 false (Config.certChain.map (·.toNat)) d
    else (put 0x82 true [] d).notice 0 0
  | .challenge nonce => signed 0x83 [nonce] d
  | .getMeasurements i =>
    match d.measurement i with
    | some m => signed 0xE0 (i :: m) d
    | none => put 0xE0 true [] d
  | .keyExchange x => signed 0xE4 [x] d
  | .other c => put c false [] d

/-- An SPDM request over DOE (R347): DOE is served while the link is up. -/
def spdmRequest (req : SpdmReq) (d : Dev) : Dev := if d.hg.linkWidth = 0 then d else spdmAnswer req d

/-- SPDM_REQUEST (R482). -/
def execSpdmRequest (req : SpdmReq) (s : State) : Result := s.run (.spdmRequest req) (spdmRequest req)

/-- The CDAT structures (11): DSMAS handle, base, length; read and write latency, ns; bandwidths, MB/s; DSEMTS handle and
EFI_MEMORY_SP. -/
def Dev.cdat (d : Dev) : List Nat := [0, 0, decoderSize d.mBytes, 420, 300, 121000, 121000, 0, 1]

/-- CDAT table access over DOE (R347). -/
def cdatAccess (d : Dev) : Dev :=
  if d.hg.linkWidth = 0 then d else { d with hg.doeOut := { code := 2, error := false, data := d.cdat } :: d.hg.doeOut }

/-- CDAT_TABLE_ACCESS (R347). -/
def execCdatTableAccess (s : State) : Result := s.run .cdatTableAccess cdatAccess

/-! ## DEV_QUERY, DEV_STATE, BRINGUP_LOG_READ -/

/-- Logical cores of a site that are present (R28, R458). -/
def Dev.siteCores (d : Dev) (site : Nat) : Nat :=
  if d.inService site then
    ((List.range 125).map fun s => match d.physStand site s with
      | some p => 8 + min 12 (13 - (d.sp.coresOut.filter (fun c => c.1 == site && c.2.1 == p && c.2.2 < 13)).length)
      | none => 0).sum
  else 0

/-- Licensed decode streams (R202). -/
def Dev.decodeLimit (d : Dev) : Nat := if bitOf d.fw.features 2 then 4096 else 1024

/-- DEV_QUERY response body, 64 bytes (12). -/
def Dev.queryBody (d : Dev) : List Byte :=
  leBytes 2 d.fw.running.rantilMajor ++ leBytes 2 d.fw.running.rantilMinor ++ leBytes 4 d.fw.running.version ++ leBytes 8 d.fw.serial ++
  leBytes 2 d.fw.running.arborMinor ++ leBytes 2 d.siteCount ++ leBytes 2 d.stackCount ++
  leBytes 1 (8 - (d.sw.ports.filter (·.retired)).length) ++ leBytes 1 255 ++
  leBytes 4 ((computeSites.map d.siteCores).sum) ++ leBytes 4 d.standCount ++ leBytes 4 d.fw.features ++
  leBytes 2 d.decodeLimit ++ zeros 2 ++ leBytes 8 d.tb.ns ++ zeros 16

/-- DEV_QUERY (R373). -/
def devQuery (ch : Nat) (d : Dev) : Dev := d.onCommand 0x0001 ch fun _ _ d => d.answer ch stOk d.queryBody 0
/-- DEV_QUERY (R373). -/
def execDevQuery (ch : Nat) (s : State) : Result := s.run (.devQuery ch) (devQuery ch)

/-- DEV_STATE (R374). -/
def devStateCmd (ch : Nat) (d : Dev) : Dev := d.onCommand 0x0002 ch fun _ _ d => d.answer ch stOk d.stateBody 0
/-- DEV_STATE (R374). -/
def execDevState (ch : Nat) (s : State) : Result := s.run (.devState ch) (devStateCmd ch)

/-- The 32 bytes of a bring-up log entry (R433). -/
def BringLog.bytes (e : BringLog) : List Byte :=
  leBytes 8 e.xtb ++ leBytes 1 e.stage ++ leBytes 1 e.kind ++ leBytes 2 e.cause ++ zeros 4 ++ leBytes 8 e.unit ++ leBytes 8 e.value

/-- Entry k of HG.STAGELOG (R432). -/
def Dev.stageEntry (d : Dev) (k : Nat) : List Byte := padTo 64 ((valueOf k d.hg.stageLog).getD [])

/-- Whether a response buffer can be written at a DPA: 64-byte aligned device memory (R375). -/
def Dev.bufferOk (d : Dev) (a n : Nat) : Bool := a % 64 == 0 && d.hbmRange a n

/-- BRINGUP_LOG_READ (R375, R433): stage reports in the body, log entries to the buffer; a buffer in memory that is not
initialised yet takes nothing. -/
def bringupLogRead (ch : Nat) (d : Dev) : Dev :=
  d.onCommand 0x0003 ch fun _ b d =>
    let dpa := u64 b 0
    let len := u32 b 8
    if dpa % 64 ≠ 0 ∨ len % 32 ≠ 0 then d.fail ch stBadParam
    else
      let es := (d.bu.log.reverse.drop (u32 b 12)).take (len / 32)
      let ok := d.mem.ready && d.hbmRange dpa len
      let d1 := onlyIf ok (Dev.store dpa (es.map BringLog.bytes).flatten) d
      let reports := ((List.range 10).map d.stageEntry).flatten
      d1.answer ch stOk (reports ++ leBytes 4 (if ok then es.length else 0) ++ leBytes 4 d.bu.log.length) 0
/-- BRINGUP_LOG_READ (R433). -/
def execBringupLogRead (ch : Nat) (s : State) : Result := s.run (.bringupLogRead ch) (bringupLogRead ch)

end Sys2Proof.Machine
end

