-- ==== Sys2Proof/Machine/Real.lean ====
section
/-!
DEFINITION. The error bounds of R67: an exact value as a fixed-point number of 1,024 fraction bits, the FP32 codes that lie within
a bound of it, and a free choice among them (log 17). The functions are summed until what is left out lies far below every bound.
-/

namespace Sys2Proof.Machine

/-! ## Fixed-point numbers -/

/-- Fraction bits of an exact value. -/
def fixBits : Nat := 1024
/-- 1 in fixed point. -/
def fixOne : Int := (2 ^ fixBits : Nat)
/-- What a series and its roundings may lack: 2^-512. -/
def fixSlack : Int := (2 ^ 512 : Nat)

/-- A finite value in fixed point; exact down to 2^-1024. -/
def Val.fix : Val → Int
  | .fin neg m e =>
    let k : Int := e + (fixBits : Int)
    let v : Int := if 0 ≤ k then (m * 2 ^ k.toNat : Nat) else (m / 2 ^ (-k).toNat : Nat)
    if neg then -v else v
  | _ => 0

/-- Whether a value is neither a NaN nor an infinity. -/
def Val.finite : Val → Bool
  | .fin _ _ _ => true
  | _ => false

/-- Product in fixed point. -/
def fixMul (a b : Int) : Int := a * b / fixOne
/-- Quotient in fixed point. -/
def fixDiv (a b : Int) : Int := a * fixOne / b
/-- Square root in fixed point, of a value that is not negative. -/
def fixSqrt (a : Int) : Int := (isqrt (a.toNat * 2 ^ fixBits) : Nat)

/-- Sum of `n` terms of a series, each from the one before it. -/
def fixSeries (next : Nat → Int → Int) : Nat → Nat → Int → Int
  | 0, _, _ => 0
  | n + 1, k, t => t + fixSeries next n (k + 1) (next k t)

/-- Sum over odd powers: x + x³/3 ± ... with the sign of each further term. -/
def fixOdd (sign x : Int) (n : Nat) : Int :=
  let x2 := sign * fixMul x x
  ((List.range n).foldl (fun (p : Int × Int) k => (p.1 + p.2 / (2 * (k : Int) + 1), fixMul p.2 x2)) (0, x)).1

/-- Natural logarithm of 2. -/
def fixLn2 : Int := 2 * fixOdd 1 (fixOne / 3) 400
/-- π. -/
def fixPi : Int := 16 * fixOdd (-1) (fixOne / 5) 300 - 4 * fixOdd (-1) (fixOne / 239) 100

/-- e^x, for |x| cut to 2,000. -/
def fixExp (x : Int) : Int :=
  let x := max (-2000 * fixOne) (min (2000 * fixOne) x)
  let k := x / fixLn2
  let r := x - k * fixLn2
  let e := fixSeries (fun k t => fixMul t r / ((k : Int) + 1)) 200 0 fixOne
  if 0 ≤ k then e * (2 ^ k.toNat : Nat) else e / (2 ^ (-k).toNat : Nat)

/-- Natural logarithm of a positive value. -/
def fixLog (y : Int) : Int :=
  let k : Int := (bitLen y.toNat : Int) - 1 - (fixBits : Int)
  let m : Int := if 0 ≤ k then y / (2 ^ k.toNat : Nat) else y * (2 ^ (-k).toNat : Nat)
  k * fixLn2 + 2 * fixOdd 1 (fixDiv (m - fixOne) (m + fixOne)) 400

/-- Sine of an angle within one turn. -/
def fixSinTurn (r : Int) : Int :=
  fixSeries (fun k t => -(fixMul (fixMul t r) r) / (((2 * k + 2) * (2 * k + 3) : Nat) : Int)) 160 0 r
/-- Sine. -/
def fixSin (x : Int) : Int := fixSinTurn (x % (2 * fixPi))
/-- Cosine. -/
def fixCos (x : Int) : Int := fixSin (x + fixPi / 2)

/-- Hyperbolic tangent. -/
def fixTanh (x : Int) : Int :=
  let e := fixExp (max (-1000 * fixOne) (min (1000 * fixOne) (2 * x)))
  fixDiv (e - fixOne) (e + fixOne)
/-- 1 / (1 + e^-x). -/
def fixSigmoid (x : Int) : Int := fixDiv fixOne (fixOne + fixExp (-x))
/-- The error function; beyond 15 it is 1 to more than 300 bits. -/
def fixErf (x : Int) : Int :=
  let x := max (-15 * fixOne) (min (15 * fixOne) x)
  let x2 := fixMul x x
  let s := ((List.range 1300).foldl
    (fun (p : Int × Int) n => (p.1 + p.2 / (2 * (n : Int) + 1), -(fixMul p.2 x2) / ((n : Int) + 1))) (0, x)).1
  fixDiv (2 * s) (fixSqrt fixPi)
/-- x × Φ(x). -/
def fixGelu (x : Int) : Int := fixMul x (fixOne + fixErf (fixDiv x (fixSqrt (2 * fixOne)))) / 2
/-- x × sigmoid(x). -/
def fixSilu (x : Int) : Int := fixMul x (fixSigmoid x)

/-! ## FP32 codes in order -/

/-- The code at a place of the numeric order; `neg` chooses the zero. -/
def ordCode (neg : Bool) (o : Int) : Nat := if o < 0 ∨ (o = 0 ∧ neg) then 2 ^ 31 + o.natAbs else o.natAbs

/-- Place of the largest FP32 magnitude not above a magnitude in fixed point, and whether it is that magnitude. -/
def ordDown (x : Nat) : Int × Bool :=
  let r := fmtFp32.roundMag (.sr 0) x (-(fixBits : Int))
  (((min r.1 0x7F800000 : Nat) : Int), !r.2)
/-- Place of the largest code not above a value. -/
def ordFloor (x : Int) : Int :=
  let r := ordDown x.natAbs
  if 0 ≤ x then r.1 else if r.2 then -r.1 else -r.1 - 1
/-- Place of the smallest code not below a value. -/
def ordCeil (x : Int) : Int := -ordFloor (-x)

/-- Largest finite FP32 magnitude in fixed point. -/
def fixMax : Int := (ofFp32 0x7F7FFFFF).fix

/-- The `n`th of the codes at places from `lo` to `hi`. -/
def nthCode (neg : Bool) (n : Nat) (lo hi : Int) : Nat := ordCode neg (lo + ((n % ((hi - lo).toNat + 1) : Nat) : Int))

/-- One unit in the last place of an exact value in FP32 (R67). -/
def fixUlp (y : Int) : Int :=
  let e : Int := max (-126) ((bitLen y.natAbs : Int) - 1 - (fixBits : Int))
  ((2 ^ (e - 23 + (fixBits : Int)).toNat : Nat) : Int)

/-- A free FP32 code within `n` units in the last place of an exact value (R67). -/
def withinUlp (free n : Nat) (neg : Bool) (y : Int) : Nat :=
  let w := (n : Int) * fixUlp y + fixSlack
  nthCode neg free (ordCeil (y - w)) (ordFloor (y + w))

/-- A free FP32 code within a distance of an exact value (R67), or the nearest ones about it. -/
def withinDist (free : Nat) (neg : Bool) (y w : Int) : Nat :=
  nthCode neg free (ordFloor (y - w - fixSlack)) (ordCeil (y + w + fixSlack))

/-- `n` × u of a magnitude in fixed point, u = 2^-24 (R67). -/
def timesU (n : Nat) (x : Int) : Int := (n : Int) * x / (2 ^ 24 : Nat) + 1

/-- A free FP32 code within the relative bound `n` × u of an exact value (R67). -/
def withinRel (free n : Nat) (y : Int) : Nat := withinDist free (decide (y < 0)) y (timesU n (if y < 0 then -y else y))

/-- ⌈log₂ n⌉. -/
def clog2 (n : Nat) : Nat := bitLen (n - 1)

/-! ## The Edger functions (R67, R130) -/

/-- A free code for a result that the spec does not state (log 17). -/
def unstated (draw op x : Nat) : Nat := Config.transcend draw op x % 2 ^ 32

/-- One Edger function of an FP32 value, by its expression code (R130): any code within the bound of its class (R67). A NaN gives NaN
(R38); the result is free, and nothing states it, for an infinity, outside the function's domain, and where it overflows. -/
def edger (draw op x : Nat) : Nat :=
  let free := Config.transcend draw op x
  let odd := fpSign x
  match ofFp32 x with
  | .nan => fmtFp32.nanCode
  | .inf _ => unstated draw op x
  | v =>
    let a := v.fix
    let near := fun (n : Nat) (neg : Bool) (y : Int) => if fixMax < y then unstated draw op x else withinUlp free n neg y
    match op with
    | 0x1A => if a ≤ 0 then unstated draw op x else near 1 false (fixDiv fixOne (fixSqrt a))
    | 0x20 => near 2 false (fixExp a)
    | 0x21 => near 2 false (fixExp (fixMul (max (-2000 * fixOne) (min (2000 * fixOne) a)) fixLn2))
    | 0x22 => if a ≤ 0 then unstated draw op x else near 2 false (fixLog a)
    | 0x23 => if a ≤ 0 then unstated draw op x else near 2 false (fixDiv (fixLog a) fixLn2)
    | 0x24 => near 4 odd (fixTanh a)
    | 0x25 => near 4 false (fixSigmoid a)
    | 0x26 => near 4 odd (fixErf a)
    | 0x27 => near 4 odd (fixGelu a)
    | 0x28 => near 4 odd (fixSilu a)
    | 0x29 =>
      if a.natAbs ≤ (65536 * fixOne).toNat then near 2 odd (fixSin a) else withinDist free odd (fixSin a) (fixOne / 2 ^ 20)
    | 0x2A =>
      if a.natAbs ≤ (65536 * fixOne).toNat then near 2 false (fixCos a) else withinDist free false (fixCos a) (fixOne / 2 ^ 20)
    | _ => unstated draw op x

/-! ## Rows -/

/-- e^(z − max) of the values of a row that count, and 0 for the others. -/
def expRow (zs : List Int) (on : List Bool) : List Int :=
  let live := (zs.zip on).filter (·.2)
  let top := (live.map (·.1)).foldl max ((live.headD (0, true)).1)
  (zs.zip on).map fun p => if p.2 then fixExp (p.1 - top) else 0

/-- Exact softmax of a row in fixed point (R131). -/
def fixSoftmax (zs : List Int) (on : List Bool) : List Int :=
  let es := expRow zs on
  let total := es.sum
  es.map fun e => if total = 0 then 0 else fixDiv e total

/-- Softmax of exact arguments (R131): elements that are masked, and those of −infinity, give +0; the others any code within the bound
of R67; free where an argument is a NaN, +infinity or no FP32 magnitude. -/
def softmaxCodes (draw : Nat) (zs : List Val) (on : List Bool) : List Nat :=
  let use := (zs.zip on).map fun p => p.2 && p.1 != .inf true
  let live := ((zs.zip use).filter (·.2)).map (·.1)
  let ok := live.all (fun z => z.finite && decide (z.fix.natAbs ≤ fixMax.toNat)) && (!live.isEmpty || !on.any id)
  let ps := fixSoftmax (zs.map Val.fix) use
  (ps.zip (on.zip use)).zipIdx.map fun (p, i) =>
    if !p.2.1 then 0
    else if !ok then unstated draw 0x05 i
    else if !p.2.2 then 0
    else withinRel (Config.transcend draw 0x05 i) (clog2 zs.length + 8) p.1

/-- LAYERNORM (`centred`) or RMSNORM of a row (R131), within the bound of R67; free where a value is not finite, the variance plus
epsilon is below 2^-120, or an intermediate value overflows. -/
def normCodes (draw : Nat) (centred : Bool) (epsilon : Nat) (xs gamma beta : List Nat) : List Nat :=
  let vs := xs.map fun x => (ofFp32 x).fix
  let n : Int := (max 1 xs.length : Nat)
  let mean := if centred then vs.sum / n else 0
  let dev := vs.map (· - mean)
  let var := (dev.map fun v => fixMul v v).sum / n + (ofFp32 epsilon).fix
  let ok := (epsilon :: xs ++ gamma ++ beta).all (fun x => (ofFp32 x).finite) && decide ((2 ^ (fixBits - 120) : Nat) ≤ var) &&
    decide (var ≤ fixMax)
  dev.zipIdx.map fun (v, i) =>
    if !ok then unstated draw 0x06 i
    else
      let g := (gamma[i]?).elim fixOne fun c => (ofFp32 c).fix
      let b := (beta[i]?).elim 0 fun c => (ofFp32 c).fix
      withinRel (Config.transcend draw 0x06 i) (clog2 xs.length + 8) (fixMul (fixDiv v (fixSqrt var)) g + b)

/-- One output element of attention (R134): exact weights from the scores of the keys that count, and the values; any code within
the bound of R67. -/
def attentionCode (draw index d : Nat) (scores : List Val) (on : List Bool) (vs : List Val) : Nat :=
  let ok := (((scores.zip vs).zip on).filter (·.2)).all fun p =>
    p.1.1.finite && p.1.2.finite && decide (p.1.1.fix.natAbs ≤ fixMax.toNat)
  if !ok then unstated draw 0x09 index
  else
    let terms := ((fixSoftmax (scores.map Val.fix) on).zip vs).map fun p => fixMul p.1 p.2.fix
    let size := (terms.map fun t => (t.natAbs : Int)).sum
    withinDist (Config.transcend draw 0x09 index) (decide (terms.sum < 0)) terms.sum
      (timesU (clog2 scores.length + (d + 15) / 16 + 12) size)

end Sys2Proof.Machine
end

