-- ==== Sys2Proof/Machine/Placement.lean ====
section
/-!
DEFINITION. Placement (R151 to R154, R202, R299): what the Ranger chooses (log 16), the read-only table, the checks of
GRAPH_PLACE, installing, and the report.
-/

namespace Sys2Proof.Machine

/-! ## What a node belongs to and runs on -/

/-- Unit that runs a node (the operation set): 0 Mill, 1 Edger, 2 Tally, 3 Gather-reduce, 4 transfer engine, 5 none. -/
def nodeUnit (img : Image) (n : Node) : Nat :=
  let fmt := fun (k : Nat) => ((n.inputs[k]?).bind (img.tensors[·]?)).elim 0 (·.format)
  match n.opcode with
  | 0x01 => if fmt 0 = 1 then 1 else 0
  | 0x02 => if fmt 0 = 1 then 1 else 0
  | 0x09 => 0
  | 0x0A => 3
  | 0x0B => 4
  | 0x0C => 2
  | 0x12 => if n.at8 0 = 0 ∧ !isLadder (fmt 0) then 5 else 4
  | 0x30 => 2
  | 0x31 => 2
  | 0x32 => 2
  | 0x33 => 2
  | 0x40 => 2
  | 0x41 => 2
  | 0x43 => 2
  | _ => 1

/-- Loops around each node: their maxima of trips, innermost first (R144). -/
def loopsAround : List Nat → List Node → List (List Nat)
  | _, [] => []
  | st, n :: ns => st :: loopsAround (if n.opcode = 0x40 then n.at32 0 :: st else if n.opcode = 0x41 then st.tail else st) ns

/-- Pipeline stages of the nodes (R151): each declaration's nodes go through at most `rounds` stages in order; a loop stays in one
stage. `at_` holds the stage reached by each declaration, `free` the choice of a node. -/
def stagesOf (img : Image) (free : Nat → Nat) : List (Nat × Nat) → Nat → List (Option Nat × Nat) → List Nat
  | _, _, [] => []
  | at_, i, (k, depth) :: ns =>
    match k with
    | none => 0 :: stagesOf img free at_ (i + 1) ns
    | some k =>
      let rounds := (img.decls[k]?).elim 1 (·.rounds)
      let now := countOf k at_
      let s := if depth = 0 then max now (min (free i) (rounds - 1)) else now
      s :: stagesOf img free (upsert (·.1 == k) (k, 0) (fun _ => (k, s)) at_) (i + 1) ns

/-! ## Weight references and the read-only table -/

/-- A region by handle, of a session (R529). -/
def Dev.regionOf (d : Dev) (session handle : Nat) : Option Region :=
  d.gr.regions.find? fun r => r.handle == handle && r.session == session

/-- DPA of a byte of a weight reference, when its region is mapped. -/
def Dev.weightDpa (d : Dev) (session : Nat) (w : WeightRef) (o : Nat) : Option Nat :=
  (d.regionOf session w.region).map fun r => r.dpa + w.offset + o

/-- DPA range of a WEIGHT tensor: start and length. -/
def Dev.tensorDpa (d : Dev) (g : Graph) (t : Tensor) : Option (Nat × Nat) :=
  (g.image.weights[t.source]?).bind fun w => (d.weightDpa g.session w t.offset).map (·, t.size)

/-- Whether a DPA range lies in the stack-local view of one stack (R135). -/
def inOneStack (a n : Nat) : Bool :=
  let o := (a - 0x100000000000) % 0x2000000000
  decide (0x100000000000 ≤ a) && decide (a < 0x120000000000) && decide (o + n ≤ stackBytes)

/-- The pieces of a DPA range, each within one 4 KiB granule. -/
def pieces (a n : Nat) : List (Nat × Nat) :=
  (List.range ((a + n + 4095) / 4096 - a / 4096)).map fun i =>
    let lo := max a ((a / 4096 + i) * 4096)
    (lo, min (a + n) ((a / 4096 + i + 1) * 4096) - lo)

/-- Stack-local offsets of a DPA range in one stack: mirrored lines are in both stacks of their pair. -/
def Dev.inStack (d : Dev) (stack a n : Nat) : List (Nat × Nat) :=
  (pieces a n).filterMap fun p =>
    match placeOf d.mBytes p.1 with
    | .hbm s o => if s = stack ∨ d.partner s o = some stack then some (o, p.2) else none
    | _ => none

/-- Put a range into a rising list of ranges, merging those that overlap or abut (R299). -/
def mergeRange : Nat × Nat → List (Nat × Nat) → List (Nat × Nat)
  | r, [] => [r]
  | r, x :: xs =>
    if r.1 + r.2 < x.1 then r :: x :: xs
    else if x.1 + x.2 < r.1 then x :: mergeRange r xs
    else
      let lo := min r.1 x.1
      mergeRange (lo, max (r.1 + r.2) (x.1 + x.2) - lo) xs

/-- The read-only ranges that graphs have in one stack (R299): their read-only WEIGHT tensors. -/
def Dev.readOnlyRanges (d : Dev) (gs : List Graph) (stack : Nat) : List (Nat × Nat) :=
  let ts := (gs.map fun g => (g.image.tensors.filter (fun t => t.cls == 2 && bitOf t.flags 0)).filterMap (d.tensorDpa g)).flatten
  (ts.map fun r => d.inStack stack r.1 r.2).flatten.foldl (fun acc r => mergeRange r acc) []

/-- Set the read-only table of every stack from the placements in force (R299). -/
def Dev.setReadOnly (d : Dev) : Dev :=
  let gs := d.gr.list.filter (·.isPlaced)
  each (List.range 16) (fun k d => d.onStack k fun s => { s with ro := d.readOnlyRanges gs k }) d

/-! ## The work of a node (R69, R129, R301) -/

/-- What a node does in one round: matrix products (rows, depth, columns, column width, sparse factor), Edger lane operations and
function results, scalar instructions, bytes read from each stack, bytes that Gather-reduce fetches from a stack, bytes moved. -/
structure Work where
  mats : List (Nat × Nat × Nat × Nat × Nat)
  lanes : Nat
  funcs : Nat
  scalar : Nat
  bytes : List (Nat × Nat)
  rows : List (Nat × Nat)
  moved : Nat

/-- Column width of the Mill for two operands (R129). -/
def millWidth (a w : Tensor) : Nat :=
  if elemBits a.format = 4 ∧ elemBits w.format = 4 then 64 else if matClass a.format = some 1 then 16 else 32

/-- By how much structured sparsity raises the Mill rate (chapter 02). -/
def sparseFactor (w : Tensor) : Nat := if w.kept = 0 then 1 else 4 / w.kept

/-- Cycles of CD9 of one core for rows × depth × columns (R129). -/
def millCycles (m k n width sparse : Nat) : Nat := (m * ((k + 15) / 16) * ((n + width - 1) / width) + sparse - 1) / sparse

/-- Elements of a tensor in one round of `items` items. -/
def Tensor.roundCount (items : Nat) (t : Tensor) : Nat := t.sliceCount * if t.perItem then items else 1

/-- Bytes of a WEIGHT tensor in each stack: all in one for a stack-local view, evenly spread in the interleaved view (R277). -/
def Dev.stackShare (d : Dev) (session : Nat) (img : Image) (t : Tensor) (n : Nat) : List (Nat × Nat) :=
  if t.cls ≠ 2 then []
  else match (img.weights[t.source]?).bind fun w => d.weightDpa session w t.offset with
    | none => []
    | some a => if inOneStack a n then [((a - 0x100000000000) / 0x2000000000, n)] else (List.range 16).map fun k => (k, (n + 15) / 16)

/-- The work of a node in one round. DESIGN CHOICE (log 88): where R69 and R129 give no count for an operation, the lane operations and
instructions for each element are the model's. -/
def Dev.nodeWork (d : Dev) (session : Nat) (img : Image) (context items : Nat) (n : Node) : Work :=
  let ins := n.inputs.filterMap (img.tensors[·]?)
  let outs := n.outputs.filterMap (img.tensors[·]?)
  let i := fun (k : Nat) => (ins[k]?).getD (tensorOf [])
  let count := fun (t : Tensor) => t.roundCount items
  let size := fun (t : Tensor) => (count t * elemBits t.format + 7) / 8
  let c0 := count (i 0)
  let weights := fun (ts : List Tensor) => (ts.map fun t => d.stackShare session img t t.size).flatten
  let z : Work := { mats := [], lanes := 0, funcs := 0, scalar := 0, bytes := weights ins, rows := [], moved := (outs.map size).sum }
  let edge := fun (lanes funcs : Nat) => { z with lanes, funcs }
  let product := fun (k n : Nat) (act : Nat) =>
    let total := (outs.map count).sum
    if (i 0).format = 1 then { z with lanes := total * (k + 1), funcs := if act ≤ 1 then 0 else total }
    else { z with mats := [(total / max 1 n, k, n, millWidth (i 0) (i 1), sparseFactor (i 1))] }
  match n.opcode with
  | 0x01 => product ((i 1).extents.headD 1) (((i 1).extents.tail).headD 1) (n.at8 0)
  | 0x02 => product (n.at8 0 * n.at8 1 * (i 0).extents.headD 1) (((i 1).extents[3]?).getD 1) (n.at8 8)
  | 0x03 =>
    let ex := (img.exprs[n.at32 0]?).getD []
    let total := (outs.map count).sum
    edge (total * (ex.filter fun x => decide (0x10 ≤ x.op) && x.op != 0x1A && !(decide (0x20 ≤ x.op) && decide (x.op ≤ 0x2A))).length)
      (total * (ex.filter fun x => x.op == 0x1A || (decide (0x20 ≤ x.op) && decide (x.op ≤ 0x2A))).length)
  | 0x05 => edge (4 * c0) c0
  | 0x06 => edge (6 * c0) 0
  | 0x07 => edge (4 * c0) 0
  | 0x08 => edge (4 * c0) (2 * c0)
  | 0x09 =>
    let rows := c0 / max 1 (n.at16 8)
    { z with mats := [(rows, n.at16 8, context, millWidth (i 0) (i 3), 1), (rows, context, n.at16 8, millWidth (i 0) (i 3), 1)]
             lanes := 4 * rows * context, funcs := rows * context, scalar := items }
  | 0x0A =>
    let n := count (i 1) * (((i 0).extents.headD 1 * elemBits (i 0).format + 7) / 8 + 63) / 64 * 64
    { z with bytes := [], rows := d.stackShare session img (i 0) n, scalar := items }
  | 0x0B => { z with bytes := d.stackShare session img (i 0) z.moved, scalar := count (i 1) }
  | 0x0C => { z with bytes := [], scalar := count (i 1), moved := size (i 2) }
  | 0x0D => edge (c0 * clog2 ((i 0).extents.headD 1)) 0
  | 0x0E => edge (c0 * clog2 ((i 0).extents.headD 1)) 0
  | 0x0F => edge (4 * c0) c0
  | 0x30 => { z with scalar := c0 }
  | 0x31 => { z with scalar := c0 }
  | 0x32 => { z with scalar := c0 }
  | 0x33 => { z with scalar := 1 }
  | 0x40 => { z with scalar := items }
  | 0x41 => { z with scalar := items }
  | 0x43 => { z with scalar := items }
  | _ => edge c0 0

/-- Items per round of a declaration under a binding; 1 for a node of none. -/
def itemsOf (b : Binding) (decl : Option Nat) : Nat := decl.elim 1 fun k => (b.items[k]?).getD 1

/-- Context length that a declaration's attention is budgeted at: the pool's maximum (R202), else 32,768 (R134). -/
def contextOf (pools : List Pool) (decl : Option Nat) : Nat := (pools.find? fun p => decl == some p.decl).elim 32768 (·.maxContext)

/-- The work of every node of a graph under a binding. -/
def Dev.works (d : Dev) (g : Graph) (b : Binding) : List Work :=
  (g.image.nodes.zip (nodeDecls g.image [] g.image.nodes)).map fun x =>
    d.nodeWork g.session g.image (contextOf g.pools x.2) (itemsOf b x.2) x.1

/-! ## The Ranger's choice -/

/-- Effective frequency of a logical core (R85); 0 when it is absent. -/
def Dev.coreMhz (d : Dev) (core : Nat) : Nat := (d.corePlace core).elim 0 fun p => d.effective p.1 p.2.1 p.2.2

/-- Lowest logical core of a node record (R154). -/
def NodePlace.firstCore (p : NodePlace) : Nat := p.coreSet.foldl min none32

/-- Kind of a logical core (R71): 0 Mill, 1 Edger, 2 Tally. -/
def coreKind (core : Nat) : Nat := if core % 20 < 12 then 0 else if core % 20 < 17 then 1 else 2

/-- Logical cores of a kind that are present at some sites, rising (R71, R458). -/
def Dev.coresAt (d : Dev) (sites : List Nat) (kind : Nat) : List Nat :=
  ((sites.map fun s => (List.range 2500).map ((s - 8) * 2500 + ·)).flatten).filter fun c => coreKind c == kind && (d.corePlace c).isSome

/-- Kinds of cores that help the unit of a node (the operation set): CONV2D and ATTENTION have Tally cores beside their Mill cores,
ATTENTION Edger cores too, GATHER Tally cores. -/
def helperKinds (n : Node) (unit : Nat) : List Nat :=
  match n.opcode with
  | 0x02 => if unit = 0 then [2] else []
  | 0x09 => [1, 2]
  | 0x0B => [2]
  | _ => []

/-- Cycles of the slowest share of a node's own unit on some cores (R69, R129): `deep` is the deepest K range, `parts` the column
parts. -/
def unitCycles (w : Work) (unit cores deep parts : Nat) : Nat :=
  match unit with
  | 0 => (w.mats.map fun m => millCycles m.1 (min deep m.2.1) ((m.2.2.1 + parts - 1) / max 1 parts) m.2.2.2.1 m.2.2.2.2).sum
  | 1 => (w.lanes + 64 * cores - 1) / max 1 (64 * cores) + (w.funcs + 16 * cores - 1) / max 1 (16 * cores)
  | 2 => (w.scalar + cores - 1) / max 1 cores
  | 3 => (w.rows.map (·.2)).foldl max 0 / 1000 + 1
  | 4 => w.moved / 585 + w.scalar / max 1 cores + 1
  | _ => 0

/-- Cycles with the compiler margin (R151). -/
def withMargin (margin cycles : Nat) : Nat := (cycles * (100 + margin) + 99) / 100

/-- The resources that a node of a placement loads in one pass, ns each (R151): (code of the node record, instance, ns). Cores at the
slowest one's frequency (R87); stacks at 1,228.8 GB/s, a site's Basin ports at 585 GB/s, its bond groups at 62.4 GB/s each, a
Gather-reduce engine at 1,000 GB/s. -/
def Dev.loads (d : Dev) (w : Work) (p : NodePlace) : List (Nat × Nat × Nat) :=
  let sites := computeSites.filter (bitOf p.sites)
  let each_ := ((w.bytes.map (·.2)).sum + sites.length - 1) / max 1 sites.length
  let core := if p.unit ≤ 2 then [(p.unit + 1, 0, p.budget * 1000 / max 1 p.slowest)] else if p.unit = 4 then [(7, 48, p.budget)] else []
  core ++ w.bytes.map (fun b => (8, b.1, b.2 * 10 / 12288)) ++ w.rows.map (fun b => (9, b.1, b.2 / 1000)) ++
  (if each_ = 0 then [] else sites.map (fun s => (7, s, each_ / 585)) ++
    sites.map (fun s => (6, s, each_ * 10 / max 1 (624 * (256 - (d.site s).retired.length)))))

/-- The resource nearest its budget of some loads; 0 for none. -/
def heaviest (ls : List (Nat × Nat × Nat)) : Nat :=
  (ls.foldl (fun (m : Nat × Nat) l => if m.2 < l.2.2 then (l.1, l.2.2) else m) ((ls.head?).elim 0 (·.1), 0)).1

/-- A node's slowest core and what it is limited by, at the frequencies in force (R85, R87, R399). -/
def Dev.rebudgetNode (d : Dev) (w : Work) (p : NodePlace) : NodePlace :=
  let speeds := (p.coreSet.map d.coreMhz).filter (· != 0)
  let q := { p with slowest := speeds.foldl min (speeds.headD 0) }
  { q with limiting := heaviest (d.loads w q) }

/-- Memory sites whose Gather-reduce engines run a node. -/
def gatherSites (w : Work) : List Nat := (w.rows.map fun b => stackSite b.1).eraseDups

/-- Whether the split of K applies to a node: MATMUL and CONV2D (R59, R128). -/
def splitsK (n : Node) : Bool := n.opcode == 1 || n.opcode == 2

/-- Units of K that a split of a node goes by (R53, R58): groups of 16, slices of 128 of the Ladder class, single positions of FP32. -/
def kUnit (a : Tensor) : Nat := if isLadder a.format then 128 else if a.format = 1 then 1 else 16

/-- Put an element into a sorted list, after those it does not rank ahead of. -/
def insertBy {α : Type} (before : α → α → Bool) (x : α) : List α → List α
  | [] => [x]
  | y :: ys => if before x y then x :: y :: ys else y :: insertBy before x ys
/-- A stable sort: equal elements keep their order. -/
def sortBy {α : Type} (before : α → α → Bool) (xs : List α) : List α := xs.foldl (fun acc x => insertBy before x acc) []
/-- Numbers in rising order. -/
def rising (xs : List Nat) : List Nat := sortBy (fun a b => decide (a < b)) xs

/-- Bounds of the K ranges of a split (R59): the firmware's own choice (log 16), rising, in whole units. -/
def kBounds (choice node c units : Nat) : List Nat :=
  let cuts := rising ((List.range (c - 1)).map fun r => Config.place choice node (100 + r) % (units + 1))
  0 :: cuts ++ [units]

/-- Deepest K range of a split. -/
def deepest (choice node c unit k : Nat) : Nat :=
  let b := kBounds choice node c ((k + unit - 1) / unit)
  ((b.zip b.tail).map fun r => (r.2 - r.1) * unit).foldl max 0

/-- The placement of one node on some sites (R151, log 16): cores of its unit's kind, its column parts and its split of K, its tree.
`wide`: every core there is, K not split. -/
def Dev.placeNode (d : Dev) (ok : List Nat) (wide : Bool) (draw i stage margin : Nat) (img : Image) (n : Node) (w : Work) : NodePlace :=
  let pick := Config.place draw i
  let unit := nodeUnit img n
  let chosen := ok.filter fun s => bitOf (pick 2) s
  let sites := if unit = 3 ∨ unit = 5 then [] else if wide ∨ chosen.isEmpty then ok else chosen
  let kind := if unit ≤ 2 then unit else 2
  let own := if unit = 4 ∨ sites.isEmpty then [] else d.coresAt sites kind
  let columns := if unit = 0 then (w.mats.map (·.2.2.1)).foldl max 1 else own.length
  let depth := if splitsK n then (w.mats.map (·.2.1)).foldl max 1 else 1
  let ku := kUnit (((n.inputs.head?).bind (img.tensors[·]?)).getD (tensorOf []))
  let k0 := if wide ∨ !splitsK n then 1 else 1 + pick 6 % (min 65535 ((depth + ku - 1) / ku))
  let p0 := if wide then columns else 1 + pick 5 % max 1 columns
  let fits := decide (k0 * p0 ≤ own.length)
  let k := if fits then k0 else 1
  let parts := max 1 (min own.length (if fits then p0 else min p0 columns))
  let turn := if wide ∨ own.isEmpty then 0 else pick 4 % own.length
  let mine := (own.drop turn ++ own.take turn).take (k * parts)
  let near := (helperKinds n unit).map fun h => (d.coresAt sites h).filter fun c => unit == 4 || mine.any fun m => m / 20 == c / 20
  let cores := mine ++ near.flatten
  let deep := if k = 1 then 0xFFFFFFFF else deepest draw i k ku depth
  let used := (sites ++ gatherSites w).filter fun s => unit == 3 || unit == 4 || cores.any fun c => c / 2500 + 8 == s
  d.rebudgetNode w
    { unit, stage, kSplit := k, tree := pick 7 % 2, limiting := 0, slowest := 0, coreSet := cores
      budget := min (withMargin margin (unitCycles w unit mine.length deep parts)) (none32 - 1)
      sites := used.foldl (fun m s => m ||| 2 ^ s) 0 }

/-- What each stage asks of each resource, ns (R151): every pass of a loop counts (R144). -/
def Dev.stageLoads (d : Dev) (works : List Work) (trips : List (List Nat)) (nodes : List NodePlace) : List ((Nat × Nat × Nat) × Nat) :=
  ((works.zip trips).zip nodes).foldl (fun acc x =>
    (d.loads x.1.1 x.2).foldl (fun acc l =>
      let key := (x.2.stage, l.1, l.2.1)
      let ns := l.2.2 * x.1.2.foldl (· * ·) 1
      upsert (·.1 == key) (key, 0) (fun e => (key, e.2 + ns)) acc) acc) []

/-- The dispatch-to-publication interval of a round, ns (05 R172). -/
def Dev.stageInterval (d : Dev) : Nat := d.rd.period - 50000

/-- By how much a placement overruns the interval of a round, ns; 0: it meets the budget (R151). -/
def Dev.overrunOf (d : Dev) (works : List Work) (img : Image) (nodes : List NodePlace) : Nat :=
  ((d.stageLoads works (loopsAround [] img.nodes) nodes).map (·.2)).foldl max 0 - d.stageInterval

/-- Stages of the widest placement: each top-level node or whole loop goes to the next stage of its declaration when its time no longer
fits beside those before it. `acc`: (declaration, stage, ns used). -/
def greedyStages (img : Image) (interval : Nat) : List (Nat × Nat × Nat) → List (Option Nat × Nat × Nat) → List Nat
  | _, [] => []
  | acc, (decl, depth, ns) :: xs =>
    match decl with
    | none => 0 :: greedyStages img interval acc xs
    | some k =>
      let rounds := (img.decls[k]?).elim 1 (·.rounds)
      let here := ((acc.find? (·.1 == k)).map (·.2)).getD (0, 0)
      let next := if depth = 0 ∧ interval < here.2 + ns ∧ here.1 + 1 < rounds ∧ here.2 ≠ 0 then (here.1 + 1, ns)
        else if depth = 0 then (here.1, here.2 + ns) else here
      next.1 :: greedyStages img interval (upsert (·.1 == k) (k, 0, 0) (fun _ => (k, next)) acc) xs

/-- Time of each top-level node; of a LOOP_BEGIN that of its whole loop. -/
def groupTimes : List (Node × Nat × Nat) → List Nat
  | [] => []
  | (n, depth, ns) :: xs =>
    (if n.opcode = 0x40 ∧ depth = 0 then ns + ((xs.takeWhile fun x => decide (0 < x.2.1)).map (·.2.2)).sum else ns) :: groupTimes xs

/-- The nodes of a placement with the Ranger's free choice `draw`, or the widest one. -/
def Dev.draftNodes (d : Dev) (ok : List Nat) (wide : Bool) (draw : Nat) (img : Image) (b : Binding) (works : List Work) : List NodePlace :=
  let decls := nodeDecls img [] img.nodes
  let around := loopsAround [] img.nodes
  let put := fun (stages : List Nat) =>
    ((img.nodes.zip works).zip stages).zipIdx.map fun (x, i) => d.placeNode ok wide draw i x.2 b.margin img x.1.1 x.1.2
  if wide then
    let first := put (img.nodes.map fun _ => 0)
    let times := ((first.zip works).zip around).map fun x => ((d.loads x.1.2 x.1.1).map (·.2.2)).foldl max 0 * x.2.foldl (· * ·) 1
    let groups := groupTimes (img.nodes.zip ((around.map (·.length)).zip times))
    put (greedyStages img d.stageInterval [] (decls.zip ((around.map (·.length)).zip groups)))
  else put (stagesOf img (fun i => Config.place draw i 1) [] 0 (decls.zip (around.map (·.length))))

/-! ## Decode pools (R202) -/

/-- Scratch that placements other than a graph's own have on a site, in pages of 64 KiB. -/
def Dev.othersScratch (d : Dev) (handle site : Nat) : Nat :=
  ((d.gr.list.filter (·.handle != handle)).map fun g =>
    (g.placed.elim 0 fun p => ((p.sites.filter (·.1 == site)).map (·.2.2.2)).sum + 65535) / 65536).sum

/-- Pages of 64 KiB that a site's scratch has left for a graph: at most 14 ways (R88). -/
def Dev.pageRoom (d : Dev) (handle site : Nat) : Nat := 14 * 1024 - d.othersScratch handle site

/-- Write pages that a graph's decode declarations reserve (R202): declaration, pages. -/
def writePages (g : Graph) : List (Nat × Nat) :=
  g.image.decls.zipIdx.filterMap fun (x, k) =>
    if x.kind = 1 then some (k, x.decodeStreams * (g.pools.find? (·.decl == k)).elim 0 (·.layers)) else none

/-- Pages taken from sites in order. -/
def takePages : Nat → List (Nat × Nat) → List (Nat × Nat)
  | _, [] => []
  | n, (s, room) :: xs => (s, min n room) :: takePages (n - room) xs

/-- Write pages on each permitted site: the firmware's own choice of where it begins (log 16). -/
def Dev.kvPages (d : Dev) (ok : List Nat) (draw : Nat) (g : Graph) : List (Nat × Nat) :=
  let turn := Config.place draw 0 14 % max 1 ok.length
  (takePages ((writePages g).map (·.2)).sum ((ok.drop turn ++ ok.take turn).map fun s => (s, d.pageRoom g.handle s))).filter (·.2 != 0)

/-! ## A whole placement -/

/-- Whether a plane port can carry a standing grant: a port of the package, neither it nor its plane out of use. -/
def Dev.grantPort (d : Dev) (port plane : Nat) : Bool := decide (port < 55) && !(d.pport port plane).retired && !d.ba.failed.contains plane

/-- Standing grants that a placement's latency-bound flows need (R230): (plane, source, destination, positions), between the sites that it
uses; which flows those are is the firmware's own choice (log 16). -/
def flowsOf (draw : Nat) (ports : List Nat) : List (Nat × Nat × Nat × Nat) :=
  (((List.range 4).map fun plane => (ports.map fun a => ports.filterMap fun b =>
    let r := Config.place draw (65536 + plane * 4096 + a * 64 + b) 0 % 17
    if a = b ∨ r = 0 then none else some (plane, a, b, r)).flatten).flatten)

/-- A placement of a graph under a binding, for choice number `draw` (R151): the Ranger's own choice where it meets the budget, else the
widest one. -/
def Dev.choose (d : Dev) (draw : Nat) (g : Graph) (b : Binding) (generation : Nat) : Placement :=
  let ok := d.permitted b
  let works := d.works g b
  let free := d.draftNodes ok false draw g.image b works
  let nodes := if d.overrunOf works g.image free = 0 then free else
    let wide := d.draftNodes ok true draw g.image b works
    if d.overrunOf works g.image wide ≤ d.overrunOf works g.image free then wide else free
  let kv := d.kvPages ok draw g
  let used := computeSites.filter fun s => (nodes.any fun n => bitOf n.sites s) || kv.any (·.1 == s)
  let site := fun (s : Nat) =>
    let need := ((kv.filter (·.1 == s)).map (·.2)).sum * 65536
    let bytes := need + Config.place draw s 12 % (d.pageRoom g.handle s * 65536 - need + 1)
    let stands := (((nodes.map (·.coreSet)).flatten.filter fun c => c / 2500 + 8 == s).map (· / 20)).eraseDups
    (s, (bytes + 0x3FFFFFF) / 0x4000000, stands.length, bytes)
  let engines := (works.map gatherSites).flatten
  { binding := b, generation, installed := 0, nodes, sites := used.map site, stages := (nodes.map (·.stage)).foldl max 0 + 1
    limiting := heaviest ((d.stageLoads works (loopsAround [] g.image.nodes) nodes).map fun l => (l.1.2.1, l.1.2.2, l.2))
    unplaced := (List.range nodes.length).filter fun i => (nodes[i]?).elim false fun n => n.unit != 5 && n.sites == 0
    pools := g.pools, choice := draw, kv, flows := (flowsOf draw (used ++ engines).eraseDups).filter fun f => d.grantPort f.2.1 f.1 && d.grantPort f.2.2.1 f.1 }

/-- Positions that flows and the grants of others reserve at a port of a plane, as source or as destination (R229). -/
def Dev.positionsAt (d : Dev) (handle : Nat) (fs : List (Nat × Nat × Nat × Nat)) (plane port : Nat) (src : Bool) : Nat :=
  let others := d.gr.list.filter (·.handle != handle)
  let waiting := (others.filterMap (·.installing)).map (·.flows) |>.flatten
  let ends := fun (h : Option Nat) => h == some handle || others.any fun g => some g.handle == h && g.installing.isSome
  ((d.ba.standing.filter fun g => !ends g.graph && g.plane == plane && (if src then g.src else g.dst) == port).map (·.r)).sum +
  (((fs ++ waiting).filter fun f => f.1 == plane && (if src then f.2.1 else f.2.2.1) == port).map (·.2.2.2)).sum

/-- Whether the grants that a placement needs lie within R229: at most 16 positions at each port of a plane. -/
def Dev.flowsFit (d : Dev) (handle : Nat) (fs : List (Nat × Nat × Nat × Nat)) : Bool :=
  fs.all fun f => decide (f.2.2.2 ≤ 16) && decide (d.positionsAt handle fs f.1 f.2.1 true ≤ 16) &&
    decide (d.positionsAt handle fs f.1 f.2.2.1 false ≤ 16)

/-- The placement that GRAPH_PLACE finds (R151, R230): none when none meets the budget within the site mask (R150, detail 0x24). -/
def Dev.plan (d : Dev) (draw : Nat) (g : Graph) (b : Binding) : Option Placement :=
  let p := d.choose draw g b (g.placed.elim 1 (·.generation + 1))
  if d.overrunOf (d.works g b) g.image p.nodes = 0 ∧ p.unplaced.isEmpty ∧ d.flowsFit g.handle p.flows then some p else none

/-! ## The checks of GRAPH_PLACE -/

/-- First failure of a weight reference at placement (R123, R135): region, CRC, stack-local view. DESIGN CHOICE (log 89): a reference that
EMBED_BAG reads without flag [1] fails as one that lies in no stack-local view, detail 0x22. -/
def Dev.weightFail (d : Dev) (g : Graph) (i : Nat) (w : WeightRef) : Option LoadFail :=
  let at_ := fun (detail : Nat) => some (LoadFail.inSection detail g.image.weightSect (g.image.weightBase + 32 * i))
  let bag := g.image.nodes.any fun n =>
    n.opcode == 0x0A && ((n.inputs.head?).bind (g.image.tensors[·]?)).elim false (fun t => t.cls == 2 && t.source == i)
  match d.regionOf g.session w.region with
  | none => at_ 0x20
  | some r =>
    if r.length < w.offset + w.length then at_ 0x20
    else if bitOf w.flags 0 ∧ (d.readBytes (r.dpa + w.offset) w.length).map crc32c ≠ some w.crc then at_ 0x21
    else if (bag && !bitOf w.flags 1) || (bitOf w.flags 1 && !inOneStack (r.dpa + w.offset) w.length) then at_ 0x22
    else none

/-- Weight references whose CRC a placement checks (R123): index, DPA, length. -/
def Dev.checkedWeights (d : Dev) (g : Graph) : List (Nat × Nat × Nat) :=
  g.image.weights.zipIdx.filterMap fun (w, i) =>
    match d.regionOf g.session w.region with
    | some r => if bitOf w.flags 0 ∧ w.offset + w.length ≤ r.length then some (i, r.dpa + w.offset, w.length) else none
    | none => none

/-- Failures of all weight references. -/
def Dev.weightFails (d : Dev) (g : Graph) : List LoadFail :=
  g.image.weights.zipIdx.filterMap fun (w, i) => d.weightFail g i w

/-- First node of RACK scope while the fabric axis is OFF. -/
def Dev.rackFail (d : Dev) (g : Graph) : Option LoadFail :=
  if d.fabricAxis ≠ 0 then none
  else (g.image.nodes.zipIdx.find? fun (n, _) => decide (0x30 ≤ n.opcode) && decide (n.opcode ≤ 0x33) && n.at8 0 == 1).map
    fun (n, i) => { detail := 0x23, sect := g.image.graphSect, offset := n.at_, node := i }

/-- Decode streams of placed graphs other than one. -/
def Dev.othersStreams (d : Dev) (handle : Nat) : Nat :=
  ((d.gr.list.filter fun g => g.isPlaced && g.handle != handle).map fun g => ((g.image.decls.filter (·.kind == 1)).map (·.decodeStreams)).sum).sum

/-- Bytes of spilled pages that placed graphs and a graph to be placed keep in a region (R202). -/
def Dev.spillBytes (d : Dev) (g : Graph) (region : Nat) : Nat :=
  let of_ := fun (img : Image) (pools : List Pool) =>
    ((pools.filter (·.region == region)).map fun p => (img.decls[p.decl]?).elim 0 fun x => x.decodeStreams * p.pages * 65536).sum
  of_ g.image g.pools + ((d.gr.list.filter (·.handle != g.handle)).map fun x => x.placed.elim 0 fun p => of_ x.image p.pools).sum

/-- Whether the decode pools hold the graph's decode streams beside those of the other placed graphs (R202): the licensed count, each
region, and the write pages in scratch (at most 14 ways of 64 MiB on each permitted site). -/
def Dev.decodeOk (d : Dev) (g : Graph) (b : Binding) : Bool :=
  let ds := g.image.decls.zipIdx.filter fun (x, _) => x.kind == 1
  decide ((ds.map (·.1.decodeStreams)).sum + d.othersStreams g.handle ≤ d.decodeLimit) &&
  decide (((writePages g).map (·.2)).sum ≤ ((d.permitted b).map (d.pageRoom g.handle)).sum) &&
  ds.all fun (x, k) =>
    x.kvState == 0xFFFF || x.decodeStreams == 0 ||
    match g.pools.find? (·.decl == k) with
    | some p => (d.regionOf g.session p.region).elim false fun r => decide (d.spillBytes g p.region ≤ r.length)
    | none => false

/-- Graphs whose read-only ranges count when a graph is placed: every placed one and it. -/
def Dev.placedWith (d : Dev) (g : Graph) : List Graph := d.gr.list.filter fun x => x.isPlaced || x.handle == g.handle

/-- The first failure of a placement, in the row order of R150; `draw` numbers the choice. -/
def Dev.placeFail (d : Dev) (draw : Nat) (g : Graph) (b : Binding) : Option LoadFail :=
  let some? := fun (bad : Bool) (detail : Nat) => if bad then some (LoadFail.bare detail) else none
  (firstFail (d.weightFails g)).or
  ((d.rackFail g).or
  ((some? ((d.permitted b).isEmpty || (d.plan draw g b).isNone) 0x24).or
  ((some? (!d.decodeOk g b) 0x25).or
  (some? ((List.range 16).any fun k => decide (256 < (d.readOnlyRanges (d.placedWith g) k).length)) 0x26))))

/-! ## Installing (R88, R152, R299) -/

/-- Scratch ways of every site, from the placements in force (R88): those that all of them ask for, at most 14. Lines cached in ways that
become scratch leave the cache; scratch contents in ways that become cache are lost (R90). DESIGN CHOICE (log 90): a way that becomes
scratch again reads 0. -/
def Dev.setWays (d : Dev) : Dev :=
  let ask := fun (s : Nat) =>
    min 14 ((d.gr.list.filterMap fun g => g.placed.bind fun p => (p.sites.find? (·.1 == s)).map (·.2.1)).sum)
  let one := fun (s : Nat) (d : Dev) =>
    if (d.site s).ways = ask s then d
    else
      let lo := scratchKey s (ask s * 0x4000000)
      let hi := scratchKey (s + 1) 0
      let d1 := d.onSite s fun x => { x with ways := ask s, cache := [] }
      { d1 with mem.cells := cellsClear d1.mem.cells lo hi
                mem.poison := d1.mem.poison.filter fun l => !(decide (lo ≤ l * 256) && decide (l * 256 < hi)) }
  each computeSites one d

/-- Lines of a graph's read-only regions leave every cache when it is placed (R94). -/
def Dev.refreshCaches (d : Dev) (g : Graph) : Dev :=
  let rs := (g.image.tensors.filter fun t => t.cls == 2 && bitOf t.flags 0).filterMap (d.tensorDpa g)
  let hit := fun (line : Nat) => rs.any fun r => decide (line * 256 < r.1 + r.2) && decide (r.1 < (line + 1) * 256)
  each computeSites (fun s d => if (d.site s).cache.isEmpty then d else d.onSite s fun x => { x with cache := x.cache.filter fun (e : Nat × List Byte) => !hit e.1 }) d

/-- Put a waiting placement in force at a boundary (R152). -/
def Graph.install (now : Nat) (g : Graph) : Graph :=
  match g.installing with
  | some p => { g with placed := some { p with installed := now }, installing := none, stale := false }
  | none => g

/-- The generators of a placement's Mill and Edger cores start from its seed (R51, R52). DESIGN CHOICE (log 91): a core that several
placed graphs use has one generator, which stands as the last of their placements left it. -/
def Dev.startGenerators (d : Dev) (p : Placement) : Dev :=
  let cores := ((p.nodes.map (·.coreSet)).flatten.filter fun c => decide (coreKind c ≤ 1)).eraseDups
  { d with cs.sr := d.cs.sr.filter (fun e => !cores.contains e.1) ++ cores.map fun c => (c, p.binding.seed, srInit p.binding.seed c) }

/-- The generators of some logical cores start again (R52). -/
def Dev.restartGenerators (d : Dev) (mine : Nat → Bool) : Dev :=
  { d with cs.sr := d.cs.sr.map fun e => if mine e.1 then (e.1, e.2.1, srInit e.2.1 e.1) else e }

/-- Core programs that the Canopies hold (R104): those of the placements in force, on every site that runs. -/
def Dev.loadPrograms (d : Dev) : Dev :=
  let want := fun (s : Nat) => d.gr.list.filterMap fun g => g.placed.bind fun p => if bitOf p.siteBits s then some (g.handle, p.generation) else none
  each computeSites (fun s d =>
    if ((d.site s).phase = .running ∨ (d.site s).phase = .resuming) ∧ (d.site s).programs ≠ want s then d.onSite s fun x => { x with programs := want s } else d) d

/-! ## Updates (R153) -/

/-- Work of logical cores has moved to other physical cores: the placements that use them count a generation (R153). -/
def Dev.moved (cores : List Nat) (d : Dev) : Dev :=
  let touched := fun (p : Placement) => p.nodes.any fun n => n.coreSet.any cores.contains
  let up := fun (p : Placement) => if touched p then { p with generation := p.generation + 1 } else p
  { d with gr.list := d.gr.list.map fun (g : Graph) => { g with placed := g.placed.map up } }

/-- The placement that takes a graph's place when sites left or came back (R153): the same binding on the permitted sites, the next
generation; where no site is left for a node, the rest stays as it is. -/
def Dev.updated (d : Dev) (g : Graph) (p : Placement) : Placement :=
  let gen := p.generation + 1
  if (d.permitted p.binding).isEmpty then
    let keep := fun (n : NodePlace) =>
      { n with coreSet := n.coreSet.filter fun c => d.inService (c / 2500 + 8)
               sites := (computeSites.filter fun s => bitOf n.sites s && !d.inService s).foldl (fun m s => m - 2 ^ s) n.sites }
    let nodes := p.nodes.map keep
    { p with nodes, generation := gen
             unplaced := (List.range nodes.length).filter fun i => (nodes[i]?).elim false fun n => n.unit != 5 && n.sites == 0 }
  else { d.choose d.free { g with pools := p.pools } p.binding gen with installed := d.rd.start }

/-- Re-place a graph whose placement is stale, and a placement of it that waits (R153): with an event for work left unplaced and for a
placement that does not meet the budget. -/
def Dev.updateGraph (g : Graph) (d : Dev) : Dev :=
  let tooLong := fun (p : Placement) => decide (0 < d.overrunOf (d.works g p.binding) g.image p.nodes) || !p.unplaced.isEmpty
  match g.placed with
  | some p =>
    let q := d.updated g p
    let d1 := d.draw.onGraph g.handle fun x =>
      { x with placed := some q, installing := x.installing.map (fun w => { d.updated x w with generation := q.generation + 1 }), stale := false }
    onlyIf (tooLong q) (Dev.notice 0 0) (d1.startGenerators q)
  | none => d.draw.onGraph g.handle fun x => { x with installing := x.installing.map fun w => { d.updated x w with generation := w.generation }, stale := false }

/-- The updates that are due at a boundary (R153). -/
def Dev.updatePlacements (d : Dev) : Dev := each (d.gr.list.filter (·.stale)) Dev.updateGraph d

/-- The budgets of the placements are computed again at the new frequencies (R399); one that no longer fits is recorded. -/
def Dev.rebudget (d : Dev) : Dev :=
  let one := fun (g : Graph) (d : Dev) =>
    match g.placed with
    | none => d
    | some p =>
      let works := d.works g p.binding
      let nodes := (works.zip p.nodes).map fun x => d.rebudgetNode x.1 x.2
      onlyIf (decide (0 < d.overrunOf works g.image nodes)) (Dev.notice 0 0)
        (d.onGraph g.handle fun x => { x with placed := some { p with nodes } })
  each d.gr.list one d

/-! ## The report (R154) -/

/-- A node record. -/
def NodePlace.bytes (i : Nat) (p : NodePlace) : List Byte :=
  leBytes 4 i ++ leBytes 1 p.unit ++ leBytes 1 p.stage ++ leBytes 2 p.kSplit ++ leBytes 1 p.tree ++ leBytes 1 p.limiting ++
  leBytes 2 p.slowest ++ leBytes 4 p.firstCore ++ leBytes 4 p.coreSet.length ++ leBytes 4 p.budget ++ leBytes 8 p.sites

/-- Bytes of a report. -/
def Placement.reportBytes (p : Placement) : Nat := 64 + 16 * p.sites.length + 32 * p.nodes.length + 320000 + 125 * p.sites.length

/-- The placement report (R154). -/
def Dev.report (d : Dev) (handle : Nat) (p : Placement) : List Byte :=
  let header :=
    leBytes 4 0x54504C50 ++ leBytes 4 handle ++ leBytes 4 p.generation ++ leBytes 4 p.sites.length ++ leBytes 8 p.installed ++
    leBytes 4 p.nodes.length ++ leBytes 4 80000 ++ leBytes 2 p.limiting ++ leBytes 2 p.stages ++ leBytes 4 p.binding.margin ++
    leBytes 8 p.binding.seed ++ zeros 16
  let tables := 64 + 16 * p.sites.length + 32 * p.nodes.length + 320000
  let sites := p.sites.zipIdx.map fun (s, i) =>
    leBytes 1 s.1 ++ leBytes 1 (d.site s.1).ways ++ leBytes 2 s.2.2.1 ++ leBytes 4 s.2.2.2 ++ leBytes 8 (tables + 125 * i)
  let used := fun (c : Nat) => p.nodes.any fun n => n.coreSet.contains c
  let cores := (List.range 80000).map fun c => leBytes 4 (d.coreMhz c + natOf (used c) * 65536)
  let maps := p.sites.map fun s => (List.range 125).map fun k => BitVec.ofNat 8 ((d.physStand s.1 k).getD 255)
  header ++ sites.flatten ++ (p.nodes.zipIdx.map fun (n, i) => n.bytes i).flatten ++ cores.flatten ++ maps.flatten

end Sys2Proof.Machine
end

