-- ==== Sys2Proof/Machine/Graphs.lean ====
section
/-!
DEFINITION. The graph and region commands (chapter 04; R202, R279): loading, placing, querying, unloading, decode pools,
mapping.
-/

namespace Sys2Proof.Machine

/-- Whether no earlier GRAPH_LOAD, GRAPH_PLACE or GRAPH_UNLOAD is in progress (R111): they run one at a time in doorbell order. -/
def Dev.graphTurn (d : Dev) (ch : Nat) : Bool :=
  d.mb.chans.all fun c =>
    !(c.ch != ch && c.st == .running && decide (0x0100 ≤ c.opcode) && decide (c.opcode ≤ 0x0102) && c.outcome.isNone &&
      d.cameBefore c.ch ch)

/-- Run a graph command in its turn (R111). -/
def Dev.onGraphCommand (op ch : Nat) (f : Nat → List Byte → Dev → Dev) (d : Dev) : Dev :=
  if d.graphTurn ch then d.onCommand op ch f else d

/-- A graph of a session by handle (R529). -/
def Dev.graphOf (d : Dev) (session handle : Nat) : Option Graph :=
  d.gr.list.find? fun g => g.handle == handle && g.session == session

/-- STATE_CONFLICT on account of a graph's state (R371). -/
def Dev.failGraph (ch : Nat) (pre : List Byte) (g : Graph) (d : Dev) : Dev :=
  d.failConflict ch pre 1 (d.graphState g) g.handle

/-! ## GRAPH_LOAD -/

/-- Status of a failure (R150). -/
def LoadFail.status (f : LoadFail) : Nat :=
  match f.detail with
  | 0x02 => stIncompatible
  | 0x0A => stNotLicensed
  | 0x12 => stNoResource
  | 0x23 => stConflict
  | 0x24 => stNoResource
  | 0x25 => stNoResource
  | 0x26 => stNoResource
  | _ => stBadParam

/-- The four values of R150. -/
def LoadFail.bytes (f : LoadFail) : List Byte := leBytes 4 f.detail ++ leBytes 4 f.sect ++ leBytes 4 f.offset ++ leBytes 4 f.node

/-- The four values when none applies. -/
def noFail : List Byte := leBytes 16 (2 ^ 128 - 1)

/-- Whether R280 populates a range in full: HBM, or the populated scratch of one site. -/
def Dev.rangePopulated (d : Dev) (a n : Nat) : Bool :=
  d.hbmRange a n ||
  match placeOf d.mBytes a with
  | .scratch s o => decide (o + n ≤ (d.site s).ways * 0x4000000)
  | _ => false

/-- Constants of all loaded graphs, bytes (R122). -/
def Dev.constantBytes (d : Dev) : Nat := (d.gr.list.map fun g => g.image.constants.length).sum

/-- The bytes of an image range, or the first failure that R109 names: range, then poison. -/
def Dev.fetchImage (d : Dev) (a n : Nat) : Except LoadFail (List Byte) :=
  if a % 64 ≠ 0 ∨ !d.rangePopulated a n then .error (.bare 0x01)
  else match d.readBytes a n with
    | some b => .ok b
    | none => .error (.at_ 0x13 (((List.range n).find? fun i => (d.readByte (a + i)).isNone).getD 0))

/-- What a load finds: the image, or its first failure (R116); resources last (detail 0x12). -/
def Dev.validate (d : Dev) (a n : Nat) : Except LoadFail Image :=
  match d.fetchImage a n with
  | .error f => .error f
  | .ok b =>
    match checkImage d.fw.running.arborMinor d.fw.features b with
    | some f => .error f
    | none =>
      let img := imageOf b
      if 64 ≤ d.gr.list.length ∨ 0x40000000 < d.constantBytes + img.constants.length then .error (.bare 0x12) else .ok img

/-- GRAPH_LOAD (R109): lines of the image that the host may hold modified are fetched first (R355). -/
def graphLoad (ch : Nat) (d : Dev) : Dev :=
  d.onGraphCommand 0x0100 ch fun session b d =>
    if d.rangePopulated (u64 b 0) (u64 b 8) ∧ d.mustSnoop (u64 b 0) (u64 b 8) then d.snoopRange (u64 b 0) (u64 b 8)
    else match d.validate (u64 b 0) (u64 b 8) with
    | .error f => d.answer ch f.status (leBytes 4 none32 ++ f.bytes) 0
    | .ok image =>
      let g : Graph :=
        { handle := d.gr.nextHandle, session, image, placed := none, installing := none, stale := false, pools := [], stateMem := [] }
      let d1 := { d with gr.list := d.gr.list ++ [g], gr.nextHandle := d.gr.nextHandle + 1 }
      d1.answer ch stOk (leBytes 4 g.handle ++ noFail) 0
/-- GRAPH_LOAD (R109). -/
def execGraphLoad (ch : Nat) (s : State) : Result := s.run (.graphLoad ch) (graphLoad ch)

/-! ## GRAPH_UNLOAD -/

/-- Release a graph and its placement (R110). -/
def Dev.dropGraph (handle : Nat) (d : Dev) : Dev := { d with gr.list := d.gr.list.filter (·.handle != handle) }

/-- GRAPH_UNLOAD (R110). -/
def graphUnload (ch : Nat) (d : Dev) : Dev :=
  d.onGraphCommand 0x0101 ch fun session b d =>
    match d.graphOf session (u32 b 0) with
    | none => d.fail ch stBadParam
    | some g => if d.graphState g = 2 then d.failGraph ch [] g else (d.dropGraph g.handle).answer ch stOk [] 0
/-- GRAPH_UNLOAD (R110). -/
def execGraphUnload (ch : Nat) (s : State) : Result := s.run (.graphUnload ch) (graphUnload ch)

/-! ## GRAPH_PLACE -/

/-- A failed placement's body (12): generation and installed 0, then the values of R150. -/
def placeBody (generation installed : Nat) (fail : List Byte) : List Byte :=
  leBytes 4 generation ++ zeros 4 ++ leBytes 8 installed ++ fail

/-- The binding in a GRAPH_PLACE body (12): none for a value out of range. -/
def bindingOf (img : Image) (b : List Byte) : Option Binding :=
  let margin := u8 b 4
  let mask := u64 b 16
  let items := (List.range 8).map fun i => u16 b (24 + 2 * i)
  let ok := fun (i v : Nat) => (img.decls[i]?).elim (v == 0) fun x => decide (v ≤ x.maxItems)
  if field b 5 3 ≠ 0 ∨ (25 < margin ∧ margin ≠ 255) ∨ 2 ^ 48 ≤ mask ∨ !(items.zipIdx.all fun (v, i) => ok i v) then none
  else
    let all := computeSites.foldl (fun m s => m ||| 2 ^ s) 0
    some { seed := u64 b 8, margin := if margin = 255 then 8 else margin, siteMask := if mask = 0 then all else mask
           items := items.zipIdx.filterMap fun (v, i) => (img.decls[i]?).map fun x => if v = 0 then x.maxItems else v }

/-- GRAPH_PLACE (R110, R151, R152): a placement that is found waits for the next boundary, at which the command completes. Lines that
a weight's check reads and that the host may hold modified are fetched first (R123, R355). -/
def graphPlace (ch : Nat) (d : Dev) : Dev :=
  d.onGraphCommand 0x0102 ch fun session b d =>
    let bad := d.answer ch stBadParam (placeBody 0 0 noFail) 0
    match d.graphOf session (u32 b 0) with
    | none => bad
    | some g =>
      if d.graphState g = 2 then d.failGraph ch (placeBody 0 0 noFail) g
      else if g.installing.isSome then d
      else match bindingOf g.image b with
        | none => bad
        | some bind =>
        let asked := (d.checkedWeights g).filter fun r => d.mustSnoop r.2.1 r.2.2
        if !asked.isEmpty then each asked (fun r => Dev.snoopRange r.2.1 r.2.2) d
        else match d.placeFail d.free g bind with
          | some f =>
            let body := placeBody 0 0 f.bytes
            if f.detail = 0x23 then d.failGraph ch body g else d.draw.answer ch f.status body 0
          | none =>
            d.draw.onGraph g.handle fun x => { x with installing := d.plan d.free g bind }
/-- GRAPH_PLACE (R151). -/
def execGraphPlace (ch : Nat) (s : State) : Result := s.run (.graphPlace ch) (graphPlace ch)

/-- The channel whose GRAPH_PLACE waits for the boundary that installs a graph. -/
def Dev.placingChannel (d : Dev) (handle : Nat) : Option Nat :=
  (d.mb.chans.find? fun c => c.st == .running && c.opcode == 0x0102 && c.outcome.isNone && u32 c.cmdBody 0 == handle).map (·.ch)

/-- Install the placements that wait (R152) at a boundary: their generators start (R52), cached lines of their read-only regions go (R94),
scratch ways, read-only tables, and the answers. -/
def Dev.installAll (d : Dev) : Dev :=
  let waiting := d.gr.list.filter (·.installing.isSome)
  if waiting.isEmpty then d.setWays.setReadOnly.loadPrograms
  else
    let d1 := { d with gr.list := d.gr.list.map (Graph.install d.rd.start) }
    let answer := fun (g : Graph) (d : Dev) =>
      match d.placingChannel g.handle with
      | some ch => d.answer ch stOk (placeBody (g.installing.elim 0 (·.generation)) d.rd.start noFail) 0
      | none => d
    let start := fun (g : Graph) (d : Dev) => (g.installing.elim d d.startGenerators).refreshCaches g
    each waiting answer (each waiting start d1).setWays.setReadOnly.loadPrograms

/-! ## GRAPH_QUERY -/

/-- The image summary (12). -/
def Dev.summary (d : Dev) (g : Graph) : List Byte :=
  leBytes 4 g.handle ++ leBytes 1 (d.graphState g) ++ leBytes 1 g.image.decls.length ++ leBytes 2 (d.bound g.handle) ++
  padTo 16 g.image.name ++ leBytes 8 g.image.features ++ leBytes 4 g.image.nodes.length ++ leBytes 4 g.image.tensors.length ++
  leBytes 4 (g.placed.elim 0 (·.generation)) ++ leBytes 4 (g.placed.elim 0 (·.reportBytes)) ++ leBytes 4 g.session ++ zeros 4

/-- GRAPH_QUERY (R154): any session's graph; the report goes to the buffer when it fits. -/
def graphQuery (ch : Nat) (d : Dev) : Dev :=
  d.onCommand 0x0103 ch fun _ b d =>
    let dpa := u64 b 8
    let size := u64 b 16
    match d.graph? (u32 b 0) with
    | none => d.fail ch stBadParam
    | some g =>
      if u32 b 4 ≠ 0 ∨ (dpa ≠ 0 ∧ !d.bufferOk dpa size) then d.fail ch stBadParam
      else match g.placed with
        | some p =>
          if dpa = 0 then d.answer ch stOk (d.summary g) 0
          else if size < p.reportBytes then d.answer ch stNoResource (d.summary g) 0
          else (d.store dpa (d.report g.handle p)).answer ch stOk (d.summary g) 0
        | none => d.answer ch stOk (d.summary g) 0
/-- GRAPH_QUERY (R154). -/
def execGraphQuery (ch : Nat) (s : State) : Result := s.run (.graphQuery ch) (graphQuery ch)

/-! ## DECODE_POOL_CONFIG (R202) -/

/-- Tokens per page of a declaration's KV cache (R133), by an ATTENTION node that uses it. -/
def kvTokens (img : Image) (kv : Nat) : Option Nat :=
  (img.nodes.find? fun n => n.opcode == 9 && n.inputs[3]? == some kv).bind fun n =>
    (img.tensors[kv]?).bind fun t => tokensPerPage (n.at16 6) (n.at16 8) (elemBits t.format / 8)

/-- DECODE_POOL_CONFIG (R202). -/
def decodePoolConfig (ch : Nat) (d : Dev) : Dev :=
  d.onCommand 0x0207 ch fun session b d =>
    let k := u8 b 4
    let layers := u16 b 6
    let ctx := u32 b 8
    match d.graphOf session (u32 b 0) with
    | none => d.fail ch stBadParam
    | some g =>
      if (d.regionOf session (u64 b 16)).isNone then d.fail ch stBadParam
      else if d.graphState g = 2 then d.failGraph ch [] g
      else match (g.image.decls[k]?).bind fun x => if x.kind = 1 then kvTokens g.image x.kvState else none with
        | none => d.fail ch stBadParam
        | some tpp =>
          if u8 b 5 ≠ 0 ∨ u32 b 12 ≠ 0 ∨ layers < 1 ∨ 256 < layers ∨ ctx < 1 ∨ 32768 < ctx then d.fail ch stBadParam
          else
            let pages := layers * ((ctx + tpp - 1) / tpp)
            let p : Pool := { decl := k, layers, maxContext := ctx, region := u64 b 16, pages }
            let d1 := d.onGraph g.handle fun x => { x with pools := upsert (·.decl == k) p (fun _ => p) x.pools }
            d1.answer ch stOk (leBytes 4 pages ++ leBytes 4 tpp) 0
/-- DECODE_POOL_CONFIG (R202). -/
def execDecodePoolConfig (ch : Nat) (s : State) : Result := s.run (.decodePoolConfig ch) (decodePoolConfig ch)

/-! ## REGION_MAP (R279) -/

/-- Whether a range can be a region of a view (R279): 4 KiB granules, populated, in the view named. -/
def Dev.regionOk (d : Dev) (view a n : Nat) : Bool :=
  decide (view ≤ 1) && a % 4096 == 0 && n % 4096 == 0 && n != 0 && d.hbmRange a n &&
  decide (0x100000000000 ≤ a) == (view == 1)

/-- REGION_MAP without the unmap flag (R279). -/
def regionMap (ch : Nat) (d : Dev) : Dev :=
  d.onCommand 0x0300 ch fun session b d =>
    if bitOf (u8 b 1) 1 then d
    else if 1 < u8 b 1 ∨ field b 2 6 ≠ 0 ∨ u64 b 24 ≠ 0 ∨ !d.regionOk (u8 b 0) (u64 b 8) (u64 b 16) then d.fail ch stBadParam
    else if 4096 ≤ d.gr.regions.length then d.fail ch stNoResource
    else
      let r : Region :=
        { handle := d.gr.nextRegion, session, stackLocal := u8 b 0 == 1, readOnly := bitOf (u8 b 1) 0, dpa := u64 b 8, length := u64 b 16 }
      let d1 := { d with gr.regions := d.gr.regions ++ [r], gr.nextRegion := d.gr.nextRegion + 1 }
      d1.answer ch stOk (leBytes 8 r.handle) 0
/-- REGION_MAP (R279). -/
def execRegionMap (ch : Nat) (s : State) : Result := s.run (.regionMap ch) (regionMap ch)

/-- A PLACED or BOUND graph that references a region: its weight references and the pools in force. -/
def Dev.regionUser (d : Dev) (r : Region) : Option Graph :=
  d.gr.list.find? fun g => g.session == r.session && g.placed.elim false fun p =>
    g.image.weights.any (·.region == r.handle) || p.pools.any (·.region == r.handle)

/-- REGION_MAP with the unmap flag (R279). -/
def regionUnmap (ch : Nat) (d : Dev) : Dev :=
  d.onCommand 0x0300 ch fun session b d =>
    if !bitOf (u8 b 1) 1 then d
    else match d.regionOf session (u64 b 24) with
      | none => d.fail ch stBadParam
      | some r =>
        match d.regionUser r with
        | some g => d.failGraph ch [] g
        | none =>
          if 3 < u8 b 1 ∨ 1 < u8 b 0 ∨ field b 2 6 ≠ 0 then d.fail ch stBadParam
          else
            let d1 := { d with gr.regions := d.gr.regions.filter (·.handle != r.handle) }
            d1.answer ch stOk (leBytes 8 0) 0
/-- REGION_MAP with the unmap flag (R279). -/
def execRegionUnmap (ch : Nat) (s : State) : Result := s.run (.regionUnmap ch) (regionUnmap ch)

end Sys2Proof.Machine
end

