-- ==== Sys2Proof/Machine/Streams.lean ====
section
/-!
DEFINITION. Streams and rings (chapter 06): the commands that make and end them, the cut-off, intake descriptors and
payloads.
-/

namespace Sys2Proof.Machine

/-! ## Ring memory (R178, R181, R355, R356) -/

/-- The device half of an intake ring's control block, 64 bytes. -/
def IntakeRing.half (r : IntakeRing) : List Byte :=
  leBytes 8 r.consumer ++ leBytes 8 r.lastCutoff ++ leBytes 4 r.fault ++ leBytes 4 r.rejected ++ zeros 40

/-- The device half of a result ring's control block, 64 bytes. -/
def ResultRing.half (r : ResultRing) (held : Nat) : List Byte :=
  leBytes 8 r.published ++ leBytes 4 held ++ zeros 4 ++ leBytes 8 r.lastPublish ++ zeros 40

/-- Bytes of a host range as the device cache holds them (R356): none unless every line is there. -/
def Dev.cached (d : Dev) (a : Nat) : Nat → Option (List Byte)
  | 0 => some []
  | n + 1 =>
    match d.hg.devCache.find? (·.1 == a / 64 * 64), d.cached (a + 1) n with
    | some l, some bs => some ((l.2[a % 64]?).getD 0 :: bs)
    | _, _ => none

/-- What a read of ring or payload memory gives at once. -/
inductive Asked
  /-- the read waits -/
  | waits
  /-- `POISON`, or a host read that the device may not make -/
  | failed
  | data (bs : List Byte)

/-- Read memory that a ring or descriptor names (R178, R356): device memory at once, unless the host may hold a line modified
(R355); host memory by a CXL.cache read. -/
def Dev.ask (host : Bool) (a n : Nat) (p : ReadPurpose) (d : Dev) : Dev × Asked :=
  let wait := fun (dev : Bool) (d : Dev) =>
    { d with hg.hostReads := d.hg.hostReads ++ [{ addr := a, len := n, purpose := p, issued := d.tb.ns, dev }] }
  if host then
    if !d.hostOk then (d, .failed)
    else match d.cached a n with
      | some bs => (d, .data bs)
      | none => (wait false d, .waits)
  else if d.mustSnoop a n then (wait true (d.snoopRange a n), .waits)
  else match d.readBytes a n with
    | some bs => (d, .data bs)
    | none => (d, .failed)

/-- Drop the device-cache lines of a host range (R356). -/
def Dev.dropCache (a n : Nat) (d : Dev) : Dev :=
  { d with hg.devCache := d.hg.devCache.filter fun l => !(decide (a / 64 * 64 ≤ l.1) && decide (l.1 < a + n)) }

/-- Write the device half of an intake ring's control block. -/
def Dev.putIntake (h : Nat) (d : Dev) : Dev :=
  match d.str.intakes.find? (·.handle == h) with
  | some r => d.storeRing r.host (r.control + 64) r.half
  | none => d

/-! ## INTAKE_RING_CREATE, RESULT_RING_CREATE (R177, R178, R180) -/

/-- Whether a ring address range is legal (R178): in a populated HBM view, or host memory that does not wrap. -/
def Dev.ringRange (d : Dev) (host : Bool) (a n : Nat) : Bool := if host then decide (a + n ≤ 2 ^ 64) else d.hbmRange a n

/-- Whether a ring body is legal (R178, R352). -/
def Dev.ringOk (d : Dev) (intake : Bool) (b : List Byte) : Bool :=
  let host := u8 b 0 == 1
  let v := u16 b 2
  let n := u32 b 4
  let size := if intake then 64 else 4096
  decide (u8 b 0 ≤ 1) && u8 b 1 == 0 && (if intake then v == 0xFFFF else v == 0xFFFF || (decide (257 ≤ v) && decide (v ≤ 2047))) &&
  (List.range 11).any (fun k => n == 64 * 2 ^ k) && u64 b 8 % 128 == 0 && u64 b 16 % size == 0 &&
  d.ringRange host (u64 b 8) 128 && d.ringRange host (u64 b 16) (n * size)

/-- INTAKE_RING_CREATE (R178). -/
def intakeRingCreate (ch : Nat) (d : Dev) : Dev :=
  d.onCommand 0x0203 ch fun session b d =>
    if !d.ringOk true b then d.fail ch stBadParam
    else if 1024 ≤ d.str.intakes.length then d.fail ch stNoResource
    else
      let r : IntakeRing :=
        { handle := d.str.nextRing, session, host := u8 b 0 == 1, control := u64 b 8, array := u64 b 16, entries := u32 b 4
          consumer := 0, producer := 0, lastCutoff := 0, fault := 0, rejected := 0, stream := none }
      let d1 := { d with str.intakes := d.str.intakes ++ [r], str.nextRing := d.str.nextRing + 1 }
      (d1.putIntake r.handle).answer ch stOk (leBytes 4 r.handle) 0
/-- INTAKE_RING_CREATE (R178). -/
def execIntakeRingCreate (ch : Nat) (s : State) : Result := s.run (.intakeRingCreate ch) (intakeRingCreate ch)

/-- RESULT_RING_CREATE (R178, R180): every slot header is written. -/
def resultRingCreate (ch : Nat) (d : Dev) : Dev :=
  d.onCommand 0x0204 ch fun session b d =>
    if !d.ringOk false b then d.fail ch stBadParam
    else if 256 ≤ d.str.results.length then d.fail ch stNoResource
    else
      let r : ResultRing :=
        { handle := d.str.nextRing, session, host := u8 b 0 == 1, control := u64 b 8, array := u64 b 16, entries := u32 b 4
          vector := u16 b 2, consumed := 0, written := 0, published := 0, lastPublish := 0, badConsumed := [], stream := none }
      let d1 := { d with str.results := d.str.results ++ [r], str.nextRing := d.str.nextRing + 1 }
      let d2 := d1.storeRing r.host (r.control + 64) (r.half 0)
      let d3 := each (List.range r.entries) (fun k => Dev.storeRing r.host (r.array + 4096 * k) (zeros 64)) d2
      d3.answer ch stOk (leBytes 4 r.handle) 0
/-- RESULT_RING_CREATE (R178). -/
def execResultRingCreate (ch : Nat) (s : State) : Result := s.run (.resultRingCreate ch) (resultRingCreate ch)

/-! ## STREAM_CREATE, STREAM_PAUSE, STREAM_RESUME, STREAM_DESTROY -/

/-- The declaration a stream is bound to. -/
def Dev.declOf (d : Dev) (st : Stream) : Option Decl := (d.graph? st.graph).bind fun g => g.image.decls[st.decl]?

/-- Whether a stream is of decode kind (R124). -/
def Dev.isDecode (d : Dev) (st : Stream) : Bool := (d.declOf st).elim false (·.kind == 1)

/-- The state of a stream in a conflict block (R371, R196): paused before stalled. -/
def Stream.stateCode (st : Stream) : Nat := if st.pausedNext then 1 else if st.stalled then 2 else 0

/-- Whether a feeder fits a decode declaration (R207). -/
def Dev.feederOk (d : Dev) (graph : Nat) (y : Decl) (id : Nat) : Bool :=
  match d.stream? id with
  | some f => f.graph == graph && (d.declOf f).elim false (fun z => z.kind == 0 && z.kvState == y.kvState && y.kvState != 0xFFFF)
  | none => false

/-- Whether the body values of STREAM_CREATE are legal for the graph (R176, R207). -/
def Dev.streamOk (d : Dev) (g : Graph) (b : List Byte) : Bool :=
  let n := u8 b 5
  let feeder := u16 b 6
  let hs := (List.range 8).map fun k => u32 b (16 + 4 * k)
  match g.image.decls[u8 b 4]? with
  | none => false
  | some y =>
    decide (n ≤ 8) && u32 b 12 == 0 && (hs.drop n).all (· == 0) && decide ((hs.take n).Nodup) &&
    (if feeder = 0xFFFF then decide (1 ≤ n) else n == 0 && y.kind == 1 && d.feederOk g.handle y feeder)

/-- The lowest stream id that is free. -/
def Dev.freeStream (d : Dev) : Nat := ((List.range 256).find? fun i => (d.stream? i).isNone).getD 0

/-- A new stream over its rings (R176): it runs. -/
def Dev.newStream (session : Nat) (b : List Byte) (d : Dev) : Dev :=
  let hs := (List.range (u8 b 5)).map fun k => u32 b (16 + 4 * k)
  let id := d.freeStream
  let st : Stream :=
    { id, session, graph := u32 b 0, decl := u8 b 4, result := u32 b 8, intakes := sortBy (fun a b => decide (a ≤ b)) hs
      feeder := if u16 b 6 = 0xFFFF then none else some (u16 b 6), paused := false, pausedNext := false, stalled := false
      lastStart := none, nextSeq := 0, items := [], held := [], entering := [], slots := [], destroying := none }
  let d1 := { d with str.list := d.str.list ++ [st] }
  let d2 := each hs (fun h => Dev.onIntake h fun r => { r with stream := some id }) d1
  d2.onResult st.result fun r => { r with stream := some id }

/-- STREAM_CREATE (R176, R177, R207, R529): ownership, then object state, then body values, then the limit. -/
def streamCreate (ch : Nat) (d : Dev) : Dev :=
  d.onCommand 0x0201 ch fun session b d =>
    let hs := (List.range (min 8 (u8 b 5))).map fun k => u32 b (16 + 4 * k)
    let mineIn := fun h => d.str.intakes.find? fun r => r.handle == h && r.session == session
    let feederMine := u16 b 6 == 0xFFFF || d.owns session 2 (u16 b 6)
    match d.graphOf session (u32 b 0), d.str.results.find? (fun r => r.handle == u32 b 8 && r.session == session) with
    | some g, some res =>
      if !hs.all (fun h => (mineIn h).isSome) || !feederMine then d.fail ch stBadParam
      else if !g.isPlaced then d.failGraph ch [] g
      else if res.stream.isSome then d.failConflict ch [] 3 0 res.handle
      else match hs.find? fun h => (mineIn h).elim false (·.stream.isSome) with
        | some h => d.failConflict ch [] 3 0 h
        | none =>
          if !d.streamOk g b then d.fail ch stBadParam
          else if 256 ≤ d.str.list.length then d.fail ch stNoResource
          else (d.newStream session b).answer ch stOk (leBytes 2 d.freeStream ++ zeros 2) 0
    | _, _ => d.fail ch stBadParam
/-- STREAM_CREATE (R176). -/
def execStreamCreate (ch : Nat) (s : State) : Result := s.run (.streamCreate ch) (streamCreate ch)

/-- STREAM_PAUSE and STREAM_RESUME (R209, R376): from the next cut-off on; a stream that is already so stays so. -/
def Dev.pauseCommand (op : Nat) (pause : Bool) (ch : Nat) (d : Dev) : Dev :=
  d.onCommand op ch fun session b d =>
    let id := u16 b 0
    match d.str.list.find? fun st => st.id == id && st.session == session with
    | none => d.fail ch stBadParam
    | some st =>
      if st.pausedNext = pause then d.answer ch stOk [] 0
      else (d.onStream id fun st => { st with pausedNext := pause }).answer ch stAccepted [] d.rd.next

/-- STREAM_PAUSE (R209). -/
def streamPause (ch : Nat) (d : Dev) : Dev := d.pauseCommand 0x0205 true ch
/-- STREAM_PAUSE (R209). -/
def execStreamPause (ch : Nat) (s : State) : Result := s.run (.streamPause ch) (streamPause ch)
/-- STREAM_RESUME (R209). -/
def streamResume (ch : Nat) (d : Dev) : Dev := d.pauseCommand 0x0206 false ch
/-- STREAM_RESUME (R209). -/
def execStreamResume (ch : Nat) (s : State) : Result := s.run (.streamResume ch) (streamResume ch)

/-- STREAM_DESTROY (R210): on a paused stream; the stream ends, and the command is answered, at the next boundary. -/
def streamDestroy (ch : Nat) (d : Dev) : Dev :=
  d.onCommand 0x0202 ch fun session b d =>
    let id := u16 b 0
    match d.str.list.find? fun st => st.id == id && st.session == session with
    | none => d.fail ch stBadParam
    | some st =>
      if !st.pausedNext then d.failConflict ch [] 2 st.stateCode id
      else d.onStream id fun st => { st with destroying := some ch }
/-- STREAM_DESTROY (R210). -/
def execStreamDestroy (ch : Nat) (s : State) : Result := s.run (.streamDestroy ch) (streamDestroy ch)

/-- Release a stream and its rings (R179, R210): its decode memory, its reads, its reservations at the stream it feeds. -/
def Dev.releaseStream (id : Nat) (d : Dev) : Dev :=
  let rings := (d.stream? id).elim [] (·.intakes)
  let keep := fun (r : HostRead) =>
    match r.purpose with
    | .payload s _ => s != id
    | .producer h => !rings.contains h
    | .descriptor h _ => !rings.contains h
    | .consumed h => (d.stream? id).elim true (·.result != h)
  let own := fun (s : Stream) (e : Nat × Nat) => (s.items ++ s.held ++ s.entering).any (·.seq == e.2)
  let unfeed := fun (s : Stream) => if s.feeder = some id then { s with feeder := none, slots := s.slots.filter (own s) } else s
  { d with
    str.list := (d.str.list.filter (·.id != id)).map unfeed
    str.intakes := d.str.intakes.filter (·.stream != some id)
    str.results := d.str.results.filter (·.stream != some id)
    hg.hostReads := d.hg.hostReads.filter keep
    gr.list := d.gr.list.map fun g => { g with stateMem := g.stateMem.filter (·.stream != id) } }

/-- Items of a stream in flight: those that are no snapshot of a PARTIAL result. -/
def Stream.inFlight (st : Stream) : List Item := st.items.filter fun it => !bitOf it.flags 3

/-- Streams whose STREAM_DESTROY ends them at this boundary (R210): in-flight items stop, held results are discarded, and the
answer counts both. -/
def Dev.destroyStreams (d : Dev) : Dev :=
  let one := fun (st : Stream) (d : Dev) =>
    match st.destroying with
    | none => d
    | some ch =>
      let gone := st.inFlight.length + st.entering.length
      let d1 := (d.releaseStream st.id).answer ch stOk (leBytes 4 gone ++ leBytes 4 st.held.length) 0
      onlyIf (gone != 0) (Dev.notice 0 0x21) d1
  each d.str.list one d

/-! ## Items -/

/-- Update one item of a stream. -/
def Dev.onItem (id seq : Nat) (f : Item → Item) (d : Dev) : Dev :=
  d.onStream id fun st => { st with items := mapIf (fun it => it.seq == seq && !bitOf it.flags 3) f st.items }

/-- An item of a stream, no PARTIAL snapshot. -/
def Dev.item? (d : Dev) (id seq : Nat) : Option Item := (d.stream? id).bind fun st => st.inFlight.find? (·.seq == seq)

/-- A new item taken at a cut-off (R186, R190, R213); `pos` is its position among the items of its round (R119). -/
def Dev.takenItem (d : Dev) (y : Decl) (ring index seq pos : Nat) (decode : Option Nat) : Item :=
  let first := d.rd.number + natOf d.str.slack
  { seq, desc := [], ring, index, pos, round := d.rd.number, due := if y.kind = 1 then first else first + (y.rounds - 1)
    stage := .taken, dispatched := 0, payload := none, payloadPoison := false, status := 0, detail := 0, completion := 0
    flags := 0, result := [], decode, tokens := 0, context := 0, emitted := 0, values := [] }

/-- The decode stream that a feeder feeds (R207). -/
def Dev.fedBy (d : Dev) (id : Nat) : Option Stream := d.str.list.find? (·.feeder == some id)

/-- Decode streams of a stream that are neither occupied nor reserved (R203, R207), lowest first. -/
def Dev.freeDecode (d : Dev) (st : Stream) : List Nat :=
  (List.range ((d.declOf st).elim 0 (·.decodeStreams))).filter fun n => !st.slots.any (·.1 == n)

/-- Give up a decode stream of a stream (R203, R207): its pages are freed. -/
def Dev.freeSlot (id n : Nat) (d : Dev) : Dev :=
  let d1 := d.onStream id fun st => { st with slots := st.slots.filter (·.1 != n) }
  { d1 with gr.list := d1.gr.list.map fun g => { g with stateMem := g.stateMem.filter fun m => !(m.stream == id && m.decode == n) } }

/-- Give up the decode stream that a feeder's item has reserved (R207). -/
def Dev.freeReservation (id seq : Nat) (d : Dev) : Dev :=
  match d.fedBy id with
  | some s => match s.slots.find? (·.2 == seq) with
    | some e => d.freeSlot s.id e.1
    | none => d
  | none => d

/-! ## Cut-off (R185 to R189) -/

/-- A sampled producer is judged (R189): a fault is recorded once, and its clearing once. -/
def Dev.sampled (h value : Nat) (d : Dev) : Dev :=
  match d.str.intakes.find? (·.handle == h) with
  | none => d
  | some r =>
    let f := if value < r.consumer then 2 else if r.consumer + r.entries < value then 1 else 0
    let d1 := (d.onIntake h fun r => { r with producer := value, lastCutoff := d.rd.start, fault := f }).putIntake h
    onlyIf (f != r.fault) (Dev.notice 0 f) d1

/-- Whether a stream takes intake at this cut-off (R185, R196, R501). -/
def Dev.takes (d : Dev) (st : Stream) : Bool :=
  !st.paused && !st.stalled && (d.hg.devState == .ready || d.hg.devState == .service) &&
  d.str.slackExit.elim true (· == d.rd.number)

/-- Whether a producer sample of a stream is outstanding. -/
def Dev.sampling (d : Dev) (st : Stream) : Bool :=
  d.hg.hostReads.any fun r => match r.purpose with
    | .producer h => st.intakes.contains h
    | _ => false

/-- Entries of a ring that a stream may still take (R186, R189): visible, not taken, sampled at this cut-off without fault. -/
def Dev.visible (d : Dev) (st : Stream) (h : Nat) : Nat :=
  match d.str.intakes.find? (·.handle == h) with
  | some r =>
    if r.lastCutoff = d.rd.start ∧ r.fault = 0 then
      r.producer - (r.consumer + (st.items.filter fun it => it.ring == h && it.stage == .taken).length)
    else 0
  | none => 0

/-- How many items a stream may take at a cut-off (R186, R203, R207). -/
def Dev.takeLimit (d : Dev) (st : Stream) : Nat :=
  let bound := (d.graph? st.graph).elim 0 fun g => g.placed.elim 0 fun p => pick 0 p.binding.items st.decl
  let own := if d.isDecode st then (d.freeDecode st).length else bound
  let fed := (d.fedBy st.id).elim bound fun s => (d.freeDecode s).length
  min bound (min own fed)

/-- Take one entry of a ring (R186, R188, R203, R207). -/
def Dev.takeOne (id h : Nat) (d : Dev) : Dev :=
  match d.stream? id, d.str.intakes.find? (·.handle == h) with
  | some st, some r =>
    match d.declOf st with
    | none => d
    | some y =>
      let decode := if y.kind = 1 then (d.freeDecode st).head? else none
      let index := r.consumer + (st.items.filter fun it => it.ring == h && it.stage == .taken).length
      let pos := (st.items.filter fun it => it.round == d.rd.number && !bitOf it.flags 3).length
      let it := d.takenItem y h index st.nextSeq pos decode
      let slot := decode.elim [] fun n => [(n, it.seq)]
      let d1 := d.onStream id fun st => { st with items := st.items ++ [it], nextSeq := st.nextSeq + 1, slots := st.slots ++ slot }
      match d.fedBy id with
      | some s => match (d.freeDecode s).head? with
        | some n => d1.onStream s.id fun s => { s with slots := s.slots ++ [(n, it.seq)] }
        | none => d1
      | none => d1
  | _, _ => d

/-- The rings of a stream in the order of this cut-off (R186): handle order, starting with the ring after the last start. -/
def Stream.ringOrder (st : Stream) : List Nat :=
  match st.lastStart with
  | none => st.intakes
  | some h => st.intakes.filter (fun x => decide (h < x)) ++ st.intakes.filter (fun x => decide (x ≤ h))

/-- The first items in Slack (R213): the frequency steps before Slack are requested for the next boundary. -/
def Dev.slackLeave (d : Dev) : Dev :=
  if d.str.slack ∧ d.str.slackExit = none then
    let req := fun (f : Nat × Nat → Nat) => d.ck.slackSteps.map fun s => ({ mhz := f s, at_ := d.rd.next } : StepReq)
    { d with str.slackExit := some d.rd.number, ck.req9 := req (·.1), ck.req10 := req (·.2) }
  else d

/-- A stream whose samples are in takes its items (R186). -/
def Dev.takeStream (id : Nat) (d : Dev) : Dev :=
  match d.stream? id with
  | none => d
  | some st =>
    let ring := fun (acc : Nat × Dev) (h : Nat) =>
      let n := min acc.1 (acc.2.visible ((acc.2.stream? id).getD st) h)
      (acc.1 - n, (List.range n).foldl (fun d _ => d.takeOne id h) acc.2)
    let r := st.ringOrder.foldl ring (d.takeLimit st, d)
    let d1 := r.2.onStream id fun s => { s with lastStart := st.ringOrder.head? }
    if d1.str.list.any fun s => s.id == id && s.nextSeq != st.nextSeq then { d1.slackLeave with str.busy := true } else d1

/-- Items that their feeder has prepared enter their decode streams (R207). -/
def Dev.enterItems (id : Nat) (d : Dev) : Dev :=
  match d.stream? id with
  | none => d
  | some st =>
    if st.entering.isEmpty then d
    else
      let go := fun (it : Item) => { it with round := d.rd.number, due := d.rd.number, stage := .ready }
      { d.onStream id fun s => { s with items := s.items ++ st.entering.map go, entering := [] } with str.busy := true }

/-- The cut-off of a stream begins (R185): its producers are sampled; a ring whose sample fails gives nothing. -/
def Dev.sampleStream (id : Nat) (d : Dev) : Dev :=
  match d.stream? id with
  | none => d
  | some st =>
    let one := fun (h : Nat) (d : Dev) =>
      match d.str.intakes.find? (·.handle == h) with
      | none => d
      | some r =>
        let a := d.ask r.host r.control 8 (.producer h)
        match a.2 with
        | .data bs => a.1.sampled h (leNat bs)
        | _ => a.1
    let d1 := each st.intakes one d
    if d1.sampling st then d1 else d1.takeStream id

/-- Samples and consumed reads of earlier rounds end (R356); one of host memory is then older than 100 µs. -/
def Dev.dropSamples (d : Dev) : Dev :=
  let old := fun (r : HostRead) => match r.purpose with
    | .producer _ => true
    | .consumed _ => true
    | _ => false
  let late := d.hg.hostReads.any fun r => old r && !r.dev
  let d1 := { d with hg.hostReads := d.hg.hostReads.filter fun r => !old r, str.waiting := false }
  onlyIf late (Dev.setErr 1) d1

/-- Whether any item is in flight or result held (R212). -/
def Dev.anyWork (d : Dev) : Bool := d.str.list.any fun st => !st.items.isEmpty || !st.held.isEmpty || !st.entering.isEmpty

/-- The intake cut-off of a round (R185, R209): pauses take effect, prepared items enter, every stream that takes intake is
sampled. -/
def Dev.cutoff (d : Dev) : Dev :=
  let d1 := d.dropSamples
  let d2 := { d1 with str.list := d1.str.list.map fun st => { st with paused := st.pausedNext }, str.busy := d1.anyWork }
  each d2.str.list (fun st d => onlyIf (d.takes st) (Dev.sampleStream st.id) (d.enterItems st.id)) d2

/-! ## Descriptors and payloads (R182 to R187) -/

/-- The ring an item was taken from counts a rejection (R182, intake control block). -/
def Dev.reject (id seq detail : Nat) (d : Dev) : Dev :=
  match d.item? id seq with
  | none => d
  | some it =>
    let d1 := d.onItem id seq fun it => { it.finish 4 detail d.tb.ns with due := it.round }
    (d1.onIntake it.ring fun r => { r with rejected := (r.rejected + 1) % 2 ^ 32 }).putIntake it.ring

/-- An item's work does not complete validly (R192). -/
def Dev.faultItem (id seq detail : Nat) (d : Dev) : Dev :=
  d.onItem id seq (Item.finish 3 detail d.tb.ns)

/-- Bytes of the PAYLOAD tensor of a stream (R121); 0 without one. -/
def Dev.payloadSize (d : Dev) (st : Stream) : Nat :=
  match d.graph? st.graph, d.declOf st with
  | some g, some y => (g.image.tensors[y.payload]?).elim 0 (·.sliceBytes)
  | _, _ => 0

/-- Flags of a descriptor: PROGRESS, PAYLOAD_CRC, HOST_PAYLOAD, RESULT_CRC. -/
def Item.descFlags (it : Item) : Nat := u8 it.desc 0x16

/-- The payload of an item is in (R182, R184, R528): its CRC is checked and stripped; the item waits for dispatch. -/
def Dev.gotPayload (id seq : Nat) (data : Option (List Byte)) (d : Dev) : Dev :=
  match d.item? id seq with
  | none => d
  | some it =>
    if it.stage ≠ .loading then d
    else
      let crc := bitOf it.descFlags 1
      let n := u32 it.desc 0x10
      let m := if crc then n - 4 else n
      let ready := fun (bs : List Byte) (poison : Bool) (it : Item) =>
        { it with payload := some bs, payloadPoison := poison, stage := .ready }
      match data with
      | none => if bitOf it.descFlags 2 then d.faultItem id seq 0x14 else d.onItem id seq (ready (zeros m) true)
      | some bs =>
        if crc ∧ crc32c (bs.take m) ≠ leNat (bs.drop m) then d.reject id seq 5 else d.onItem id seq (ready (bs.take m) false)

/-- The checks of R182 that need no payload. -/
def Dev.descFail (d : Dev) (st : Stream) (it : Item) : Option Nat :=
  let fl := it.descFlags
  let a := u64 it.desc 8
  let n := u32 it.desc 0x10
  let crc := bitOf fl 1
  if u8 it.desc 0x17 ≠ 1 ∨ 16 ≤ fl then some 1
  else if u16 it.desc 0x14 ≠ st.id then some 2
  else if !d.ringRange (bitOf fl 2) a n then some 3
  else if d.payloadSize st < n - (if crc then 4 else 0) ∨ (crc ∧ n < 4) then some 4
  else none

/-- A descriptor is checked, and its payload read (R182, R184, R360). -/
def Dev.checkItem (id seq : Nat) (d : Dev) : Dev :=
  match d.stream? id, d.item? id seq with
  | some st, some it =>
    match d.descFail st it with
    | some k => d.reject id seq k
    | none =>
      let a := d.ask (bitOf it.descFlags 2) (u64 it.desc 8) (u32 it.desc 0x10) (.payload id seq)
      match a.2 with
      | .waits => a.1
      | .failed => a.1.gotPayload id seq none
      | .data bs => a.1.gotPayload id seq (some bs)
  | _, _ => d

/-- Every descriptor taken from a ring has been read (R187): consumer is written, and the items are checked. -/
def Dev.ringRead (id h : Nat) (d : Dev) : Dev :=
  match d.stream? id with
  | none => d
  | some st =>
    let mine := st.items.filter fun it => it.ring == h && it.stage == .taken
    if mine.isEmpty || mine.any (·.desc.isEmpty) then d
    else
      let drop := fun (r : IntakeRing) (it : Item) (d : Dev) => if r.host then d.dropCache (r.array + it.index % r.entries * 64) 64 else d
      let d1 := (d.onIntake h fun r => { r with consumer := r.consumer + mine.length }).putIntake h
      let d2 := match d1.str.intakes.find? (·.handle == h) with
        | some r => each mine (drop r) d1
        | none => d1
      let d3 := each mine (fun it => Dev.onItem id it.seq fun x => { x with stage := .loading }) d2
      each mine (fun it d => if it.status = 3 then d.faultItem id it.seq 0x10 else d.checkItem id it.seq) d3

/-- The outcome of a descriptor read (R183, R187, R356, R528): with POISON the item ends with detail 0x10 once the ring is read; a
host read that times out takes every item of the ring in that round back. -/
def Dev.gotDescriptor (h index : Nat) (data : Asked) (d : Dev) : Dev :=
  match (d.str.intakes.find? (·.handle == h)).bind fun r => r.stream.bind d.stream? with
  | none => d
  | some st =>
    let here := fun (it : Item) => it.ring == h && it.index == index && it.stage == .taken && it.desc.isEmpty
    let set := fun (f : Item → Item) => d.onStream st.id fun s => { s with items := mapIf here f s.items }
    let host := (d.str.intakes.find? (·.handle == h)).elim false (·.host)
    match data with
    | .waits => d
    | .data bs => (set fun it => { it with desc := bs }).ringRead st.id h
    | .failed =>
      if !host then (set fun it => { it with desc := zeros 64, status := 3 }).ringRead st.id h
      else
        let gone := st.items.filter fun it => it.ring == h && it.stage == .taken
        let seqs := gone.map (·.seq)
        let d1 := d.onStream st.id fun s => { s with items := s.items.filter (fun it => !seqs.contains it.seq) }
        let back := fun (it : Item) (d : Dev) =>
          match it.decode with
          | some n => d.freeSlot st.id n
          | none => d.freeReservation st.id it.seq
        let d2 := each gone back d1
        { d2 with hg.hostReads := d2.hg.hostReads.filter fun r => match r.purpose with
            | .descriptor k _ => k != h
            | _ => true }

/-- Read the descriptors of the items a stream has taken (R187). -/
def Dev.readDescriptors (id : Nat) (d : Dev) : Dev :=
  match d.stream? id with
  | none => d
  | some st =>
    let waitsFor := fun (d : Dev) (it : Item) => d.hg.hostReads.any fun r => r.purpose == .descriptor it.ring it.index
    let one := fun (it : Item) (d : Dev) =>
      if it.stage = .taken ∧ it.desc = [] ∧ !waitsFor d it ∧ (d.item? id it.seq).isSome then
        match d.str.intakes.find? (·.handle == it.ring) with
        | none => d
        | some r =>
          let a := d.ask r.host (r.array + it.index % r.entries * 64) 64 (.descriptor it.ring it.index)
          a.1.gotDescriptor it.ring it.index a.2
      else d
    each st.items one d

/-- INTAKE_DESCRIPTOR_READ (R187): once a round, before dispatch. -/
def intakeDescriptorRead (d : Dev) : Dev :=
  if d.rd.active && !d.rd.done.contains .descRead && !d.rd.done.contains .dispatch then
    each d.str.list (fun st => Dev.readDescriptors st.id) { d with rd.done := .descRead :: d.rd.done }
  else d
/-- INTAKE_DESCRIPTOR_READ (R187). -/
def execIntakeDescriptorRead (s : State) : Result := s.run .intakeDescriptorRead intakeDescriptorRead

/-- The producer samples of a stream are in (R185): it takes its items; after INTAKE_DESCRIPTOR_READ their descriptors are read at
once. -/
def Dev.samplesIn (id : Nat) (d : Dev) : Dev :=
  match d.stream? id with
  | none => d
  | some st =>
    if d.sampling st || !d.takes st then d
    else
      let d1 := d.takeStream id
      if d1.rd.done.contains .descRead then d1.readDescriptors id else d1

end Sys2Proof.Machine
end

