-- ==== Sys2Proof/Machine/Publish.lean ====
section
/-!
DEFINITION. The work of items in their rounds (05 R172 to R175, 06): dispatch, the stage deadline; publication of results (R193 to
R201).
-/

namespace Sys2Proof.Machine

/-! ## Dispatch (R172) -/

/-- What is fixed during the work of a batch: the stream, its graph and placement. -/
structure Frame0 where
  st : Stream
  g : Graph
  p : Placement

/-- The frame of a stream's items: none while its graph is not placed. -/
def Dev.frameOf (d : Dev) (st : Stream) : Option Frame0 :=
  (d.graph? st.graph).bind fun g => g.placed.map fun p => { st, g, p }

/-- Nodes of a stream's declaration in a pipeline stage: index and placement. -/
def Frame0.stageNodes (x : Frame0) (stage : Nat) : List (Nat × NodePlace) :=
  let ds := nodeDecls x.g.image [] x.g.image.nodes
  ((x.p.nodes.zip ds).zipIdx.filter fun e => e.1.1.stage == stage && e.1.2.elim true (· == x.st.decl)).map fun e => (e.2, e.1.1)

/-- The last pipeline stage of a stream's declaration. -/
def Frame0.lastStage (x : Frame0) : Nat :=
  let ds := nodeDecls x.g.image [] x.g.image.nodes
  ((x.p.nodes.zip ds).filter fun e => e.2.elim true (· == x.st.decl)).foldl (fun m e => max m e.1.stage) 0

/-- The sites whose shares a stage has. -/
def Frame0.stageSites (x : Frame0) (stage : Nat) : List Nat :=
  let m := (x.stageNodes stage).foldl (fun m e => m ||| e.2.sites) 0
  computeSites.filter (bitOf m)

/-- Whether a node's share needs one of some logical cores. -/
def NodePlace.needs (p : NodePlace) (cores : List Nat) : Bool :=
  cores.any p.coreSet.contains

/-- One item at dispatch (R105, R153, R207, R208, R213, R450): its next stage runs, unless it waits. -/
def Dev.dispatchItem (d : Dev) (stopped : List Nat) (x : Frame0) (it : Item) : Item :=
  let go := fun (stage : Nat) =>
    let sites := x.stageSites stage
    let away := fun (s : Nat) => (d.site s).phase != .running || !d.inService s
    if (x.stageNodes stage).any fun e => x.p.unplaced.contains e.1 then it.finish 3 0x13 d.tb.ns
    else if sites.any away || (x.stageNodes stage).any (fun e => e.2.needs stopped) then { it with status := 2, detail := 0x31 }
    else { it with stage := .running stage sites, dispatched := d.rd.number, due := if it.decode.isSome then d.rd.number else it.due }
  let paused := it.decode.isSome && x.st.stalled
  match it.stage with
  | .ready => if (d.str.slack ∧ it.round = d.rd.number) ∨ paused then it else go 0
  | .between k => if paused then it else go k
  | _ => it

/-- Decode items that begin a round in a dispatch have their positions among the items of that round (R119), in intake order. -/
def decodePositions (round : Nat) : Nat → List Item → List Item
  | _, [] => []
  | k, it :: its =>
    let begins := it.decode.isSome && it.dispatched == round && (match it.stage with
      | .running s _ => s == 0
      | _ => false)
    (if begins then { it with pos := k } else it) :: decodePositions round (if begins then k + 1 else k) its

/-- Sites whose Mill cores hold a share that is not complete. -/
def Dev.working (d : Dev) : List Nat :=
  let left := fun (it : Item) => match it.stage with
    | .running _ l => l
    | _ => []
  (d.str.list.map fun st => (st.items.map left).flatten).flatten

/-- Sites in service that a PLACED or BOUND graph uses (R408). -/
def Dev.placedSites (d : Dev) : List Nat :=
  computeSites.filter fun s => d.inService s && d.gr.list.any fun g => g.placed.elim false fun p => bitOf p.siteBits s

/-- Mill cores that a placement uses and that have no share run Trickle (R172, R408); from the stage deadline to the next dispatch every
one does. -/
def Dev.trickleNow (d : Dev) : Dev :=
  let busy := if d.rd.done.contains .dispatch && !d.rd.done.contains .stageDeadline then d.working else []
  { d with pw.trickling := if d.trickleAxisOn then d.placedSites.filter (fun s => !busy.contains s) else [] }

/-- The transfers of a dispatch write the operands of the Mill cores of its stages anew (R70): what was poisoned there is replaced
(R77). -/
def Dev.stageOperands (d : Dev) : Dev :=
  let started := fun (it : Item) => match it.stage with
    | .running k _ => if it.dispatched = d.rd.number then some k else none
    | _ => none
  let of_ := fun (st : Stream) => (d.frameOf st).elim [] fun x =>
    (((st.items.filterMap started).eraseDups.map fun k => x.stageNodes k).flatten.map fun e => e.2.coreSet).flatten
  let cores := ((d.str.list.map of_).flatten.filter fun c => coreKind c == 0).eraseDups
  let one := fun (s : Site) => { s with standPoison := s.standPoison.filter fun w => !(cores.any fun c => d.millWord c s.site w) }
  if cores.isEmpty then d else { d with cs.sites := d.cs.sites.map one }

/-- DISPATCH, 10 µs into a round (R172): stage work begins on every site; none in SAFE_HOLD (R501). -/
def dispatch (d : Dev) : Dev :=
  d.onPoint .dispatch 10000 fun d =>
    if d.hg.devState = .ready ∨ d.hg.devState = .service then
      let stopped := d.stoppedCores
      let one := fun (st : Stream) =>
        match d.frameOf st with
        | some x => { st with items := decodePositions d.rd.number 0 (st.items.map (d.dispatchItem stopped x)) }
        | none => st
      Dev.trickleNow (Dev.stageOperands { d with str.list := d.str.list.map one })
    else d
/-- DISPATCH (R172). -/
def execDispatch (s : State) : Result := s.run .dispatch dispatch

/-! ## The stage deadline (R172, R173) -/

/-- From the stage deadline to the end of a round, ns (R172). -/
def stageLead : Nat := 40000
/-- The stage deadline of a round (R172). -/
def Dev.deadlineOf (d : Dev) (round : Nat) : Nat := d.rd.epoch + round * d.rd.period + (d.rd.period - stageLead)

/-- Shares of this round that are not complete (R173): site, graph, node. -/
def Dev.overdue (d : Dev) : List (Nat × Nat × Nat) :=
  let one := fun (st : Stream) (it : Item) =>
    match d.frameOf st, it.stage with
    | some x, .running k left =>
      if it.dispatched = d.rd.number then
        left.map fun s => (s, st.graph, ((x.stageNodes k).find? fun e => bitOf e.2.sites s).elim 0 (·.1))
      else []
    | _, _ => []
  (d.str.list.map fun st => (st.items.map (one st)).flatten).flatten.eraseDups

/-- STAGE_DEADLINE, 40 µs before the end of a round (R173, R530): one OVERRUN entry and its continuation for each late share. -/
def stageDeadline (d : Dev) : Dev :=
  d.onPoint .stageDeadline (d.rd.period - 40000) fun d =>
    let late := d.overdue
    let one := fun (e : Nat × Nat × Nat) => Dev.logWith (siteUnit e.1) 0 0x0401 e.2.1 [(d.rd.number, e.2.2)]
    let d1 := each late one { d with rd.overruns := d.rd.overruns + late.length }
    { d1 with pw.trickling := if d1.trickleAxisOn then d1.placedSites else [] }
/-- STAGE_DEADLINE (R173). -/
def execStageDeadline (s : State) : Result := s.run .stageDeadline stageDeadline

/-! ## Results (R190 to R199) -/

/-- Payload bytes of a result (R190). -/
def Item.payloadBytes (it : Item) : List Byte := if it.status = 1 ∨ it.status = 2 then it.result else []

/-- The 64 bytes of a result header (R190, R191). -/
def Item.header (it : Item) (stream gen round : Nat) : List Byte :=
  let crc := bitOf it.descFlags 3
  let p := it.payloadBytes
  leBytes 2 (it.flags % 64 + 64 * natOf crc) ++ leBytes 2 it.status ++ leBytes 4 gen ++ padTo 8 (it.desc.take 8) ++
  leBytes 8 it.completion ++ leBytes 8 round ++ slice it.desc 0x18 8 ++ leBytes 4 p.length ++ leBytes 2 (round - it.round) ++
  leBytes 2 stream ++ leBytes 2 it.detail ++ leBytes 2 (it.decode.getD 0xFFFF) ++ leBytes 2 it.tokens ++ zeros 2 ++
  leBytes 4 (if crc then crc32c p else 0) ++ zeros 4

/-- Bytes that a result counts against the host-memory limit (R195). -/
def Item.cost (it : Item) : Nat := 64 + (it.payloadBytes.length + 63) / 64 * 64

/-- Write publication k = written of a ring (R194, R198): payload, then header. -/
def Dev.writeSlot (id h round : Nat) (it : Item) (d : Dev) : Dev :=
  match d.str.results.find? (·.handle == h) with
  | none => d
  | some r =>
    let slot := r.array + r.written % r.entries * 4096
    let p := it.payloadBytes
    let d1 := onlyIf (!p.isEmpty) (Dev.storeRing r.host (slot + 64) (padTo (it.cost - 64) p)) d
    let d2 := d1.storeRing r.host slot (it.header id (genOf r.written r.entries) round)
    { d2.onResult h (fun r => { r with written := r.written + 1 }) with str.touched := insertNew h d2.str.touched }

/-- What the publication of a result frees (R203, R205, R207, R356): the decode stream and pages of a FINAL result; a feeder's item
enters its decode stream, or gives up its reservation; the payload's cached lines are dropped. -/
def Dev.afterPublish (id : Nat) (it : Item) (d : Dev) : Dev :=
  let d1 := onlyIf (bitOf it.descFlags 2 && !bitOf it.flags 3) (Dev.dropCache (u64 it.desc 8) (u32 it.desc 0x10)) d
  if it.decode.isSome then
    match it.decode with
    | some n => if bitOf it.flags 4 then d1.freeSlot id n else d1
    | none => d1
  else match d1.fedBy id with
    | none => d1
    | some s =>
      if (it.status = 1 ∨ it.status = 2) ∧ !bitOf it.flags 0 then
        match s.slots.find? (·.2 == it.seq) with
        | some e =>
          let desc := padTo 24 (it.desc.take 8) ++ slice it.desc 0x18 40
          let new := { it with desc, decode := some e.1, stage := .ready, status := 0, detail := 0, flags := 0, result := [], tokens := 0
                               emitted := 0, values := [], payload := none, payloadPoison := false }
          d1.onStream s.id fun s => { s with entering := s.entering ++ [new] }
        | none => d1
      else d1.freeReservation id it.seq

/-- How far the host-memory limit of a window is used (R195). -/
structure HostBudget where
  used : Nat
  hit : Bool

/-- Publish one result of a stream, or keep it (R195, R196): HELD without a slot, CARRIED beyond the limit. `extra` counts the
results carried before it in the stream. -/
def Dev.publishOne (id h : Nat) (acc : HostBudget × Nat × Dev) (it : Item) : HostBudget × Nat × Dev :=
  let (b, extra, d) := acc
  let keep := fun (flag : Nat) (d : Dev) => d.onStream id fun s => { s with held := s.held ++ [{ it with flags := it.flags ||| flag }] }
  match d.str.results.find? (·.handle == h) with
  | none => acc
  | some r =>
    if r.consumed + r.entries ≤ r.written + extra ∨ (r.host ∧ !d.hostOk) then (b, extra, keep 2 d)
    else if r.host ∧ (b.hit ∨ 3145728 < b.used + it.cost) then
      let d1 := if b.hit then d else { d with str.carryAt := some id }
      ({ b with hit := true }, extra + 1, keep 4 d1)
    else
      let b1 := if r.host then { b with used := b.used + it.cost } else b
      (b1, extra, (d.writeSlot id h d.rd.number it).afterPublish id it)

/-- Publish the results of one stream in order (R193). -/
def Dev.publishStream (acc : HostBudget × Dev) (id : Nat) : HostBudget × Dev :=
  match acc.2.stream? id with
  | none => acc
  | some st =>
    let d1 := acc.2.onStream id fun s => { s with held := [] }
    let r := st.held.foldl (Dev.publishOne id st.result) (acc.1, 0, d1)
    (r.1, r.2.2)

/-- Stream ids in the order in which a window counts them (R195). -/
def Dev.windowOrder (d : Dev) : List Nat :=
  let ids := sortBy (fun a b => decide (a ≤ b)) (d.str.list.map (·.id))
  match d.str.carryAt with
  | none => ids
  | some c => ids.filter (fun i => decide (c < i)) ++ ids.filter (fun i => decide (i ≤ c))

/-- Write the results of a window (R193 to R196). -/
def Dev.publishAll (d : Dev) : Dev :=
  (d.windowOrder.foldl Dev.publishStream ({ used := 0, hit := false }, { d with str.waiting := false })).2

/-- The results of a stream that a window publishes, after those held (R193): late ones, oldest round first, then those scheduled. -/
def Stream.gather (round : Nat) (st : Stream) : Stream :=
  let due := fun (it : Item) => it.stage == .finished && decide (it.due ≤ round)
  let before := fun (a b : Item) => decide (a.due < b.due) || (a.due == b.due && decide (a.seq ≤ b.seq))
  { st with held := st.held ++ sortBy before (st.items.filter due), items := st.items.filter fun it => !due it }

/-- A ring's slots that consumed has passed become PENDING (R199). -/
def Dev.reclaim (r : ResultRing) (upTo : Nat) (d : Dev) : Dev :=
  each (List.range (upTo - r.consumed)) (fun i =>
    let k := r.consumed + i
    Dev.storeRing r.host (r.array + k % r.entries * 4096) (zeros 4 ++ leBytes 4 (genOf k r.entries))) d

/-- Whether a consumed read is outstanding. -/
def Dev.awaitsConsumed (d : Dev) : Bool :=
  d.hg.hostReads.any fun r => match r.purpose with
    | .consumed _ => true
    | _ => false

/-- A consumed value is read (R196, R199, R201): above published it counts as published and is recorded once; below the last one it is
ignored. A read that fails is recorded. -/
def Dev.gotConsumed (h : Nat) (value : Option Nat) (d : Dev) : Dev :=
  match d.str.results.find? (·.handle == h), value with
  | some r, some v =>
    let bad := decide (r.published < v)
    let d1 := if bad && !r.badConsumed.contains v then (d.onResult h fun r => { r with badConsumed := v :: r.badConsumed }).notice 0 0 else d
    let c := min v r.published
    if c ≤ r.consumed then d1 else (d1.reclaim r c).onResult h fun r => { r with consumed := c }
  | some _, none => d.notice 0 0
  | none, _ => d

/-- The window's results are written once every consumed read is in. -/
def Dev.windowReady (d : Dev) : Dev := if d.str.waiting && !d.awaitsConsumed then d.publishAll else d

/-- Read consumed of a ring that serves a stream (R196); none while the host cannot be reached (R360). -/
def Dev.askConsumed (r : ResultRing) (d : Dev) : Dev :=
  if r.stream.isNone || (r.host && !d.hostOk) then d
  else
    let a := d.ask r.host r.control 8 (.consumed r.handle)
    match a.2 with
    | .waits => a.1
    | .failed => a.1.gotConsumed r.handle none
    | .data bs => a.1.gotConsumed r.handle (some (leNat bs))

/-- PUBLICATION_WINDOW_OPEN, 40 µs before the end of a round (R193, R196, R360): consumed is read, results are gathered and
written; nothing in SAFE_HOLD (R501). The stage deadline, which stands before it at the same offset (R172), has passed. -/
def publicationWindowOpen (d : Dev) : Dev :=
  Dev.onPoint .window (d.rd.period - 40000) (fun d =>
    if d.hg.devState = .ready ∨ d.hg.devState = .service then
      let d1 := { d with str.list := d.str.list.map (Stream.gather d.rd.number), str.waiting := true, str.touched := [] }
      (each d1.str.results Dev.askConsumed d1).windowReady
    else d) (onlyIf (!d.rd.done.contains .window) stageDeadline d)
/-- PUBLICATION_WINDOW_OPEN (R193). -/
def execPublicationWindowOpen (s : State) : Result := s.run .publicationWindowOpen publicationWindowOpen

/-- Results of a stream that are held (R196). -/
def Stream.heldCount (st : Stream) : Nat := (st.held.filter fun it => bitOf it.flags 1).length

/-- The publication deadline for the result rings (R194, R196, R197): published is written, one message for each ring that published,
and streams stall or resume. -/
def Dev.publishDeadline (d : Dev) : Dev :=
  if d.hg.devState = .ready ∨ d.hg.devState = .service then
    let noRead := fun (r : HostRead) (d : Dev) => match r.purpose with
      | .consumed h => d.gotConsumed h none
      | _ => d
    let d1 := if d.str.waiting then (each d.hg.hostReads noRead d).publishAll else d
    let one := fun (r : ResultRing) (d : Dev) =>
      let hit := d.str.touched.contains r.handle
      let r1 := if hit then { r with published := r.written, lastPublish := d.rd.start + d.rd.period - 10000 } else r
      let held := (r.stream.bind d.stream?).elim 0 Stream.heldCount
      let d2 := (d.onResult r.handle fun _ => r1).storeRing r.host (r.control + 64) (r1.half held)
      onlyIf (hit && r.vector != 0xFFFF) (Dev.sendMsix r.vector) d2
    let d2 := each (d1.str.results.filter (·.stream.isSome)) one d1
    { d2 with str.touched := [], str.list := d2.str.list.map fun st => { st with stalled := decide (4096 ≤ st.heldCount) } }
  else d

end Sys2Proof.Machine
end

