-- ==== Sys2Proof/Machine/Recover.lean ====
section
/-!
DEFINITION. What the fault manager does (chapters 16 and 18): plane ports and lanes that leave use, Coppice, fences and
resets, transient and lasting faults, the queue of reports, and the handover between the Rangers (chapter 17).
-/

namespace Sys2Proof.Machine

/-! ## Plane ports -/

/-- Hold a plane port out of the matching. -/
def Dev.holdPort (h : Hold) (port plane : Nat) : Dev → Dev := Dev.onPort port plane fun p => { p with holds := insertNew h p.holds }
/-- A reason to hold a plane port out of the matching is gone. -/
def Dev.freePort (h : Hold) (port plane : Nat) : Dev → Dev := Dev.onPort port plane fun p => { p with holds := p.holds.filter (· != h) }

/-- A plane port is to be retired at the next boundary (R240); it is held out until then. -/
def Dev.retirePort (port plane : Nat) (d : Dev) : Dev :=
  if (d.pport port plane).retired then d
  else (d.holdPort .switchPort port plane).onPort port plane fun p => { p with retiring := true }

/-- A site that no plane serves any more leaves service (R240). -/
def Dev.cutOff (port : Nat) (d : Dev) : Dev :=
  if (List.range 4).any (d.portPlane port) then d
  else if isCompute port then d.siteOut port
  else if isMemory port then { d with sp.out := insertNew port d.sp.out }
  else d

/-- A plane port is retired now (R239, R240): the plane leaves the masks, what is queued at the port for the plane is discarded, the capacity
axis becomes DEGRADED, a site with no plane port left leaves service. Cells that others have queued for it there are still sent. -/
def Dev.retireNow (port plane : Nat) (d : Dev) : Dev :=
  if (d.pport port plane).retired then d
  else
    let d1 := d.onPort port plane fun p => { p with retired := true, retiring := false, holds := [] }
    let d2 := ({ d1 with ba.out := d1.ba.out.filter fun q => !(q.plane == plane && q.port == port) } : Dev).log (switchUnit port plane 0) 4 0x0204 0 |>.degrade
    (d2.cutOff port).checkMinimum

/-! ## Loss location (R261) -/

/-- Sensitivity, 0.01 dBm (R262). -/
def sensitivity : Int := -2200

/-- The walk of R261 from stage `s` on: the stage named, and its excess loss. -/
def Dev.walk (d : Dev) (port plane line : Nat) : Nat → Nat → Nat × Int
  | 0, _ => (if d.readingAt port plane line 10 - sensitivity < 200 then 15 else 0, 0)
  | n + 1, s =>
    let loss := d.readingAt port plane line s - d.readingAt port plane line (s + 1)
    let budget := d.expectedAt port plane line s - d.expectedAt port plane line (s + 1)
    let low := d.expectedAt port plane line 1 - d.readingAt port plane line 1
    if s = 1 ∧ 150 < low then (1, low)
    else if budget + 150 < loss then (s + 1, loss - budget)
    else d.walk port plane line n (s + 1)

/-- A unit's substitute is being prepared (R449): the unit is stopped until the boundary after. -/
def Dev.prepare (unit substitute : Nat) (d : Dev) : Dev :=
  { d with sp.substs := d.sp.substs.filter (·.unit != unit) ++ [{ unit, substitute, ready := none }] }

/-- The switch port that serves a plane port (R215, R460): its own, or the spare that it is steered to. -/
def Dev.switchOf (d : Dev) (port plane : Nat) : Nat := switchUnit port plane ((d.pport port plane).steer.getD 0)

/-- Spare switch ports of a plane that are in use or have failed (R457). -/
def Dev.usedSwitches (d : Dev) (plane : Nat) : List Nat :=
  let of_ := fun (u : Nat) => if unitKind u == 7 && bitsOf u 47 40 == plane then some (bitsOf u 15 0) else none
  (d.ba.ports.filter (·.plane == plane)).filterMap (·.steer) ++ d.sp.substs.filterMap (fun s => of_ s.substitute) ++ d.sp.failed.filterMap of_ ++
  (d.ba.dueSteer.filter fun e => e.2.1 == plane).map (·.2.2)

/-- A switch port has failed (R457): it is held out, and the die link is steered to the lowest spare switch port of the plane
that is not in use; with none left the plane port is retired. -/
def Dev.steerPort (port plane : Nat) (d : Dev) : Dev :=
  let d0 := if (d.pport port plane).steer.isSome then { d.fdm (d.switchOf port plane) 1 1 1 with sp.failed := insertNew (d.switchOf port plane) d.sp.failed } else d
  let d1 := d0.holdPort .switchPort port plane
  match ((List.range 9).map (· + 55)).find? fun s => !(d1.usedSwitches plane).contains s with
  | some s => d1.prepare (switchUnit port plane 0) (switchUnit port plane s)
  | none => d1.retirePort port plane

/-- LOSS_LOCATION (R261): its result is recorded; stages 8 and 9 are a switch port's (R457). -/
def Dev.locateLoss (port plane line : Nat) (d : Dev) : Dev :=
  let r := d.walk port plane line 9 1
  let d1 := d.onOptic port plane fun o => { o with lossStage := r.1, lossLine := line, lossExcess := r.2 }
  let d2 := d1.notice (if port < 55 then laneUnit port plane 0 line else unitId 0x0D (port - 64) 0 0 0 line) r.1
  if (r.1 = 8 ∨ r.1 = 9) ∧ port < 55 then d2.steerPort port plane else d2

/-! ## Lanes and their spares (R245, R256 to R259) -/

/-- The lanes on the fault spare and permanently on the calibration spare of a side. -/
def OptPort.spares (o : OptPort) : Side → Nat × Nat
  | .tx => (o.txFault, o.txCal)
  | .rx => (o.rxFault, o.rxCal)

/-- Set the lanes on the spares of a side. -/
def OptPort.setSpares (o : OptPort) (fault cal : Nat) : Side → OptPort
  | .tx => { o with txFault := fault, txCal := cal }
  | .rx => { o with rxFault := fault, rxCal := cal }

/-- A roaming ring tunes to the line of the lane that it is to carry (R258): it carries no traffic before it has locked and been checked. -/
def Dev.tuneSpare (port plane idx : Nat) (side : Side) (d : Dev) : Dev :=
  match side with
  | .rx => d.onRing { port, plane, side := .rx, idx } fun r => { r with locked := false, checked := false, sweeps := 0 }
  | .tx => d

/-- A plane port waits for a lane to relock without a spare (R259). -/
def Dev.waitRelock (port plane : Nat) (d : Dev) : Dev :=
  (d.holdPort .relock port plane).onOptic port plane fun o => { o with relockSince := some (o.relockSince.getD d.tb.ns) }

/-- A lane moves to the fault spare of its side, else for good to the calibration spare; a third lane retires the plane port (R259), and a lane
that only waits to relock with no spare free holds its port. While the calibration axis is PAUSED no lane moves to a calibration spare (R272): the
port of an unlocked lane waits. A move to the fault spare locates the loss (R261). -/
def Dev.spareNow (port plane : Nat) (side : Side) (lane : Nat) (relocks : Bool) (d : Dev) : Dev :=
  let s := (d.optic port plane).spares side
  let unlocked := !(d.ring { port, plane, side, idx := lane }).locked
  if s.1 = lane ∨ s.2 = lane then (if relocks then d.waitRelock port plane else d)
  else if s.1 = 255 then ((d.onOptic port plane fun o => o.setSpares lane s.2 side).tuneSpare port plane 19 side).locateLoss port plane lane
  else if s.2 = 255 ∧ d.calPaused then (if unlocked then d.waitRelock port plane else d)
  else if s.2 = 255 then (d.onOptic port plane fun o => { o.setSpares s.1 lane side with cal := none }).tuneSpare port plane 18 side
  else if relocks then d.waitRelock port plane
  else d.retirePort port plane

/-- A change of a map or a set-point takes effect (R256, R257, R270). -/
def Dev.opticNow (m : OpticMove) (d : Dev) : Dev :=
  match m with
  | .spare port plane side lane relocks => d.spareNow port plane side lane relocks
  | .back port plane side lane =>
    let s := (d.optic port plane).spares side
    if s.1 = lane then d.onOptic port plane fun o => o.setSpares 255 s.2 side else d
  | .code id code => d.onRing id fun r => { r with code }

/-- A change takes effect at the next slot boundary (R257); at once on a fibre or while the Basin has no slots. -/
def Dev.atSlot (m : OpticMove) (d : Dev) : Dev :=
  let fibre := match m with
    | .spare port .. => decide (64 ≤ port)
    | .back port .. => decide (64 ≤ port)
    | .code id _ => decide (64 ≤ id.port)
  if d.ba.up && !fibre then { d with op.due := d.op.due ++ [m] } else d.opticNow m

/-- Lane of a change that moves one to a spare. -/
def OpticMove.lane : OpticMove → Option Nat
  | .spare _ _ _ lane _ => some lane
  | _ => none

/-- The traffic of lanes under calibration moves to the calibration spares, once the receiver's has passed its identity check, and back (R257,
R267, R268); a lane that lost lock there stays until the window closes (R274). -/
def Dev.syncCal (d : Dev) : Dev :=
  let one := fun (o : OptPort) =>
    let ready := (d.ring { port := o.port, plane := o.plane, side := .rx, idx := 18 }).checked && o.txCal == 255 && o.rxCal == 255
    let stays := fun (l : Nat) => o.cal == some l || o.atClose.any (·.2 == l)
    match o.onCal, o.cal with
    | some l, c => if stays l then o else { o with onCal := c.filter fun l => decide (l < 16) && ready }
    | none, c => { o with onCal := c.filter fun l => decide (l < 16) && ready }
  { d with op.ports := d.op.ports.map fun o => if o.port < 55 then one o else o }

/-- What waits for a slot boundary in the optics takes effect (R256, R257, R270): of the lanes that lost lock in one update the lower-numbered
one takes the fault spare (R274). -/
def Dev.opticChanges (d : Dev) : Dev :=
  let lanes := (List.range 16).flatMap fun l => d.op.due.filter (·.lane == some l)
  (each (lanes ++ d.op.due.filter (·.lane.isNone)) Dev.opticNow { d with op.due := [] }).syncCal

/-- A lane moves to a spare (R253, R256 to R259), at the next slot boundary. On a fibre port both ends move together (R314). -/
def Dev.laneToSpare (port plane : Nat) (side : Side) (lane : Nat) (d : Dev) : Dev :=
  if 64 ≤ port then (d.fibreLane (port - 64) lane).locateLoss port plane lane
  else d.atSlot (.spare port plane side lane false)

/-! ## Coppice (R449 to R456) -/

/-- Work that runs on a stopped unit waits (R450): the share runs again after the substitution. -/
def Dev.stopWork (unit : Nat) (d : Dev) : Dev :=
  if unitKind unit = 1 ∨ unitKind unit = 2 then
    let stopped := ({ d with fa.testing := [unit], fa.resume := [], sp.substs := [] } : Dev).stoppedCores
    let one := fun (st : Stream) =>
      match d.frameOf st with
      | none => st
      | some x =>
        let wait := fun (it : Item) =>
          match it.stage with
          | .running k _ =>
            if (x.stageNodes k).any fun e => e.2.needs stopped then
              { it with stage := .between k, status := 2, detail := if it.status = 2 then it.detail else 0x31 }
            else it
          | _ => it
        { st with items := st.items.map wait }
    { d with str.list := d.str.list.map one }
  else d

/-- The logical Stand that a physical Stand of a site carries. -/
def Dev.standAt (d : Dev) (site ps : Nat) : Option Nat := (List.range 125).find? fun s => d.physStand site s == some ps

/-- The spare Stand that Coppice takes (R451): the lowest usable Stand that carries no logical Stand and is not a substitute. -/
def Dev.spareStand (d : Dev) (site : Nat) : Option Nat :=
  let used := (List.range 125).filterMap (d.physStand site)
  (List.range 133).find? fun p => d.standUsable site p && !used.contains p && !d.sp.failed.contains (standUnit site p) &&
    !(d.sp.substs.any fun s => s.substitute == standUnit site p)

/-- A Stand is replaced as a whole and not used again, or its logical Stand becomes absent and its work moves (R451, R458). -/
def Dev.replaceStand (site ps : Nat) (d : Dev) : Dev :=
  let d0 : Dev := { d with sp.substs := d.sp.substs.filter fun s => !(unitKind s.unit == 1 && unitPlace s.unit == site && bitsOf s.unit 31 16 == ps)
                           sp.failed := insertNew (standUnit site ps) d.sp.failed }
  let d1 := d0.stopWork (standUnit site ps)
  match d1.standAt site ps with
  | none => d1
  | some ls =>
    match d1.spareStand site with
    | some q => d1.prepare (standUnit site ps) (standUnit site q)
    | none =>
      let d2 := { d1 with sp.standMap := d1.sp.standMap.filter (fun (e : Nat × Nat × Option Nat) => !(e.1 == site && e.2.1 == ls)) ++ [(site, ls, none)] }
      (((d2.log (standUnit site ps) 4 0x0204 0).degrade).replaceFor site).checkMinimum

/-- A Mill core is replaced by its Stand's spare Mill when that is usable and not in use (R451); any other core, and a second
Mill core, takes the whole Stand. -/
def Dev.replaceCore (site ps pos : Nat) (d : Dev) : Dev :=
  let mills := d.mills site ps
  let spare := mills[12]?
  let taken := d.sp.coreMap.any (fun e => e.1 == site && e.2.1 == ps) ||
    d.sp.substs.any (fun s => unitKind s.unit == 1 && unitPlace s.unit == site && bitsOf s.unit 31 16 == ps)
  match spare with
  | some q =>
    if 12 < pos then d.replaceStand site ps
    else if q = pos then d
    else if taken ∨ d.sp.failed.contains (coreUnit site ps q) then d.replaceStand site ps
    else (d.stopWork (coreUnit site ps pos)).prepare (coreUnit site ps pos) (coreUnit site ps q)
  | none => if pos < 13 ∧ !mills.contains pos then d else d.replaceStand site ps

/-- A bond group is to be retired (R453). -/
def Dev.retireGroup (site group : Nat) (d : Dev) : Dev :=
  if (d.site site).retired.contains group then d else d.prepare (groupUnit site group) 0

/-- A bond lane takes the lowest unused spare lane of its group; with all ten in use the group is retired (R452). -/
def Dev.replaceLane (site group lane : Nat) (d : Dev) : Dev :=
  let mine := d.sp.lanes.filter fun e => e.1 == site && e.2.1 == group
  let data := if lane < 144 then some lane else (mine.find? (·.2.2.2 == lane)).map (·.2.2.1)
  match data with
  | none => d
  | some l =>
    let id := fun (x : Nat) => unitId 3 site 0 0 group x
    let free := fun (s : Nat) => !(mine.any (·.2.2.2 == s)) && !d.sp.failed.contains (id s) && !(d.sp.substs.any (·.substitute == id s))
    match ((List.range 10).map (· + 144)).find? free with
    | some s => d.prepare (id l) (id s)
    | none => d.retireGroup site group

/-- A substitute that fails while it is prepared gives way to the next one (R463). -/
def Dev.redecide (substitute : Nat) (d : Dev) : Dev :=
  each (d.sp.substs.filter (·.substitute == substitute)) (fun s d =>
    let u := s.unit
    let d1 : Dev := { d with sp.substs := d.sp.substs.filter (·.unit != u) }
    match unitKind u with
    | 1 => d1.replaceCore (unitPlace u) (bitsOf u 31 16) (bitsOf u 39 32)
    | 2 => d1.replaceStand (unitPlace u) (bitsOf u 31 16)
    | 3 => d1.replaceLane (unitPlace u) (bitsOf u 31 16) (bitsOf u 15 0)
    | _ => d) d

/-- The lines of a slice leave a site with its bond group (R453): cache lines dropped, scratch lines lost. -/
def Dev.dropSlice (site group : Nat) (d : Dev) : Dev :=
  let gone := fun (k : Nat) => decide (scratchKey site 0 ≤ k) && decide (k < scratchKey (site + 1) 0) && (k / 256 % 256 == group)
  let d1 := d.onSite site fun s => { s with retired := insertNew group s.retired, cache := s.cache.filter fun (e : Nat × List Byte) => nominalSlice e.1 != group }
  { d1 with mem.cells := d1.mem.cells.filter fun c => !gone c.1 }

/-- A substitution takes effect at a boundary (R449 to R457); it is recorded. -/
def Dev.substitute (s : Subst) (d : Dev) : Dev :=
  let u := s.unit
  let site := unitPlace u
  let ps := bitsOf u 31 16
  let d := { d with sp.substs := d.sp.substs.filter (·.unit != u), sp.substituted := if unitKind u = 2 then bump site 1 d.sp.substituted else d.sp.substituted }
  let noted := fun (d : Dev) => (d.log u 3 0x0203 (s.substitute % 2 ^ 32)).fdm u 6 6 (s.substitute % 2 ^ 32)
  let restart : Dev → Dev := fun d =>
    let cores := ({ d with fa.testing := [s.substitute], fa.resume := [], sp.substs := [] } : Dev).stoppedCores
    (d.restartGenerators cores.contains).moved cores
  match unitKind u with
  | 1 =>
    let pos := bitsOf u 39 32
    match (List.range 12).find? fun p => d.physPos site ps p == some pos with
    | some p => restart (noted { d with sp.coreMap := d.sp.coreMap ++ [(site, ps, p, bitsOf s.substitute 39 32)] })
    | none => d
  | 2 =>
    match d.standAt site ps with
    | some ls =>
      let map := d.sp.standMap.filter (fun e => !(e.1 == site && e.2.1 == ls)) ++ [(site, ls, some (bitsOf s.substitute 31 16))]
      restart (noted { d with sp.standMap := map })
    | none => d
  | 3 =>
    let lane := bitsOf u 15 0
    let rest := d.sp.lanes.filter fun e => !(e.1 == site && e.2.1 == ps && e.2.2.1 == lane)
    noted { d with sp.lanes := rest ++ [(site, ps, lane, bitsOf s.substitute 15 0)] }
  | 4 =>
    let d1 := (((d.dropSlice site ps).faultPages site |>.log u 4 0x0204 0).fdm u 1 6 1).replaceFor site
    if 16 < (d1.site site).retired.length ∧ d1.inService site then
      ((({ d1 with sp.substs := d1.sp.substs.filter fun x => !(unitPlace x.unit == site && decide (unitKind x.unit ≤ 4)) } : Dev)).siteOut site).checkMinimum
    else d1
  | 7 => noted { d with ba.dueSteer := d.ba.dueSteer ++ [(site, bitsOf u 47 40, bitsOf s.substitute 15 0)] }
  | _ => d

/-- The substitutions whose preparation ended at least 10 µs before a boundary take effect at it (R449); plane ports that were
to be retired are so at the slot boundary that follows (R222, R240). Those of a die on the test chain wait (R523). -/
def Dev.coppiceBoundary (d : Dev) : Dev :=
  let due := d.sp.substs.filter fun s => !d.chained (unitPort s.unit) && s.ready.elim false fun t => decide (t + 10000 ≤ d.rd.start)
  let d1 := each due Dev.substitute d
  { d1 with ba.dueRetire := ((d1.ba.ports.filter fun p => p.retiring && !d.chained p.port).map fun p => (p.port, p.plane)) }

/-! ## Fences (R291, R304) -/

/-- Pending operations of lines that are fenced (R309): those of mirrored lines go on at the partner's copy alone, the rest
complete with POISON. -/
def Dev.failOps (stack : Nat) (mine : LineOp → Bool) (d : Dev) : Dev :=
  let s := d.stack stack
  let hit := s.ops.filter mine
  let d1 := d.onStack stack fun s => { s with ops := s.ops.filter fun o => !mine o, buf := s.buf.filter fun b => !mine { stack, line := b.line, act := .poison, reply := .none } }
  each hit (fun o d =>
    match d.partner stack (o.line * 256) with
    | some p => if (d.stack p).fenced then d.answerOp stack 2 [] o.reply else d.onStack p fun s => { s with ops := s.ops ++ [{ o with stack := p }] }
    | none => d.answerOp stack 2 [] o.reply) d1

/-- A stack is fenced (R304, R291). -/
def Dev.fenceStack (stack : Nat) (d : Dev) : Dev :=
  if (d.stack stack).fenced then d
  else
    let d1 := (d.onStack stack fun s => { s with fenced := true }).failOps stack fun _ => true
    ((((d1.log (stackUnit stack) 4 0x0204 0).fdm (stackUnit stack) 3 3 1).degrade)).checkMinimum

/-- A channel is fenced (R304): its lines leave the line buffer; with four channels fenced the stack is. -/
def Dev.fenceChannel (stack channel : Nat) (d : Dev) : Dev :=
  if (d.stack stack).fenced || (d.stack stack).channels.any (·.channel == channel) then d
  else
    let d1 := d.onStack stack fun s => { s with channels := s.channels ++ [{ channel, retrain := false, returns := false }] }
    let d2 := d1.failOps stack fun o => pseudoChannel o.line / 2 == channel
    let u := channelUnit stack channel
    let d3 := ((d2.log u 4 0x0204 0).fdm u 3 3 1).degrade
    if 4 ≤ (d3.stack stack).channels.length then d3.fenceStack stack else d3

/-! ## Resets of a die (R103, R107, R309, R496) -/

/-- What a port holds is lost when its die is reset. -/
def Dev.dropPort (port : Nat) (d : Dev) : Dev :=
  { d with ba.out := d.ba.out.filter (·.port != port), ba.recv := d.ba.recv.filter (·.1 != port), ba.wire := d.ba.wire.filter (·.1 != port)
           ba.partials := d.ba.partials.filter (·.port != port) }

/-- The Canopy of a site stops: what its Mill cores held and its suspended stages are gone with its programs (R103, R107). -/
def Dev.stopCanopy (site : Nat) (phase : SitePhase) (d : Dev) : Dev :=
  { d.onSite site (fun s => { s with phase, programs := [] }) with
    cs.mill := d.cs.mill.map fun (b : MillBuf) => if b.core / 2500 + 8 = site then { b with acc := [] } else b
    cs.suspended := d.cs.suspended.filter (·.thread.site != site) }

/-- Step whose voltage a site's rail of a domain is set to (R100, R393): the retained setpoint of a site in Understory reset, else the
device's target. -/
def Dev.setpoint (d : Dev) (site : Nat) (dom : Domain) : Nat :=
  match d.ck.retained.find? (fun e => e.1 == site && e.2.1 == dom), dom with
  | some e, _ => e.2.2
  | none, .cd9 => d.ck.rails9.getD d.ck.cd9
  | none, .cd10 => d.ck.rails10.getD d.ck.cd10

/-- The retention block of a site keeps its setpoints (R100). -/
def Dev.retain (site : Nat) (d : Dev) : Dev :=
  { d with ck.retained := d.ck.retained.filter (·.1 != site) ++ [(site, .cd9, d.setpoint site .cd9), (site, .cd10, d.setpoint site .cd10)] }

/-- Understory reset (R103): the Canopy is quiesced, its transfers complete with POISON, the SRAM is zero-filled. -/
def Dev.resetUnderstory (site : Nat) (d : Dev) : Dev :=
  let d0 := (((d.poisonSite site).faultItems site true).dropPort site).retain site
  let halt := fun (g : Standing) => g.src == site || g.dst == site
  let d1 := ({ d0.stopCanopy site .usReset with ba.standing := mapIf halt (fun g => { g with stopped := true }) d0.ba.standing } : Dev).onSite site
    fun s => { s with cache := [], fills := [] }
  let lo := scratchKey site 0
  let hi := scratchKey (site + 1) 0
  { d1 with mem.cells := cellsClear d1.mem.cells lo hi
            mem.poison := d1.mem.poison.filter fun l => !(decide (lo ≤ l * 256) && decide (l * 256 < hi)) }

/-- Canopy reset (R107): responses to its earlier requests are discarded, the SRAM is kept. -/
def Dev.resetCanopy (site : Nat) (d : Dev) : Dev :=
  let d1 := ((d.faultItems site false).stopCanopy site .cpReset).onSite site fun s => { s with fills := s.fills.map fun f => (f.1, []) }
  { d1 with cs.parked := d1.cs.parked.filter (·.t.site != site), cs.transfers := d1.cs.transfers.filter (·.t.site != site)
            cs.waiting := d1.cs.waiting.filter (·.1.site != site), cs.finished := d1.cs.finished.filter (·.t.site != site)
            cs.lost := d1.cs.lost.filter (·.1.site != site) }

/-- Cistern reset (R309): keys zeroised, the stack rewritten as zero, what was pending is lost. -/
def Dev.resetCistern (stack : Nat) (d : Dev) : Dev :=
  let lo := hbmKey stack 0
  let hi := hbmKey (stack + 1) 0
  let d1 := (d.dropPort (cisternPort stack)).onStack stack fun s =>
    { s with resetting := true, keys := s.keys + 1, ops := [], buf := [], copies := [], jobs := [], repairing := [], testing := [] }
  { d1 with mem.cells := cellsClear d1.mem.cells lo hi
            mem.poison := d1.mem.poison.filter fun l => !(decide (lo ≤ l * 256) && decide (l * 256 < hi)) }

/-- Count a reset of a die; `true` when it is the third within 1 h (R496). -/
def Dev.countReset (port : Nat) (d : Dev) : Dev × Bool :=
  let rs := (d.fa.resets.filter fun r => decide (d.tb.ns < r.2 + 3600000000000)) ++ [(port, d.tb.ns)]
  ({ d with fa.resets := rs }, decide (3 ≤ (rs.filter (·.1 == port)).length))

/-- The reset that the ladder orders for a die (R496), or what its limit orders in its place. -/
def Dev.resetDie (port : Nat) (d : Dev) : Dev :=
  let r := d.countReset port
  if isCompute port then (if r.2 then (r.1.siteOut port).checkMinimum else r.1.resetUnderstory port)
  else if isMemory port then (if r.2 then r.1.fenceStack (siteStack port) else r.1.resetCistern (siteStack port))
  else if 51 ≤ port ∧ port ≤ 54 then
    let d1 := r.1.resetEngine (port - 51)
    if r.2 then
      let out := fun (p : Nat) (d : Dev) => (d.onFport p fun x => { x with retired := true }).log (unitId 0x0D p 0 0 0 0) 4 0x0204 0
      (out (2 * (port - 51) + 1) (out (2 * (port - 51)) d1)).degrade
    else d1
  else r.1

/-! ## Transient and lasting (R493 to R495) -/

/-- The self-test of a unit is done: it carries traffic and work again (R492). -/
def Dev.endTest (unit : Nat) (d : Dev) : Dev :=
  let d1 := { d with fa.testing := d.fa.testing.filter (· != unit) }
  if unitKind unit = 6 ∨ unitKind unit = 7 then d1.onPort (unitPlace unit) (bitsOf unit 47 40) fun p => { p with testWaits := false } else d1

/-- A row fails its test for good (R287): soft repair begins while its bank has a spare row, else it stays in service. -/
def Dev.repairRow (unit why : Nat) (spareRow : Bool) (d : Dev) : Dev :=
  let d1 := { d.log unit 2 0x0202 why with sp.failed := insertNew unit d.sp.failed }
  if spareRow then (d1.fdm unit 4 3 1).onStack (unitPlace unit) fun s => { s with repairing := insertNew unit s.repairing }
  else d1.notice unit 0

/-- A lasting fault (R495): the mechanism of its level, or isolation of its site when there is none. -/
def Dev.lasting (unit why : Nat) (d : Dev) : Dev :=
  let place := unitPlace unit
  if unitKind unit = 0x09 then d.repairRow unit why true
  else
  let d1 := { ((d.log unit 2 0x0202 why).fdm unit 1 1 1) with sp.failed := insertNew unit d.sp.failed }
  match unitKind unit with
  | 1 =>
    let ps := bitsOf unit 31 16
    let d2 := (d1.replaceCore place ps (bitsOf unit 39 32)).redecide unit
    if d2.sp.failed.contains (standUnit place ps) then d2.redecide (standUnit place ps) else d2
  | 2 =>
    let d2 := { d1 with fa.lastingStands := bump place 1 d1.fa.lastingStands }
    if 4 < countOf place d2.fa.lastingStands then
      let r := d2.countReset place
      if r.2 then (r.1.siteOut place).checkMinimum else r.1.resetCanopy place
    else (d2.replaceStand place (bitsOf unit 31 16)).redecide unit
  | 3 => (d1.replaceLane place (bitsOf unit 31 16) (bitsOf unit 15 0)).redecide unit
  | 4 => d1.retireGroup place (bitsOf unit 31 16)
  | 6 =>
    let d2 := d1.freePort .selfTest place (bitsOf unit 47 40)
    d2.laneToSpare place (bitsOf unit 47 40) (if bitsOf unit 39 32 = 0 then .tx else .rx) (bitsOf unit 15 0)
  | 7 => (d1.freePort .selfTest place (bitsOf unit 47 40)).steerPort place (bitsOf unit 47 40)
  | 0x0A => d1.fenceChannel place (bitsOf unit 47 40)
  | 0x0B => d1.fenceStack place
  | 0x0D =>
    d1.laneToSpare (64 + place) 0 .rx (bitsOf unit 15 0)
  | 0x0E => d1
  | _ => d1.isolate (unitPort unit) unit

/-- A transient of a unit (R494): counted over 24 h; the eighth is lasting. The unit resumes at the next boundary. -/
def Dev.transient (unit : Nat) (d : Dev) : Dev :=
  let ts := (d.fa.transients.filter fun t => decide (d.tb.ns < t.2 + 86400000000000)) ++ [(unit, d.tb.ns)]
  let n := (ts.filter (·.1 == unit)).length
  let d1 := ({ d with fa.transients := ts } : Dev).fdm unit 5 1 n
  if 8 ≤ n then d1.lasting unit 1
  else { d1.log unit 1 0x0201 n with fa.resume := insertNew unit d1.fa.resume }

/-! ## Handover (R476) -/

/-- Control passes to the Ranger that runs the staged image (R474, R487). -/
def Dev.passLive (d : Dev) : Dev :=
  match d.fw.live with
  | some l =>
    let slot := if d.fw.booted = 0 then d.fw.slotB else d.fw.slotA
    { d with fw.live := some { l with passed := true, block := false }, fw.booted := 1 - d.fw.booted, fw.running := slot.image.getD d.fw.running }
  | none => d

/-- The active Ranger gives up control (R476): the token passes to a current standby, and outputs hold until it drives them;
with none current both Rangers have failed (R477). -/
def Dev.handover (cause : Nat) (d : Dev) : Dev :=
  if !d.fw.rangerUp then d
  else if d.fw.standby = .current then
    let d1 := d.log (rangerUnit d.activePort) 0 0x0301 cause
    let d2 := if d.fw.live.elim false (fun l => l.ready && !l.passed) then d1.passLive else d1
    ({ d2 with fw.rangerB := !d.fw.rangerB, fw.handover := some d.tb.ns, fw.handoverCause := cause }).setStandby .selfTest
  else
    let d1 := (d.setStandby .selfTest).safeHold 1
    { d1 with fw.rangerUp := false, hg.mbReady := false }

/-! ## Reports (R498, R499) -/

/-- A targeted self-test begins (R492): the unit carries no traffic and no work; a plane port under calibration waits for the
window to close (R247). -/
def Dev.beginTest (unit : Nat) (d : Dev) : Dev :=
  let d1 := { d with fa.testing := insertNew unit d.fa.testing }
  let port := unitPlace unit
  let plane := bitsOf unit 47 40
  match unitKind unit with
  | 6 =>
    if (d1.optic port plane).cal.isSome then d1.onPort port plane fun p => { p with testWaits := true } else d1.holdPort .selfTest port plane
  | 7 =>
    if (d1.optic port plane).cal.isSome then d1.onPort port plane fun p => { p with testWaits := true } else d1.holdPort .selfTest port plane
  | _ => d1.stopWork unit

/-- Whether a report touches the unit under recovery or the recovery path (R499). -/
def Dev.touches (d : Dev) (r : Recovery) (unit : Nat) (kind : FaultKind) : Bool :=
  let a := unitPort r.report.unit
  let b := unitPort unit
  let plane := (d.planes d.activePort a).head?
  let port := (unitKind unit == 6 || unitKind unit == 7) && (b == a || b == d.activePort) && plane == some (bitsOf unit 47 40)
  a == b || port || (kind == .die && isMemory a && isMemory b && decide (0 < d.mem.mirror) && siteStack b == siteStack a ^^^ 1)

/-- The recovery in progress is abandoned and its site isolated (R499, R500). -/
def Dev.abandonRecovery (d : Dev) : Dev :=
  match d.fa.now with
  | some r => ({ d with fa.now := none, fa.testing := d.fa.testing.filter (· != r.report.unit) }).isolate (unitPort r.report.unit) r.report.unit
  | none => d

/-- Kinds of unit that have a targeted self-test (R492). -/
def testable (u : Nat) : Bool := [1, 2, 4, 6, 7, 9, 0x0A, 0x0D].contains (unitKind u)

/-- A fault is reported (R498, R499): queued, merged, or handled first when it touches the recovery in progress. The self-test of a unit
begins at once while no other recovery is due (R492). -/
def Dev.reportFault (unit : Nat) (kind : FaultKind) (d : Dev) : Dev :=
  match kind with
  | .activeRanger => d.handover 1
  | .headgate => d.safeHold 4
  | .basinKeeper => d.safeHold 5
  | _ =>
    let e : Report := { unit, kind }
    if d.fa.isolated.any (·.1 == unitPort unit) then
      { d with fa.isolated := mapIf (·.1 == unitPort unit) (fun x => (x.1, insertNew unit x.2)) d.fa.isolated }
    else if d.fa.queue.any (·.unit == unit) then d
    else if d.fa.now.elim false (fun r => d.touches r unit kind) then
      let same := d.fa.now.elim false fun r => unitPort r.report.unit == unitPort unit
      let d1 := d.abandonRecovery
      if same then { d1 with fa.isolated := mapIf (·.1 == unitPort unit) (fun x => (x.1, insertNew unit x.2)) d1.fa.isolated }
      else { d1 with fa.queue := e :: d1.fa.queue }
    else if 256 ≤ d.fa.queue.length then d.safeHold 7
    else
      let d1 := { d with fa.queue := d.fa.queue ++ [e] }
      if kind = .unit ∧ testable unit ∧ d.fa.queue = [] ∧ d.fa.now = none then d1.beginTest unit else d1

/-- An isolated site that passed its re-test returns at the next boundary (R497, R500). -/
def Dev.siteReturns (port : Nat) (d : Dev) : Dev :=
  { d with fa.now := none, fa.isolated := d.fa.isolated.filter (·.1 != port), fa.returning := insertNew port d.fa.returning }

/-- The self-tests of a re-test begin (R500): of every unit named in the faults merged into it. -/
def Dev.beginRetest (port : Nat) (d : Dev) : Dev :=
  let units := ((valueOf port d.fa.isolated).getD []).filter testable
  if units.isEmpty then d.siteReturns port else each units Dev.beginTest d

/-- A die has come out of the reset that a recovery ordered (R498, R500): that was the outcome, or the re-test goes on. -/
def Dev.dieReady (port : Nat) (d : Dev) : Dev :=
  match d.fa.now with
  | some r =>
    if unitPort r.report.unit ≠ port then d
    else if r.retest then d.beginRetest port
    else if r.report.kind = .die then { d with fa.now := none }
    else d
  | none => d

/-- An uncorrectable error (18, UNCORRECTABLE): recorded, counted, and reported for its self-test (R492). -/
def Dev.uncorrectable (unit what : Nat) (d : Dev) : Dev :=
  let counts := upsert (·.unit == unit) ({ unit, hour := 0, corrected := 0, uncorrectable := 0 } : ErrCount)
    (fun c => { c with uncorrectable := c.uncorrectable + 1 }) d.fa.counts
  (({ d with fa.counts := counts } : Dev).log unit 0 0x0102 what).reportFault unit .unit

/-- A corrected error is counted (R490). -/
def Dev.corrected (unit n : Nat) (d : Dev) : Dev :=
  let counts := upsert (·.unit == unit) ({ unit, hour := 0, corrected := 0, uncorrectable := 0 } : ErrCount)
    (fun c => { c with hour := c.hour + n, corrected := c.corrected + n }) d.fa.counts
  { d with fa.counts := counts }

end Sys2Proof.Machine
end

