-- ==== Sys2Proof/Machine/Lines.lean ====
section
/-!
DEFINITION. The line-op queue of a Cistern (chapter 09): what it accepts, how a line comes into the line buffer, how the
operations on it are applied in arrival order, and the copies of mirrored lines.
-/

namespace Sys2Proof.Machine

/-- Whether a Cistern still accepts some operations (R296): 1,024 pending at most, the stores of jobs that it holds among them (R281). -/
def Dev.opRoom (d : Dev) (stack n : Nat) : Bool := decide ((d.stack stack).ops.length + ((d.stack stack).jobs.length - 256) + n ≤ 1024)

/-- A Gather-reduce job arrives (R281): it is queued and its store acknowledged, or held while 256 are queued. -/
def Dev.pushJob (stack : Nat) (j : GrJob) (d : Dev) : Dev :=
  let d1 := d.onStack stack fun s => { s with jobs := s.jobs ++ [j] }
  if (d.stack stack).jobs.length < 256 then d1.answerOp stack 0 [] j.reply else d1

/-- The oldest Gather-reduce job leaves its queue, and the first that is held enters it (R281). -/
def Dev.popJob (stack : Nat) (d : Dev) : Dev :=
  let rest := (d.stack stack).jobs.tail
  let d1 := d.onStack stack fun s => { s with jobs := rest }
  match rest[255]? with
  | some j => d1.answerOp stack 0 [] j.reply
  | none => d1

/-- Add an operation to a line-op queue (R292). -/
def Dev.pushOp (o : LineOp) (d : Dev) : Dev := d.onStack o.stack fun s => { s with ops := s.ops ++ [o] }

/-- A write aimed at a line of a stack is accepted (R294, R299, R304): a fenced line and, but for the host, a read-only one
complete with POISON; a Cistern in reset answers nothing (R309). -/
def Dev.acceptWrite (stack off n : Nat) (fromHost : Bool) (act : LineAct) (reply : Reply) (d : Dev) : Dev :=
  let h := d.homeStack stack off
  if (d.stack h).resetting then d
  else if d.fencedLine h off then d.answerOp h 2 [] reply
  else if !fromHost && d.readOnly h off n then d.answerOp h 2 [] reply
  else d.pushOp { stack := h, line := off / 256, act, reply }

/-- The first pending operation of a line. -/
def Dev.firstOp (d : Dev) (stack line : Nat) : Option LineOp := (d.stack stack).ops.find? (·.line == line)

/-- Whether a line is in its line buffer. -/
def Dev.inBuf (d : Dev) (stack line : Nat) : Bool := (d.stack stack).buf.any (·.line == line)

/-- Take an operation from its queue. -/
def Dev.dropOp (o : LineOp) (d : Dev) : Dev := d.onStack o.stack fun s => { s with ops := s.ops.erase o }

/-- Bytes of a line's data. -/
def Dev.lineBytes (d : Dev) (stack line off len : Nat) : List Byte := slice (d.lineData stack line) off len

/-- Serve the reads that lead a line's operations (R293): in arrival order, until another operation stands first. -/
def Dev.serveReads (poisoned : Bool) (stack line : Nat) : Nat → Dev → Dev
  | 0, d => d
  | n + 1, d =>
    match d.firstOp stack line with
    | some o =>
      match o.act with
      | .read off len =>
        let data := if poisoned then [] else d.lineBytes stack line off len
        ((d.dropOp o).answerOp stack (if poisoned then 2 else 0) data o.reply).serveReads poisoned stack line n
      | _ => d
    | none => d

/-- A read of a line is accepted (R290, R293, R304): served at once from the line buffer when nothing on the line comes before it,
by the partner's copy when the one named is fenced. -/
def Dev.acceptRead (stack off len : Nat) (reply : Reply) (d : Dev) : Dev :=
  let go := fun (k : Nat) =>
    let line := off / 256
    if (d.stack k).resetting then d
    else if d.inBuf k line && (d.firstOp k line).isNone then d.answerOp stack 0 (d.lineBytes k line (off % 256) len) reply
    else d.pushOp { stack := k, line, act := .read (off % 256) len, reply }
  if !d.fencedLine stack off then go stack
  else match d.partner stack off with
    | some p => if d.fencedLine p off then d.answerOp stack 2 [] reply else go p
    | none => d.answerOp stack 2 [] reply

/-! ## Writing back -/

/-- Write a line back from the line buffer into the stack (R293). -/
def Dev.writeBack (stack line : Nat) (d : Dev) : Dev :=
  match (d.stack stack).buf.find? (·.line == line) with
  | some b =>
    let d1 := d.onStack stack fun s => { s with buf := s.buf.filter (·.line != line) }
    { d1 with mem.cells := cellsWrite d1.mem.cells (hbmKey stack (line * 256)) b.data }
  | none => d

/-- Make room in a line buffer of 512 lines: the least recently used line that no operation waits for is written back (R293). -/
def Dev.evict (stack : Nat) (d : Dev) : Dev :=
  let s := d.stack stack
  let idle := s.buf.filter fun b => !(s.ops.any (·.line == b.line))
  if s.buf.length < 512 then d
  else match (sortBy (fun a b => decide (a.touched ≤ b.touched)) idle).head? with
    | some b => d.writeBack stack b.line
    | none => d

/-- Whether a line can enter the line buffer now: it is there, there is room, or a line without pending operations to write
back. -/
def Dev.bufRoom (d : Dev) (stack line : Nat) : Bool :=
  let s := d.stack stack
  d.inBuf stack line || decide (s.buf.length < 512) || s.buf.any fun b => !(s.ops.any (·.line == b.line))

/-- Put a line with its data into the line buffer. -/
def Dev.fillBuf (stack line : Nat) (data : List Byte) (d : Dev) : Dev :=
  if d.inBuf stack line then d
  else (d.evict stack).onStack stack fun s => { s with buf := s.buf ++ [{ stack, line, data, touched := d.tb.ns }] }

/-! ## Applying (R290, R293 to R297) -/

/-- An operation on the bytes of a line: the new bytes, and the data of its answer. -/
def LineAct.apply (act : LineAct) (line : List Byte) : List Byte × List Byte :=
  match act with
  | .store off data => (patch line off data, [])
  | .atomic op ty off operand compare posted =>
    let old := field line off ty.bytes
    (patch line off (leBytes ty.bytes (atomicNew op ty old operand compare)), if posted then [] else leBytes ty.bytes old)
  | .read off len => (line, slice line off len)
  | .poison => (line, [])

/-- Whether an operation replaces the whole line (R286). -/
def LineAct.whole : LineAct → Bool
  | .store off data => off == 0 && data.length == 256
  | _ => false

/-- Whether two operations are adds of one type, which combine (R295). -/
def LineAct.combines : LineAct → LineAct → Bool
  | .atomic .add a _ _ _ _, .atomic .add b _ _ _ _ => a == b
  | _, _ => false

/-- The operations that form the next line update (R295): one, or up to 64 adds of one type that lead the line's operations. -/
def updateGroup (ops : List LineOp) : List LineOp :=
  match ops with
  | [] => []
  | o :: os => o :: ((os.takeWhile fun x => o.act.combines x.act).take 63)

/-- The answer of an applied operation: at once, or after the odd copy of a mirrored line is written (R290, R297). -/
def Dev.finishOp (o : LineOp) (data : List Byte) (d : Dev) : Dev :=
  match d.partner o.stack (o.line * 256) with
  | some p =>
    if d.fencedLine p (o.line * 256) || (d.stack p).resetting then d.answerOp o.stack 0 data o.reply
    else d.onStack o.stack fun s => { s with copies := s.copies ++ [(o.line, o.reply, 0, data)] }
  | none => d.answerOp o.stack 0 data o.reply

/-- Poison a line at both of its copies (R286, R354). -/
def Dev.poisonAll (stack line : Nat) (d : Dev) : Dev :=
  let one := fun (k : Nat) (d : Dev) => (d.onStack k fun s => { s with buf := s.buf.filter (·.line != line) }).poisonLine k line
  match d.partner stack (line * 256) with
  | some p => one p (one stack d)
  | none => one stack d

/-- One operation is applied in the line buffer. -/
def Dev.applyOp (o : LineOp) (d : Dev) : Dev :=
  match o.act with
  | .poison => ((d.dropOp o).poisonAll o.stack o.line).answerOp o.stack 0 [] o.reply
  | _ =>
    let r := o.act.apply (d.lineData o.stack o.line)
    let up := fun (b : BufLine) => { b with data := r.1, touched := d.tb.ns }
    ((d.dropOp o).onStack o.stack fun s => { s with buf := mapIf (·.line == o.line) up s.buf }).finishOp o r.2

/-- The operations of a poisoned line (R286): all complete with POISON up to a store of the whole line, which clears it. -/
def Dev.drainPoisoned (stack line : Nat) : Nat → Dev → Dev
  | 0, d => d
  | n + 1, d =>
    match d.firstOp stack line with
    | some o =>
      if o.act.whole then (d.unpoison stack line).fillBuf stack line (zeros 256)
      else
        match o.act with
        | .poison => ((d.dropOp o).poisonAll stack line).answerOp stack 0 [] o.reply |>.drainPoisoned stack line n
        | _ => ((d.dropOp o).answerOp stack 2 [] o.reply).drainPoisoned stack line n
    | none => d

/-- Row that holds a line, as an identifier (R460); bank and row are the Cistern's choice (R278, log 28). -/
def rowUnit (stack line : Nat) : Nat :=
  let r := Config.bankRow stack line
  unitId 0x09 stack (pseudoChannel line) (r.1 % 256) (r.2 / 65536 % 65536) (r.2 % 65536)

/-- Whether the rows of a stack's line are under repair: operations on it wait (R287). -/
def Dev.underRepair (d : Dev) (stack line : Nat) : Bool := (d.stack stack).repairing.contains (rowUnit stack line)

/-- A line is found uncorrectable at its own copy (R286): it is poisoned, recorded, and its row is tested; more than 16 such
lines of one channel within 1 s fence the channel (R304). -/
def Dev.foundBad (stack line : Nat) (d : Dev) : Dev :=
  let ch := pseudoChannel line / 2
  let u := rowUnit stack line
  let recent := (d.stack stack).poisonTimes.filter fun t => decide (d.tb.ns < t.2 + 1000000000)
  let d1 := (d.poisonLine stack line).onStack stack fun s =>
    { s with testing := insertNew u s.testing, poisonTimes := recent ++ [(ch, d.tb.ns)] }
  let d2 : Dev := { (d1.log u 0 0x0102 0) with sp.hbmEvent := true }
  if 16 < ((d2.stack stack).poisonTimes.filter (·.1 == ch)).length then d2.fenceChannel stack ch else d2

/-- A poisoned copy of a mirrored line is rewritten from the good one (R290): `true` when that could be done. -/
def Dev.healLine (stack line : Nat) (d : Dev) : Dev × Bool :=
  match d.partner stack (line * 256) with
  | some p =>
    if d.fencedLine p (line * 256) || d.linePoison p line || (d.stack p).resetting then (d, false)
    else
      let data := d.lineData p line
      let d1 := d.unpoison stack line
      ({ d1 with mem.cells := cellsWrite d1.mem.cells (hbmKey stack (line * 256)) data }, true)
  | none => (d, false)

/-- What a read of a line from the stack leads to (R283, R285, R286, R290): the line's good bytes are in the stack, or `false`
and the line is poisoned. -/
def Dev.readLine (stack line : Nat) (outcome : ReadOutcome) (d : Dev) : Dev × Bool :=
  if d.linePoison stack line then d.healLine stack line
  else match outcome with
    | .clean => (d, true)
    | .stack => (d.onStack stack fun s => { s with reported := s.reported + 1 }, true)
    | .corrected => ((d.onStack stack fun s => { s with corrected := s.corrected + 1 }).corrected (channelUnit stack (pseudoChannel line / 2)) 1, true)
    | .uncorrectable => (d.foundBad stack line).healLine stack line

end Sys2Proof.Machine
end

