-- ==== Sys2Proof/Machine/Engine.lean ====
section
/-!
DEFINITION. Threads and the transfer engine of a compute site (chapter 03): who waits for a remote access, and how a transfer
is cut into cells (chapters 03, 07, 09).
-/

namespace Sys2Proof.Machine

/-! ## Threads (R79) -/

/-- Address of an access that may leave the Canopy; none for the others. -/
def opAddress : RemoteOp → Option Nat
  | .load a _ => some a
  | .store a _ => some a
  | .atomic _ _ a _ _ => some a
  | _ => none

/-- Bond groups beneath a physical Stand that carry traffic (R96, R453, R492). -/
def Dev.activeGroups (d : Dev) (site stand : Nat) : List Nat :=
  (groupsOf stand).filter fun g => !(d.site site).retired.contains g && !d.fa.testing.contains (groupUnit site g)

/-- The physical Stand whose router forwards the requests of a Stand (R455): itself, or the nearest that has an active group, the lower
number on a tie. -/
def Dev.exitStand (d : Dev) (site stand : Nat) : Option Nat :=
  let able := (List.range 133).filter fun p => !(d.activeGroups site p).isEmpty
  let best := (able.map (standDistance stand)).foldl min 24
  able.find? fun p => standDistance stand p == best

/-- Requests and transfers in a bond group's queue. -/
def Dev.groupQueue (d : Dev) (site group : Nat) : Nat :=
  (d.cs.parked.filter fun p => p.t.site == site && p.group == some group).length +
  (d.cs.transfers.filter fun x => x.t.site == site && x.group == some group).length

/-- The bond group that a Stand's router takes for a request (R96, R455): the one with the shorter queue, the lower number on a tie. -/
def Dev.chooseGroup (d : Dev) (site stand : Nat) : Option Nat :=
  (d.exitStand site stand).bind fun p =>
    let gs := d.activeGroups site p
    let best := (gs.map (d.groupQueue site)).foldl min ((gs.map (d.groupQueue site)).headD 0)
    gs.find? fun g => d.groupQueue site g == best

/-- A thread parks on an access (R79); what leaves the Canopy goes down a bond group (R96). -/
def Dev.park (t : Thread) (op : RemoteOp) (rack : Bool) (tag lost : Nat) (d : Dev) : Dev :=
  let group := if (opAddress op).isSome then d.chooseGroup t.site t.stand else none
  { d with cs.parked := d.cs.parked ++ [{ t, op, rack, issued := d.tb.ns, tag, lost, group }], cs.finished := d.cs.finished.filter (·.t != t) }

/-- Operations of a thread and scope that timed out since its last fence of the scope. -/
def Dev.lostBy (d : Dev) (t : Thread) (rack : Bool) : Nat := (d.cs.lost.find? fun e => e.1 == t && e.2.1 == rack).elim 0 (·.2.2)

/-! ## The site's own memory -/

/-- Base of the model's addresses of Stand memory in a transfer's local address (log 32). -/
def standBase : Nat := 0x1000000000000

/-- Bytes of a site's Stand memory, with POISON when a word is poisoned (R73, R77). -/
def Dev.readStand (d : Dev) (site a n : Nat) : Option (List Byte) :=
  let s := d.site site
  if (List.range ((a % 16 + n + 15) / 16)).any fun i => s.standPoison.contains (a / 16 + i) then none else some (cellsRead s.stand a n)

/-- Write Stand memory: a write replaces what a poisoned word held (R77). -/
def Dev.writeStand (site a : Nat) (data : List Byte) (d : Dev) : Dev :=
  d.onSite site fun s =>
    { s with stand := cellsWrite s.stand a data
             standPoison := s.standPoison.filter fun w => !(decide (a ≤ w * 16) && decide (w * 16 + 16 ≤ a + data.length)) }

/-- SRAM words of a site that a read found wrong and corrected are counted (R77, R95). -/
def Dev.sramCorrected (site unit n : Nat) (d : Dev) : Dev :=
  if n = 0 then d else (d.onSite site fun s => { s with corrected := s.corrected + n }).corrected unit n

/-- Bond group beneath which a DPA's slice lies (R88, R92): the unit of its errors. -/
def Dev.sliceUnit (d : Dev) (site a : Nat) : Nat := groupUnit site (sliceOf (d.site site).retired (a % 2 ^ 48 / 256))

/-- Whether a DPA lies in a site's own scratch. -/
def ownScratch (site a n : Nat) : Bool := decide (scratchKey site 0 ≤ a) && decide (a + n ≤ scratchKey (site + 1) 0)

/-- Read the local side of a transfer: the site's Stand memory or its own scratch; none is POISON. -/
def Dev.readLocal (d : Dev) (site a n : Nat) : Option (List Byte) :=
  if standBase ≤ a then (if a - standBase + n ≤ 133 * 0x200000 then d.readStand site (a - standBase) n else none)
  else if ownScratch site a n then d.readBytes a n else none

/-- Write the local side of a transfer; `false` when the address is not the site's. -/
def Dev.writeLocal (site a : Nat) (data : List Byte) (d : Dev) : Dev × Bool :=
  if standBase ≤ a then
    (if a - standBase + data.length ≤ 133 * 0x200000 then (d.writeStand site (a - standBase) data, true) else (d, false))
  else if ownScratch site a data.length then
    (if (d.scratchOk site (a - scratchKey site 0)) then (d.store a data, true) else (d, false))
  else (d, false)

/-! ## Transfers (R80, R220, R308) -/

/-- Basin port that is home for a piece of a transfer (R237, R290). -/
def Dev.homePort (d : Dev) (write : Bool) (a : Nat) : Option Nat :=
  match placeOf d.mBytes a with
  | .hbm s o => some (stackSite (if write then d.homeStack s o else s))
  | .scratch s _ => some s
  | _ => none

/-- Piece of a transfer that begins `o` bytes into it: its length, within one 4 KiB granule (R326); one element of a SCATTER in mode 1
(R327). -/
def pieceLen (x : XferDesc) (o : Nat) : Nat :=
  match x.scatterAdd with
  | some ty => min ty.bytes (x.length - o)
  | none => min (4096 - (x.remote + o) % 4096) (x.length - o)

/-- The pieces of a transfer: offset and length (fuel: their number). -/
def piecesFrom (x : XferDesc) : Nat → Nat → List (Nat × Nat)
  | 0, _ => []
  | fuel + 1, o => if x.length ≤ o then [] else (o, pieceLen x o) :: piecesFrom x fuel (o + pieceLen x o)

/-- All pieces of a transfer. -/
def allPieces (x : XferDesc) : List (Nat × Nat) := piecesFrom x (if x.scatterAdd.isSome then x.length + 1 else x.length / 4096 + 2) 0

/-- Bytes that a Cruiser appends to a transfer from a stack (R308). -/
def extraBytes (x : XferDesc) : Nat :=
  match x.cruiser with
  | .append p => if x.isRead then crcBytes p else 0
  | _ => 0

/-- A transfer is complete (R80, R326): 0, TIMEOUT when a frame of it timed out, else POISON when a part of it was. -/
def Dev.endTransfer (x : Transfer) (status : Nat) (d : Dev) : Dev :=
  { d with cs.transfers := d.cs.transfers.filter (·.tag != x.tag), cs.ended := (x.tag, if x.timedOut then 1 else status) :: d.cs.ended }

/-- Status of a descriptor that has completed. -/
def Dev.endedAs (d : Dev) (tag : Nat) : Option Nat := valueOf tag d.cs.ended

/-- Lines of a cache set and slice (R92). -/
def sameSet (retired : List Nat) (a b : Nat) : Bool := sliceOf retired a == sliceOf retired b && setOf a == setOf b

/-- A filled line enters the cache (R91, R92): a full set evicts the way that pseudo-LRU names (log 20). -/
def Dev.fillCache (site line : Nat) (data : List Byte) (d : Dev) : Dev :=
  let s := d.site site
  let set := s.cache.filter fun e => sameSet s.retired e.1 line
  let room := 16 - s.ways
  let d1 := if room ≤ set.length then d.draw else d
  let out := if room ≤ set.length then (set[Config.victim d.free % max 1 set.length]?).map (·.1) else none
  d1.onSite site fun s => { s with cache := (line, data) :: s.cache.filter fun (e : Nat × List Byte) => some e.1 != out && e.1 != line }

/-- Whether a range is HBM that a placed graph declares read-only: its reads are CACHED (R91). -/
def Dev.cachedRange (d : Dev) (a n : Nat) : Bool :=
  match placeOf d.mBytes (a % 2 ^ 48) with
  | .hbm s o => d.readOnly (d.homeStack s o) o n
  | _ => false

/-- Bytes of a bulk read's part that have come from its home. -/
def Dev.cameOf (d : Dev) (site tag : Nat) : Nat :=
  (d.ba.partials.find? fun p => p.port == site && p.transfer == tag).elim 0 (·.got)

/-- Something of a part has come (R220): its XFER_ACK or all its data, `none`; or some bytes of a SCATTER in mode 1. -/
def Dev.partDone (tag status : Nat) (bytes : Option Nat) (d : Dev) : Dev :=
  match d.cs.transfers.find? fun x => x.parts.any (·.tag == tag) with
  | some x =>
    let up := fun (p : XferPart) => match bytes with
      | some n => { p with got := p.got + n, done := decide (p.total ≤ p.got + n + d.cameOf x.t.site tag) }
      | none => { p with done := true }
    let y := { x with parts := mapIf (·.tag == tag) up x.parts, status := max x.status status }
    if y.parts.all (·.done) && decide (y.desc.length ≤ y.sent) then d.endTransfer y y.status
    else { d with cs.transfers := mapIf (·.tag == x.tag) (fun _ => y) d.cs.transfers }
  | none => d

/-- The record by which a transfer engine asks a home for one piece of a bulk read (log 32): the local address, the bytes of the
part, the Cruiser and the range its value covers stand in the data. -/
def bulkAsk (site : Nat) (x : XferDesc) (tag total o n : Nat) : Rec :=
  let last := o + n == x.length
  let code := match x.cruiser with
    | .append p => if last then p + 1 else 0
    | _ => 0
  { op := 1, aop := 0, aty := 0, size := n, status := 0, address := x.remote + o, port := site, unit := engineUnit, tag
    data := leBytes 8 (x.local_ + o) ++ leBytes 4 total ++ leBytes 4 code ++ leBytes 8 x.remote ++ leBytes 8 x.length, fromHost := false }

/-- An access beyond the scratch of a site is recorded (R90). -/
def Dev.notePast (a : Nat) (d : Dev) : Dev :=
  match placeOf d.mBytes (a % 2 ^ 48) with
  | .scratch s o => if d.scratchOk s o then d else d.notice 0 0
  | _ => d

/-- One piece of a transfer within the site itself (R102): through the slice crossbar, at once; POISON is noted on the transfer. -/
def Dev.ownPiece (x : Transfer) (o n : Nat) (d : Dev) : Dev :=
  let past := fun (a : Nat) (d : Dev) => if standBase ≤ a then d else d.notePast a
  let bad := fun (d : Dev) => past (x.desc.remote + o) (past (x.desc.local_ + o)
    { d with cs.transfers := mapIf (·.tag == x.tag) (fun (y : Transfer) => { y with status := 2 }) d.cs.transfers })
  let there := x.desc.remote + o
  let here := x.desc.local_ + o
  let from_ := if x.desc.isRead then d.readBytes there n else d.readLocal x.t.site here n
  match from_ with
  | none => bad d
  | some bs =>
    let r := d.writeLocal x.t.site (if x.desc.isRead then here else there) bs
    if r.2 then r.1 else bad d

/-- One add of a SCATTER in mode 1 (R137, R327): an ATOMIC record, posted. -/
def scatterRec (x : Transfer) (part : XferPart) (ty : AtomicTy) (o : Nat) (data : List Byte) : Rec :=
  { op := 3, aop := 0, aty := ty.code, size := ty.bytes, status := 0, address := x.desc.remote + o, port := x.t.site, unit := engineUnit
    tag := part.tag, data, fromHost := false }

/-- Bytes of a piece of a bulk read that the site's cache holds (R91): read-only HBM, every line of it cached. -/
def Dev.cachedPiece (d : Dev) (x : Transfer) (o n : Nat) : Option (List Byte) :=
  let a := (x.desc.remote + o) % 2 ^ 48
  let cache := (d.site x.t.site).cache
  let lines := (List.range ((a + n + 255) / 256 - a / 256)).map (a / 256 + ·)
  if x.desc.rack ∨ x.desc.cruiser ≠ .none ∨ !d.cachedRange a n then none
  else
    let held := lines.filterMap fun l => (cache.find? (·.1 == l)).map (·.2)
    if held.length = lines.length then some (slice held.flatten (a % 256) n) else none

/-- A piece of a bulk read that hits the site's cache is written at once (R91). -/
def Dev.hitPiece (x : Transfer) (tag o n : Nat) (bs : List Byte) (d : Dev) : Dev :=
  let r := d.writeLocal x.t.site (x.desc.local_ + o) bs
  if r.2 then r.1.partDone tag 0 (some n) else d.partDone tag 2 (some n)

/-- Queue one piece of a transfer: a BULK_WRITE cell, a posted add, or the request of a bulk read. -/
def Dev.sendPiece (x : Transfer) (part : XferPart) (o n : Nat) (d : Dev) : Dev :=
  let site := x.t.site
  let data := d.readLocal site (x.desc.local_ + o) n
  let check := match x.desc.cruiser with
    | .check p => some p
    | _ => none
  match x.desc.scatterAdd with
  | some ty =>
    match data with
    | some bs => d.sendRec 3 site part.port (scatterRec x part ty o bs)
    | none => d.partDone part.tag 2 (some n)
  | none =>
    if part.port = site then d.ownPiece x o n
    else if x.desc.isRead then
      match d.cachedPiece x o n with
      | some bs => d.hitPiece x part.tag o n bs
      | none => d.sendRec 3 site part.port (bulkAsk site x.desc part.tag part.total o n)
    else d.sendCell { BCell.blank 1 site part.port with
      poison := data.isNone, payload := data.getD (zeros n), length := n, address := x.desc.remote + o, transfer := part.tag
      offset := o, total := part.total, last := o + n == x.desc.length, check }

/-- The part that a piece belongs to: its home's, or the engine's of a rack transfer. -/
def Dev.partOf (d : Dev) (x : Transfer) (o : Nat) : Option XferPart :=
  if x.desc.rack then x.parts.head?
  else (d.homePort (!x.desc.isRead) ((x.desc.remote + o) % 2 ^ 48)).bind fun port => x.parts.find? (·.port == port)

/-- Queue the next pieces of a transfer while the source router's queues have room for cells (R223). -/
def Dev.feed (tag : Nat) : Nat → Dev → Dev
  | 0, d => d
  | fuel + 1, d =>
    match d.cs.transfers.find? (·.tag == tag) with
    | some x =>
      let o := x.sent
      let n := pieceLen x.desc o
      match d.partOf x o with
      | some part =>
        if x.desc.length ≤ o ∨ (d.choosePlane x.t.site part.port).elim false (fun p => decide (256 ≤ d.queued x.t.site p)) then d
        else
          let sent := fun (y : Transfer) => { y with sent := o + n, issued := d.tb.ns }
          let d1 := Dev.sendPiece x part o n { d with cs.transfers := mapIf (·.tag == tag) sent d.cs.transfers }
          let whole := decide (x.desc.length ≤ o + n)
          Dev.feed tag fuel (if whole && part.port == x.t.site && x.desc.scatterAdd.isNone then d1.partDone part.tag 0 none else d1)
      | none => d
    | none => d

/-- Feed every transfer of a site. -/
def Dev.feedAll (d : Dev) : Dev :=
  each ((d.cs.transfers.filter fun x => decide (x.sent < x.desc.length)).map (·.tag)) (fun tag => Dev.feed tag 1024) d

end Sys2Proof.Machine
end

