-- ==== Sys2Proof/Machine/Basin.lean ====
section
/-!
DEFINITION. The Basin (chapter 07): slots, matching, standing grants and Cascade, receivers, and what fails in it.
-/

namespace Sys2Proof.Machine

/-! ## Who may be granted -/

/-- Whether a port takes part in a plane's matching as a destination (R103, R239, R253, R259, R418, R457, R492, R496, R520, R521): a retired plane port
still takes the cells that were queued for it. DESIGN CHOICE (log 107): it waits while a ring that carries a data lane is unchecked. -/
def Dev.takesCells (d : Dev) (port plane : Nat) : Bool :=
  !d.ba.failed.contains plane && !(d.pw.diesOff && (isCompute port || isMemory port)) && ((d.pport port plane).holds.filter (· != .comb)).isEmpty && !d.fa.isolated.any (·.1 == port) &&
  !d.chained port && !d.chained 55 && !d.portLooped && !d.bu.excluded.contains port && !(isCompute port && (d.site port).phase == SitePhase.usReset) && d.ringsChecked port plane .rx

/-- Whether a port takes part as a source (R240, R250): not retired there, and its comb lights its transmitter. -/
def Dev.givesCells (d : Dev) (port plane : Nat) : Bool :=
  d.takesCells port plane && !(d.pport port plane).retired && !(d.pport port plane).holds.contains .comb &&
  d.ringsChecked port plane .tx

/-- Sites of a Cascade set (R233): a grid row, or with bit 7 a grid column. -/
def setSites (set : Nat) : List Nat :=
  if bitOf set 7 then (List.range 6).map (set % 16 + 8 * ·) else (List.range 8).map (set % 16 * 8 + ·)

/-- Sites of a set that a Cascade cell goes to (R234, R235): those in service, but its source. DESIGN CHOICE (log 102): not those whose
plane port is retired, which get a single send. -/
def Dev.setPorts (d : Dev) (set src plane : Nat) : List Nat :=
  (setSites set).filter fun s => s != src && !d.sp.out.contains s && !(d.pport s plane).retired

/-- Whether a plane's role is Cascade (R233). -/
def Dev.isCascade (d : Dev) (plane : Nat) : Bool := plane == 3 && d.ba.cascade

/-- One of the repeated single sends of a multicast (R236). -/
def Dev.sendCopy (src dst : Nat) (payload : List Byte) : Dev → Dev :=
  Dev.sendCell { BCell.blank 6 src dst with payload, length := payload.length, last := true, total := payload.length, copy := true }

/-- Bytes in payloads of cells. -/
def cellParts (b : List Byte) : List (List Byte) := (List.range ((b.length + 4095) / 4096)).map fun i => (b.drop (i * 4096)).take 4096

/-- Send one payload to a row or column set (R236): by Cascade in SERVICE when the plane's role and calibration allow, else by
repeated single sends. -/
def Dev.multicast (src set : Nat) (payload : List Byte) (d : Dev) : Dev :=
  if d.hg.devState == .service && d.ba.cascade && d.ba.splitterOk then
    let alone := (setSites set).filter fun s => s != src && !d.sp.out.contains s && (d.pport s 3).retired
    each alone (fun s => Dev.sendCopy src s payload)
      (d.putCell 3 { BCell.blank 6 src 255 with set, payload, length := payload.length, last := true, total := payload.length })
  else each ((setSites set).filter (· != src)) (fun s => Dev.sendCopy src s payload) d

/-- Free entries of a receive buffer at a grant (R224): 64, less what it holds, what is on the wire and what is granted. -/
def Dev.freeEntries (d : Dev) (port plane : Nat) : Nat :=
  64 - ((d.ba.recv.filter fun r => r.1 == port && r.2.1 == plane).length + (d.ba.wire.filter fun w => w.1 == port && w.2.1 == plane).length +
    (d.ba.matches_.filter fun m => m.plane == plane && m.dsts.contains port).length)

/-! ## Standing grants (R229 to R232) -/

/-- The cheapest of some ways. -/
def cheapest : List (Nat × List Nat) → Option (Nat × List Nat)
  | [] => none
  | w :: ws => some (ws.foldl (fun a b => if b.1 < a.1 then b else a) w)

/-- One more position: for each free one the cheapest way to it, a way being its cost and its positions, the last first; a gap costs its
square. -/
def nextPositions (free : List Nat) (ways : List (Nat × List Nat)) : List (Nat × List Nat) :=
  free.filterMap fun p => cheapest (ways.filterMap fun w =>
    let q := w.2.headD 64
    if q < p then some (w.1 + (p - q) * (p - q), p :: w.2) else none)

/-- `r` positions of a frame of 64, spaced as evenly as the free positions allow (R229). DESIGN CHOICE (log 103): the squares of the gaps
round the frame have the least sum, the first such choice. -/
def spaced (free : List Nat) (r : Nat) : List Nat :=
  let from_ := fun (s : Nat) =>
    cheapest (((List.range (r - 1)).foldl (fun ws _ => nextPositions free ws) [(0, [s])]).map fun w =>
      let gap := s + 64 - w.2.headD s
      (w.1 + gap * gap, w.2))
  ((cheapest (free.filterMap from_)).elim [] (·.2)).reverse

/-- Positions that a new grant can have beside others (R214, R229): no other grant of its source or of its destination has them, and on a
Cascade plane none is a Cascade slot. -/
def Dev.freePositions (d : Dev) (others : List Standing) (plane src dst : Nat) : List Nat :=
  let busy := ((others.filter fun g => g.plane == plane && (g.src == src || g.dst == dst)).map (·.slots)).flatten
  (List.range 64).filter fun p => !busy.contains p && !(d.isCascade plane && p % 4 == 0)

/-- Standing grants of placements that are replaced or gone end, those of the placements in force begin (R230), at ports that can carry
them. -/
def Dev.placeGrants (d : Dev) : Dev :=
  let want := (d.gr.list.map fun g => (g.placed.elim [] (·.flows)).map fun f => (g.handle, f)).flatten.filter fun w => d.grantPort w.2.2.1 w.2.1 && d.grantPort w.2.2.2.1 w.2.1
  let is := fun (w : Nat × Nat × Nat × Nat × Nat) (g : Standing) => g.graph == some w.1 && (g.plane, g.src, g.dst, g.r) == w.2
  let kept := d.ba.standing.filter fun g => (g.graph.isNone && d.grantPort g.src g.plane && d.grantPort g.dst g.plane) || want.any fun w => is w g
  let begin_ := fun (gs : List Standing) (w : Nat × Nat × Nat × Nat × Nat) =>
    let slots := spaced (d.freePositions gs w.2.1 w.2.2.1 w.2.2.2.1) w.2.2.2.2
    gs ++ [({ plane := w.2.1, src := w.2.2.1, dst := w.2.2.2.1, r := w.2.2.2.2, journal := false, suspended := false, unused := 0, used := 0
              graph := some w.1, slots, wake := false, stopped := false } : Standing)]
  { d with ba.standing := (want.filter fun w => !kept.any (is w)).foldl begin_ kept }

/-- What a round boundary changes in the Basin takes effect at the first slot boundary at or after it (R222): retired plane ports, steering,
standing grants. -/
def Dev.basinChanges (d : Dev) : Dev :=
  let steer := fun (e : Nat × Nat × Nat) (d : Dev) => (d.freePort .switchPort e.1 e.2.1).onPort e.1 e.2.1 fun p => { p with steer := some e.2.2 }
  let d1 := each d.ba.dueRetire (fun e => Dev.retireNow e.1 e.2) (each d.ba.dueSteer steer { d with ba.dueSteer := [], ba.dueRetire := [] })
  if d1.ba.dueGrants then Dev.placeGrants { d1 with ba.dueGrants := false } else d1

/-- The standing grants that reserve a slot of a plane (R231): not suspended, both ports taking part. -/
def Dev.reserved (d : Dev) (plane slot : Nat) : List Standing :=
  d.ba.standing.filter fun g => g.plane == plane && !g.suspended && !g.stopped && g.slots.contains (slot % 64) &&
    d.givesCells g.src plane && d.takesCells g.dst plane

/-! ## Matching (R225 to R228, R234, R235) -/

/-- A request as the scheduler knows it: source, destination, cells asked for and not yet matched, slot of the oldest. -/
structure Request where
  src : Nat
  dst : Nat
  count : Nat
  oldest : Nat
  deriving DecidableEq, Repr

/-- The unicast requests of a plane in a slot. -/
def Dev.requests (d : Dev) (plane slot : Nat) : List Request :=
  let asked := d.ba.out.filter fun q => q.plane == plane && q.cell.dst != 255 && q.asked.any (· < slot) && d.givesCells q.port plane
  let pairs := (asked.map fun q => (q.port, q.cell.dst)).eraseDups
  pairs.filterMap fun (s, t) =>
    let mine := asked.filter fun q => q.port == s && q.cell.dst == t
    let done := (d.ba.matches_.filter fun m => m.plane == plane && m.src == s && m.dsts == [t] && m.set.isNone).length
    match mine[done]? with
    | some q => if d.takesCells t plane then some { src := s, dst := t, count := mine.length - done, oldest := q.asked.getD 0 } else none
    | none => none

/-- Distance from a pointer, round the 64 ports. -/
def fromPointer (p x : Nat) : Nat := (x + 64 - p % 64) % 64

/-- Pointers of a port. -/
def Dev.pointer (d : Dev) (plane port : Nat) : Pointer :=
  lookup (fun p => p.plane == plane && p.port == port) { plane, port, grant := 0, last := 64, row := 0, accept := 0 } d.ba.pointers

/-- The element of a list that a key puts first. -/
def nearest (key : Nat → Nat) (l : List Nat) : Option Nat := (sortBy (fun a b => decide (key a ≤ key b)) l).head?

/-- One iteration of a matching (R225): pairs of source and destination. -/
def Dev.iterate (d : Dev) (plane : Nat) (reqs : List Request) (room : Nat → Bool) (srcs dsts : List Nat) : List (Nat × Nat) :=
  let live := reqs.filter fun r => !srcs.contains r.src && !dsts.contains r.dst && room r.dst
  let grants := (live.map (·.dst)).eraseDups.filterMap fun t =>
    (nearest (fromPointer (d.pointer plane t).grant) ((live.filter (·.dst == t)).map (·.src))).map (·, t)
  (grants.map (·.1)).eraseDups.filterMap fun s =>
    (nearest (fromPointer (d.pointer plane s).accept) ((grants.filter (·.1 == s)).map (·.2))).map (s, ·)

/-- Pointers after an acceptance of the first iteration (R225, R226). -/
def Dev.accepted (plane : Nat) (reqs : List Request) (p : Nat × Nat) (d : Dev) : Dev :=
  let on := fun (port : Nat) (f : Pointer → Pointer) (d : Dev) =>
    { d with ba.pointers := upsert (fun x => x.plane == plane && x.port == port) (d.pointer plane port) f d.ba.pointers }
  let left := ((reqs.find? fun r => r.src == p.1 && r.dst == p.2).elim 1 (·.count)) - 1
  let grant := fun (x : Pointer) =>
    let row := if x.last = p.1 then x.row + 1 else 1
    if weightOf p.1 ≤ row ∨ left = 0 then { x with grant := (p.1 + 1) % 64, last := p.1, row := 0 } else { x with last := p.1, row }
  on p.1 (fun x => { x with accept := (p.2 + 1) % 64 }) (on p.2 grant d)

/-- Cascade requests of a plane, oldest first (R234): the cell's source, set and first request. -/
def Dev.cascadeRequests (d : Dev) (plane slot : Nat) : List (Nat × Nat × Nat) :=
  let asked := d.ba.out.filter fun q => q.plane == plane && q.cell.dst == 255 && q.asked.any (· < slot) && d.givesCells q.port plane
  let waiting := asked.filter fun q => !(d.ba.matches_.any fun m => m.plane == plane && m.src == q.port && m.set == some q.cell.set)
  sortBy (fun a b => decide (a.2.2 ≤ b.2.2)) (waiting.map fun q => (q.port, q.cell.set, q.asked.getD 0))

/-- CELL_MATCHING: the matching of a plane for the slot three after (R225 to R228): reserved slots are left alone, then
Cascade in a Cascade slot, aged requests, and three iterations. -/
def Dev.matchPlane (plane slot : Nat) (d : Dev) : Dev :=
  let tx := slot + 3
  let res := d.reserved plane tx
  let room := fun (t : Nat) => decide (0 < d.freeEntries t plane)
  let cascade := if d.isCascade plane && tx % 4 == 0 then
      (d.cascadeRequests plane slot).foldl (fun (acc : List Match) r =>
        let dsts := d.setPorts r.2.1 r.1 plane
        let taken := (acc.map (·.dsts)).flatten
        if acc.any (·.src == r.1) || dsts.any (fun t => taken.contains t) || !dsts.all (fun t => room t && d.takesCells t plane) || dsts.isEmpty || res.any (fun g => g.src == r.1 || dsts.contains g.dst) then acc
        else acc ++ [{ plane, slot := tx, src := r.1, dsts, set := some r.2.1 }]) []
    else []
  let reqs := d.requests plane slot
  if reqs.isEmpty ∧ cascade.isEmpty then d
  else
    let srcs0 := res.map (·.src) ++ cascade.map (·.src)
    let dsts0 := res.map (·.dst) ++ (cascade.map (·.dsts)).flatten
    let old := sortBy (fun a b => decide (a.oldest ≤ b.oldest)) (reqs.filter fun r => decide (r.oldest + 128 ≤ slot))
    let aged := old.foldl (fun (acc : List (Nat × Nat)) r =>
      if srcs0.contains r.src || dsts0.contains r.dst || acc.any (fun p => p.1 == r.src || p.2 == r.dst) || !room r.dst then acc
      else acc ++ [(r.src, r.dst)]) []
    let one := d.iterate plane reqs room (srcs0 ++ aged.map (·.1)) (dsts0 ++ aged.map (·.2))
    let two := d.iterate plane reqs room (srcs0 ++ (aged ++ one).map (·.1)) (dsts0 ++ (aged ++ one).map (·.2))
    let three := d.iterate plane reqs room (srcs0 ++ (aged ++ one ++ two).map (·.1)) (dsts0 ++ (aged ++ one ++ two).map (·.2))
    let pairs := (aged ++ one ++ two ++ three).map fun p => ({ plane, slot := tx, src := p.1, dsts := [p.2], set := none } : Match)
    let d1 := each one (Dev.accepted plane reqs) d
    { d1 with ba.matches_ := d1.ba.matches_ ++ cascade ++ pairs }

/-! ## Slots -/

/-- Put a cell on the wire to its receivers. -/
def Dev.transmit (plane : Nat) (dsts : List Nat) (standing : Bool) (q : Queued) (d : Dev) : Dev :=
  let d1 := d.onPort q.port plane fun p => { p with sent := p.sent + 1 }
  { d1 with ba.out := d1.ba.out.erase q, ba.wire := d1.ba.wire ++ dsts.map fun t => (t, plane, { q.cell with standing }) }

/-- The first cell of a virtual queue. -/
def Dev.headCell (d : Dev) (src plane : Nat) (is : BCell → Bool) : Option Queued :=
  d.ba.out.find? fun q => q.port == src && q.plane == plane && is q.cell

/-- The cell that a match sends (R228): the first of the queue that was matched. -/
def Dev.matchedCell (d : Dev) (m : Match) : Option Queued :=
  d.headCell m.src m.plane fun c => match m.set with
    | some s => c.dst == 255 && c.set == s
    | none => [c.dst] == m.dsts

/-- The matches of a slot are carried out (R228). DESIGN CHOICE (log 101): one whose source or destination has a reserved slot, since a grant
began or resumed after it was made, is dropped, and its cell is matched again (R214, R231). -/
def Dev.sendMatched (slot : Nat) (reserved : List Standing) (d : Dev) : Dev :=
  let now := d.ba.matches_.filter (·.slot == slot)
  let clash := fun (m : Match) => reserved.any fun g => g.plane == m.plane && (g.src == m.src || m.dsts.contains g.dst)
  let one := fun (m : Match) (d : Dev) =>
    match d.matchedCell m with
    | some q =>
      if d.givesCells m.src m.plane && !clash m then d.transmit m.plane (m.dsts.filter fun t => d.takesCells t m.plane && !d.sp.out.contains t) false q else d
    | none => d
  each now one { d with ba.matches_ := d.ba.matches_.filter fun m => decide (slot < m.slot) }

/-- A reserved slot of a standing grant (R231, R232): its owner sends a cell that was queued 4 ns before, or the slot carries nothing; after
4,096 in a row the grant is suspended, but the journal's. DESIGN CHOICE (log 104): nothing is sent while the receive buffer has no free
entry (R224), and the slot does not count as left unused. -/
def Dev.useGrant (g : Standing) (d : Dev) : Dev :=
  let here := fun (x : Standing) => x.plane == g.plane && x.src == g.src && x.dst == g.dst && x.graph == g.graph
  let on := fun (f : Standing → Standing) (d : Dev) => { d with ba.standing := mapIf here f d.ba.standing }
  let mine := d.ba.out.find? fun q => q.port == g.src && q.plane == g.plane && q.cell.dst == g.dst && decide (q.since + 4 ≤ d.ba.slotStart)
  match mine with
  | some q => if d.freeEntries g.dst g.plane = 0 then d else on (fun x => { x with unused := 0, used := x.used + 1 }) (d.transmit g.plane [g.dst] true q)
  | none =>
    let stop := !g.journal && decide (4096 ≤ g.unused + 1)
    let d1 := on (fun x => { x with unused := x.unused + 1, suspended := stop, wake := false }) d
    if stop then d1.onPort g.src g.plane fun p => { p with suspended := p.suspended + 1 } else d1

/-- At the first slot of a frame, suspended grants resume for which a cell has been requested (R232), and those that a reset stopped once
no port of theirs is in it (R247). -/
def Dev.resumeGrants (slot : Nat) (d : Dev) : Dev :=
  if slot % 64 = 0 then
    let ready := fun (p : Nat) => !(isCompute p && (d.site p).phase == SitePhase.usReset)
    let one := fun (g : Standing) =>
      let g1 := if g.suspended && g.wake then { g with suspended := false, wake := false, unused := 0 } else g
      if g1.stopped && ready g1.src && ready g1.dst then { g1 with stopped := false } else g1
    { d with ba.standing := d.ba.standing.map one }
  else d

/-- Latch the requests of a slot (R223): up to 15 cells of each destination that have not been requested, of the 256 cells of the outbound
queue and the 32 cells of the response buffer of a plane port (R224). -/
def latch (slot : Nat) : List Queued → List Queued → List Queued
  | _, [] => []
  | before, q :: qs =>
    let mine := before.filter fun x => x.port == q.port && x.plane == q.plane
    let held := decide (mine.length < 256) && (q.cell.kind != 4 || decide ((mine.filter (·.cell.kind == 4)).length < 32))
    let asking := (mine.filter fun x => x.cell.dst == q.cell.dst && x.asked == some slot).length
    let q1 := if q.asked.isNone && held && decide (asking < 15) then { q with asked := some slot } else q
    q1 :: latch slot (q1 :: before) qs

/-- Requests that become aged in a slot are counted at their source (R227): after 128 slots, a multicast after 128 Cascade slots (R235). -/
def Dev.countAged (slot : Nat) (d : Dev) : Dev :=
  let aged := fun (q : Queued) => q.asked.elim false fun a =>
    if q.cell.dst = 255 then slot % 4 == 0 && slot / 4 == a / 4 + 128 else slot == a + 128
  each (d.ba.out.filter aged) (fun q => Dev.onPort q.port q.plane fun p => { p with aged := p.aged + 1 }) d

/-- The requests of a slot, and the suspended grants that they wake (R223, R232). -/
def Dev.latchSlot (slot : Nat) (d : Dev) : Dev :=
  let out := latch slot [] d.ba.out
  let asked := fun (g : Standing) => g.suspended && out.any fun q => q.port == g.src && q.plane == g.plane && q.cell.dst == g.dst && q.asked == some slot
  { d with ba.out := out, ba.standing := mapIf asked (fun g => { g with wake := true }) d.ba.standing }

/-- SLOT_BOUNDARY (R221 to R232): every 28 ns what a round boundary or the optics changed takes effect, the matched cells go on the wire, reserved slots are
used, each plane matches, and requests are latched. -/
def slotBoundary (d : Dev) : Dev :=
  if !d.ba.up then d
  else
    let slot := d.ba.slot + 1
    let d0 := (d.reach (d.ba.slotStart + 28)).feedAll
    let d1 := ({ d0 with ba.slot := slot, ba.slotStart := d.ba.slotStart + 28 } : Dev).basinChanges.opticChanges.resumeGrants slot
    let live := (List.range 4).filter fun p => !d1.ba.failed.contains p
    let reserved := (live.map fun p => d1.reserved p slot).flatten
    let d2 := each reserved Dev.useGrant (d1.sendMatched slot reserved)
    (each live (fun p => Dev.matchPlane p slot) (d2.countAged slot)).latchSlot slot
/-- SLOT_BOUNDARY (R221). -/
def execSlotBoundary (s : State) : Result := s.run .slotBoundary slotBoundary

/-! ## Receivers (R218, R242, R244) -/

/-- The positions of a plane port are calibrated ahead of rotation (R244, R253, R256). -/
def Dev.calAhead (port plane lane : Nat) : Dev → Dev := Dev.onOptic port plane fun o => { o with ahead := insertNew lane o.ahead }

/-- A cell is discarded at a receiver (R242, R491): more than 4 in one round call for the loopback self-test. -/
def Dev.discard (port plane : Nat) (d : Dev) : Dev :=
  let n := (d.pport port plane).discRound + 1
  let d1 := d.onPort port plane fun p => { p with discarded := p.discarded + 1, discRound := n }
  if n = 5 then d1.reportFault (switchUnit port plane 0) .unit else d1

/-- MISDELIVERED_CELL (R218): discarded and counted; the loopback self-test of the plane port starts. -/
def Dev.misdelivered (port plane : Nat) (d : Dev) : Dev :=
  (d.onPort port plane fun p => { p with misdelivered := p.misdelivered + 1 }).reportFault (switchUnit port plane 0) .unit

/-- Corrected symbols of a cell (R242, R244): more than 64 in one round bring the next calibration of the port forward. -/
def Dev.corrections (port plane n : Nat) (d : Dev) : Dev :=
  let c := (d.pport port plane).corrRound
  let d1 := d.onPort port plane fun p => { p with corrected := p.corrected + n, corrRound := c + n }
  if c ≤ 64 ∧ 64 < c + n then d1.calAhead port plane (d1.optic port plane).next else d1

/-- Whether a receiver accepts a cell (R218): addressed to its port on its plane, or a Cascade cell of a set it lies in. -/
def BCell.accepts (c : BCell) (port plane : Nat) : Bool :=
  c.plane == plane && (c.dst == port || (c.dst == 255 && (setSites c.set).contains port))

/-- Symbols of each codeword of a cell that reach the receiver wrong (R217): those of the lanes that are dead between the two ports, and
the others given. -/
def Dev.wrongSymbols (d : Dev) (src dst plane : Nat) (wrong : List (Nat × Nat)) : List Nat :=
  let dead := (List.range 16).filter fun l => !d.laneLive src dst plane l
  let codes := if dead.isEmpty then (wrong.map (·.1)).eraseDups else List.range 258
  codes.map fun c =>
    ((wrong.filter (·.1 == c)).map (·.2) ++ (List.range 36).filter fun j => dead.contains (symbolLane c j)).eraseDups.length

/-- CELL_RECEIVE (R242): the oldest cell on the wire to a receiver is corrected, discarded, or enters the receive buffer. DEDUCED (log 108):
S144 corrects a codeword with one wrong symbol, and one with two is uncorrectable (R217, R262). -/
def cellReceive (port plane : Nat) (wrong : List (Nat × Nat)) (astray : Option (Nat × Nat)) (d : Dev) : Dev :=
  let own := astray.getD (port, plane)
  match d.ba.wire.find? fun w => (w.1, w.2.1) == own with
  | none => d
  | some w =>
    let errors := d.wrongSymbols w.2.2.src port plane wrong
    let d1 := ({ d with ba.wire := d.ba.wire.erase w } : Dev).corrections port plane (errors.filter (· == 1)).length
    if errors.any (decide <| 2 ≤ ·) then (d1.log (d1.switchOf port plane) 0 0x0102 2).discard port plane
    else if !w.2.2.accepts port plane then d1.misdelivered port plane
    else
      let d2 := d1.onPort port plane fun p => { p with received := p.received + 1 }
      { d2 with ba.recv := d2.ba.recv ++ [(port, plane, { w.2.2 with arrived := d.ba.slot })] }
/-- CELL_RECEIVE (R242). -/
def execCellReceive (port plane : Nat) (wrong : List (Nat × Nat)) (astray : Option (Nat × Nat)) (s : State) : Result :=
  s.run (.cellReceive port plane wrong astray) (cellReceive port plane wrong astray)

/-! ## Failures (R240, R247, R457) -/

/-- PLANE_SCHEDULER_FAIL (R240, R247): the plane leaves every mask at once; cells granted on it and not yet sent are discarded. -/
def planeSchedulerFail (plane : Nat) (d : Dev) : Dev :=
  if !d.ba.up || d.ba.failed.contains plane then d
  else
    let d1 := { d with ba.failed := d.ba.failed ++ [plane], ba.matches_ := d.ba.matches_.filter (·.plane != plane)
                       ba.out := d.ba.out.filter (·.plane != plane), ba.standing := d.ba.standing.filter (·.plane != plane) }
    (each (List.range 48) (fun p d => if d.inService p then d.cutOff p else d) (d1.log 0 4 0x0204 plane).degrade).checkMinimum
/-- PLANE_SCHEDULER_FAIL (R240). -/
def execPlaneSchedulerFail (plane : Nat) (s : State) : Result := s.run (.planeSchedulerFail plane) (planeSchedulerFail plane)

/-- SWITCH_PORT_FAIL (R457). -/
def switchPortFail (port plane : Nat) (d : Dev) : Dev :=
  if !d.ba.up || (d.pport port plane).retired then d
  else (d.log (d.switchOf port plane) 2 0x0202 0).steerPort port plane
/-- SWITCH_PORT_FAIL (R457). -/
def execSwitchPortFail (port plane : Nat) (s : State) : Result := s.run (.switchPortFail port plane) (switchPortFail port plane)

end Sys2Proof.Machine
end

