-- ==== Sys2Proof/Machine/Homes.lean ====
section
/-!
DEFINITION. What units do with the cells and records in their receive buffers (chapters 03, 07, 09): homes serve loads, stores,
atomics and bulk cells; requesters take responses and acknowledgements.
-/

namespace Sys2Proof.Machine

/-! ## Receive buffers -/

/-- Whether a cell of request records waits for room in its response buffer (R224). -/
def Dev.awaitsRoom (d : Dev) (w : Nat × Nat × BCell) : Bool := w.2.2.kind == 3 && w.2.2.recs.head?.any fun q => !d.rspRoomTo w.1 q.port

/-- Whether a cell reached a Cistern before another (R292): in an earlier slot, or in the same one on a lower plane. -/
def arrivedBefore (x w : Nat × Nat × BCell) : Bool := decide (x.2.2.arrived < w.2.2.arrived) || (x.2.2.arrived == w.2.2.arrived && decide (x.2.1 < w.2.1))

/-- The cell of a receive buffer that is next, when it is of a kind (R83): no kind goes before another, but request records that wait for
room in the response buffer let the others pass (R224). Cells leave the buffers of a Cistern in the order of their arrival (R292). -/
def Dev.headKind (d : Dev) (port plane kind : Nat) : Option (Nat × Nat × BCell) :=
  let mine := d.ba.recv.filter fun r => r.1 == port && r.2.1 == plane
  let first := (mine.dropWhile fun r => kind != 3 && d.awaitsRoom r).head?
  let next := fun (w : Nat × Nat × BCell) => !isMemory port || !d.ba.recv.any fun x => x.1 == port && x.2.1 != plane && !d.awaitsRoom x && arrivedBefore x w
  first.filter fun w => w.2.2.kind == kind && next w

/-- Remove a cell from its receive buffer (R224). -/
def Dev.dropCell (w : Nat × Nat × BCell) (d : Dev) : Dev := { d with ba.recv := d.ba.recv.erase w }

/-- The next record of a receive buffer's cells of a kind (R219: records in their order), and whether its cell is poisoned. -/
def Dev.headRec (d : Dev) (port plane kind : Nat) : Option (Rec × Bool) :=
  (d.headKind port plane kind).bind fun w => w.2.2.recs.head?.map (·, w.2.2.poison)

/-- Remove the next record of a kind; an emptied cell leaves the buffer. -/
def Dev.dropRec (port plane kind : Nat) (d : Dev) : Dev :=
  match d.headKind port plane kind with
  | some w =>
    let rest := w.2.2.recs.tail
    if rest.isEmpty then d.dropCell w
    else { d with ba.recv := d.ba.recv.map fun x => if x == w then (w.1, w.2.1, { w.2.2 with recs := rest }) else x }
  | none => d

/-- Serve the next request record of an operation (R224): only when the response buffer has room. The record is removed and
given to `f`; a record of a poisoned cell answers POISON (R243). -/
def Dev.serve (port plane op : Nat) (mine : Rec → Bool) (ready : Rec → Bool) (f : Rec → Dev → Dev) (d : Dev) : Dev :=
  match d.headRec port plane 3 with
  | some (r, bad) =>
    if r.op = op ∧ mine r ∧ d.rspRoomTo port r.port then
      if bad then (d.dropRec port plane 3).respondRec port r 2 []
      else if ready r then f r (d.dropRec port plane 3) else d
    else d
  | none => d

/-- An access that reaches nothing populated (R90, R276, R280): POISON, and an event. -/
def Dev.refuseRec (port : Nat) (r : Rec) (d : Dev) : Dev := (d.notice 0 0).respondRec port r 2 []

/-- A read whose snoop was not answered (R355): POISON. -/
def Dev.refuseLost (port : Nat) (r : Rec) (d : Dev) : Dev := d.respondRec port r 2 []

/-- A record's stack and offset, when the port is that Cistern's (R276). -/
def Dev.hbmAt (d : Dev) (port a : Nat) : Option (Nat × Nat) :=
  match placeOf d.mBytes (a % 2 ^ 48) with
  | .hbm s o => if stackSite s = port ∨ (o < d.mBytes / 8 ∧ stackSite (s ^^^ 1) = port) then some (s, o) else none
  | _ => none

/-- A record's scratch offset, when the port is that site (R89). -/
def Dev.scratchAt (d : Dev) (port a : Nat) : Option Nat :=
  match placeOf d.mBytes (a % 2 ^ 48) with
  | .scratch s o => if s = port then some o else none
  | _ => none

/-- Whether a record is the load of the barrier word (R281, R345). -/
def Rec.isBarrier (r : Rec) : Bool := r.op == 1 && r.address % 2 ^ 48 == barrierDpa && r.size == 16

/-- Whether a record submits a Gather-reduce job to the Cistern at a port (R281). -/
def Rec.isJob (r : Rec) (port : Nat) : Bool :=
  r.op == 2 && r.size == 64 && (jobStack r.address).any fun k => stackSite k == port

/-! ## LOAD, STORE, ATOMIC -/

/-- A home answers one piece of a bulk read (R80, R308): after the operations pending on its lines; as BULK_READ_DATA, with the
Cruiser's value after its last byte. -/
def Dev.bulkData (port : Nat) (r : Rec) (bad : Bool) (d : Dev) : Dev :=
  let data := if bad then none else d.readBytes (r.address % 2 ^ 48) r.size
  let code := u32 r.data 12
  let crc := if code = 0 then some [] else
    (d.readBytes (u64 r.data 16) (u64 r.data 24)).map fun bs => leBytes (crcBytes (code - 1)) (crcFinal (code - 1) (crcRun (code - 1) (crcInit (code - 1)) bs))
  match data, crc with
  | some bs, some c =>
    let out := bs ++ c
    d.sendCell { BCell.blank 2 port r.port with payload := out, length := out.length, address := u64 r.data 0, transfer := r.tag, total := u32 r.data 8 }
  | _, _ => (d.notePast r.address).sendCell { BCell.blank 2 port r.port with poison := true, length := r.size, address := u64 r.data 0, transfer := r.tag, total := u32 r.data 8 }

/-- Whether no operation is pending on the lines of a stack's range (R293). -/
def Dev.quiet (d : Dev) (stack off n : Nat) : Bool :=
  !(d.stack stack).ops.any fun o => decide (off / 256 ≤ o.line) && decide (o.line * 256 < off + n)

/-- A record at a port that is not home for its address: a Spillway engine sends it to the node it names (R237); MMIO pages and
unpopulated places give POISON (R276, R280, R281). -/
def Dev.elsewhere (port plane : Nat) (r : Rec) (d : Dev) : Dev :=
  if 51 ≤ port then d.toFibre port plane r false false
  else if port < 48 ∧ (jobStack r.address).isNone then d.refuseRec port r
  else d.respondRec port r 2 []

/-- Whether a record is for another node: it stands at a Spillway engine (R237). -/
def atEngine (port : Nat) : Bool := decide (51 ≤ port)

/-- Lines of a read that the host may hold modified are fetched before it is served (R355); a read of a read-only range does not
snoop. `none`: nothing to fetch. -/
def Dev.mustFetch (d : Dev) (port a n : Nat) : Bool :=
  match d.hbmAt port a with
  | some (s, o) => !d.readOnly (d.homeStack s o) o n && d.mustSnoop (a % 2 ^ 48) n
  | none => false

/-- Whether a write by the device at its home waits for BISnpInv and BIRsp (R355): the host may hold a line of it. A write that the
home refuses (R94, R299) takes none. -/
def Dev.mustTake (d : Dev) (port a n : Nat) : Bool :=
  match (if atEngine port then none else d.hbmAt port a) with
  | some (s, o) => !d.readOnly (d.homeStack s o) o n && !(d.tracked false (a % 2 ^ 48) n).isEmpty
  | none => false

/-- Send BISnpInv for every line of a range that the host may hold (R355). -/
def Dev.takeRange (a n : Nat) (d : Dev) : Dev := each (d.tracked false a n) (Dev.sendSnoop true) d

/-- A write record at its home: it waits until the host has given its lines back, and completes with POISON where a snoop was not
answered (R355). -/
def Dev.whenTaken (port op n : Nat) (r : Rec) (go : Dev → Dev) (d : Dev) : Dev :=
  let a := r.address % 2 ^ 48
  if r.op = op ∧ d.mustTake port r.address n then d.takeRange a n else go d

/-- A read of scratch counts the words corrected; one that could not be is an error of its bond group's slice (R95). -/
def Dev.scratchRead (port a corrected : Nat) (bad : Bool) (d : Dev) : Dev :=
  let d1 := d.sramCorrected port (d.sliceUnit port a) corrected
  if bad then d1.uncorrectable (d.sliceUnit port a) 5 else d1

/-- A LOAD record at its home (R89, R90, R95, R276, R281, R293). -/
def load (port plane corrected : Nat) (bad : Bool) (d : Dev) : Dev :=
  let bulk := fun (r : Rec) => r.unit == engineUnit && !r.data.isEmpty
  let ready := fun (r : Rec) => match d.hbmAt port r.address with
    | some (s, o) => if bulk r then d.quiet s o r.size && d.quiet (d.homeStack s o) o r.size else d.opRoom s 1
    | none => true
  let lost := fun (r : Rec) => (d.rangeLost (r.address % 2 ^ 48) r.size)
  match d.headRec port plane 3 with
  | some (r, false) =>
    if r.op = 1 ∧ d.mustFetch port r.address r.size then d.snoopRange (r.address % 2 ^ 48) r.size
    else d.serve port plane 1 (fun r => !(port == 48 && r.isBarrier)) ready fun r d =>
    if lost r then (d.dropLost (r.address % 2 ^ 48) r.size).refuseLost port r
    else match (if atEngine port then none else d.hbmAt port r.address), (if atEngine port then none else d.scratchAt port r.address) with
    | some (s, o), _ =>
      if bulk r then (if (d.stack s).resetting then d else d.bulkData port r false)
      else d.acceptRead s o r.size (.record port plane r)
    | none, some o =>
      if !d.scratchOk port o then (if bulk r then d.bulkData port r false else d.refuseRec port r)
      else
        let d := d.scratchRead port r.address corrected bad
        if bulk r then d.bulkData port r bad
        else match (if bad then none else d.readBytes (r.address % 2 ^ 48) r.size) with
          | some bs => d.respondRec port r 0 bs
          | none => d.respondRec port r 2 []
    | none, none => d.elsewhere port plane (if bulk r then { r with op := 5 } else r)
  | some (r, true) => if r.op = 1 then d.serve port plane 1 (fun _ => true) (fun _ => true) fun _ d => d else d
  | none => d
/-- LOAD (R293). -/
def execLoad (port : Nat) (read : HomeRead) (s : State) : Result := s.run (.load port read) (load port read.plane read.corrected read.bad)

/-- A STORE record at its home (R90, R94, R294): one line update, or one write of a scratch line. -/
def store (port plane : Nat) (d : Dev) : Dev :=
  let ready := fun (r : Rec) => match d.hbmAt port r.address with
    | some (s, o) => d.opRoom (d.homeStack s o) 1
    | none => true
  let go := Dev.serve port plane 2 (fun r => !r.isJob port) ready fun r d =>
    if d.rangeLost (r.address % 2 ^ 48) r.size then (d.dropLost (r.address % 2 ^ 48) r.size).refuseLost port r
    else match (if atEngine port then none else d.hbmAt port r.address), (if atEngine port then none else d.scratchAt port r.address) with
    | some (s, o), _ => d.acceptWrite s o r.size r.fromHost (.store (o % 256) r.data) (.record port plane r)
    | none, some o =>
      if d.scratchOk port o then (d.store (r.address % 2 ^ 48) r.data).respondRec port r 0 [] else d.refuseRec port r
    | none, none => d.elsewhere port plane r
  match d.headRec port plane 3 with
  | some (r, false) => if r.isJob port then d else d.whenTaken port 2 r.size r go
  | _ => go d
/-- STORE (R294). -/
def execStore (port plane : Nat) (s : State) : Result := s.run (.store port plane) (store port plane)

/-- Operands of an ATOMIC record: the operand, and for a compare-and-swap the value to compare, each of the type's width. -/
def atomicOperands (ty : AtomicTy) (data : List Byte) : Nat × Nat := (field data 0 ty.bytes, field data ty.bytes ty.bytes)

/-- An ATOMIC record at its home (R294, R295). -/
def atomic (port plane corrected : Nat) (bad : Bool) (d : Dev) : Dev :=
  let ready := fun (r : Rec) => match d.hbmAt port r.address with
    | some (s, o) => d.opRoom (d.homeStack s o) 1
    | none => true
  let go := Dev.serve port plane 3 (fun _ => true) ready fun r d =>
    if d.rangeLost (r.address % 2 ^ 48) r.size then (d.dropLost (r.address % 2 ^ 48) r.size).refuseLost port r
    else match AtomicOp.ofCode r.aop, AtomicTy.ofCode r.aty with
    | some op, some ty =>
      let x := atomicOperands ty r.data
      let act := LineAct.atomic op ty (r.address % 256) x.1 x.2 (r.unit == engineUnit)
      match (if atEngine port then none else d.hbmAt port r.address), (if atEngine port then none else d.scratchAt port r.address) with
      | some (s, o), _ => d.acceptWrite s o ty.bytes false act (.record port plane r)
      | none, some o =>
        if !d.scratchOk port o then d.refuseRec port r
        else
          let d := d.scratchRead port r.address corrected bad
          match (if bad then none else d.readBytes (r.address % 2 ^ 48) ty.bytes) with
          | some bs =>
            let new := leBytes ty.bytes (atomicNew op ty (leNat bs) x.1 x.2)
            (d.store (r.address % 2 ^ 48) new).respondRec port r 0 (if r.unit = engineUnit then [] else bs)
          | none => d.respondRec port r 2 []
      | none, none => d.elsewhere port plane r
    | _, _ => d.respondRec port r 2 []
  match d.headRec port plane 3 with
  | some (r, false) => d.whenTaken port 3 r.size r go
  | _ => go d
/-- ATOMIC (R294). -/
def execAtomic (port : Nat) (read : HomeRead) (s : State) : Result := s.run (.atomic port read) (atomic port read.plane read.corrected read.bad)

/-- BARRIER_WORD_LOAD (R281, R345): the Headgate answers a 16-byte load of the barrier word. -/
def barrierWordLoad (plane : Nat) (d : Dev) : Dev :=
  d.serve 48 plane 1 (·.isBarrier) (fun _ => true) fun r d => d.respondRec 48 r 0 d.barrierWord
/-- BARRIER_WORD_LOAD (R345). -/
def execBarrierWordLoad (plane : Nat) (s : State) : Result := s.run (.barrierWordLoad plane) (barrierWordLoad plane)

/-- GATHER_REDUCE_JOB_SUBMIT (R281): a 64-byte store to a job page queues a job, or is held as a pending operation
while 256 are queued (R296). -/
def gatherReduceJobSubmit (port plane : Nat) (d : Dev) : Dev :=
  d.serve port plane 2 (·.isJob port) (fun r => (jobStack r.address).any fun k => decide ((d.stack k).jobs.length < 256) || d.opRoom k 1) fun r d =>
    match jobStack r.address with
    | some k =>
      if (d.stack k).resetting then d
      else if (d.stack k).fenced then d.respondRec port r 2 []
      else d.pushJob k { desc := r.data, reply := .record port plane r }
    | none => d
/-- GATHER_REDUCE_JOB_SUBMIT (R281). -/
def execGatherReduceJobSubmit (port plane : Nat) (s : State) : Result := s.run (.gatherReduceJobSubmit port plane) (gatherReduceJobSubmit port plane)

/-! ## Bulk cells (R220, R243, R308) -/

/-- The partial state of a cell's transfer at a receiver (R220): it expires after the on-package timeout. -/
def Dev.onPartial (port : Nat) (c : BCell) (f : Partial → Partial) (d : Dev) : Dev :=
  let fresh : Partial := { port, src := c.src, transfer := c.transfer, got := 0, total := c.total, expires := 0, poison := false, held := [], base := c.address, check := c.check }
  let up := fun (p : Partial) => { f p with expires := d.tb.ns + d.rd.timeout, base := min p.base c.address, poison := p.poison || c.poison }
  { d with ba.partials := upsert (fun p => p.port == port && p.src == c.src && p.transfer == c.transfer) fresh up d.ba.partials }

/-- Pieces of a byte range that lie in one line each: address and bytes (fuel: their number). -/
def linePieces : Nat → Nat → List Byte → List (Nat × List Byte)
  | 0, _, _ => []
  | fuel + 1, a, bs =>
    if bs.isEmpty then []
    else let n := min (256 - a % 256) bs.length
      (a, bs.take n) :: linePieces fuel (a + n) (bs.drop n)

/-- Write a bulk range at its home (R294): a line update for each line it covers, or scratch lines. -/
def Dev.bulkStore (port a : Nat) (bs : List Byte) (reply : Reply) (d : Dev) : Dev :=
  each (linePieces 20 a bs) (fun p d =>
    match d.hbmAt port p.1, d.scratchAt port p.1 with
    | some (s, o), _ => d.acceptWrite s o p.2.length false (.store (o % 256) p.2) reply
    | none, some o => if d.scratchOk port o then d.store p.1 p.2 else (d.notice 0 0).answerOp 0 2 [] reply
    | none, none => (d.notice 0 0).answerOp 0 2 [] reply) d

/-- Whether a Cistern accepts the lines of a bulk cell (R296). -/
def Dev.bulkRoom (d : Dev) (port a n : Nat) : Bool :=
  match d.hbmAt port a with
  | some (s, o) => d.opRoom (d.homeStack s o) ((o % 256 + n + 255) / 256)
  | none => true

/-- A checked transfer that has all its bytes (R308): written without its trailing value when that matches, else POISON. -/
def Dev.checkWhole (port : Nat) (c : BCell) (d : Dev) : Dev :=
  match d.ba.partials.find? fun p => p.port == port && p.src == c.src && p.transfer == c.transfer with
  | some p =>
    match p.check with
    | some code =>
      let all := ((sortBy (fun a b => decide (a.1 ≤ b.1)) p.held).map (·.2)).flatten
      let n := all.length - crcBytes code
      let good := crcFinal code (crcRun code (crcInit code) (all.take n)) == leNat (all.drop n)
      let reply := Reply.bulk port c.src c.transfer
      if p.got < p.total ∨ p.poison then d
      else if good then
        each ((List.range (n / 4096 + 1)).map fun k => (p.base + 4096 * k, (all.take n).drop (4096 * k) |>.take 4096))
          (fun e d => d.bulkStore port e.1 e.2 reply) d
      else d.poisonBulk port c.src c.transfer
    | none => d
  | none => d

/-- A bulk cell at a Spillway engine: a frame in transit is queued again (R337); else one bulk frame for another node (R326). -/
def Dev.bulkToFibre (port plane : Nat) (w : Nat × Nat × BCell) (d : Dev) : Dev :=
  let c := w.2.2
  let d1 := d.dropCell w
  match c.frame with
  | some (since, from_, f) =>
    let s := d1.emit port since from_ f
    (if s.2 then s.1 else d1.dropFrame { frame := f, since, from_ }).sendAck port c.src c.transfer 0
  | none =>
    if c.last ∨ c.address ≠ 0 then
      let ask : Rec := { op := 4, aop := 0, aty := 0, size := c.length, status := 0, address := c.address, port := c.src, unit := engineUnit
                         tag := c.transfer, data := c.payload, fromHost := false }
      (d1.onPartial port c fun p => { p with got := p.got + c.length }).toFibre port plane ask c.poison c.last
    else d1

/-- The bytes that the arrival of a bulk cell writes: its own, or the whole of a checked transfer that it completes (R308). -/
def Dev.bulkRange (d : Dev) (port : Nat) (c : BCell) : Nat × Nat :=
  if c.poison then (c.address, 0)
  else if c.check.isNone then (c.address, c.length)
  else
    let p := (d.ba.partials.find? fun p => p.port == port && p.src == c.src && p.transfer == c.transfer).elim (c.address, 0) fun p => (min p.base c.address, p.got)
    if c.total ≤ p.2 + c.length then (p.1, c.total) else (c.address, 0)

/-- BULK_WRITE (R220, R243, R297, R308): the payload is written at its address, and the transfer's XFER_ACK follows when all of it is. -/
def bulkWrite (port plane : Nat) (d : Dev) : Dev :=
  match d.headKind port plane 1 with
  | none => d
  | some w =>
    let range := d.bulkRange port w.2.2
    let lost := d.rangeLost range.1 range.2
    let c := if lost then { w.2.2 with poison := true } else w.2.2
    if atEngine port then d.bulkToFibre port plane w
    else if !d.bulkRoom port c.address c.length || !d.rspRoomTo port c.src then d
    else if d.mustTake port range.1 range.2 then d.takeRange range.1 range.2
    else
      let d1 := ((onlyIf lost (Dev.dropLost range.1 range.2) d).dropCell w).onPartial port c id
      let d2 :=
        if isMemory port && (d.stack (siteStack port)).resetting then d1
        else if c.poison then d1
        else if c.check.isSome then d1.onPartial port c fun p => { p with held := p.held ++ [(c.offset, c.payload)] }
        else d1.bulkStore port c.address c.payload (.bulk port c.src c.transfer)
      let d3 := (d2.onPartial port c fun p => { p with got := p.got + c.length }).checkWhole port c
      if isMemory port && (d.stack (siteStack port)).resetting then d3 else d3.ackWhole port c.src c.transfer
/-- BULK_WRITE (R220). -/
def execBulkWrite (port plane : Nat) (s : State) : Result := s.run (.bulkWrite port plane) (bulkWrite port plane)

/-- Where a bulk read's data comes from: the address at its home. -/
def Dev.bulkSource (d : Dev) (port : Nat) (c : BCell) : Option Nat :=
  (d.cs.transfers.find? fun x => x.t.site == port && x.parts.any (·.tag == c.transfer)).bind fun x =>
    if x.desc.isRead ∧ !x.desc.rack ∧ x.desc.local_ ≤ c.address then some (x.desc.remote + (c.address - x.desc.local_)) else none

/-- Bytes of a bulk read's part that its site's cache gave. -/
def Dev.hitBytes (d : Dev) (tag : Nat) : Nat :=
  ((d.cs.transfers.map (·.parts)).flatten.find? fun p => p.tag == tag).elim 0 (·.got)

/-- Whole lines of read-only HBM that a bulk read brings enter the cache of its site (R91). -/
def Dev.cacheBulk (port : Nat) (c : BCell) (d : Dev) : Dev :=
  match d.bulkSource port c with
  | none => d
  | some a =>
    if c.poison ∨ !d.cachedRange a (c.payload.length) then d
    else
      let first := (a + 255) / 256
      each (List.range ((a + c.payload.length) / 256 - first)) (fun i d => d.fillCache port (first + i) (slice c.payload ((first + i) * 256 - a) 256)) d

/-- BULK_READ_DATA (R220, R107): data for a transfer that a reset ended is discarded; else it is written in the requester's memory; the last of it completes the transfer's part, and its
source gets XFER_ACK. -/
def bulkReadData (port plane : Nat) (d : Dev) : Dev :=
  match d.headKind port plane 2 with
  | none => d
  | some w =>
    let c := w.2.2
    if atEngine port then (d.dropCell w).inboundRsp port c.transfer (if c.poison then 2 else 0) (if c.poison then zeros c.length else c.payload)
    else
    if !(d.cs.transfers.any fun x => x.parts.any (·.tag == c.transfer)) then d.dropCell w
    else
    let d1 := ((d.dropCell w).onPartial port c fun p => { p with got := p.got + c.length }).cacheBulk port c
    let r := if c.poison then (d1, false) else d1.writeLocal port c.address c.payload
    let d2 := if r.2 then r.1 else d1.poisonBulk port c.src c.transfer
    match d2.ba.partials.find? fun p => p.port == port && p.src == c.src && p.transfer == c.transfer with
    | some p =>
      let status := if p.poison then 2 else 0
      if p.total ≤ p.got + d2.hitBytes c.transfer then
        (({ d2 with ba.partials := d2.ba.partials.erase p } : Dev).sendAck port c.src c.transfer status).partDone c.transfer status none
      else d2
    | none => d2
/-- BULK_READ_DATA (R220). -/
def execBulkReadData (port plane : Nat) (s : State) : Result := s.run (.bulkReadData port plane) (bulkReadData port plane)

/-- PARTIAL_TRANSFER_EXPIRY (R220): the partial state is discarded; what was applied stays. -/
def partialTransferExpiry (port src transfer : Nat) (d : Dev) : Dev :=
  match d.ba.partials.find? fun p => p.port == port && p.src == src && p.transfer == transfer with
  | some p =>
    if p.total ≤ p.got then d
    else
      let d1 := d.reach p.expires
      { d1 with ba.partials := d1.ba.partials.erase p }
  | none => d
/-- PARTIAL_TRANSFER_EXPIRY (R220). -/
def execPartialTransferExpiry (port src transfer : Nat) (s : State) : Result :=
  s.run (.partialTransferExpiry port src transfer) (partialTransferExpiry port src transfer)

/-! ## CONTROL and MULTICAST -/

/-- A site's vote reaches the active Ranger (R396): it counts until 4 µs before the end of the round, while a Ranger runs (R400). -/
def Dev.hearVote (site : Nat) (dom : Domain) (cause : Nat) (d : Dev) : Dev :=
  if !d.rd.active || d.rd.done.contains .decision || decide (d.rd.start + d.rd.period - 4000 < d.tb.ns) || d.fw.handover.isSome || !d.fw.rangerUp ||
      d.ck.votes.any (fun v => v.site == site && v.dom == dom) then d
  else { d with ck.votes := d.ck.votes ++ [{ site, dom, cause }] }

/-- What a CONTROL message does at its receiver (R437): an image starts the steward, which reports that it runs. -/
def Dev.gotCtl (port src : Nat) (m : CtlMsg) (d : Dev) : Dev :=
  match m with
  | .image => d.sendCtl port src .running
  | .running => { d with bu.stewards := insertNew src d.bu.stewards }
  | .vote dom cause => if port = d.activePort then d.hearVote src dom cause else d
  | _ => d

/-- CONTROL (07, cell kinds; R437): a management message is delivered. -/
def control (port plane : Nat) (d : Dev) : Dev :=
  match d.headKind port plane 5 with
  | none => d
  | some w =>
    match w.2.2.ctl with
    | some m => Dev.gotCtl port w.2.2.src m { d.dropCell w with ba.ctlIn := (port, m) :: d.ba.ctlIn }
    | none => d.dropCell w
/-- CONTROL (R437). -/
def execControl (port plane : Nat) (s : State) : Result := s.run (.control port plane) (control port plane)

/-- MULTICAST (R234, R236): a receiver of the set takes the data, whether it came by Cascade or as a copy. -/
def multicast (port plane : Nat) (d : Dev) : Dev :=
  match d.headKind port plane 6 with
  | none => d
  | some w => { d.dropCell w with ba.ctlIn := (port, .data w.2.2.payload) :: d.ba.ctlIn }
/-- MULTICAST (R234). -/
def execMulticast (port plane : Nat) (s : State) : Result := s.run (.multicast port plane) (multicast port plane)

/-! ## Responses (R79, R93) -/

/-- Take the next response record of an operation at a requester. -/
def Dev.takeRsp (port plane op : Nat) (f : Rec → Dev → Dev) (d : Dev) : Dev :=
  match d.headRec port plane 4 with
  | some (r, bad) => if r.op = op then f (if bad then { r with status := 2, data := [] } else r) (d.dropRec port plane 4) else d
  | none => d

/-- The response of a thread's access (R79): a response to an access that has ended already is dropped. -/
def Dev.threadRsp (r : Rec) (d : Dev) : Dev :=
  if atEngine r.port then d.inboundRsp r.port r.tag r.status r.data
  else if r.unit = engineUnit then d.partDone r.tag r.status (some ((AtomicTy.ofCode r.aty).elim 0 AtomicTy.bytes))
  else
  let t := codeThread r.port r.unit
  match d.parkedOp t with
  | some p => if p.tag = r.tag then d.finishThread t r.status r.data else d
  | none => d

/-- Data that a waiting load takes from a line. -/
def Parked.fromLine (p : Parked) (data : List Byte) : List Byte :=
  match p.op with
  | .load a n => slice data (a % 256) n
  | _ => []

/-- The line of a parked read that is CACHED (R91): one of HBM that a placed graph declares read-only. -/
def Dev.cachedRead (d : Dev) (p : Parked) : Option Nat :=
  match p.op with
  | .load a n =>
    if p.rack && a / 2 ^ 48 != d.sw.node then none
    else match placeOf d.mBytes (a % 2 ^ 48) with
      | .hbm s o => if d.readOnly (d.homeStack s o) o n then some (a % 2 ^ 48 / 256) else none
      | _ => none
  | _ => none

/-- A CACHED read of a line (R92, R93): a hit waits for its data, a miss joins the line's fill or begins one; beyond 64 fills of a
slice or 32 reads of a fill it waits. -/
def Dev.wantLine (t : Thread) (line : Nat) (d : Dev) : Dev :=
  let s := d.site t.site
  if s.cache.any (·.1 == line) then d
  else match s.fills.find? (·.1 == line) with
    | some f =>
      if 32 ≤ f.2.length ∨ f.2.contains t then d
      else d.onSite t.site fun s => { s with fills := mapIf (·.1 == line) (fun (e : Nat × List Thread) => (e.1, e.2 ++ [t])) s.fills }
    | none =>
      if 64 ≤ (s.fills.filter fun e => sliceOf s.retired e.1 == sliceOf s.retired line).length then d
      else match d.homePort false (line * 256) with
        | some home =>
          let r : Rec := { op := 1, aop := 0, aty := 0, size := 256, status := 0, address := line * 256, port := t.site, unit := cacheUnit
                           tag := d.cs.nextTag, data := [], fromHost := false }
          ({ (d.onSite t.site fun s => { s with fills := s.fills ++ [(line, [t])] }) with cs.nextTag := (d.cs.nextTag + 1) % 2 ^ 32 }).sendRec 3 t.site home r
        | none => d

/-- Reads that waited at a slice go on in their order (R93). -/
def Dev.nextFills (site : Nat) (d : Dev) : Dev :=
  each (d.cs.parked.filter fun p => p.t.site == site) (fun p d => (d.cachedRead p).elim d fun l => d.wantLine p.t l) d

/-- A fill's line has come (R93): every joined read takes its data, and the line stays in the cache. -/
def Dev.fillRsp (site line : Nat) (r : Rec) (d : Dev) : Dev :=
  let s := d.site site
  match s.fills.find? (·.1 == line) with
  | some f =>
    let d1 := d.onSite site fun s => { s with fills := s.fills.filter (·.1 != line) }
    let d2 := if r.status = 0 then d1.fillCache site line r.data else d1
    (each f.2 (fun t d => (d.parkedOp t).elim d fun p => d.finishThread t r.status (if r.status = 0 then p.fromLine r.data else [])) d2).nextFills site
  | none => d

/-- LOAD_RSP (R79, R93). -/
def loadRsp (port plane : Nat) (d : Dev) : Dev :=
  d.takeRsp port plane 0x81 fun r d => if r.unit = cacheUnit then d.fillRsp port (r.address % 2 ^ 48 / 256) r else d.threadRsp r
/-- LOAD_RSP (R79). -/
def execLoadRsp (port plane : Nat) (s : State) : Result := s.run (.loadRsp port plane) (loadRsp port plane)

/-- A Gather-reduce job's thread knows that its job is complete (R298). -/
def Dev.jobDone (tag status : Nat) (d : Dev) : Dev :=
  { d with cs.jobs := d.cs.jobs.filter (·.1 != tag), cs.ended := (tag, status) :: d.cs.ended }

/-- STORE_ACK (R79): a job page's acknowledgement with POISON ends its job. -/
def storeAck (port plane : Nat) (d : Dev) : Dev :=
  d.takeRsp port plane 0x82 fun r d =>
    let d1 := d.threadRsp r
    if r.status = 2 ∧ d1.cs.jobs.any (·.1 == r.tag) then d1.jobDone r.tag 2 else d1
/-- STORE_ACK (R79). -/
def execStoreAck (port plane : Nat) (s : State) : Result := s.run (.storeAck port plane) (storeAck port plane)

/-- ATOMIC_RSP (R79). -/
def atomicRsp (port plane : Nat) (d : Dev) : Dev := d.takeRsp port plane 0x83 Dev.threadRsp
/-- ATOMIC_RSP (R79). -/
def execAtomicRsp (port plane : Nat) (s : State) : Result := s.run (.atomicRsp port plane) (atomicRsp port plane)

/-- XFER_ACK (R220): a part of a transfer, or a Gather-reduce job (log 32), is complete. -/
def xferAck (port plane : Nat) (d : Dev) : Dev :=
  d.takeRsp port plane 0x84 fun r d =>
    if d.cs.jobs.any (·.1 == r.tag) then d.jobDone r.tag (if r.size = 4 then 2 else r.status) 
    else if atEngine port then d.inboundRsp port r.tag r.status []
    else d.partDone r.tag r.status none
/-- XFER_ACK (R220). -/
def execXferAck (port plane : Nat) (s : State) : Result := s.run (.xferAck port plane) (xferAck port plane)

end Sys2Proof.Machine
end

