-- ==== Sys2Proof/Machine/HostMem.lean ====
section
/-!
DEFINITION. What comes back from the host's memory and caches (11 R355, R356), resets of the host port (R358), and the close of
sessions (06 R211, 12 R383).
-/

namespace Sys2Proof.Machine

/-! ## Reads that end (R185, R187, R184, R196, R356) -/

/-- A read of ring or payload memory ends: with its data, or without. -/
def Dev.readDone (p : ReadPurpose) (a : Asked) (d : Dev) : Dev :=
  let bytes := match a with
    | .data bs => some bs
    | _ => none
  match p with
  | .producer h =>
    let d1 := match bytes with
      | some bs => d.sampled h (leNat bs)
      | none => d
    match (d.str.intakes.find? (·.handle == h)).bind (·.stream) with
    | some id => d1.samplesIn id
    | none => d1
  | .descriptor h i => d.gotDescriptor h i a
  | .payload id seq => d.gotPayload id seq bytes
  | .consumed h => (d.gotConsumed h (bytes.map leNat)).windowReady

/-- Remove an outstanding read. -/
def Dev.dropRead (r : HostRead) (d : Dev) : Dev := { d with hg.hostReads := d.hg.hostReads.erase r }

/-- Reads of device memory whose lines the host no longer holds modified go on (R355). -/
def Dev.retryReads (d : Dev) : Dev :=
  let one := fun (r : HostRead) (d : Dev) =>
    if !r.dev || !d.hg.hostReads.contains r || d.mustSnoop r.addr r.len then d
    else (d.dropRead r).readDone r.purpose (match d.readBytes r.addr r.len with
      | some bs => .data bs
      | none => .failed)
  each d.hg.hostReads one d

/-- Whole 64-byte lines of a read, kept in the device cache (R356): 65,536 lines, the newest first. -/
def Dev.keepLines (a : Nat) (bs : List Byte) (d : Dev) : Dev :=
  let skip := (64 - a % 64) % 64
  let n := (bs.length - skip) / 64
  let ls := (List.range n).map fun i => (a + skip + 64 * i, (bs.drop (skip + 64 * i)).take 64)
  let rest := d.hg.devCache.filter fun l => !ls.any (·.1 == l.1)
  { d with hg.devCache := (ls ++ rest).take 65536 }

/-- A CXL.cache read completes (R356): descriptors and payloads are cached, a producer is not. -/
def cxlCacheReadComplete (addr : Nat) (data : List Byte) (d : Dev) : Dev :=
  match d.hg.hostReads.find? fun r => !r.dev && r.addr == addr with
  | none => d
  | some r =>
    if !d.hostOk then d
    else
      let bs := padTo r.len (data.take r.len)
      let d1 := match r.purpose with
        | .descriptor _ _ => d.keepLines r.addr bs
        | .payload _ _ => d.keepLines r.addr bs
        | _ => d
      (d1.dropRead r).readDone r.purpose (.data bs)
/-- CXL_CACHE_READ_COMPLETE (R356). -/
def execCxlCacheReadComplete (addr : Nat) (data : List Byte) (s : State) : Result :=
  s.run (.cxlCacheReadComplete addr data) (cxlCacheReadComplete addr data)

/-- A CXL.cache read is not completed within 100 µs (R356). -/
def cxlCacheReadTimeout (addr : Nat) (d : Dev) : Dev :=
  match d.hg.hostReads.find? fun r => !r.dev && r.addr == addr with
  | none => d
  | some r => (((d.reach (r.issued + 100000)).dropRead r).setErr 1).readDone r.purpose .failed
/-- CXL_CACHE_READ_TIMEOUT (R356). -/
def execCxlCacheReadTimeout (addr : Nat) (s : State) : Result := s.run (.cxlCacheReadTimeout addr) (cxlCacheReadTimeout addr)

/-- A host snoop of the device cache (R356): no line is ever modified, and the line is given up. -/
def hostSnoop (line : Nat) (d : Dev) : Dev := d.dropCache line 1
/-- HOST_SNOOP (R356). -/
def execHostSnoop (line : Nat) (s : State) : Result := s.run (.hostSnoop line) (hostSnoop line)

/-! ## Back-invalidate snoops (R355) -/

/-- Write a 64-byte line that the host returns into device memory. -/
def Dev.putHostLine (line : Nat) (data : List Byte) (d : Dev) : Dev :=
  let k := line * 64 - 0x100000000000
  if 0x100000000000 ≤ line * 64 then d.storeLine (k / 0x2000000000) (k % 0x2000000000) (padTo 64 (data.take 64)) else d

/-- The host answers a snoop (R355): its data is taken, the filter keeps the line as unmodified after BISnpData and drops it after
BISnpInv; reads that waited go on. -/
def biSnoopResponse (line : Nat) (data : Option (List Byte)) (d : Dev) : Dev :=
  match d.hg.snoops.find? (·.line == line) with
  | none => d
  | some sn =>
    let held := d.hg.snoopFilter.any (·.1 == line)
    let d1 := { d with hg.snoops := d.hg.snoops.erase sn }
    let d2 := match data with
      | some bs => if held then d1.putHostLine line bs else d1
      | none => d1
    let filter := if sn.inv then d2.hg.snoopFilter.filter (·.1 != line)
      else mapIf (fun e => e.1 == line) (fun e => (e.1, false)) d2.hg.snoopFilter
    Dev.retryReads { d2 with hg.snoopFilter := filter }
/-- BI_SNOOP_RESPONSE (R355). -/
def execBiSnoopResponse (line : Nat) (data : Option (List Byte)) (s : State) : Result :=
  s.run (.biSnoopResponse line data) (biSnoopResponse line data)

/-! ## Hot reset (R358, R363) -/

/-- Outstanding CXL.cache reads end as timeouts without CACHE_TIMEOUT (R363). -/
def Dev.endReads (d : Dev) : Dev :=
  let one := fun (r : HostRead) (d : Dev) =>
    if r.dev || !d.hg.hostReads.contains r then d else (d.dropRead r).readDone r.purpose .failed
  each d.hg.hostReads one d

/-- Hot reset, link-down or function-level reset (R358): the host-port state alone; outstanding snoops end and their accesses
proceed (R363). -/
def hotReset (linkDown : Bool) (d : Dev) : Dev :=
  let z := HostPort.reset
  let d1 := { d with
    hg.linkWidth := if linkDown then 0 else d.hg.linkWidth
    hg.linkRate := if linkDown then 0 else d.hg.linkRate
    hg.lopt := if linkDown then false else d.hg.lopt
    hg.ide := z.ide
    hg.cacheEn := z.cacheEn
    hg.memEn := z.memEn
    hg.bme := z.bme
    hg.hdmBase := z.hdmBase
    hg.msixEn := z.msixEn
    hg.msixFnMask := z.msixFnMask
    hg.msixTable := z.msixTable
    hg.msixUnmasked := z.msixUnmasked
    hg.snoopFilter := []
    hg.snoops := []
    hg.snoopLost := []
    hg.devCache := [] }
  d1.endReads.retryReads
/-- HOT_RESET (R358). -/
def execHotReset (linkDown : Bool) (s : State) : Result := s.run (.hotReset linkDown) (hotReset linkDown)

/-! ## Close of a session (R211, R383) -/

/-- Whether another command of a session still runs (R383). -/
def Dev.sessionBusy (d : Dev) (id : Nat) (ch : Option Nat) : Bool :=
  d.mb.chans.any fun c => c.st == .running && c.session == id && c.opcode != 0x0010 && c.opcode != 0x0012 && some c.ch != ch

/-- One abandoned result into a free slot (R211): counts written and not written. -/
def Dev.abandonOne (id h : Nat) (acc : Nat × Nat × Dev) (it : Item) : Nat × Nat × Dev :=
  let (yes, no, d) := acc
  match d.str.results.find? (·.handle == h) with
  | none => (yes, no + 1, d)
  | some r =>
    if r.consumed + r.entries ≤ r.written ∨ (r.host ∧ !d.hostOk) then (yes, no + 1, d)
    else
      let at_ := if it.stage = .finished then it.completion else d.tb.ns
      let fl := if it.decode.isSome && !bitOf it.flags 3 then it.flags ||| 16 else it.flags
      (yes + 1, no, d.writeSlot id h d.rd.number { it with status := 5, detail := 0x20, result := [], completion := at_, flags := fl })

/-- End a stream at the close of its session (R211): held results, then items in flight, in the order of R193. -/
def Dev.abandonStream (acc : Nat × Nat × Dev) (st : Stream) : Nat × Nat × Dev :=
  let before := fun (a b : Item) => decide (a.due < b.due) || (a.due == b.due && decide (a.seq ≤ b.seq))
  let all := st.held ++ sortBy before (st.inFlight ++ st.entering)
  let r := all.foldl (Dev.abandonOne st.id st.result) (0, 0, acc.2.2)
  let d1 := r.2.2.onResult st.result fun x => { x with published := x.written }
  let d2 := match d1.str.results.find? (·.handle == st.result) with
    | some x => d1.storeRing x.host (x.control + 64) (x.half 0)
    | none => d1
  let d3 := onlyIf (r.2.1 != 0) (Dev.log 0 0 0x0602 r.2.1) d2
  (acc.1 + r.1, acc.2.1 + r.2.1, d3.releaseStream st.id)

/-- Close a session (R383): streams end, graphs are unloaded, regions unmapped, rings and the id released; recorded. The counts:
streams ended, results written, results recorded without a slot. -/
def Dev.closeSession (id : Nat) (d : Dev) : Dev × Nat × Nat × Nat :=
  let sts := sortBy (fun a b => decide (a.id ≤ b.id)) (d.str.list.filter (·.session == id))
  let r := sts.foldl Dev.abandonStream (0, 0, d)
  let d1 := r.2.2
  let d2 := { d1 with
    gr.list := d1.gr.list.filter (·.session != id)
    gr.regions := d1.gr.regions.filter (·.session != id)
    str.intakes := d1.str.intakes.filter (·.session != id)
    str.results := d1.str.results.filter (·.session != id)
    ses.list := d1.ses.list.filter (·.id != id) }
  (d2.log 0 0 0x0601 2, sts.length, r.1, r.2.1)

/-- A session's close begins (R383): its later commands fail. -/
def Dev.beginClose (id : Nat) (d : Dev) : Dev := d.onSession id fun s => { s with closing := true }

/-- The close of sessions reads consumed of their result rings (R211, log 36); and whether every read is in. -/
def Dev.prepareClose (ids : List Nat) (d : Dev) : Dev × Bool :=
  let mine := fun (r : ResultRing) (read : Bool) => ids.contains r.session && (d.session? r.session).elim false (·.closeRead == read)
  let d1 := each (d.str.results.filter fun r => mine r false) Dev.askConsumed d
  let d2 := each ids (fun id d => d.onSession id fun s => { s with closing := true, closeRead := true }) d1
  let waits := d2.hg.hostReads.any fun q =>
    match q.purpose with
    | .consumed h => d2.str.results.any fun r => r.handle == h && ids.contains r.session
    | _ => false
  (d2, !waits)

/-- SESSION_CLOSE (R383): once no other command of the session runs. -/
def sessionClose (ch : Nat) (d : Dev) : Dev :=
  d.onCommand 0x0011 ch fun id _ d =>
    if d.sessionBusy id (some ch) then d.beginClose id
    else
      let a := d.prepareClose [id]
      if !a.2 then a.1
      else
      let r := a.1.closeSession id
      r.1.answer ch stOk (leBytes 4 r.2.1 ++ leBytes 4 r.2.2.1 ++ leBytes 4 r.2.2.2) 0
/-- SESSION_CLOSE (R383). -/
def execSessionClose (ch : Nat) (s : State) : Result := s.run (.sessionClose ch) (sessionClose ch)

/-- Whether a reattach of a session runs (R386). -/
def Dev.reattaching (d : Dev) (id : Nat) : Bool :=
  d.mb.chans.any fun c => c.st == .running && c.opcode == 0x0012 && c.outcome.isNone && u32 c.cmdBody 0 == id

/-- The orphan hold time of a session ends (R383, R386): it closes, once its running commands have completed. -/
def orphanHoldExpiry (id : Nat) (d : Dev) : Dev :=
  match d.session? id with
  | none => d
  | some s =>
    match s.orphaned with
    | none => d
    | some t =>
      let d1 := d.reach (t + s.hold * 1000000000)
      if !s.closing && d1.reattaching id then d1
      else if d1.sessionBusy id none then d1.beginClose id
      else
        let a := d1.prepareClose [id]
        if a.2 then (a.1.closeSession id).1 else a.1
/-- ORPHAN_HOLD_EXPIRY (R383). -/
def execOrphanHoldExpiry (session : Nat) (s : State) : Result := s.run (.orphanHoldExpiry session) (orphanHoldExpiry session)

end Sys2Proof.Machine
end

