-- ==== Sys2Proof/Machine/Clocks.lean ====
section
/-!
DEFINITION. Clocks and frequency steps (chapter 13): the reference, droop, requests, votes, decisions, and the change of the
ceilings at a boundary.
-/

namespace Sys2Proof.Machine

/-! ## REFCLK (R390) -/

/-- The Headgate finds no REFCLK for 1 µs: the cleaning loop holds. -/
def refclkLoss (d : Dev) : Dev := { d with ck.refLost := some (d.ck.refLost.getD d.tb.ns) }
/-- REFCLK_LOSS (R390). -/
def execRefclkLoss (s : State) : Result := s.run .refclkLoss refclkLoss

/-- REFCLK is back within 1 ms: the device continues. -/
def refclkRestored (d : Dev) : Dev := { d with ck.refLost := none }
/-- REFCLK_RESTORED (R390). -/
def execRefclkRestored (s : State) : Result := s.run .refclkRestored refclkRestored

/-- REFCLK is not back within 1 ms: SAFE_HOLD, cause REFCLK. -/
def refclkHoldExpiry (d : Dev) : Dev :=
  match d.ck.refLost with
  | some t => (d.reach (t + 1000000)).safeHold 3
  | none => d
/-- REFCLK_HOLD_EXPIRY (R390). -/
def execRefclkHoldExpiry (s : State) : Result := s.run .refclkHoldExpiry refclkHoldExpiry

/-! ## Droop (R391, R392) -/

/-- Update the droop counts of a region. -/
def Dev.countDroop (site stand pos : Nat) (f : DroopCount → DroopCount) (d : Dev) : Dev :=
  let fresh : DroopCount := { site, stand, pos, droops := 0, sustained := 0, time := 0 }
  { d with ck.droopCounts := upsert (fun c => c.site == site && c.stand == stand && c.pos == pos) fresh f d.ck.droopCounts }

/-- Whether an entry is of a region. -/
def Droop.is (site stand pos : Nat) (x : Droop) : Bool := x.site == site && x.stand == stand && x.pos == pos

/-- A region leaves droop: its time is counted. -/
def supplyRecovery (site stand pos : Nat) (d : Dev) : Dev :=
  match d.ck.droops.find? (Droop.is site stand pos) with
  | none => d
  | some x =>
    { d with ck.droops := d.ck.droops.erase x }.countDroop site stand pos fun c => { c with time := c.time + (d.tb.ns - x.since) }
/-- SUPPLY_RECOVERY (R391). -/
def execSupplyRecovery (site stand pos : Nat) (s : State) : Result :=
  s.run (.supplyRecovery site stand pos) (supplyRecovery site stand pos)

/-- Frequency of a region's oscillator (R391): the ceiling, or in droop what its supply supports; below 70 % of the ceiling its clock stops. -/
def Dev.oscillator (d : Dev) (site stand pos : Nat) : Nat :=
  let top := d.ceiling site (posDomain pos)
  match d.ck.droops.find? (Droop.is site stand pos) with
  | some x => if x.mhz * 10 < top * 7 then 0 else min x.mhz top
  | none => top

/-- Regions whose supply supports their ceiling leave droop (R391, R392): a step-down can lower a ceiling to it (R400). -/
def Dev.endDroops (d : Dev) : Dev :=
  each (d.ck.droops.filter fun x => decide (d.ceiling x.site (posDomain x.pos) ≤ x.mhz)) (fun x => supplyRecovery x.site x.stand x.pos) d

/-- The local supply of a region supports only `mhz` (R391). -/
def supplyDroop (site stand pos mhz : Nat) (d : Dev) : Dev :=
  let top := d.ceiling site (posDomain pos)
  if top ≤ mhz then supplyRecovery site stand pos d
  else
    if d.ck.droops.any (Droop.is site stand pos) then
      { d with ck.droops := mapIf (Droop.is site stand pos) (fun x => { x with mhz }) d.ck.droops }
    else
      let x : Droop := { site, stand, pos, mhz, since := d.tb.ns, sustained := false }
      { d with ck.droops := d.ck.droops ++ [x] }.countDroop site stand pos fun c => { c with droops := c.droops + 1 }
/-- SUPPLY_DROOP (R391). -/
def execSupplyDroop (site stand pos mhz : Nat) (s : State) : Result :=
  s.run (.supplyDroop site stand pos mhz) (supplyDroop site stand pos mhz)

/-- A region has been in droop for 10 µs without a break (R392). -/
def sustainedDroop (site stand pos : Nat) (d : Dev) : Dev :=
  match d.ck.droops.find? (Droop.is site stand pos) with
  | none => d
  | some x =>
    if x.sustained then d
    else
      let d1 := d.reach (x.since + 10000)
      let d2 := { d1 with ck.droops := mapIf (Droop.is site stand pos) (fun x => { x with sustained := true }) d1.ck.droops }
      d2.countDroop site stand pos fun c => { c with sustained := c.sustained + 1 }
/-- SUSTAINED_DROOP (R392). -/
def execSustainedDroop (site stand pos : Nat) (s : State) : Result :=
  s.run (.sustainedDroop site stand pos) (sustainedDroop site stand pos)

/-! ## Requests (R394, R395) -/

/-- Pending request of a domain. -/
def Dev.req (d : Dev) : Domain → Option StepReq
  | .cd9 => d.ck.req9
  | .cd10 => d.ck.req10
/-- Set the pending request of a domain. -/
def Dev.setReq (dom : Domain) (r : Option StepReq) (d : Dev) : Dev :=
  match dom with
  | .cd9 => { d with ck.req9 := r }
  | .cd10 => { d with ck.req10 := r }
/-- Target of a domain's raised rails. -/
def Dev.rails (d : Dev) : Domain → Option Nat
  | .cd9 => d.ck.rails9
  | .cd10 => d.ck.rails10
/-- Set the target of a domain's rails. -/
def Dev.setRails (dom : Domain) (r : Option Nat) (d : Dev) : Dev :=
  match dom with
  | .cd9 => { d with ck.rails9 := r }
  | .cd10 => { d with ck.rails10 := r }
/-- Decision of a domain in this round. -/
def Dev.dec (d : Dev) : Domain → Option Bool
  | .cd9 => d.ck.dec9
  | .cd10 => d.ck.dec10
/-- Set the decision of a domain. -/
def Dev.setDec (dom : Domain) (r : Option Bool) (d : Dev) : Dev :=
  match dom with
  | .cd9 => { d with ck.dec9 := r }
  | .cd10 => { d with ck.dec10 := r }

/-- Whether a step of a domain is legal (R393). -/
def stepOk (dom : Domain) (mhz : Nat) : Bool :=
  decide (600 ≤ mhz) && decide (mhz ≤ (match dom with
    | .cd9 => 2200
    | .cd10 => 2400)) && mhz % 25 == 0

/-- The boundary at which a request made now is first voted (R394). -/
def Dev.voteBoundary (d : Dev) : Nat :=
  if d.rd.active ∧ d.tb.ns < d.rd.start + d.rd.period - 50000 then d.rd.next else d.rd.next + d.rd.period

/-- A new request replaces the pending one (R394); rails already raised follow it (R396), unless the decision is already sent (R400). -/
def Dev.request (dom : Domain) (mhz : Nat) (d : Dev) : Dev :=
  let r : StepReq := { mhz, at_ := d.voteBoundary }
  let d1 := d.setReq dom (some r)
  if d.dec dom = some true then d1
  else d1.setRails dom ((d.rails dom).bind fun _ => if d.step dom < mhz then some mhz else none)

/-- FREQ_STEP_SET (R394, R395). -/
def freqStepSet (ch : Nat) (d : Dev) : Dev :=
  d.onCommand 0x0401 ch fun _ b d =>
    let n := u8 b 0
    let mhz := u16 b 2
    let dom : Domain := if n = 9 then .cd9 else .cd10
    if (n ≠ 9 ∧ n ≠ 10) ∨ u8 b 1 ≠ 0 ∨ !stepOk dom mhz then d.fail ch stBadParam
    else if d.str.slack then
      let keep := d.ck.slackSteps.map fun s => match dom with
        | .cd9 => (mhz, s.2)
        | .cd10 => (s.1, mhz)
      let d1 := d.setReq dom ((d.req dom).map fun r => { r with mhz })
      ({ d1 with ck.slackSteps := keep }).answer ch stOk [] 0
    else if d.req dom = none ∧ d.step dom = mhz then d.answer ch stOk [] 0
    else (d.request dom mhz).answer ch stAccepted [] d.voteBoundary
/-- FREQ_STEP_SET (R394). -/
def execFreqStepSet (ch : Nat) (s : State) : Result := s.run (.freqStepSet ch) (freqStepSet ch)

/-! ## The vote (R396) -/

/-- The step-up of a domain that this round votes, if any. -/
def Dev.votedStep (d : Dev) (dom : Domain) : Option Nat :=
  (d.req dom).bind fun r => if r.at_ ≤ d.rd.next ∧ d.step dom < r.mhz then some r.mhz else none

/-- VOLTAGE_RISE_START, 50 µs before the end of a round (R396): rails rise for each step-up voted in this round. -/
def voltageRiseStart (d : Dev) : Dev :=
  d.onPoint .voltRise (d.rd.period - 50000) fun d =>
    let one := fun (dom : Domain) (d : Dev) => match d.votedStep dom with
      | some mhz => d.setRails dom (some mhz)
      | none => d
    one .cd10 (one .cd9 d)
/-- VOLTAGE_RISE_START (R396). -/
def execVoltageRiseStart (s : State) : Result := s.run .voltageRiseStart voltageRiseStart

/-- Compute sites that vote: in service and not quiesced (R106, R396). -/
def Dev.voters (d : Dev) : List Nat := computeSites.filter fun s => d.inService s && (d.site s).phase == .running

/-- The first condition of R396 that fails at a site: 0 none. -/
def Dev.voteCause (d : Dev) (site : Nat) (dom : Domain) (railOk staged : Bool) : Nat :=
  if !railOk || (d.rails dom).isNone then 1
  else if !staged then 2
  else if d.ck.droops.any fun x => x.site == site && posDomain x.pos == dom && x.sustained then 3
  else if d.th.throttles.any fun t => t.site == site && decide (1 < t.div) then 4
  else 0

/-- A site's vote (R396): sent to the active Ranger at +P − 5 µs, in a CONTROL cell; it is not sent after +P − 4 µs, since it would not count. -/
def frequencyStepVote (site : Nat) (dom : Domain) (railOk staged : Bool) (d : Dev) : Dev :=
  if !d.rd.active || d.rd.done.contains .decision || (d.votedStep dom).isNone || !d.voters.contains site ||
      d.ck.votes.any (fun v => v.site == site && v.dom == dom) then d
  else
    let d1 := d.reach (d.rd.start + d.rd.period - 5000)
    if d1.rd.start + d1.rd.period - 4000 < d1.tb.ns then d1
    else d1.sendCtl site d1.activePort (.vote dom (d1.voteCause site dom railOk staged))
/-- FREQUENCY_STEP_VOTE (R396). -/
def execFrequencyStepVote (site : Nat) (dom : Domain) (railOk staged : Bool) (s : State) : Result :=
  s.run (.frequencyStepVote site dom railOk staged) (frequencyStepVote site dom railOk staged)

/-- Sites that are not ready, with their causes; 5 where the vote is missing. -/
def Dev.notReady (d : Dev) (dom : Domain) : List (Nat × Nat) :=
  d.voters.filterMap fun s =>
    match d.ck.votes.find? fun v => v.site == s && v.dom == dom with
    | some v => if v.cause = 0 then none else some (s, v.cause)
    | none => some (s, 5)

/-- The decision for one domain (R396): COMMIT when every site is ready; else STEP_DEFERRED. -/
def Dev.decideStep (dom : Domain) (d : Dev) : Dev :=
  match d.votedStep dom with
  | none => d
  | some _ =>
    let no := d.notReady dom
    if no.isEmpty then (d.setDec dom (some true)).notice 0 0
    else (d.setDec dom (some false)).logWith 0 0 0x0402 no.length (no.map fun e => (siteUnit e.1, e.2))

/-- The decision on a domain goes to every site that votes (R396), in CONTROL cells. -/
def Dev.sendDecision (dom : Domain) (d : Dev) : Dev :=
  match d.dec dom with
  | some commit => each d.voters (fun s => Dev.sendCtl d.activePort s (.decision dom commit)) d
  | none => d

/-- FREQUENCY_STEP_DECISION, 3 µs before the end of a round (R396): a Ranger that runs decides, and sends its decisions; without one nothing
is decided (R400). -/
def frequencyStepDecision (d : Dev) : Dev :=
  d.onPoint .decision (d.rd.period - 3000) fun d =>
    let d1 := if d.fw.rangerUp ∧ d.fw.handover = none then (((d.decideStep .cd9).decideStep .cd10).sendDecision .cd9).sendDecision .cd10 else d
    { d1 with ck.votes := [] }
/-- FREQUENCY_STEP_DECISION (R396). -/
def execFrequencyStepDecision (s : State) : Result := s.run .frequencyStepDecision frequencyStepDecision

/-- Sites that hold no decision 1 µs before the boundary keep their ceiling (R398): STEP_SPLIT. -/
def stepDecisionMissing (sites : List Nat) (d : Dev) : Dev :=
  if d.ck.dec9 = none ∧ d.ck.dec10 = none then d
  else d.onPoint .missing (d.rd.period - 1000) fun d =>
    let no := d.voters.filter sites.contains
    if no.isEmpty then d
    else ({ d with ck.noDecision := no }).logWith 0 0 0x0403 no.length (no.map fun s => (siteUnit s, 0))
/-- STEP_DECISION_MISSING (R398). -/
def execStepDecisionMissing (sites : List Nat) (s : State) : Result :=
  s.run (.stepDecisionMissing sites) (stepDecisionMissing sites)

/-! ## At the boundary (R397 to R399, R85, R212, R213) -/

/-- Set the step of a domain. -/
def Dev.setStep (dom : Domain) (mhz : Nat) (d : Dev) : Dev :=
  match dom with
  | .cd9 => { d with ck.cd9 := mhz }
  | .cd10 => { d with ck.cd10 := mhz }

/-- A ceiling changes (R393, R398, R106): sites without the decision, and quiesced sites, keep theirs. -/
def Dev.changeStep (dom : Domain) (mhz : Nat) (split : List Nat) (d : Dev) : Dev :=
  let behind := computeSites.filter fun s => split.contains s || (d.site s).phase != .running
  let keep := behind.filterMap fun s =>
    if d.ck.siteCeil.any (fun e => e.1 == s && e.2.1 == dom) then none else some (s, dom, d.step dom)
  { d with ck.siteCeil := d.ck.siteCeil ++ keep }.setStep dom mhz

/-- One domain at a boundary (R396, R397): a committed step-up or a step-down takes effect; a deferred request stays. -/
def Dev.commitStep (dom : Domain) (d : Dev) : Dev :=
  let due := (d.req dom).elim false fun r => decide (r.at_ ≤ d.rd.start)
  if d.dec dom = some true then
    let d1 := d.changeStep dom ((d.rails dom).getD (d.step dom)) d.ck.noDecision
    (if due then d1.setReq dom none else d1).setRails dom none
  else match d.req dom with
    | some r => if due ∧ r.mhz ≤ d.step dom then ((d.changeStep dom r.mhz []).setReq dom none).setRails dom none else d
    | none => d

/-- Swallowing ratios are fixed from the ceilings and the cores' maxima (R85). -/
def Dev.fixSwallow (d : Dev) : Dev :=
  { d with ck.swallow := d.cs.maxima.filterMap fun e =>
      let k := swallowK (d.ceiling e.1 (posDomain e.2.2.1)) e.2.2.2
      if k = 0 then none else some (e.1, e.2.1, e.2.2.1, k) }

/-- The decision is sent again to the sites that did not hold it (R398). -/
def Dev.resendDecision (dom : Domain) (d : Dev) : Dev :=
  if d.dec dom = some true then each d.ck.noDecision (fun s => Dev.sendCtl d.activePort s (.decision dom true)) d else d

/-- Frequency steps at a boundary: sites that missed the last decision load it (R398), committed steps take effect, the ratios of
R85 are fixed. -/
def Dev.stepBoundary (d : Dev) : Dev :=
  let old := (d.ck.cd9, d.ck.cd10)
  let d1 := { d with ck.siteCeil := d.ck.siteCeil.filter fun e => (d.site e.1).phase != SitePhase.running }
  let d2 := (((d1.commitStep .cd9).commitStep .cd10).resendDecision .cd9).resendDecision .cd10
  let d3 := { d2 with ck.dec9 := none, ck.dec10 := none, ck.noDecision := [], ck.votes := [] }.fixSwallow.endDroops
  if (d3.ck.cd9, d3.ck.cd10) = old then d3 else d3.rebudget

/-- Slack begins (R212, R395, R400): both domains step down to 600 MHz, and Trickle's ratio begins to fall (R410); a pending request becomes the step to restore. -/
def Dev.enterSlack (d : Dev) : Dev :=
  let restore := fun (dom : Domain) => (d.req dom).elim (d.step dom) (·.mhz)
  let d1 := { d with
    ck.slackSteps := some (restore .cd9, restore .cd10)
    ck.req9 := none
    ck.req10 := none
    ck.rails9 := none
    ck.rails10 := none
    ck.dec9 := none
    ck.dec10 := none
    str.slack := true
    str.slackExit := none
    pw.trickleStep := d.tb.ns }
  ((d1.changeStep .cd9 600 []).changeStep .cd10 600 []).fixSwallow.endDroops.rebudget

/-- Count the empty rounds as a round ends (R212), and leave Slack at the boundary after the cut-off that took items (R213). -/
def Dev.slackBoundary (d : Dev) : Dev :=
  let on := d.hg.devState == .ready || d.hg.devState == .service
  let n := if d.str.busy || !on || !d.rd.begun then 0 else min 64 (d.str.emptyRounds + 1)
  let d1 := { d with str.emptyRounds := n }
  match d.str.slackExit with
  | some m =>
    if d.rd.number ≤ m then { d1 with str.slack := false, ck.slackSteps := none, pw.trickleStep := d1.tb.ns }
    else { d1 with str.slackExit := none }
  | none => if 64 ≤ n ∧ !d.str.slack then d1.enterSlack else d1

end Sys2Proof.Machine
end

