-- ==== Sys2Proof/Machine/Power.lean ====
section
/-!
DEFINITION. Power, thermal control and cooling (chapter 14): input, cap and limiters, ramp governor, Trickle, sensors and
throttling, the hardware shutdown, coolant, the flash temperature.
-/

namespace Sys2Proof.Machine

/-! ## The input (R401) -/

/-- The input has stayed below 40 V for 100 µs (R401): the device resets as for PERST#, and starts again when the input is good. -/
def inputUndervoltage (deciVolts : Nat) (d : Dev) : Dev :=
  if 400 ≤ deciVolts then { d with pw.volts := deciVolts }
  else
    let z := Dev.restarted { d with pw.volts := deciVolts, pw.inputGood := false } false true
    { z with hg.hostMem := d.hg.hostMem, bu.perst := d.bu.perst, bu.running := false, ts.ir := 1, ts.pinsHeld := if d.ts.ir = 0 then 2 else 0 }
/-- INPUT_UNDERVOLTAGE (R401). -/
def execInputUndervoltage (deciVolts : Nat) (s : State) : Result := s.run (.inputUndervoltage deciVolts) (inputUndervoltage deciVolts)

/-- The input has stayed at or above 42 V for 10 ms (R401): bring-up begins at S0, with the count at 0, and records the
event. -/
def inputRestored (deciVolts : Nat) (d : Dev) : Dev :=
  if deciVolts < 420 ∨ d.pw.inputGood then { d with pw.volts := deciVolts }
  else Dev.notice 0 0 { d with pw.volts := deciVolts, pw.inputGood := true, bu.running := !d.bu.perst, bu.stageStart := 0, tb.ns := 0, tb.frac := 0, ts.pinsHeld := 0 }
/-- INPUT_RESTORED (R401). -/
def execInputRestored (deciVolts : Nat) (s : State) : Result := s.run (.inputRestored deciVolts) (inputRestored deciVolts)

/-! ## Cap and Trickle settings (R403, R409) -/

/-- The cap with the derating in force (R422): never below 12,500 W. -/
def Dev.derated (d : Dev) (cap : Nat) : Nat := d.th.derate.elim cap fun f => max 12500 (cap * f / 1000000)

/-- POWER_CAP_SET (R403): from the next boundary on; kept in the configuration record when persist is set. -/
def powerCapSet (ch : Nat) (d : Dev) : Dev :=
  d.onCommand 0x0400 ch fun _ b d =>
    let cap := u32 b 0
    let keep := u8 b 4
    if cap < 12500 ∨ 15000 < cap ∨ cap % 100 ≠ 0 ∨ 1 < keep then d.fail ch stBadParam
    else if keep = 1 ∧ !d.flashOk then d.fail ch stTempRange
    else
      let d1 := if keep = 1 then d.writeConf fun c => { c with cap } else d
      let d2 := { d1 with pw.capNext := some cap, pw.capSetRound := true }
      d2.answer ch stAccepted (leBytes 4 (d2.derated cap)) d2.rd.next
/-- POWER_CAP_SET (R403). -/
def execPowerCapSet (ch : Nat) (s : State) : Result := s.run (.powerCapSet ch) (powerCapSet ch)

/-- TRICKLE_CONFIG (R409): from the next boundary on. -/
def trickleConfig (ch : Nat) (d : Dev) : Dev :=
  d.onCommand 0x0402 ch fun _ b d =>
    if 1 < u8 b 0 ∨ 16 < u8 b 1 then d.fail ch stBadParam
    else ({ d with pw.trickleNext := some (u8 b 0 == 1, u8 b 1) }).answer ch stAccepted [] d.rd.next
/-- TRICKLE_CONFIG (R409). -/
def execTrickleConfig (ch : Nat) (s : State) : Result := s.run (.trickleConfig ch) (trickleConfig ch)

/-- The limiter of a compute site, or of the package. -/
def Dev.limiter (d : Dev) (site : Option Nat) : Limiter := lookup (·.site == site) (Limiter.fresh site) d.pw.limiters
/-- Update a limiter. -/
def Dev.onLimiter (site : Option Nat) (f : Limiter → Limiter) (d : Dev) : Dev :=
  { d with pw.limiters := upsert (·.site == site) (Limiter.fresh site) f d.pw.limiters }
/-- Mean of the readings of the last 1 ms, mW. -/
def Limiter.mean (l : Limiter) : Nat := if l.readings.isEmpty then 0 else l.readings.sum / l.readings.length

/-- Cap and Trickle settings at a boundary (R403, R409, R410, R422): a cap lower than the present draw lifts the ramp bound
in the round that begins (R407, R426). -/
def Dev.powerBoundary (d : Dev) : Dev :=
  let cap := d.pw.capNext.getD d.pw.cap
  let set := d.pw.trickleNext.getD (d.pw.trickleOn, d.pw.trickleLevel)
  let d1 := { d with
    pw.cap := cap
    pw.capNext := none
    pw.effCap := d.derated cap
    pw.capSetRound := d.pw.capNext.isSome && d.pw.capSetRound && decide (cap * 1000 < (d.limiter none).mean)
    pw.trickleOn := set.1
    pw.trickleLevel := set.2
    pw.trickleNext := none
    pw.trickleStep := if set.1 = d.pw.trickleOn ∧ set.2 = d.pw.trickleLevel then d.pw.trickleStep else d.rd.start }
  d1.powerAxis

/-- The ratio that Trickle moves to (R410). -/
def Dev.trickleTarget (d : Dev) : Nat := if d.trickleAxisOn then d.pw.trickleLevel else 0

/-- TRICKLE_RATIO_STEP (R410): 1/16 every 100 µs; held in SAFE_HOLD (R501) and during a handover (R31). -/
def trickleRatioStep (d : Dev) : Dev :=
  let t := d.trickleTarget
  if t = d.pw.trickleRatio ∨ d.hg.devState = .safeHold ∨ d.fw.handover.isSome then d
  else
    let d1 := d.reach (d.pw.trickleStep + 100000)
    { d1 with pw.trickleStep := d1.tb.ns
              pw.trickleRatio := if t < d1.pw.trickleRatio then d1.pw.trickleRatio - 1 else d1.pw.trickleRatio + 1 }
/-- TRICKLE_RATIO_STEP (R410). -/
def execTrickleRatioStep (s : State) : Result := s.run .trickleRatioStep trickleRatioStep

/-! ## Limiters and the ramp governor (R405 to R407) -/

/-- Parts that the package cap is divided among (R29): one compute site, one memory site, the Basin, the I/O ring, conversion loss. -/
inductive PowerPart
  | compute | memory | basin | ioRing | conversion
  deriving DecidableEq, Repr
/-- Share of a part at 15,000 W, W (R29). -/
def PowerPart.watts : PowerPart → Nat
  | .compute => 352
  | .memory => 100
  | .basin => 700
  | .ioRing => 500
  | .conversion => 936
/-- Parts of a kind (R29). -/
def PowerPart.number : PowerPart → Nat
  | .compute => 32
  | .memory => 16
  | _ => 1
/-- Share of a part, mW (R29): every share scales with the cap in the same ratio. -/
def Dev.share (d : Dev) (p : PowerPart) : Nat := d.pw.effCap * (p.watts * 1000) / 15000
/-- Limit of a limiter, mW (R29, R406): a compute site's share, or the cap. -/
def Dev.limitOf (d : Dev) (site : Option Nat) : Nat := if site.isSome then d.share .compute else d.pw.effCap * 1000
/-- RAMP_GOVERNOR_STEP (R407): a rise of more than 1 % of the cap within 10 µs adds a step, one in 10 µs; steps are released 10 µs
after, once the rise is below that. -/
def Dev.rampGovern (d : Dev) : Dev :=
  let rs := (d.limiter none).readings
  let rise := (rs.head?).any fun a => (rs[10]?).any fun b => decide (b + d.pw.effCap * 10 < a)
  let recent := d.pw.ramp.any fun t => decide (d.tb.ns < t + 10000)
  if rise then (if recent || d.pw.capSetRound then d else { d with pw.ramp := d.tb.ns :: d.pw.ramp })
  else { d with pw.ramp := d.pw.ramp.filter fun t => decide (d.tb.ns < t + 10000) }

/-- A 1 µs power reading (R405, R406): above 1.15 of the limit it adds 2/16 of skipping. -/
def powerSample (site : Option Nat) (milliwatts deciVolts : Nat) (d : Dev) : Dev :=
  if d.fw.handover.isSome then d
  else
    let above := decide (d.limitOf site * 115 < milliwatts * 100)
    let add := fun (l : Limiter) =>
      { l with readings := (milliwatts :: l.readings).take 1000, skip := if above then min 16 (l.skip + 2) else l.skip }
    let d1 := d.onLimiter site add
    let d2 := if site = none then ({ d1 with pw.volts := deciVolts } : Dev).rampGovern else d1
    d2.powerAxis
/-- POWER_SAMPLE (R405). -/
def execPowerSample (site : Option Nat) (milliwatts deciVolts : Nat) (s : State) : Result :=
  s.run (.powerSample site milliwatts deciVolts) (powerSample site milliwatts deciVolts)

/-- LIMITER_STEP (R406), but during a handover (R31): every 10 µs, when the mean exceeds 0.98 of the limit, one step: Trickle first, then skipping up to 12/16. -/
def limiterStep (site : Option Nat) (d : Dev) : Dev :=
  if d.fw.handover.isSome then d else
  let l := d.limiter site
  let d1 := d.reach (l.lastStep + 10000)
  let above := decide (d.limitOf site * 98 < l.mean * 100)
  let off := l.trickleOff + (if site.isSome then (d.limiter none).trickleOff else 0)
  let step := fun (l : Limiter) =>
    if !above then l
    else if off < d.pw.trickleRatio then { l with trickleOff := l.trickleOff + 1 }
    else if l.skip < 12 then { l with skip := l.skip + 1 }
    else l
  (d1.onLimiter site fun l => { step l with lastStep := d1.tb.ns }).powerAxis
/-- LIMITER_STEP (R406). -/
def execLimiterStep (site : Option Nat) (s : State) : Result := s.run (.limiterStep site) (limiterStep site)

/-- LIMITER_RELEASE (R406), but during a handover (R31): every 100 µs, when the mean is below 0.95 of the limit, one step is undone: skipping first. -/
def limiterRelease (site : Option Nat) (d : Dev) : Dev :=
  if d.fw.handover.isSome then d else
  let l := d.limiter site
  let d1 := d.reach (l.lastUndo + 100000)
  let under := decide (l.mean * 100 < d.limitOf site * 95)
  let undo := fun (l : Limiter) =>
    if !under then l
    else if 0 < l.skip then { l with skip := l.skip - 1 }
    else { l with trickleOff := l.trickleOff - 1 }
  (d1.onLimiter site fun l => { undo l with lastUndo := d1.tb.ns }).powerAxis
/-- LIMITER_RELEASE (R406). -/
def execLimiterRelease (site : Option Nat) (s : State) : Result := s.run (.limiterRelease site) (limiterRelease site)

/-! ## Sensors (R411, R412) -/

/-- Control sensors of a die, by the model's position code (log 4). -/
def sensorCount (die : Nat) : Nat :=
  if isCompute die then 4
  else if isMemory die then 6
  else if 48 ≤ die ∧ die ≤ 54 then 2
  else if 0x40 ≤ die ∧ die < 0x70 then 3
  else if 0x80 ≤ die ∧ die < 0x88 then 2
  else if 0x100 ≤ die ∧ isCompute (die - 0x100) then 8
  else 0

/-- Unit identifier of a control sensor (R460): at a compute site 0 to 7 Canopy, 8 to 11 Understory, 12 to 14 field; at a memory
site 0 to 5 Cistern, 6 to 8 field (log 4). -/
def sensorUnit (die idx : Nat) : Nat :=
  if 0x100 ≤ die then unitId 0x0C (die - 0x100) idx 0 0 0
  else if 0x80 ≤ die then unitId 0x0C die idx 0 0 0
  else if 0x40 ≤ die then unitId 0x0C (die - 0x40) (idx + (if isCompute (die - 0x40) then 12 else 6)) 0 0 0
  else unitId 0x0C die (idx + (if isCompute die then 8 else 0)) 0 0 0

/-- Whether two sensors of a die are neighbours (R412): Canopy zones that share an edge or corner; elsewhere every other one. -/
def nearby (die a b : Nat) : Bool :=
  a != b && (if 0x100 ≤ die then decide (a % 4 ≤ b % 4 + 1) && decide (b % 4 ≤ a % 4 + 1) else true)

/-- Median of readings: the mean of the two middle ones of an even number. -/
def median (xs : List Int) : Int :=
  let l := sortBy (fun a b => decide (a ≤ b)) xs
  let n := l.length
  if n % 2 = 1 then pick 0 l (n / 2) else (pick 0 l (n / 2 - 1) + pick 0 l (n / 2)) / 2

/-- A control sensor nothing has sampled. -/
def Sensor.fresh (die idx : Nat) (reading : Int) : Sensor :=
  { die, idx, reading, stale := false, suspect := false, off := 0, agreeSince := none, times := [], stuck := false }

/-- Neighbours of a sensor that have been sampled, since the last handover (R31). -/
def Dev.neighbours (d : Dev) (die idx : Nat) : List Sensor := d.th.sensors.filter fun s => s.die == die && nearby die idx s.idx && !s.stale

/-- Control value of a sensor (R411, R412): its own reading, or the maximum of its neighbours while it is suspect. -/
def Dev.control (d : Dev) (s : Sensor) : Int :=
  if s.suspect then ((d.neighbours s.die s.idx).map (·.reading)).foldl max ((d.neighbours s.die s.idx).headD s).reading else s.reading

/-- A sensor becomes suspect (R412): recorded; a third time within 24 h it stays so, and is recorded in the Field Defect Map. -/
def Dev.suspect (die idx : Nat) (d : Dev) : Dev :=
  let now := d.tb.ns
  match d.th.sensors.find? fun s => s.die == die && s.idx == idx with
  | none => d
  | some s =>
    let times := now :: s.times.filter fun t => decide (now < t + 86400000000000)
    let stuck := decide (3 ≤ times.length)
    let up := fun (s : Sensor) => { s with suspect := true, agreeSince := none, times, stuck }
    let d1 := { d with th.sensors := mapIf (fun s => s.die == die && s.idx == idx) up d.th.sensors }
    let d2 := d1.log (sensorUnit die idx) 0 0x0503 (if stuck then 2 else 0)
    if stuck then d2.fdm (sensorUnit die idx) 1 4 0 else d2

/-- SENSOR_SUSPECT (R412): a sample against the median of its neighbours. -/
def Dev.judge (die idx : Nat) (reading : Int) (d : Dev) : Dev :=
  let here := fun (s : Sensor) => s.die == die && s.idx == idx
  let d0 := { d with th.sensors := upsert here (Sensor.fresh die idx reading) (fun s => { s with reading, stale := false }) d.th.sensors }
  let ns := (d0.neighbours die idx).map (·.reading)
  match d0.th.sensors.find? here with
  | none => d0
  | some s =>
    if ns.isEmpty then d0
    else
      let gap := (reading - median ns).natAbs
      let off := if 80 < gap then s.off + 1 else 0
      let agree := if s.suspect ∧ gap ≤ 40 then some (s.agreeSince.getD d.tb.ns) else none
      let d1 := { d0 with th.sensors := mapIf here (fun s => { s with off, agreeSince := agree }) d0.th.sensors }
      if !s.suspect then (if 3 ≤ off then d1.suspect die idx else d1)
      else if !s.stuck && agree.elim false (fun t => decide (t + 10000000000 ≤ d.tb.ns)) then
        ({ d1 with th.sensors := mapIf here (fun s => { s with suspect := false, agreeSince := none, off := 0 }) d1.th.sensors }).log
          (sensorUnit die idx) 0 0x0503 1
      else d1

/-! ## Throttling (R413 to R416) -/

/-- Demand temperature of a source, 0.1 °C (R413). -/
def demandOf : DemandSource → Int
  | .canopy => 1000
  | .understory => 950
  | .basin => 900

/-- A throttle state nothing has touched. -/
def Throttle.fresh (site zone : Nat) (source : DemandSource) : Throttle :=
  { site, zone, source, skip := 0, div := 1, last := none, above := false, aboveSince := 0, below2 := none, below5 := none }

/-- Whether an entry is the throttle state of a zone and source. -/
def Throttle.is (site zone : Nat) (source : DemandSource) (t : Throttle) : Bool :=
  t.site == site && t.zone == zone && t.source == source

/-- Update a throttle state. -/
def Dev.onThrottle (site zone : Nat) (source : DemandSource) (f : Throttle → Throttle) (d : Dev) : Dev :=
  { d with th.throttles := upsert (Throttle.is site zone source) (Throttle.fresh site zone source) f d.th.throttles }

/-- A sample of a throttle state's source (R414, steps 1, 2, 4 and 5). -/
def Throttle.sample (v : Int) (now : Nat) (t : Throttle) : Throttle :=
  let dem := demandOf t.source
  if dem ≤ v then
    let t1 := { t with last := some v, above := true, below2 := none, below5 := none }
    if !t.above then { t1 with skip := max t.skip 1, aboveSince := now }
    else if t.last.any (· ≤ v) then { t1 with skip := min 8 (t.skip + 1) }
    else t1
  else
    { t with last := some v, above := false
             below2 := if v < dem - 20 then some (t.below2.getD now) else none
             below5 := if v < dem - 50 ∧ t.skip = 0 then some (t.below5.getD now) else none }

/-- A control value acts on a zone (R414, R415): a Canopy value above 105 °C sets skip 8/16 and divider 4 at once, recorded. -/
def Dev.demand (site zone : Nat) (source : DemandSource) (v : Int) (d : Dev) : Dev :=
  let hot := source == DemandSource.canopy && decide (1050 < v)
  let was := (d.th.throttles.find? (Throttle.is site zone source)).elim false fun t => t.last.any (1050 < ·)
  let d1 := d.onThrottle site zone source fun t =>
    let t1 := t.sample v d.tb.ns
    if hot then { t1 with skip := 8, div := 4 } else t1
  onlyIf (hot && !was) (Dev.notice (sensorUnit (0x100 + site) zone) 0) d1

/-- The Basin field reading of a field (R413): the median of its three sensors. -/
def Dev.fieldReading (d : Dev) (f : Nat) : Int := median ((d.th.sensors.filter fun s => s.die == 0x40 + f && !s.stale).map d.control)

/-- What a control sensor drives (R413): its own zone; the two zones above it; every zone of the field's compute site, or the stack
of its memory site. -/
def Dev.drive (die idx : Nat) (v : Int) (d : Dev) : Dev :=
  if 0x100 ≤ die then d.demand (die - 0x100) idx .canopy v
  else if 0x40 ≤ die ∧ die < 0x70 then
    let f := die - 0x40
    let r := d.fieldReading f
    if isCompute f then each (List.range 8) (fun z => Dev.demand f z .basin r) d
    else { d with th.halved := if 900 ≤ r then insertNew f d.th.halved else d.th.halved.filter (· != f) }
  else if isCompute die then (d.demand die idx .understory v).demand die (idx + 4) .understory v
  else d

/-- FLASH_IF, sensor 0 of Ranger A (R423, R424): writing stops while it reads out of range. -/
def Dev.flashTemp (die idx : Nat) (reading : Int) (d : Dev) : Dev :=
  if die = 49 ∧ idx = 0 then
    let ok := decide (0 ≤ reading) && decide (reading ≤ 850)
    { d with th.flashIf := reading, th.flashHold := d.th.flashHold || !ok
             th.flashOkSince := if ok then some (d.th.flashOkSince.getD d.tb.ns) else none }
  else d

/-- After a trip: since when every powered sensor has read below 70 °C (R419). -/
def Dev.cooling (d : Dev) : Dev :=
  if d.th.tripped.isNone then d
  else
    let powered := fun (s : Sensor) => decide (0x40 ≤ s.die && s.die < 0x100) || decide (48 ≤ s.die && s.die ≤ 54)
    let cool := d.th.warm.isEmpty && d.th.sensors.all fun s => !powered s || decide (s.reading < 700)
    { d with th.coolSince := if cool then some (d.th.coolSince.getD d.tb.ns) else none }

/-- A control-sensor sample (R411): discarded during a handover (R31). -/
def sensorSample (die sensor : Nat) (reading : Int) (d : Dev) : Dev :=
  if sensorCount die ≤ sensor ∨ d.fw.handover.isSome then d
  else
    let d1 := (d.flashTemp die sensor reading).judge die sensor reading
    match d1.th.sensors.find? fun s => s.die == die && s.idx == sensor with
    | some s => ((d1.drive die sensor (d1.control s)).cooling).powerAxis
    | none => d1
/-- SENSOR_SAMPLE (R411). -/
def execSensorSample (die sensor : Nat) (reading : Int) (s : State) : Result :=
  s.run (.sensorSample die sensor reading) (sensorSample die sensor reading)

/-- THROTTLE_DIVIDER_TIMER (R414, steps 3 and 5), but during a handover (R31). -/
def throttleDividerTimer (site zone : Nat) (source : DemandSource) (d : Dev) : Dev :=
  if d.fw.handover.isSome then d else
  match d.th.throttles.find? (Throttle.is site zone source) with
  | none => d
  | some t =>
    if t.above then
      if 4 ≤ t.div then d
      else
        let d1 := d.reach (t.aboveSince + 1000000)
        (d1.onThrottle site zone source fun t => { t with div := t.div * 2, skip := 0, aboveSince := d1.tb.ns }).powerAxis
    else match t.below5 with
      | some b =>
        if t.div ≤ 1 then d
        else
          let d1 := d.reach (b + 1000000)
          (d1.onThrottle site zone source fun t => { t with div := t.div / 2, below5 := some d1.tb.ns }).powerAxis
      | none => d
/-- THROTTLE_DIVIDER_TIMER (R414). -/
def execThrottleDividerTimer (site zone : Nat) (source : DemandSource) (s : State) : Result :=
  s.run (.throttleDividerTimer site zone source) (throttleDividerTimer site zone source)

/-- THROTTLE_SKIP_DECAY (R414, step 4): 1/16 every 100 µs below the demand minus 2 K, but during a handover (R31). -/
def throttleSkipDecay (site zone : Nat) (source : DemandSource) (d : Dev) : Dev :=
  if d.fw.handover.isSome then d else
  match d.th.throttles.find? (Throttle.is site zone source) with
  | none => d
  | some t =>
    match t.below2 with
    | none => d
    | some b =>
      if t.skip = 0 then d
      else
        let d1 := d.reach (b + 100000)
        let fall := fun (t : Throttle) =>
          { t with skip := t.skip - 1, below2 := some d1.tb.ns
                   below5 := if t.skip = 1 ∧ t.last.any (· < demandOf source - 50) then some d1.tb.ns else none }
        (d1.onThrottle site zone source fall).powerAxis
/-- THROTTLE_SKIP_DECAY (R414). -/
def execThrottleSkipDecay (site zone : Nat) (source : DemandSource) (s : State) : Result :=
  s.run (.throttleSkipDecay site zone source) (throttleSkipDecay site zone source)

/-- Rate of a skip and a divider, 64ths. -/
def rate64 (skip div : Nat) : Nat := (16 - skip) * 4 / div

/-- Rate of a zone, 64ths (R101, R415): the lowest of those of the demands in force on it, which is the stronger throttle of its own Canopy
sensor, the Understory sensor beneath it and the Basin field, of its site's limiter, and of the package limiter with the ramp governor. -/
def Dev.zoneRate (d : Dev) (site zone : Nat) : Nat :=
  let package := rate64 (min 16 ((d.limiter none).skip + d.pw.ramp.length)) 1
  let own := (d.th.throttles.filter fun t => t.site == site && t.zone == zone).map fun t => rate64 t.skip t.div
  own.foldl min (min package (rate64 (d.limiter (some site)).skip 1))

/-- Rate of a logical core, 64ths (R415): that of the zone its physical Stand lies in; a core without a place does not run. -/
def Dev.coreRate (d : Dev) (core : Nat) : Nat := (d.corePlace core).elim 0 fun p => d.zoneRate p.1 (zoneOf p.2.1)

/-- Rate of a share, 64ths (R415): it completes when its slowest core completes. -/
def Dev.shareRate (d : Dev) (cores : List Nat) : Nat := (cores.map d.coreRate).foldl min 64

/-- The loops after a handover (R31): readings of before are discarded, and what counts a time anew begins with fresh ones. -/
def Dev.freshReadings (d : Dev) : Dev :=
  { d with
    pw.limiters := d.pw.limiters.map fun (l : Limiter) => { l with readings := [] }
    th.sensors := d.th.sensors.map fun (s : Sensor) => { s with stale := true, off := 0, agreeSince := none }
    th.throttles := d.th.throttles.map fun (t : Throttle) => { t with last := none, aboveSince := d.tb.ns, below2 := none, below5 := none } }

/-! ## Hardware shutdown (R417 to R419) -/

/-- Trip temperature of a group, 0.1 °C (R413, R417): none for a number that names no group. -/
def tripTemp (group : Nat) : Option Int :=
  let p := group / 256
  let g := group % 256
  if isCompute p then (if g < 2 then some 1180 else if g = 2 then some 1150 else none)
  else if g ≠ 0 then none
  else if isMemory p ∨ (48 ≤ p ∧ p ≤ 54) then some 1150
  else if 0x40 ≤ p ∧ p < 0x70 then some 1050
  else if 0x80 ≤ p ∧ p < 0x88 then some 900
  else none

/-- The Headgate drops the link and every die is held in reset (R419, RECORD), once the trip record is in the flash. -/
def Dev.holdAfterTrip (d : Dev) : Dev :=
  if d.th.tripped.isSome && d.th.policy == 1 && d.th.tripWritten then
    { d with hg.linkWidth := 0, hg.linkRate := 0, hg.lopt := false, th.heldInReset := true }
  else d

/-- THERMAL_SHUTDOWN (R418): power is removed from compute and memory dies, light goes dark, the valve opens, THERMTRIP# is
asserted, and the device enters SAFE_HOLD; what device memory held is lost; the test chain reads 0 for dies without power (R523). -/
def Dev.shutdown (group : Nat) (readings : List Int) (d : Dev) : Dev :=
  let d1 := { d with
    pw.diesOff := true
    op.dark := true
    sw.ports := d.sw.ports.map fun (p : FPort) => { p with st := PortSt.dark, changed := d.tb.ns, queue := [] }
    mem.cells := []
    mem.poison := []
    mem.stackList := d.mem.stackList.map fun (s : Stack) => { s with buf := [], ops := [], copies := [], jobs := [] }
    th.duty := 1000
    th.thermtrip := true
    th.tripped := some group
    th.tripRecord := readings
    th.trips := d.th.trips + 1
    th.coolSince := none
    ts.chain := d.ts.chain &&& 0x0087000000000000 }
  let d2 := (d1.safeHold 2).log 0 0 0x0505 group
  ({ d2 with th.tripWritten := d2.flashOk && !d2.th.flashHold } : Dev).holdAfterTrip

/-- A sample of a trip group (R417): it trips when 2 of its 3 sensors exceed the trip temperature at 2 consecutive samples; one of 70 °C or
more that stays powered keeps a restart away (R419). -/
def thermalTrip (group : Nat) (readings : List Int) (d : Dev) : Dev :=
  match tripTemp group with
  | none => d
  | some t =>
    let above := decide (2 ≤ (readings.filter fun r => decide (t < r)).length)
    let p := group / 256
    let warm := !(isCompute p || isMemory p) && readings.any fun r => decide (700 ≤ r)
    let d1 := if warm then { d with th.coolSince := none, th.warm := insertNew group d.th.warm } else { d with th.warm := d.th.warm.filter (· != group) }
    if !above then { d1 with th.tripOver := d1.th.tripOver.filter (· != group) }
    else if d1.th.tripOver.contains group ∧ d1.th.tripped = none then d1.shutdown group readings
    else { d1 with th.tripOver := insertNew group d1.th.tripOver }
/-- THERMAL_TRIP (R417). -/
def execThermalTrip (group : Nat) (readings : List Int) (s : State) : Result :=
  s.run (.thermalTrip group readings) (thermalTrip group readings)

/-- THERMAL_POLICY_RESTART (R419): policies RESTART and BOTH restart the device once every sensor has read below 70 °C for 60 s. -/
def thermalPolicyRestart (d : Dev) : Dev :=
  match d.th.tripped, d.th.coolSince with
  | some _, some t =>
    if d.th.policy = 1 ∨ (d.th.policy = 2 ∧ !d.th.tripWritten) then d else (d.reach (t + 60000000000)).restart false
  | _, _ => d
/-- THERMAL_POLICY_RESTART (R419). -/
def execThermalPolicyRestart (s : State) : Result := s.run .thermalPolicyRestart thermalPolicyRestart

/-! ## Coolant (R420 to R422) -/

/-- Coolant sensors that are lost: bit 0 inlet, 1 outlet, 2 flow. -/
def Dev.coolLost (d : Dev) : Nat :=
  natOf (decide (3 ≤ d.th.coolFail.1)) + 2 * natOf (decide (3 ≤ d.th.coolFail.2.1)) + 4 * natOf (decide (3 ≤ d.th.coolFail.2.2))

/-- Whether the flow has been below min_flow for 1 s (R422). -/
def Dev.flowLow (d : Dev) : Bool := d.th.lowFlowSince.elim false fun t => decide (t + 1000000000 ≤ d.tb.ns)

/-- The factor that the conditions of R422 call for, millionths: none when none holds. -/
def Dev.derateFactor (d : Dev) : Option Nat :=
  if d.coolLost ≠ 0 then some 800000
  else
    let a := if d.flowLow then d.th.flow * 1000000 / (max 1 d.th.minFlow * 10) else 1000000
    let above : Nat := (d.th.inlet - 4500).toNat
    let b := 1000000 - above * 500
    if d.flowLow ∨ 4500 < d.th.inlet then some (a * b / 1000000) else none

/-- The derating follows its conditions (R422): its end is due 10 s after they are gone. -/
def Dev.rederate (d : Dev) : Dev :=
  match d.derateFactor with
  | some f => { d with th.derate := some f, th.derateClear := none }
  | none => { d with th.derateClear := if d.th.derate.isSome then some (d.th.derateClear.getD d.tb.ns) else none }

/-- A COOLANT_POLL, every 100 ms (R420 to R422): a sensor that fails 3 consecutive reads is lost, recorded; from S8 on the valve
follows its law (log 19); nothing is driven in SAFE_HOLD or during a handover. -/
def coolantPoll (inlet outlet flow : Option Nat) (d : Dev) : Dev :=
  if d.fw.handover.isSome ∨ !d.fw.rangerUp then d
  else
    let before := d.coolLost
    let fails := fun (r : Option Nat) (n : Nat) => if r.isSome then 0 else min 3 (n + 1)
    let d1 := { d with
      th.coolFail := (fails inlet d.th.coolFail.1, fails outlet d.th.coolFail.2.1, fails flow d.th.coolFail.2.2)
      th.inlet := inlet.elim d.th.inlet sign16
      th.outlet := outlet.elim d.th.outlet sign16
      th.flow := flow.elim d.th.flow (· % 65536) }
    let low := decide (d1.th.flow < d1.th.minFlow * 10) && decide (d1.th.coolFail.2.2 < 3)
    let d2 := { d1 with th.lowFlowSince := if low then some (d1.th.lowFlowSince.getD d1.tb.ns) else none }
    let new := (List.range 3).any fun k => bitOf d2.coolLost k && !bitOf before k
    let d3 := (onlyIf new (Dev.log 0 0 0x0504 d2.coolLost) d2).rederate
    if d3.hg.devState = .bringup ∧ d3.hg.stage < 8 ∨ d3.hg.devState = .safeHold then d3
    else if d3.coolLost ≠ 0 then { d3 with th.duty := d3.th.dutyMax }
    else { d3.draw with th.duty := max d3.th.dutyMin (min d3.th.dutyMax (Config.valve d3.free)) }
/-- COOLANT_POLL (R420). -/
def execCoolantPoll (inlet outlet flow : Option Nat) (s : State) : Result :=
  s.run (.coolantPoll inlet outlet flow) (coolantPoll inlet outlet flow)

/-- CAP_DERATE_TIMER (R422): 1 s of low flow, or 10 s without a condition. -/
def capDerateTimer (d : Dev) : Dev :=
  match d.th.derateClear, d.th.lowFlowSince with
  | some t, _ =>
    let d1 := d.reach (t + 10000000000)
    { d1 with th.derate := none, th.derateClear := none }
  | none, some t => (d.reach (t + 1000000000)).rederate
  | none, none => d
/-- CAP_DERATE_TIMER (R422). -/
def execCapDerateTimer (s : State) : Result := s.run .capDerateTimer capDerateTimer

/-- The settings of a COOLANT_CONFIG body (R420). -/
def Dev.setCoolant (b : List Byte) (d : Dev) : Dev :=
  { d with th.coolAddr := (u8 b 0, u8 b 1, u8 b 2), th.minFlow := u16 b 4, th.dutyMin := u16 b 6, th.dutyMax := u16 b 8
           th.rise := u16 b 10 }

/-- Whether a COOLANT_CONFIG body is legal (R420). -/
def coolantOk (b : List Byte) : Bool :=
  u8 b 3 == 0 && decide (240 ≤ u16 b 4) && decide (u16 b 4 ≤ 600) && decide (u16 b 6 ≤ 1000) && decide (u16 b 6 ≤ u16 b 8) &&
  decide (u16 b 8 ≤ 1000) && decide (50 ≤ u16 b 10) && decide (u16 b 10 ≤ 150) && u32 b 12 == 0

/-- COOLANT_CONFIG (R420): at once, and kept in the configuration record. -/
def coolantConfig (ch : Nat) (d : Dev) : Dev :=
  d.onCommand 0x0406 ch fun _ b d =>
    if !coolantOk b then d.fail ch stBadParam
    else if !d.flashOk then d.fail ch stTempRange
    else ((d.writeConf fun c => { c with coolant := b.take 16 }).setCoolant b).answer ch stOk [] 0
/-- COOLANT_CONFIG (R420). -/
def execCoolantConfig (ch : Nat) (s : State) : Result := s.run (.coolantConfig ch) (coolantConfig ch)

/-! ## The flash (R424) -/

/-- FLASH_WRITE_RESUME (R424): FLASH_IF has read within range for 10 s: held entries are written in order, then one that counts
the dropped ones; a trip record that waited is now written (R419). -/
def flashWriteResume (d : Dev) : Dev :=
  match d.th.flashHold, d.th.flashOkSince with
  | true, some t =>
    let d1 := d.reach (t + 10000000000)
    let n := d1.lg.dropped
    let d2 := { d1 with lg.entries := (d1.lg.held ++ d1.lg.entries).take 524288, lg.held := [], lg.dropped := 0, th.flashHold := false }
    let d3 := if d1.lg.held.isEmpty then d2 else (d2.raiseInt 2).notice 0 n
    { d3 with th.tripWritten := d3.th.tripWritten || d3.th.tripped.isSome }.holdAfterTrip
  | _, _ => d
/-- FLASH_WRITE_RESUME (R424). -/
def execFlashWriteResume (s : State) : Result := s.run .flashWriteResume flashWriteResume

/-! ## THERMAL_POLICY_QUERY (R425) -/

/-- The hottest of some sensors by control value. -/
def Dev.hottest (d : Dev) (p : Sensor → Bool) : Option (Int × Sensor) :=
  (d.th.sensors.filter p).foldl (fun acc s =>
    let v := d.control s
    match acc with
    | some (w, _) => if w < v then some (v, s) else acc
    | none => some (v, s)) none

/-- Temperature of the hottest of some sensors; 0 when none has been sampled. -/
def hotValue (r : Option (Int × Sensor)) : Int := r.elim 0 (·.1)

/-- The limits table of R413 in row order, 0.1 °C; 0xFFFF for a dash. -/
def limitRows : List Nat :=
  [1000, 1050, 1180, 950, 1000, 1150, 900, 950, 1050, 950, 950, 1050, 0xFFFF, 1000, 1150, 0xFFFF, 750, 900]

/-- Zones with a thermal demand in force. -/
def Dev.zonesInDemand (d : Dev) : Nat :=
  (((d.th.throttles.filter fun t => decide (0 < t.skip) || decide (1 < t.div)).map fun t => (t.site, t.zone)).eraseDups).length

/-- The first half of the response body: policy, power, and the hottest Canopy zone. -/
def Dev.thermalHead (d : Dev) : List Byte :=
  let canopy := d.hottest fun s => decide (0x100 ≤ s.die)
  leBytes 1 d.th.policy ++ leBytes 1 d.th.policySource ++ leBytes 1 d.pw.axis ++
  leBytes 1 (natOf (!d.trickleAxisOn) + 16 * (d.pw.trickleLevel % 16)) ++ leBytes 4 d.pw.effCap ++
  leBytes 4 ((d.limiter none).mean / 1000) ++ leBytes 2 d.pw.volts ++ leBytes 2 d.zonesInDemand ++ leInt 2 (hotValue canopy) ++
  leBytes 1 (canopy.elim 0 fun r => r.2.die - 0x100) ++ leBytes 1 (canopy.elim 0 (·.2.idx))

/-- The other readings of the response body. -/
def Dev.thermalReadings (d : Dev) : List Byte :=
  let field := (List.range 48).foldl (fun m f => if d.th.sensors.any (·.die == 0x40 + f) then max m (d.fieldReading f) else m) 0
  let hbm := (List.range 16).foldl (fun m k => max m (d.stack k).ctlTemp) (d.stack 0).ctlTemp
  leInt 2 (hotValue (d.hottest fun s => isCompute s.die)) ++ leInt 2 field ++ leInt 2 hbm ++ leInt 2 d.th.flashIf ++
  leInt 2 (d.th.inlet / 10) ++ leInt 2 (d.th.outlet / 10) ++ leBytes 2 (if bitOf d.coolLost 2 then 0xFFFF else d.th.flow / 10)

/-- The body of THERMAL_POLICY_QUERY, 88 bytes (R425). -/
def Dev.thermalBody (d : Dev) : List Byte :=
  d.thermalHead ++ d.thermalReadings ++
  leBytes 2 d.th.duty ++ leBytes 2 (d.th.sensors.filter (·.suspect)).length ++ leBytes 2 d.lg.held.length ++ leBytes 4 d.th.trips ++
  (limitRows.map (leBytes 2)).flatten ++ zeros 8

/-- THERMAL_POLICY_QUERY (R425). -/
def thermalPolicyQuery (ch : Nat) (d : Dev) : Dev := d.onCommand 0x0403 ch fun _ _ d => d.answer ch stOk d.thermalBody 0
/-- THERMAL_POLICY_QUERY (R425). -/
def execThermalPolicyQuery (ch : Nat) (s : State) : Result := s.run (.thermalPolicyQuery ch) (thermalPolicyQuery ch)

end Sys2Proof.Machine
end

