-- ==== Sys2Proof/Machine/Memory.lean ====
section
/-!
DEFINITION. The memory sites at work (chapter 09): line fills, updates and write-back, mirror copies, scrub and repair, the HBM
firewall, the Gather-reduce engine, Cruiser runs, and CXL.mem accesses of the host (chapter 11).
-/

namespace Sys2Proof.Machine

/-- Whether the stack serves a line now: not in reset, not fenced, its row not under repair (R287, R304, R309). -/
def Dev.lineServed (d : Dev) (stack line : Nat) : Bool :=
  !(d.stack stack).resetting && !d.fencedLine stack (line * 256) && !d.underRepair stack line

/-! ## Fill, update, write back (R286, R293, R295) -/

/-- LINE_FILL_COMPLETE (R293): the reads that lead are served, and the line enters the buffer for the operations that follow; an
uncorrectable line gives POISON (R286). -/
def lineFillComplete (stack line : Nat) (outcome : ReadOutcome) (d : Dev) : Dev :=
  if (d.firstOp stack line).isNone || d.inBuf stack line || !d.lineServed stack line || !d.bufRoom stack line then d
  else
    let r := d.readLine stack line outcome
    if r.2 then
      let d1 := r.1.serveReads false stack line 1024
      if (d1.firstOp stack line).isSome then d1.fillBuf stack line (d1.lineData stack line) else d1
    else r.1.drainPoisoned stack line 1024
/-- LINE_FILL_COMPLETE (R293). -/
def execLineFillComplete (stack line : Nat) (outcome : ReadOutcome) (s : State) : Result :=
  s.run (.lineFillComplete stack line outcome) (lineFillComplete stack line outcome)

/-- LINE_UPDATE (R293, R295): the next operation on a line, or up to 64 adds of one type, applied in the line buffer; the reads
that follow are served. -/
def lineUpdate (stack line : Nat) (d : Dev) : Dev :=
  if !d.inBuf stack line || !d.lineServed stack line then d
  else
    let d1 := each (updateGroup ((d.stack stack).ops.filter (·.line == line))) Dev.applyOp d
    if d1.inBuf stack line then d1.serveReads false stack line 1024 else d1
/-- LINE_UPDATE (R293). -/
def execLineUpdate (stack line : Nat) (s : State) : Result := s.run (.lineUpdate stack line) (lineUpdate stack line)

/-- LINE_WRITEBACK (R293): 1 µs after the last operation on a line. -/
def lineWriteback (stack line : Nat) (d : Dev) : Dev :=
  match (d.stack stack).buf.find? (·.line == line) with
  | some b => if (d.firstOp stack line).isSome || !d.lineServed stack line then d else (d.reach (b.touched + 1000)).writeBack stack line
  | none => d
/-- LINE_WRITEBACK (R293). -/
def execLineWriteback (stack line : Nat) (s : State) : Result := s.run (.lineWriteback stack line) (lineWriteback stack line)

/-! ## Mirroring (R289, R290) -/

/-- The odd copy of a mirrored line is written as the even one stands (R290). -/
def Dev.copyLine (src dst line : Nat) (d : Dev) : Dev :=
  let data := d.lineData src line
  let d1 := (d.onStack dst fun s => { s with buf := s.buf.filter (·.line != line) }).unpoison dst line
  { d1 with mem.cells := cellsWrite d1.mem.cells (hbmKey dst (line * 256)) data }

/-- MIRROR_COPY_ACK (R290, R297): the odd copy has been written, and the operations that waited for it are answered. -/
def mirrorCopyAck (stack line : Nat) (d : Dev) : Dev :=
  let mine := (d.stack stack).copies.filter (·.1 == line)
  match d.partner stack (line * 256) with
  | some p =>
    if mine.isEmpty then d
    else
      let d1 := if d.fencedLine p (line * 256) || (d.stack p).resetting then d else d.copyLine stack p line
      let d2 := d1.onStack stack fun s => { s with copies := s.copies.filter (·.1 != line) }
      each mine (fun c d => d.answerOp stack c.2.2.1 c.2.2.2 c.2.1) d2
  | none => d
/-- MIRROR_COPY_ACK (R290). -/
def execMirrorCopyAck (stack line : Nat) (s : State) : Result := s.run (.mirrorCopyAck stack line) (mirrorCopyAck stack line)

/-- MIRROR_CONFIG (R289): kept in the configuration record, in effect at the next start. -/
def mirrorConfig (ch : Nat) (d : Dev) : Dev :=
  d.onCommand 0x0301 ch fun _ b d =>
    if 9 < u8 b 0 then d.fail ch stBadParam
    else if !d.flashOk then d.fail ch stTempRange
    else (d.writeConf fun c => { c with mirror := u8 b 0 }).answer ch stAccepted [] atNextStart
/-- MIRROR_CONFIG (R289). -/
def execMirrorConfig (ch : Nat) (s : State) : Result := s.run (.mirrorConfig ch) (mirrorConfig ch)

/-! ## Scrub and repair (R285 to R287) -/

/-- SCRUB_READ (R285): a line not in the buffer is read and checked. -/
def scrubRead (stack line : Nat) (outcome : ReadOutcome) (d : Dev) : Dev :=
  if d.inBuf stack line || !d.lineServed stack line || !d.mem.ready || decide (stackBytes ≤ line * 256) then d
  else (d.readLine stack line outcome).1
/-- SCRUB_READ (R285). -/
def execScrubRead (stack line : Nat) (outcome : ReadOutcome) (s : State) : Result :=
  s.run (.scrubRead stack line outcome) (scrubRead stack line outcome)

/-- ROW_TEST_COMPLETE (R286, R287): a pass is transient; a failure is repaired in service while the bank has a spare row. -/
def rowTestComplete (unit : Nat) (pass spareRow : Bool) (d : Dev) : Dev :=
  let k := unitPlace unit
  if (d.stack k).testing.contains unit then
    let d1 := d.onStack k fun s => { s with testing := s.testing.filter (· != unit) }
    if pass then d1.transient unit else d1.repairRow unit 0 spareRow
  else d
/-- ROW_TEST_COMPLETE (R287). -/
def execRowTestComplete (unit : Nat) (pass spareRow : Bool) (s : State) : Result :=
  s.run (.rowTestComplete unit pass spareRow) (rowTestComplete unit pass spareRow)

/-- SOFT_PPR_COMPLETE (R287): the row's lines are in the spare row, and the operations that waited go on. -/
def softPprComplete (unit : Nat) (d : Dev) : Dev :=
  if (d.stack (unitPlace unit)).repairing.contains unit then
    d.onStack (unitPlace unit) fun s => { s with repairing := s.repairing.filter (· != unit) }
  else d
/-- SOFT_PPR_COMPLETE (R287). -/
def execSoftPprComplete (unit : Nat) (s : State) : Result := s.run (.softPprComplete unit) (softPprComplete unit)

/-! ## The HBM firewall (R302 to R304) -/

/-- Fence a channel that may return after its retrain and row tests (R304). -/
def Dev.fenceForRetrain (stack channel : Nat) (d : Dev) : Dev :=
  if (d.stack stack).fenced || (d.stack stack).channels.any (·.channel == channel) then d
  else (d.fenceChannel stack channel).onStack stack fun s =>
    { s with channels := mapIf (·.channel == channel) (fun c => { c with retrain := true }) s.channels }

/-- CHANNEL_TIMEOUT (R302, R304): the requesters of a read whose data did not arrive get POISON; the third on a channel within a
round fences it. -/
def channelTimeout (stack line : Nat) (d : Dev) : Dev :=
  let ch := pseudoChannel line / 2
  if (d.firstOp stack line).isNone || d.inBuf stack line || !d.lineServed stack line || !d.bufRoom stack line then d
  else
    let d1 := (d.drainPoisoned stack line 1024).onStack stack fun s => { s with timeouts := bump ch 1 s.timeouts }
    if 3 ≤ countOf ch (d1.stack stack).timeouts then d1.fenceForRetrain stack ch else d1
/-- CHANNEL_TIMEOUT (R302). -/
def execChannelTimeout (stack line : Nat) (s : State) : Result := s.run (.channelTimeout stack line) (channelTimeout stack line)

/-- PARITY_ALERT (R304): the fourth on a channel within a round fences it. -/
def parityAlert (stack channel : Nat) (d : Dev) : Dev :=
  if (d.stack stack).resetting || (d.stack stack).fenced then d
  else
    let d1 := d.onStack stack fun s => { s with parity := bump channel 1 s.parity }
    if 4 ≤ countOf channel (d1.stack stack).parity then d1.fenceForRetrain stack channel else d1
/-- PARITY_ALERT (R304). -/
def execParityAlert (stack channel : Nat) (s : State) : Result := s.run (.parityAlert stack channel) (parityAlert stack channel)

/-- CHANNEL_RETRAIN_COMPLETE (R304, R413): a channel that passes returns at the next boundary; one that fails stays fenced until
the next start. Channels of a stack fenced for its temperature are retrained before it returns. -/
def channelRetrainComplete (stack channel : Nat) (pass : Bool) (d : Dev) : Dev :=
  let u := channelUnit stack channel
  let set := fun (f : FencedCh → FencedCh) (d : Dev) => d.onStack stack fun s => { s with channels := mapIf (·.channel == channel) f s.channels }
  let d0 := if (d.stack stack).hotFence.isSome && pass then d.onStack stack fun s => { s with retrained := insertNew channel s.retrained } else d
  if (d0.stack stack).channels.any fun c => c.channel == channel && c.retrain then
    if pass then
      let d1 := d0.transient u
      set (fun c => { c with retrain := false, returns := !d1.sp.failed.contains u }) d1
    else (set (fun c => { c with retrain := false }) d0).lasting u 0
  else d0
/-- CHANNEL_RETRAIN_COMPLETE (R304). -/
def execChannelRetrainComplete (stack channel : Nat) (pass : Bool) (s : State) : Result :=
  s.run (.channelRetrainComplete stack channel pass) (channelRetrainComplete stack channel pass)

/-- IEEE1500_ACTIVITY (R304): activity that the Cistern did not drive fences the stack. -/
def execIeee1500Activity (stack : Nat) (s : State) : Result := s.run (.ieee1500Activity stack) (Dev.fenceStack stack)

/-- Control temperature of a stack (R303): the larger of report and median, or the median plus 12 K while the report has been
implausible for three readings. -/
def controlTemp (report med : Int) (implausible : Nat) : Int := if 3 ≤ implausible then med + 120 else max report med

/-- STACK_TEMP_READ (R303): the control temperature, and what it drives: refresh (R288), the activate rate, the fence (R413). -/
def stackTempRead (stack : Nat) (report : Int) (die : List Int) (d : Dev) : Dev :=
  let med := median die
  let bad := if 120 < (report - med).natAbs then min 3 ((d.stack stack).implausible + 1) else 0
  let t := controlTemp report med bad
  let d1 := d.onStack stack fun s =>
    { s with ctlTemp := t, implausible := bad, refresh2 := if 850 < t then true else if t < 820 then false else s.refresh2
             hotFence := s.hotFence.map fun since => if t < 900 then some (since.getD d.tb.ns) else none }
  let h := 0x100 + stack
  let d2 := { d1 with th.halved := if 950 ≤ t then insertNew h d1.th.halved else d1.th.halved.filter (· != h) }
  let d3 := if 1050 < t ∧ !(d2.stack stack).fenced then
      (d2.fenceStack stack).onStack stack fun s => { s with hotFence := some none, retrained := [] }
    else d2
  d3.powerAxis
/-- STACK_TEMP_READ (R303). -/
def execStackTempRead (stack : Nat) (report : Int) (die : List Int) (s : State) : Result :=
  s.run (.stackTempRead stack report die) (stackTempRead stack report die)

/-! ## Gather-reduce (R66, R300) -/

/-- Whether the fields of a job descriptor keep to the ranges of its table. -/
def GrJob.ok (j : GrJob) : Bool :=
  let b := j.desc
  let f := u8 b 0
  (f == 1 || f == 6 || f == 8 || f == 0x0A) && decide (u8 b 1 ≤ 2) && decide (u8 b 2 < 4) && u8 b 3 == 0 &&
  decide (1 ≤ u32 b 4) && decide (u32 b 4 ≤ 65536) && (!isLadder f || (u32 b 4 % 128 == 0 && u64 b 0x10 == 0)) &&
  decide (1 ≤ u32 b 0x38) && decide (u32 b 0x38 ≤ 65536)

/-- Elements of a row of a job's table (R300): stack-local bytes, a Ladder row from its tile records. -/
def Dev.jobRow (d : Dev) (stack : Nat) (j : GrJob) (r : Nat) : Option (List Elem) :=
  let fmt := u8 j.desc 0
  let width := u32 j.desc 4
  let table := u64 j.desc 8
  let bits := elemBits fmt
  let read := fun (o n : Nat) => if o + n ≤ stackBytes then d.readBytes (hbmKey stack o) n else none
  if isLadder fmt then
    let tiles := width / 128
    let part := fun (c : Nat) =>
      let base := table + (r / 128 * tiles + c) * tileBytes fmt
      match read (base + r % 128 * bits * 16) (bits * 16), read (base + bits * 2048 + r % 128 * 8) 8, read (base + bits * 2048 + 1024) 4 with
      | some el, some sc, some tl =>
        some ((List.range 128).map fun i => ({ code := packedAt bits el i, scale := u8 sc (i / 16), tile := leNat tl } : Elem))
      | _, _, _ => none
    ((List.range tiles).mapM part).map (·.flatten)
  else
    (read (table + r * u64 j.desc 0x10) (width * bits / 8)).map fun el => (List.range width).map fun i => Elem.plain (packedAt bits el i)

/-- How a job ends. -/
inductive JobEnd
  | good | poison
  /-- an index outside the table, in a bag -/
  | index (bag : Nat)
  deriving DecidableEq, Repr

/-- Pool the rows of one bag (R66): one at a time, in index order. -/
def poolRows (pool width : Nat) (rows : List (List Nat)) : List Nat :=
  (List.range width).map fun i =>
    let vs := rows.map fun r => (r[i]?).getD 0
    match pool, vs with
    | _, [] => 0
    | 0, _ => vs.foldl fpAdd 0
    | 1, _ => fpDiv (vs.foldl fpAdd 0) (fpOfInt vs.length)
    | _, v :: rest => rest.foldl fpMax v

/-- One bag of a job: its pooled bytes, or how it ends the job. -/
def Dev.jobBag (d : Dev) (stack : Nat) (j : GrJob) (bag : Nat) : Except JobEnd (List Byte) :=
  let b := j.desc
  let isz := if bitOf (u8 b 2) 1 then 8 else 4
  match d.readBytes (u64 b 0x20 + 4 * bag) 8 with
  | none => .error .poison
  | some o =>
    let lo := u32 o 0
    let n := u32 o 4 - lo
    match (List.range n).mapM fun q => (d.readBytes (u64 b 0x18 + (lo + q) * isz) isz).map leNat with
    | none => .error .poison
    | some ix =>
      if ix.any fun i => decide (u32 b 0x3C ≤ i) then .error (.index bag)
      else
        let row := fun (q : Nat × Nat) =>
          match d.jobRow stack j q.1, (if bitOf (u8 b 2) 0 then (d.readBytes (u64 b 0x28 + 4 * (lo + q.2)) 4).map fun s => some (leNat s) else some none) with
          | some es, some s =>
            let vs := es.map fun e => e.fp (u8 b 0) 0
            some (s.elim vs fun k => vs.map fun v => fpMul v k)
          | _, _ => none
        match ix.zipIdx.mapM row with
        | none => .error .poison
        | some rows => .ok ((poolRows (u8 b 1) (u32 b 4) rows).map (leBytes 4)).flatten

/-- Write output bytes of a job; `false` when a place takes no write: read-only (R94), fenced, unpopulated. -/
def Dev.jobOut (a : Nat) (data : List Byte) (d : Dev) : Dev × Bool :=
  let takes := fun (p : Nat × List Byte) =>
    match placeOf d.mBytes p.1 with
    | .hbm s o => !d.fencedLine (d.homeStack s o) o && !d.readOnly (d.homeStack s o) o p.2.length
    | .scratch s o => d.scratchOk s o
    | _ => false
  if (linePieces (data.length / 256 + 2) a data).all takes then (d.store a data, true) else (d, false)

/-- Run the bags of a job in order: an index fault writes nothing for its bag (R300). -/
def Dev.jobRun (stack : Nat) (j : GrJob) (d : Dev) : Dev × JobEnd :=
  let one := fun (acc : Dev × JobEnd) (bag : Nat) =>
    match acc.1.jobBag stack j bag with
    | .ok bs =>
      let r := acc.1.jobOut (u64 j.desc 0x30 + bag * u32 j.desc 4 * 4) bs
      (r.1, if r.2 then acc.2 else if acc.2 = .good then .poison else acc.2)
    | .error e => (acc.1, if acc.2 = .good then e else acc.2)
  (List.range (u32 j.desc 0x38)).foldl one (d, .good)

/-- GATHER_REDUCE_JOB_COMPLETE (R300): the oldest job's bags are pooled and written, and its submitter gets the completion record
(log 32). -/
def gatherReduceJobComplete (stack : Nat) (d : Dev) : Dev :=
  match (d.stack stack).jobs with
  | [] => d
  | j :: _ =>
    if (d.stack stack).resetting then d
    else
      let d1 := d.popJob stack
      let r := if !j.ok || (d.stack stack).fenced then (d1, JobEnd.poison) else d1.jobRun stack j
      match j.reply with
      | .record _ _ rq =>
        let status := if r.2 = .good then 0 else 2
        let data := match r.2 with
          | .index bag => leBytes 4 bag
          | _ => []
        r.1.sendRec 4 (cisternPort stack) rq.port { rq with op := 0x84, status, data, size := data.length }
      | _ => r.1
/-- GATHER_REDUCE_JOB_COMPLETE (R300). -/
def execGatherReduceJobComplete (stack : Nat) (s : State) : Result := s.run (.gatherReduceJobComplete stack) (gatherReduceJobComplete stack)

/-! ## Cistern reset (R309) -/

/-- CISTERN_RESET (R309). -/
def execCisternReset (stack : Nat) (s : State) : Result :=
  s.run (.cisternReset stack) fun d => if (d.stack stack).resetting then d else d.resetCistern stack

/-- Copy the mirrored part of a stack back from its partner (R309). -/
def Dev.copyBack (stack : Nat) (d : Dev) : Dev :=
  let p := stack ^^^ 1
  let m := d.mBytes / 8
  let inPart := fun (k : Nat) => decide (hbmKey p 0 ≤ k) && decide (k < hbmKey p m)
  let d1 := { d with mem.cells := (d.mem.cells.filter fun c => inPart c.1).foldl (fun cells c => cellSet cells (c.1 - hbmKey p 0 + hbmKey stack 0) c.2) d.mem.cells }
  let bad := (d.mem.poison.filter fun l => inPart (l * 256)).map fun l => (l * 256 - hbmKey p 0) / 256
  let d2 := each bad (fun line d => d.poisonLine stack line) d1
  each ((d.stack p).buf.filter fun b => decide (b.line * 256 < m)) (fun b d => d.copyLine p stack b.line) d2

/-- CISTERN_RESET_COMPLETE (R309): the stack is zero but for its mirrored part, and returns to service. -/
def cisternResetComplete (stack : Nat) (d : Dev) : Dev :=
  if (d.stack stack).resetting then ((d.copyBack stack).onStack stack fun s => { s with resetting := false }).dieReady (cisternPort stack) else d
/-- CISTERN_RESET_COMPLETE (R309). -/
def execCisternResetComplete (stack : Nat) (s : State) : Result := s.run (.cisternResetComplete stack) (cisternResetComplete stack)

/-! ## CXL.mem (R354, R355) -/

/-- Whether CXL.mem accesses reach the device (R353, R358): the link is up and the decoder committed. -/
def Dev.cxlReady (d : Dev) : Bool := d.hg.linkWidth != 0 && d.hg.memEn

/-- Whether the device refuses the CXL.mem access of a line (R354). -/
def Dev.cxlOut (d : Dev) (x : Nat) : Bool := decide (hbmBytes - d.mBytes ≤ x) || !d.hg.memActive || d.hg.devState == .safeHold

/-- A completion to the host. -/
def Dev.cxlAnswer (x : Nat) (data : List Byte) (poisoned : Bool) (d : Dev) : Dev :=
  { d with hg.cxlOut := { x, data, poisoned } :: d.hg.cxlOut }

/-- The snoop filter tracks a line that the host may hold (R355). -/
def Dev.track (line : Nat) (d : Dev) : Dev :=
  { d with hg.snoopFilter := d.hg.snoopFilter.filter (·.1 != line) ++ [(line, true)] }

/-- CXL_MEM_READ (R353 to R355): the line as it stands after the operations before it (R293), or poison. A full filter first
takes its oldest line from the host. -/
def cxlMemRead (x : Nat) (d : Dev) : Dev :=
  let a := x / 64 * 64
  if !d.cxlReady then d
  else if d.hg.ide = 2 then d.cxlAnswer a (zeros 64) true
  else if d.cxlOut a then (d.setErr 4).cxlAnswer a (zeros 64) true
  else
    match placeOf d.mBytes a, d.hostLine a with
    | .hbm s o, some line =>
      if (d.firstOp s (o / 256)).isSome || (d.firstOp (d.homeStack s o) (o / 256)).isSome || (d.stack s).resetting then d
      else if 8388608 ≤ d.hg.snoopFilter.length ∧ !d.hg.snoopFilter.any (·.1 == line) then
        (d.hg.snoopFilter.head?).elim d fun e => d.sendSnoop true e.1
      else match d.readBytes a 64 with
        | some bs => (d.track line).cxlAnswer a bs false
        | none => (d.track line).cxlAnswer a (zeros 64) true
    | _, _ => d
/-- CXL_MEM_READ (R354). -/
def execCxlMemRead (x : Nat) (s : State) : Result := s.run (.cxlMemRead x) (cxlMemRead x)

/-- CXL_MEM_WRITE (R354, R292): a line operation at its home, which the read-only table does not stop (R299); poisoned data poisons
the whole line (R286). -/
def cxlMemWrite (x : Nat) (data : List Byte) (poisoned : Bool) (d : Dev) : Dev :=
  let a := x / 64 * 64
  if !d.cxlReady ∨ d.hg.ide = 2 then d
  else if d.cxlOut a then (d.setErr 4).cxlAnswer a [] false
  else
    match placeOf d.mBytes a, d.hostLine a with
    | .hbm s o, some line =>
      if !d.opRoom (d.homeStack s o) 1 || (d.stack (d.homeStack s o)).resetting then d
      else
        let act := if poisoned then LineAct.poison else .store (o % 256) (padTo 64 (data.take 64))
        let d1 := onlyIf poisoned (Dev.setErr 6) (d.acceptWrite s o 64 true act .none)
        { d1.cxlAnswer a [] false with hg.snoopFilter := mapIf (·.1 == line) (fun e => (e.1, false)) d1.hg.snoopFilter }
    | _, _ => d
/-- CXL_MEM_WRITE (R354). -/
def execCxlMemWrite (x : Nat) (data : List Byte) (poisoned : Bool) (s : State) : Result :=
  s.run (.cxlMemWrite x data poisoned) (cxlMemWrite x data poisoned)

/-- The DPA ranges that a running command reads, and what it answers when a line of them is lost (R355). -/
def Dev.commandReads (d : Dev) (c : Channel) : List (Nat × Nat × List Byte) :=
  let b := c.cmdBody
  match c.opcode with
  | 0x0100 => [(u64 b 0, u64 b 8, leBytes 4 none32 ++ (LoadFail.bare 0x13).bytes)]
  | 0x0102 =>
    match d.graphOf c.session (u32 b 0) with
    | some g =>
      let body := fun (i : Nat) => placeBody 0 0 (LoadFail.inSection 0x21 g.image.weightSect (g.image.weightBase + 32 * i)).bytes
      if g.installing.isSome then [] else (d.checkedWeights g).map fun r => (r.2.1, r.2.2, body r.1)
    | none => []
  | 0x0302 => [(u64 b 24, 2 * u32 b 20, [])]
  | 0x0304 => if u8 b 0 = 1 then [(u64 b 16, 2 * u32 b 4, [])] else []
  | 0x0501 => [(u64 b 8, 65536, [])]
  | 0x0605 => [(u64 b 8, u64 b 16, [])]
  | _ => []

/-- A running command whose snooped read ends with POISON fails (R355). -/
def Dev.loseCommand (line : Nat) (c : Channel) (d : Dev) : Dev :=
  if c.st = .running ∧ c.outcome = none then
    match (d.commandReads c).find? fun r => (d.tracked true r.1 r.2.1).contains line with
    | some r => d.answer c.ch stBadParam r.2.2 0
    | none => d
  else d

/-- Whether a cell at its home waits for the snoop of a line: a LOAD for modified data, a write for the line itself (R355). -/
def Dev.awaitsLine (d : Dev) (line : Nat) (w : Nat × Nat × BCell) : Bool :=
  (w.2.2.recs.head?.any fun r => (d.tracked (r.op == 1) (r.address % 2 ^ 48) r.size).contains line) ||
    w.2.2.kind == 1 && (let x := d.bulkRange w.1 w.2.2; (d.tracked false x.1 x.2).contains line)

/-- BI_SNOOP_TIMEOUT (R355): 1 ms after the snoop the access completes with POISON, and the line leaves the filter. -/
def biSnoopTimeout (line : Nat) (d : Dev) : Dev :=
  match d.hg.snoops.find? (·.line == line) with
  | none => d
  | some sn =>
    let d1 := (d.reach (sn.sent + 1000000)).setErr 0
    let waiting := d1.hg.hostReads.filter fun r => r.dev && (d1.tracked true r.addr r.len).contains line
    let d1b := { d1 with hg.snoopLost := if d1.ba.recv.any (d1.awaitsLine line) then insertNew line d1.hg.snoopLost else d1.hg.snoopLost }
    let d2 := each d1b.mb.chans (Dev.loseCommand line) d1b
    let d3 := { d2 with hg.snoops := d2.hg.snoops.erase sn, hg.snoopFilter := d2.hg.snoopFilter.filter (·.1 != line) }
    (each waiting (fun r d => (d.dropRead r).readDone r.purpose .failed) d3).retryReads
/-- BI_SNOOP_TIMEOUT (R355). -/
def execBiSnoopTimeout (line : Nat) (s : State) : Result := s.run (.biSnoopTimeout line) (biSnoopTimeout line)

/-! ## Cruiser (R305 to R307) -/

/-- Bytes of a range as a scan reads them; a byte that no good copy holds is a free value (log 21). -/
def Dev.scanBytes (d : Dev) (a n : Nat) : List Byte := (List.range n).map fun i => (d.readByte (a + i)).getD (Config.farByte d.free i)

/-- Whether a range is one an engine may scan (R306): a Cistern's own stack-local view; HBM views and Understory windows for the
Headgate's. -/
def Dev.scanRange (d : Dev) (engine a n : Nat) : Bool :=
  if engine < 16 then decide (hbmKey engine 0 ≤ a) && decide (a + n ≤ hbmKey engine stackBytes)
  else decide (a + n ≤ 0x120000000000) || (decide (0x200000000000 ≤ a) && decide (a + n ≤ 0x200000000000 + 48 * 0x40000000)) && d.mem.ready

/-- Runs of an engine that hold a context or wait for one before a channel's (R306): 8 contexts, in arrival order. -/
def Dev.contextFree (d : Dev) (ch engine : Nat) : Bool :=
  decide ((d.mb.chans.filter fun x => x.ch != ch && x.st == .running && x.opcode == 0x0605 && u8 x.cmdBody 0 == engine &&
    (x.outcome.isSome || d.cameBefore x.ch ch)).length < 8)

/-- CRUISER_RUN (R306). -/
def cruiserRun (ch : Nat) (d : Dev) : Dev :=
  d.onCommand 0x0605 ch fun _ b d =>
    let engine := u8 b 0
    let code := u8 b 1
    let flags := u8 b 2
    let a := u64 b 8
    let n := u64 b 16
    if 16 < engine ∨ 3 < code ∨ 3 < flags ∨ field b 3 5 ≠ 0 ∨ n = 0 ∨ 2 ^ 36 < n ∨ !d.scanRange engine a n then d.fail ch stBadParam
    else if !d.contextFree ch engine then d
    else if d.mustSnoop a n then d.snoopRange a n
    else
      let start := if bitOf flags 0 then u64 b 24 % 2 ^ (8 * crcBytes code) else crcInit code
      let v := crcRun code start (d.scanBytes a n)
      let d1 := onlyIf (!d.rangePopulated a n) (Dev.notice 0 0) d.draw
      d1.answer ch stOk (leBytes 8 v ++ leBytes 8 (if bitOf flags 1 then crcFinal code v else 0) ++ leBytes 8 d.tb.ns) 0
/-- CRUISER_RUN (R306). -/
def execCruiserRun (ch : Nat) (s : State) : Result := s.run (.cruiserRun ch) (cruiserRun ch)

end Sys2Proof.Machine
end

