-- ==== Sys2Proof/Machine/Optics.lean ====
section
/-!
DEFINITION. Lasers, tuning and optical calibration (chapter 08).
-/

namespace Sys2Proof.Machine

/-! ## Combs (R249 to R251, R264, R265) -/

/-- Ports whose transmitters a Wellhead feeds, on the plane of its number mod 4 (R249). -/
def fedPorts (w : Nat) : List Nat := if w < 4 then List.range 28 else (List.range 27).map (· + 28)

/-- Wellhead that feeds a plane port's transmitter (R249). -/
def wellOf (port plane : Nat) : Nat := if port < 28 then plane else plane + 4

/-- The active comb's line that reads low at a plane port, line 0 when none does. -/
def Dev.darkLine (d : Dev) (port plane : Nat) : Nat :=
  ((List.range 18).find? fun l => decide (d.readingAt port plane l 1 < d.expectedAt port plane l 1 - 300)).getD 0

/-- A calibration in progress ends without a result (R268, R274): it is not a disagreement, and the position is retried. -/
def Dev.abortCal (port plane : Nat) (d : Dev) : Dev :=
  if (d.optic port plane).cal.isSome then (if port < 55 then d.freePort .calibration port plane else d).onOptic port plane fun o => { o with cal := none } else d

/-- Every ring that a Wellhead feeds repeats its identity check (R274). -/
def Dev.recheck (w : Nat) (d : Dev) : Dev :=
  each (fedPorts w) (fun p d => each (List.range 18) (fun i d => d.onRing { port := p, plane := w % 4, side := .tx, idx := i } fun r => { r with checked := false }) d) d

/-- The selector of a Wellhead moves to the hot spare (R250, or R251 at a round boundary): no grants to its transmitters until the switch
completes. -/
def Dev.startSwitch (scheduled : Bool) (w : Nat) (d : Dev) : Dev :=
  let d1 := d.onWell w fun x => { x with switching := some d.tb.ns, scheduled, spareUsed := true, moveNext := false, biasNext := false }
  (each (fedPorts w) (fun p d => (d.abortCal p (w % 4)).holdPort .comb p (w % 4)) d1).recheck w

/-- The cells that are granted to the transmitters of a dark comb are lost at their receivers (R250). -/
def Dev.loseGranted (w : Nat) (d : Dev) : Dev :=
  let granted := fun (m : Match) => m.plane == w % 4 && (fedPorts w).contains m.src
  let one := fun (m : Match) (d : Dev) =>
    match d.matchedCell m with
    | some q => each m.dsts (fun t => Dev.discard t m.plane) { d with ba.out := d.ba.out.erase q }
    | none => d
  each (d.ba.matches_.filter granted) one { d with ba.matches_ := d.ba.matches_.filter fun m => !granted m }

/-- COMB_FAILURE (R250, R251): the failed source is recorded; the hot spare takes over, or the plane ports that the comb feeds are
retired. Each failover locates the loss (R261). -/
def combFailure (w : Nat) (d : Dev) : Dev :=
  let x := d.well w
  if d.op.dark ∨ x.switching.isSome then d
  else
    let u := combUnit (0x80 + w) x.source
    let d1 := ((d.fdm u 1 5 1).notice u 0).loseGranted w
    if x.spareUsed then each (fedPorts w) (fun p d => d.retirePort p (w % 4)) d1
    else each (fedPorts w) (fun p d => d.locateLoss p (w % 4) (d.darkLine p (w % 4))) (d1.startSwitch false w)
/-- COMB_FAILURE (R250). -/
def execCombFailure (wellhead : Nat) (s : State) : Result := s.run (.combFailure wellhead) (combFailure wellhead)

/-- COMB_SWITCH_COMPLETE (R250, R251): the spare's lines read in range, after a scheduled move 20 µs after its boundary, and the scheduler
grants again. -/
def combSwitchComplete (w : Nat) (d : Dev) : Dev :=
  match (d.well w).switching with
  | none => d
  | some t =>
    let d1 := (if (d.well w).scheduled then d.reach (t + 20000) else d).onWell w fun x => { x with switching := none, source := 1 - x.source, bias := x.spareBias, spareBias := x.bias }
    each (fedPorts w) (fun p d => d.freePort .comb p (w % 4)) d1
/-- COMB_SWITCH_COMPLETE (R250). -/
def execCombSwitchComplete (wellhead : Nat) (s : State) : Result := s.run (.combSwitchComplete wellhead) (combSwitchComplete wellhead)

/-- Whether a side's readings of a line count for a margin (R263): its lane is on no spare and not under calibration, and the plane port is not
retired. -/
def Dev.countsLine (d : Dev) (port plane line : Nat) (side : Side) : Bool :=
  let o := d.optic port plane
  let s := o.spares side
  let inUse := (line == 17 && side == .tx && s.1 != 255) || (line == 16 && side == .tx && (s.2 != 255 || o.onCal.isSome))
  !(d.pport port plane).retired && o.cal != some line && o.onCal != some line && line != s.1 && line != s.2 && !inUse

/-- The mean of the samples of a path. DESIGN CHOICE (log 110): of their levels in dBm, rounded down. -/
def meanOf (e : (Nat × Nat) × Int × Nat) : (Nat × Nat) × Int := (e.1, e.2.1 / (max 1 e.2.2 : Nat))

/-- Mean received power of each sampled path of a receiver (R263): of the last round, else of this one so far. -/
def OptPort.paths (o : OptPort) : List ((Nat × Nat) × Int) :=
  o.means ++ (o.sums.filter fun e => !o.means.any (·.1 == e.1)).map meanOf

/-- At a round boundary the samples of the round that ends give its line margins (R263). -/
def Dev.roundMargins (d : Dev) : Dev :=
  let one := fun (o : OptPort) =>
    let now := o.sums.map meanOf
    { o with means := now ++ o.means.filter (fun e => !now.any (·.1 == e.1)), sums := []
             margin := now.foldl (fun m e => min m (e.2 - sensitivity)) o.margin }
  { d with op.ports := d.op.ports.map one }

/-- Receiver's port, line and margin of every sampled path of a comb, 0.01 dB (R263). -/
def Dev.margins (d : Dev) (w : Nat) : List (Nat × Nat × Int) :=
  ((d.op.ports.filter fun o => o.plane == w % 4 && decide (o.port < 55)).map fun o =>
    (o.paths.filter fun e => (fedPorts w).contains e.1.1).map fun e => (o.port, e.1.2, e.2 - sensitivity)).flatten

/-- Line margin of a comb (R263): the lowest; the typical 3.2 dB while nothing has been sampled (log 10). -/
def Dev.lineMargin (d : Dev) (w : Nat) : Int :=
  match d.margins w with
  | [] => 320
  | m :: ms => ms.foldl (fun a x => min a x.2.2) m.2.2

/-- One comb's check (R264, R265): a bias step at the next boundary; at the highest bias and below 1 dB the end-of-life alarm and
the move to the spare. A margin below 2.0 dB locates the loss (R261). -/
def Dev.ageComb (w : Nat) (d : Dev) : Dev :=
  let x := d.well w
  let m := d.lineMargin w
  let d1 := if m < 300 ∧ x.bias < 560 then d.onWell w fun x => { x with biasNext := true } else d
  let d2 :=
    if 560 ≤ x.bias ∧ m < 100 then
      let d2 := onlyIf (!x.alarm) (Dev.notice (combUnit (0x80 + w) x.source) 0) (d1.onWell w fun x => { x with alarm := true })
      if x.spareUsed ∨ x.switching.isSome then d2 else d2.onWell w fun x => { x with moveNext := true }
    else d1
  each ((d.margins w).filter fun e => decide (e.2.2 < 200)) (fun e d => d.locateLoss e.1 (w % 4) e.2.1) d2

/-- LASER_AGEING_CHECK (R264): once per second, by the active Ranger. -/
def laserAgeingCheck (d : Dev) : Dev :=
  if d.op.dark ∨ d.fw.handover.isSome then d
  else
    let d1 := d.reach (d.op.lastAgeing + 1000000000)
    (each (List.range 8) Dev.ageComb { d1 with op.lastAgeing := d1.tb.ns }).ageEngines
/-- LASER_AGEING_CHECK (R264). -/
def execLaserAgeingCheck (s : State) : Result := s.run .laserAgeingCheck laserAgeingCheck

/-- At a round boundary (R251, R264, R274): a move to the spare takes place and drops the comb's bias step; else the step is
taken. -/
def Dev.combBoundary (d : Dev) : Dev :=
  let step := fun (x : Wellhead) (d : Dev) =>
    if x.moveNext then d.startSwitch true x.w
    else if x.biasNext then d.onWell x.w fun x => { x with bias := min 560 (x.bias + 1), biasNext := false }
    else d
  let d1 := each d.op.wells step d
  (if d.op.wells.any (·.biasNext) then { d1 with op.dirty := true } else d1).engineCombBoundary

/-- OPTICAL_MONITOR_SAMPLE (R260, R263): the readings of a path to a receiver; discarded during a handover (R31). -/
def opticalMonitorSample (port plane line : Nat) (sample : PathSample) (d : Dev) : Dev :=
  let counts := d.countsLine port plane line .rx && (decide (64 ≤ port) || d.countsLine sample.src plane line .tx)
  let level := (sample.levels[9]?).getD 0
  let key := (sample.src, line)
  if d.fw.handover.isSome then d
  else d.onOptic port plane fun o =>
    { o with monitors := upsert (·.1 == line) (line, sample.levels) (fun _ => (line, sample.levels)) o.monitors
             sums := if counts then upsert (·.1 == key) (key, 0, 0) (fun e => (key, e.2.1 + level, e.2.2 + 1)) o.sums else o.sums }
/-- OPTICAL_MONITOR_SAMPLE (R260). -/
def execOpticalMonitorSample (port plane line : Nat) (sample : PathSample) (s : State) : Result :=
  s.run (.opticalMonitorSample port plane line sample) (opticalMonitorSample port plane line sample)

/-! ## Rings (R253 to R259, R266) -/

/-- Temperature of a temperature set, 0.1 °C. -/
def setTemp (i : Nat) : Int := 250 + 200 * i

/-- Segment of a temperature (R266): of the sets that bracket it. -/
def segmentOf (t : Int) : Nat := if t < 450 then 0 else if t < 650 then 1 else if t < 850 then 2 else 3

/-- Nearest integer of n / m, ties to even. -/
def nearestInt (n m : Int) : Int :=
  let q := n / m
  let r := 2 * (n - q * m)
  if r < m then q else if m < r then q + 1 else if q % 2 = 0 then q else q + 1

/-- A value of a ring's sets, at a set temperature: its heater code, or a bias. -/
def setValue (sets : List TempSet) (bias : Option Nat) (i : Nat) : Int :=
  match sets[i]? with
  | some s => bias.elim s.heater fun b => (s.biases[b]?).getD 0
  | none => 0

/-- 200 times the interpolated set-point (R266). -/
def setPoint200 (sets : List TempSet) (bias : Option Nat) (t : Int) : Int :=
  let i := segmentOf t
  let a := setValue sets bias i
  200 * a + (t - setTemp i) * (setValue sets bias (i + 1) - a)

/-- Highest heater code of a ring (R254). -/
def topCode (idx : Nat) : Int := if 18 ≤ idx then 19487 else 4095

/-- A heater code kept in range. -/
def clampCode (idx : Nat) (v : Int) : Int := max 0 (min (topCode idx) v)

/-- Reading of the Basin sensor of a port's field, or of a fibre port's engine (R311), 0.1 °C (log 10 where nothing has been sampled). -/
def Dev.portTemp (d : Dev) (port : Nat) : Int :=
  if port < 55 then (if d.th.sensors.any (·.die == 0x40 + port) then d.fieldReading port else 250)
  else ((d.th.sensors.find? fun s => s.die == engineOf (port - 64)).map d.control).getD 250

/-- Feedforward (R255), in 1/2000 LSB: the slope of the current segment times the change in 0.01 K. -/
def Dev.feedforward (d : Dev) (id : RingId) (dTemp : Int) : Int :=
  let sets := (d.ring id).sets
  let i := segmentOf (d.portTemp id.port)
  (setValue sets none (i + 1) - setValue sets none i) * dTemp

/-- Whether an optical port's light is on: the Wellheads', or that of a fibre port's own source (R316). -/
def Dev.lit (d : Dev) (port : Nat) : Bool := if port < 55 then !d.op.dark else (d.fport (port - 64)).st != .dark

/-- A ring sweeps from its interpolated set-point (R253, R256). -/
def Dev.sweepFrom (id : RingId) (d : Dev) : Dev :=
  let code := fun (r : Ring) => clampCode id.idx (nearestInt (setPoint200 r.sets none (d.portTemp id.port)) 200)
  d.onRing id fun r => { r with code := code r, rest := 0 }

/-- Lane that a ring carries or stands in for: its own position, or what its spare carries. Transmit rings 16 and 17 and receive
rings 18 and 19 are the calibration and the fault spare (R245, R257, R258). -/
def OptPort.laneOf (o : OptPort) (id : RingId) : Option Nat :=
  let on := fun (l : Nat) => if l = 255 then none else some l
  let s := o.spares id.side
  let calSpare := match o.cal with
    | some l => some l
    | none => on s.2
  match id.side, id.idx with
  | .tx, 16 => calSpare
  | .tx, 17 => on s.1
  | .rx, 18 => calSpare
  | .rx, 19 => on s.1
  | _, i => if s.1 = i ∨ s.2 = i ∨ o.cal = some i then none else some i

/-- Lane that a ring carries: on a fibre lines 16 and 17 are the spares of both ends (R314). -/
def Dev.laneOf (d : Dev) (id : RingId) : Option Nat :=
  if id.port < 55 then (d.optic id.port id.plane).laneOf id
  else
    let p := d.fport (id.port - 64)
    let on := fun (l : Nat) => if l = 255 then none else some l
    if id.idx = 17 then on p.faultLane
    else if id.idx = 16 then p.calNow.elim (on p.calLane) some
    else if p.faultLane = id.idx ∨ p.calLane = id.idx ∨ p.calNow = some id.idx then none else some id.idx

/-- Whether a ring is the calibration spare of its side. -/
def isCalSpare (id : RingId) : Bool := (id.idx == 16 && (id.side == .tx || 64 ≤ id.port)) || (id.side == .rx && id.idx == 18)

/-- Identifier of a lane: of a plane port, or of a fibre port (R460). -/
def ringUnit (id : RingId) : Nat :=
  let side := match id.side with
    | .tx => 0
    | .rx => 1
  if id.port < 55 then laneUnit id.port id.plane side id.idx else unitId 0x0D (id.port - 64) 0 0 0 id.idx

/-- A lane that lost lock takes a free spare, or its port waits (R256, R259), at the next slot boundary. -/
def Dev.lostLane (id : RingId) (lane : Nat) (d : Dev) : Dev :=
  if 64 ≤ id.port then d.laneToSpare id.port id.plane id.side lane else d.atSlot (.spare id.port id.plane id.side lane true)

/-- Whether the traffic of a lane under calibration is on the calibration spare (R267, R314). -/
def Dev.onCalSpare (d : Dev) (id : RingId) : Bool :=
  if id.port < 55 then d.calMoved id.port id.plane id.idx else (d.fport (id.port - 64)).calNow == some id.idx

/-- LOSS_OF_LOCK (R256, R274): a transient without a test; the ring relocks from its interpolated set-point, its lane moves to a spare, and a calibration it touches is aborted. -/
def Dev.lossOfLock (id : RingId) (d : Dev) : Dev :=
  let o := d.optic id.port id.plane
  let d1 := (d.onRing id fun r => { r with locked := false, checked := false, sweeps := 0 }).sweepFrom id
  let d2 := if id.idx < 18 then d1.transient (ringUnit id) else d1
  let lane := d.laneOf id
  if o.cal = some id.idx ∧ id.idx < 18 ∧ d.onCalSpare id then
    (d2.abortCal id.port id.plane).onOptic id.port id.plane fun o => { o with atClose := o.atClose ++ [(id.side, id.idx)] }
  else if isCalSpare id && o.cal.isSome then d2.abortCal id.port id.plane
  else
    let d3 := if o.cal = some id.idx then d2.abortCal id.port id.plane else d2
    match lane with
    | some l => if l < 16 then d3.lostLane id l else d3
    | none => d3

/-- TUNING_LOOP_UPDATE (R254 to R256): the loop's own move of at most 4 LSB and the feedforward; the third update outside the lock
window is a loss of lock. During a handover the heater holds its code (R31). DESIGN CHOICE (log 105): the feedforward moves the code by
whole LSB, and what is left counts at the next update. -/
def tuningLoopUpdate (id : RingId) (inWindow : Bool) (step dTemp : Int) (d : Dev) : Dev :=
  if !d.lit id.port ∨ d.fw.handover.isSome then d
  else
    let r := d.ring id
    let forward := r.rest + d.feedforward id dTemp
    let move := max (-4) (min 4 step) + nearestInt forward 2000
    let out := if inWindow then 0 else min 3 (r.out + 1)
    let d1 := d.onRing id fun r => { r with code := clampCode id.idx (r.code + move), rest := forward - 2000 * nearestInt forward 2000, out }
    if 3 ≤ out ∧ r.locked then d1.lossOfLock id else d1
/-- TUNING_LOOP_UPDATE (R254). -/
def execTuningLoopUpdate (ring : RingId) (inWindow : Bool) (step dTemp : Int) (s : State) : Result :=
  s.run (.tuningLoopUpdate ring inWindow step dTemp) (tuningLoopUpdate ring inWindow step dTemp)

/-- Identity that a ring is to read (R252, R253): Wellhead and the line it is assigned; on a fibre the line alone (R313). -/
def Dev.wantedIdentity (d : Dev) (id : RingId) : Option Nat :=
  let line := if id.idx < 18 then some id.idx else d.laneOf id
  line.map fun l => if id.port < 55 then wellOf id.port id.plane * 32 + l else l

/-- Whether a lane of a plane port still waits without a spare for its ring to lock. -/
def Dev.stillWaits (d : Dev) (port plane : Nat) : Bool :=
  let o := d.optic port plane
  d.op.rings.any fun r => r.id.port == port && r.id.plane == plane && !r.locked && !(isCalSpare r.id && o.cal.isSome) && (d.laneOf r.id).any (· < 16)

/-- LANE_IDENTITY_CHECK (R253): a ring that reads its own identity carries traffic, and after a loss of lock is queued for calibration
(R256); a failed check unlocks it and it sweeps again from the interpolated set-point, and the second moves its lane to a spare. -/
def laneIdentityCheck (id : RingId) (identity : Option Nat) (d : Dev) : Dev :=
  let r := d.ring id
  let want := d.wantedIdentity id
  let ahead := fun (d : Dev) => if id.idx < 18 then d.onOptic id.port id.plane fun o => { o with ahead := insertNew id.idx o.ahead } else d
  if want = none ∨ !d.lit id.port then d
  else if identity.isSome ∧ identity = want then
    let d1 := d.onRing id fun r => { r with locked := true, checked := true, sweeps := 0, out := 0 }
    let d2 := if r.locked then d1 else ahead d1
    if (d2.optic id.port id.plane).relockSince.isSome ∧ !d2.stillWaits id.port id.plane then
      (d2.freePort .relock id.port id.plane).onOptic id.port id.plane fun o => { o with relockSince := none }
    else d2
  else
    let d1 := ((d.notice (ringUnit id) (identity.getD 0)).onRing id fun r => { r with locked := false, checked := false, sweeps := r.sweeps + 1 }).sweepFrom id
    let d2 := if isCalSpare id then d1.abortCal id.port id.plane else d1
    if r.sweeps = 0 then d2
    else
      let d3 := d2.onRing id fun r => { r with sweeps := 0 }
      match d2.laneOf id with
      | some l => ahead (if l < 16 then d3.lostLane id l else d3)
      | none => ahead d3
/-- LANE_IDENTITY_CHECK (R253). -/
def execLaneIdentityCheck (ring : RingId) (identity : Option Nat) (s : State) : Result :=
  s.run (.laneIdentityCheck ring identity) (laneIdentityCheck ring identity)

/-- RELOCK_TIMEOUT (R259): 1 ms without relocking retires the plane port. -/
def relockTimeout (port plane : Nat) (d : Dev) : Dev :=
  match (d.optic port plane).relockSince with
  | some t => ((d.reach (t + 1000000)).onOptic port plane fun o => { o with relockSince := none }).retirePort port plane
  | none => d
/-- RELOCK_TIMEOUT (R259). -/
def execRelockTimeout (port plane : Nat) (s : State) : Result := s.run (.relockTimeout port plane) (relockTimeout port plane)

/-! ## Calibration (R267 to R273) -/

/-- A plane port calibrates its next position (R267, R268): those queued ahead first. The receiver's calibration spare tunes to the line and is
checked; a port whose calibration spare carries data receives no grants meanwhile. -/
def Dev.startCal (port plane : Nat) (d : Dev) : Dev :=
  let p := d.pport port plane
  if p.retired ∨ !p.holds.isEmpty ∨ d.ba.failed.contains plane then d
  else
    let d1 := d.onOptic port plane fun o => { o with cal := some (o.ahead.headD o.next) }
    let o := d.optic port plane
    if o.txCal = 255 ∧ o.rxCal = 255 then d1.tuneSpare port plane 18 .rx else d1.holdPort .calibration port plane

/-- A fibre port that is UP calibrates its next position (R314): a data lane's traffic moves to line 16 by LANE_MAP. With both spares carrying
data its calibration stops. -/
def Dev.startFibreCal (port : Nat) (d : Dev) : Dev :=
  let p := d.fport port
  if p.st ≠ .up ∨ p.calLane ≠ 255 ∨ p.laneMap.isSome then d
  else
    let o := d.optic (fibreOptic port) 0
    let pos := o.ahead.headD o.next
    let d1 := d.onOptic (fibreOptic port) 0 fun o => { o with cal := some pos }
    if pos < 16 ∧ pos ≠ p.faultLane then d1.sendMap port p.faultLane pos true else d1

/-- The traffic of a fibre port's lane goes back to its own line when its calibration ends (R314); a map on its way takes effect first. -/
def Dev.endFibreCal (port fault : Nat) (d : Dev) : Dev :=
  let p := d.fport port
  if p.st = .up ∧ p.laneMap = none ∧ (p.calNow.isSome ∨ p.faultLane ≠ fault) then d.sendMap port fault p.calLane false else d

/-- CALIBRATION_WINDOW_OPEN (R172, R267, R272, R314): +2 µs, while the calibration axis is ROTATING. -/
def calibrationWindowOpen (d : Dev) : Dev :=
  d.onPoint .calOpen 2000 fun d =>
    if d.calPaused then d
    else each (List.range 8) Dev.startFibreCal (each (List.range 55) (fun p d => each (List.range 4) (fun q d => d.startCal p q) d) { d with op.window := true })
/-- CALIBRATION_WINDOW_OPEN (R267). -/
def execCalibrationWindowOpen (s : State) : Result := s.run .calibrationWindowOpen calibrationWindowOpen

/-- What the window's close ends at a plane port (R247, R268, R274). -/
def Dev.closeCal (o : OptPort) (d : Dev) : Dev :=
  let d1 := (d.abortCal o.port o.plane).onOptic o.port o.plane fun x => { x with atClose := [] }
  let d2 := each o.atClose (fun e d => d.lostLane { port := o.port, plane := o.plane, side := e.1, idx := e.2 } e.2) d1
  if 64 ≤ o.port then d2.endFibreCal (o.port - 64) (d2.fport (o.port - 64)).faultLane
  else if (d2.pport o.port o.plane).testWaits then
    (d2.holdPort .selfTest o.port o.plane).onPort o.port o.plane fun p => { p with testWaits := false }
  else d2

/-- CALIBRATION_WINDOW_CLOSE (R172, R268): +P − 60 µs. -/
def calibrationWindowClose (d : Dev) : Dev :=
  d.onPoint .calClose (d.rd.period - 60000) fun d => each d.op.ports Dev.closeCal { d with op.window := false }
/-- CALIBRATION_WINDOW_CLOSE (R268). -/
def execCalibrationWindowClose (s : State) : Result := s.run .calibrationWindowClose calibrationWindowClose

/-- Whether two measurements agree (R269). -/
def agree (a b : RingMeas) : Bool :=
  decide (((a.heater : Int) - b.heater).natAbs ≤ 2) && a.biases.length == b.biases.length &&
  (a.biases.zip b.biases).all fun p => decide (((p.1 : Int) - p.2).natAbs * 100 ≤ 3 * p.1)

/-- The ring's sets after an accepted value (R270): delta to both sets that bracket the temperature, to the nearest LSB for the
heater and to the nearest 0.1 % of the first measurement for a bias. -/
def accept (sets : List TempSet) (a b : RingMeas) (t : Int) : List TempSet :=
  let i := segmentOf t
  let x : Int := nearestInt ((a.heater : Int) + b.heater) 2
  let dh := nearestInt (200 * x - setPoint200 sets none t) 200
  let db := (a.biases.zip b.biases).zipIdx.map fun e =>
    let unit : Int := max 1 e.1.1
    nearestInt (100000 * ((e.1.1 : Int) + e.1.2) - setPoint200 sets (some e.2) t) (200 * unit) * unit
  sets.zipIdx.map fun s =>
    if s.2 = i ∨ s.2 = i + 1 then
      { heater := s.1.heater + dh, biases := db.zipIdx.map fun e => (s.1.biases[e.2]?).getD 0 + e.1 }
    else s.1

/-- An accepted value at a ring (R270): the new set-point takes effect at the next slot boundary. -/
def Dev.acceptRing (id : RingId) (a b : RingMeas) (t : Int) (d : Dev) : Dev :=
  let sets := accept (d.ring id).sets a b t
  (d.onRing id fun r => { r with sets }).atSlot (.code id (clampCode id.idx (nearestInt (setPoint200 sets none t) 200)))

/-- A side whose measurements disagree (R271): the third time in a row its lane is suspect and moves to a spare until the next
restart. -/
def Dev.suspectLane (port plane pos : Nat) (side : Side) (d : Dev) : Dev :=
  let d1 := d.fdm (ringUnit { port, plane, side, idx := pos }) 3 2 1
  if pos < 16 then d1.laneToSpare port plane side pos else d1

/-- A lane returns from the fault spare to its own ring, which has relocked and been calibrated (R256); on a fibre by a LANE_MAP (R314). -/
def Dev.laneBack (port plane pos : Nat) (side : Side) (d : Dev) : Dev :=
  let o := d.optic port plane
  let r := d.ring { port, plane, side, idx := pos }
  if 64 ≤ port then
    let p := d.fport (port - 64)
    let both := [Side.tx, Side.rx].all fun side => (d.ring { port, plane, side, idx := pos }).locked && (d.ring { port, plane, side, idx := pos }).checked
    d.endFibreCal (port - 64) (if p.faultLane = pos ∧ both ∧ !o.suspect.contains pos then 255 else p.faultLane)
  else if (o.spares side).1 = pos ∧ r.locked ∧ r.checked ∧ !o.suspect.contains pos then d.atSlot (.back port plane side pos) else d

/-- Whether the rings under calibration can be measured (R267, R314): a data lane's traffic is on the calibration spares, a spare that carries
nothing is measured where it is. -/
def Dev.measures (d : Dev) (port plane pos : Nat) : Bool :=
  if port < 55 then decide (16 ≤ pos) || (d.optic port plane).rxCal != 255 || d.calMoved port plane pos
  else decide (16 ≤ pos) || pos == (d.fport (port - 64)).faultLane || (d.fport (port - 64)).calNow == some pos

/-- CALIBRATION_MEASUREMENT_COMPLETE (R267 to R271): the rings are measured once the lane's traffic has moved to the calibration spares. -/
def calibrationMeasurementComplete (port plane : Nat) (tx1 tx2 rx1 rx2 : RingMeas) (temp : Int) (d : Dev) : Dev :=
  match (d.optic port plane).cal with
  | none => d
  | some pos =>
    if !d.measures port plane pos then d else
    let tx := agree tx1 tx2
    let rx := agree rx1 rx2
    let d1 := if port < 55 then d.freePort .calibration port plane else d
    let turn := fun (o : OptPort) =>
      if o.ahead.contains pos then { o with cal := none, ahead := o.ahead.erase pos } else { o with cal := none, next := (pos + 1) % 18 }
    if tx && rx then
      let d2 := (d1.acceptRing { port, plane, side := .tx, idx := pos } tx1 tx2 temp).acceptRing { port, plane, side := .rx, idx := pos } rx1 rx2 temp
      let d3 := d2.onOptic port plane fun o =>
        let o1 := turn o
        let seen := o.monitors.filter (·.1 == pos)
        { o1 with accepted := (o.accepted + 1) % 65536, lastCal := d.tb.ns, disagree := o.disagree.filter (·.1 != pos)
                  expected := seen ++ (if seen.isEmpty then o.expected else o.expected.filter (·.1 != pos)) }
      ({ d3 with op.dirty := true } : Dev).laneBack port plane pos .tx |>.laneBack port plane pos .rx
    else
      let d2 := d1.onOptic port plane fun o =>
        let o1 := turn o
        { o1 with disagreed := (o.disagreed + 1) % 65536, disagree := bump pos 1 o.disagree }
      if 3 ≤ countOf pos (d2.optic port plane).disagree then
        let d3 := d2.onOptic port plane fun o => { o with suspect := insertNew pos o.suspect }
        let d4 := if tx then d3 else d3.suspectLane port plane pos .tx
        if rx then d4 else d4.suspectLane port plane pos .rx
      else if 64 ≤ port then d2.endFibreCal (port - 64) (d2.fport (port - 64)).faultLane
      else d2
/-- CALIBRATION_MEASUREMENT_COMPLETE (R269). -/
def execCalibrationMeasurementComplete (port plane : Nat) (tx1 tx2 rx1 rx2 : RingMeas) (temp : Int) (s : State) : Result :=
  s.run (.calibrationMeasurementComplete port plane tx1 tx2 rx1 rx2 temp) (calibrationMeasurementComplete port plane tx1 tx2 rx1 rx2 temp)

/-- The calibration store takes the changed sets and biases (R273), unless the flash refuses the write (R423). -/
def Dev.storeCal (d : Dev) : Dev :=
  let d1 := { d with op.lastWrite := d.tb.ns }
  if d.op.dirty && d.flashOk then
    { d1 with op.dirty := false, op.stored := d.op.rings.map (fun r => (r.id, r.sets)), op.storedBias := d.op.wells.map (fun w => (w.w, w.bias, w.spareBias)) }
  else d1

/-- CALIBRATION_STORE_WRITE (R273): once per hour; a write that the flash refuses is retried at the next hour. -/
def calibrationStoreWrite (d : Dev) : Dev :=
  if d.fw.handover.isSome then d else (d.reach (d.op.lastWrite + 3600000000000)).storeCal
/-- CALIBRATION_STORE_WRITE (R273). -/
def execCalibrationStoreWrite (s : State) : Result := s.run .calibrationStoreWrite calibrationStoreWrite

/-! ## CALIBRATION_STATUS (R275) -/

/-- The 32 bytes of a port record. -/
def Dev.calRecord (d : Dev) (plane port : Nat) : List Byte :=
  let o := d.optic port plane
  let p := d.pport port plane
  let st := if p.retired then 2 else if p.holds.isEmpty && d.ringsChecked port plane .tx && d.ringsChecked port plane .rx then 0 else 1
  leBytes 1 port ++ leBytes 1 plane ++ leBytes 1 st ++ leBytes 1 o.txFault ++ leBytes 1 o.txCal ++ leBytes 1 o.rxFault ++
  leBytes 1 o.rxCal ++ leBytes 1 o.next ++ leInt 4 o.margin ++ leBytes 8 o.lastCal ++ leBytes 2 o.accepted ++ leBytes 2 o.disagreed ++
  leBytes 1 o.lossStage ++ leBytes 1 o.lossLine ++ leInt 2 o.lossExcess ++ zeros 4

/-- The response body: header and 55 records. -/
def Dev.calBody (d : Dev) (plane : Nat) : List Byte :=
  let cause := if d.pw.axis = 2 then 1 else if d.calPaused then 2 else 0
  let well := fun (w : Nat) =>
    let x := d.well w
    leBytes 2 x.bias ++ leBytes 1 x.source ++ leBytes 1 (natOf x.alarm + 2 * natOf x.spareUsed)
  leBytes 1 (natOf d.calPaused) ++ leBytes 1 cause ++ leBytes 2 55 ++ zeros 12 ++ ((List.range 8).map well).flatten ++
  ((List.range 55).map (d.calRecord plane)).flatten

/-- CALIBRATION_STATUS (R275). -/
def calibrationStatus (ch : Nat) (d : Dev) : Dev :=
  d.onCommand 0x0603 ch fun _ b d => if 3 < u8 b 0 then d.fail ch stBadParam else d.answer ch stOk (d.calBody (u8 b 0)) 0
/-- CALIBRATION_STATUS (R275). -/
def execCalibrationStatus (ch : Nat) (s : State) : Result := s.run (.calibrationStatus ch) (calibrationStatus ch)

end Sys2Proof.Machine
end

