-- ==== Sys2Proof/Machine/Spillway.lean ====
section
/-!
DEFINITION. The Spillway rack fabric (chapter 10): the links and their management, frames that arrive, leave and pass through,
rack barriers, and the fabric commands.
-/

namespace Sys2Proof.Machine

/-! ## Frames that arrive (R319, R320, R324, R333, R341) -/

/-- Whether a range lies in one granule of `g` bytes. -/
def within (g a n : Nat) : Bool := decide (a % g + n ≤ g)

/-- Size and alignment of a load or store (R148). -/
def accessFits (f : Frame) : Bool := decide (8 ≤ f.size) && decide (f.size ≤ 256) && f.size % 8 == 0 && f.address % 8 == 0 && within 256 f.address f.size

/-- Types that an atomic takes (R148). -/
def atomicPair (op : AtomicOp) (ty : AtomicTy) : Bool :=
  match op with
  | .add => ty == .int32 || ty == .int64 || ty == .fp32
  | .cas => ty == .int32 || ty == .int64 || ty == .cas128
  | _ => ty != .cas128

/-- Whether an ATOMIC frame carries its operands (10, frame kinds): only an add is posted (R327). -/
def atomicFits (f : Frame) : Bool :=
  match AtomicOp.ofCode f.aop, AtomicTy.ofCode f.aty with
  | some op, some ty =>
    atomicPair op ty && f.address % ty.bytes == 0 && f.payload.length == f.size && f.size == ty.bytes * (if op = .cas then 2 else 1) &&
    (!f.posted || op == .add)
  | _, _ => false

/-- Whether a frame is one of the kinds that routes carry (10, frame kinds). -/
def knownKind (k : Nat) : Bool := [1, 2, 3, 4, 5, 0x10, 0x11, 0x12, 0x13, 0x20, 0x81, 0x82, 0x83, 0x84, 0x85].contains k

/-- Whether a frame carries the payload and size of its kind (R320). -/
def frameFits (f : Frame) : Bool :=
  let n := f.payload.length
  match f.kind with
  | 1 => n == 0 && accessFits f
  | 2 => n == f.size && accessFits f
  | 3 => atomicFits f
  | 4 => n == f.size && decide (1 ≤ n) && within 4096 f.address n
  | 5 => n == 0 && decide (1 ≤ f.size) && within 4096 f.address f.size
  | 0x10 => n == 16
  | 0x11 => n == 16
  | 0x12 => n == 16
  | 0x13 => n == 16
  | 0x81 => n == f.size
  | 0x82 => n == 0
  | 0x83 => n == f.size
  | 0x84 => n == 0
  | 0x85 => n == f.size
  | _ => false

/-- Credits that come back in a credit field (R324): [3:0] request, [7:4] response. -/
def Dev.credit (port c : Nat) (d : Dev) : Dev :=
  d.onFport port fun p => { p with reqCredit := p.reqCredit + c % 16, rspCredit := p.rspCredit + c / 16 % 16 }

/-- A frame is discarded at its port (R319, R320): the fifth of a round calls for the loopback self-test (R491). -/
def Dev.discardFrame (port : Nat) (d : Dev) : Dev :=
  let n := (d.fport port).discRound + 1
  let d1 := d.onFport port fun p => { p with discarded := p.discarded + 1, discRound := n }
  if n = 5 then d1.reportFault (fibreUnit port) .unit else d1

/-- Whether a frame passes its link's encryption (R341): a good tag and a counter beyond the last accepted. -/
def FPort.authentic (p : FPort) (f : Frame) : Bool :=
  p.enc == f.enc && (!p.enc || (f.tagOk && p.rxCounter.elim true fun c => decide (c < f.counter)))

/-- A tag failure (R341): counted; 16 within 1 s take the port DOWN with cause AUTH (R323). -/
def Dev.tagFailure (port : Nat) (d : Dev) : Dev :=
  let fails := ((d.fport port).tagFails.filter fun t => decide (d.tb.ns < t + 1000000000)) ++ [d.tb.ns]
  let d1 := d.onFport port fun p => { p with authFail := p.authFail + 1, tagFails := fails }
  if 16 ≤ fails.length then d1.portDown port 4 true else d1

/-- A frame arrives (R319, R320, R324, R333, R341): nothing unless the port is UP, is not discarding to the next marker, and the
frame is of the row's kinds and, `own`, for this node. Each frame takes a buffer; one that is rejected gives it back at once. -/
def Dev.arrive (port : Nat) (f : Frame) (kinds : List Nat) (own : Bool) (act : Dev → Dev) (d : Dev) : Dev :=
  let p := d.fport port
  let mine := (kinds.contains f.kind || !knownKind f.kind) && (f.dst == d.sw.node) == own
  if p.st ≠ .up ∨ p.skipping ∨ !mine then d
  else
    let take := fun (x : FPort) =>
      let y := { x with framesRx := x.framesRx + 1 }
      if isRsp f then { y with rspUsed := y.rspUsed + 1 } else { y with reqUsed := y.reqUsed + 1 }
    let d1 := d.onFport port take
    if !p.authentic f then (d1.freeBuf port (isRsp f)).tagFailure port
    else
      let d2 := (d1.onFport port fun x => { x with rxCounter := if f.enc then some f.counter else x.rxCounter }).credit port f.credit
      if !frameFits f then (d2.freeBuf port (isRsp f)).discardFrame port
      else if !epochOk d2.sw.epoch f.epoch then
        { d2.freeBuf port (isRsp f) with sw.epochDiscard := d2.sw.epochDiscard + 1 }
      else if own ∧ d2.hg.devState = .safeHold then (d2.freeBuf port (isRsp f)).discardFrame port
      else act d2

/-! ## Requests of other nodes (R325 to R327) -/

/-- Record by which an engine puts a request frame to its home (R219): a posted add and a bulk read go under the engine's own code
(log 32). -/
def frameRec (f : Frame) (engine tag : Nat) : Rec :=
  let bulk := f.kind == 5
  { op := if bulk then 1 else f.kind, aop := f.aop, aty := f.aty, size := f.size, status := 0, address := f.address % 2 ^ 48, port := engine
    unit := if bulk || f.posted then engineUnit else spillUnit, tag, fromHost := false
    data := if bulk then leBytes 8 0 ++ leBytes 4 f.size ++ leBytes 4 0 ++ leBytes 8 0 ++ leBytes 8 0 else f.payload }

/-- An engine passes a request frame to its home over the Basin (R237, R340); its buffer is free again. -/
def Dev.passOn (port : Nat) (f : Frame) (home : Nat) (d : Dev) : Dev :=
  let engine := engineOf port
  let tag := d.cs.nextTag
  let d1 := { (d.freeBuf port false) with cs.nextTag := (tag + 1) % 2 ^ 32, sw.inbound := d.sw.inbound ++ [({ tag, fibre := port, frame := f } : Inbound)] }
  if f.kind = 4 then d1.sendCell { BCell.blank 1 engine home with
    payload := f.payload, length := f.payload.length, address := f.address % 2 ^ 48, transfer := tag, total := f.payload.length, last := true }
  else d1.sendRec 3 engine home (frameRec f engine tag)

/-- Whether an engine's queue toward a home has room (R223, R340). -/
def Dev.homeRoom (d : Dev) (engine home : Nat) : Bool := (d.choosePlane engine home).elim true fun p => decide (d.queued engine p < 256)

/-- Home of a request frame's DPA. -/
def Dev.frameHome (d : Dev) (f : Frame) : Option Nat := d.homePort (f.kind != 1 && f.kind != 5) (f.address % 2 ^ 48)

/-- A request that its destination answers with POISON (R325, R327). -/
def Dev.refuseFrame (port : Nat) (f : Frame) (d : Dev) : Dev :=
  (d.freeBuf port false).respondFrame (engineOf port) f 2 (if f.kind = 5 then zeros f.size else [])

/-- A request frame for this node (R325, R327, R340): MMIO and unpopulated places give POISON, and so does a poisoned payload; else it
goes to its home, or waits while the engine's queue is full. -/
def Dev.serveFrame (port : Nat) (f : Frame) (d : Dev) : Dev :=
  match d.frameHome f with
  | none => (d.notice 0 0).refuseFrame port f
  | some home =>
    if f.poison then d.refuseFrame port f
    else if d.sw.deliver.any (·.1 == port) ∨ !d.homeRoom (engineOf port) home then
      { d with sw.deliver := d.sw.deliver ++ [(port, d.tb.ns, f)] }
    else d.passOn port f home

/-- Frames that waited are passed on in their order while there is room (R340; fuel: their number). -/
def Dev.drain : Nat → Dev → Dev
  | 0, d => d
  | fuel + 1, d =>
    let ready := fun (e : Nat × Nat × Frame) => (d.frameHome e.2.2).elim true fun h => d.homeRoom (engineOf e.1) h
    let first := fun (e : Nat × Nat × Frame) => (d.sw.deliver.find? (·.1 == e.1)) == some e
    match d.sw.deliver.find? fun e => first e && ready e with
    | some e =>
      let d1 := { d with sw.deliver := d.sw.deliver.erase e }
      Dev.drain fuel (match d1.frameHome e.2.2 with
        | some h => d1.passOn e.1 e.2.2 h
        | none => d1.refuseFrame e.1 e.2.2)
    | none => d

/-- Pass on what waits (R340). -/
def Dev.drainAll (d : Dev) : Dev := d.drain d.sw.deliver.length

/-- A request frame of a kind arrives for this node. -/
def Dev.ownRequest (port : Nat) (f : Frame) (kind : Nat) (d : Dev) : Dev :=
  d.drainAll.arrive port f [kind] true (Dev.serveFrame port f)

/-- SPILLWAY_LOAD (R325). -/
def spillwayLoad (port : Nat) (f : Frame) (d : Dev) : Dev := d.ownRequest port f 1
/-- SPILLWAY_LOAD (R325). -/
def execSpillwayLoad (port : Nat) (f : Frame) (s : State) : Result := s.run (.spillwayLoad port f) (spillwayLoad port f)

/-- SPILLWAY_STORE (R325). -/
def spillwayStore (port : Nat) (f : Frame) (d : Dev) : Dev := d.ownRequest port f 2
/-- SPILLWAY_STORE (R325). -/
def execSpillwayStore (port : Nat) (f : Frame) (s : State) : Result := s.run (.spillwayStore port f) (spillwayStore port f)

/-- SPILLWAY_ATOMIC (R325, R327). -/
def spillwayAtomic (port : Nat) (f : Frame) (d : Dev) : Dev := d.ownRequest port f 3
/-- SPILLWAY_ATOMIC (R327). -/
def execSpillwayAtomic (port : Nat) (f : Frame) (s : State) : Result := s.run (.spillwayAtomic port f) (spillwayAtomic port f)

/-- SPILLWAY_BULK_WRITE (R325, R326). -/
def spillwayBulkWrite (port : Nat) (f : Frame) (d : Dev) : Dev := d.ownRequest port f 4
/-- SPILLWAY_BULK_WRITE (R326). -/
def execSpillwayBulkWrite (port : Nat) (f : Frame) (s : State) : Result := s.run (.spillwayBulkWrite port f) (spillwayBulkWrite port f)

/-- SPILLWAY_BULK_READ (R320, R325). -/
def spillwayBulkRead (port : Nat) (f : Frame) (d : Dev) : Dev := d.ownRequest port f 5
/-- SPILLWAY_BULK_READ (R320). -/
def execSpillwayBulkRead (port : Nat) (f : Frame) (s : State) : Result := s.run (.spillwayBulkRead port f) (spillwayBulkRead port f)

/-! ## Leaving (R336) -/

/-- A leave under way is complete when no operation is outstanding (R336): the ports go dark and the fabric axis becomes OFF. -/
def Dev.leaveDone (d : Dev) : Dev :=
  match d.sw.leaving with
  | some l =>
    if !d.sw.ops.isEmpty then d
    else
      let d1 := each (List.range 8) Dev.darken d
      ({ d1 with sw.joined := false, sw.leaving := none, sw.node := 0xFFFF, sw.enabled := 0, sw.encMask := 0, sw.role := 0, sw.table := []
                 sw.deliver := [], sw.inbound := [], sw.members := [], sw.withdrawn := [], sw.rejoins := [], sw.arrivals := []
                 sw.selfOut := false, sw.rootOut := false, sw.rejoinAt := none, sw.outcome := none, sw.root := 0xFFFF } : Dev).answer l.1 stOk (leBytes 4 l.2) 0
  | none => d

/-! ## Responses, timeouts, transit -/

/-- SPILLWAY_RESPONSE (R326, R330, R331): it completes the operation whose tag it carries, or is discarded as late. -/
def spillwayResponse (port : Nat) (f : Frame) (d : Dev) : Dev :=
  d.drainAll.arrive port f [0x81, 0x82, 0x83, 0x84, 0x85] true fun d =>
    let d1 := d.freeBuf port true
    match d1.opOf f with
    | some o =>
      if o.left.isSome ∧ o.ask.op + 0x80 = f.kind then (d1.endOp o f.status f.payload).leaveDone
      else { d1 with sw.lateRsp := d1.sw.lateRsp + 1 }
    | none => { d1 with sw.lateRsp := d1.sw.lateRsp + 1 }
/-- SPILLWAY_RESPONSE (R331). -/
def execSpillwayResponse (port : Nat) (f : Frame) (s : State) : Result := s.run (.spillwayResponse port f) (spillwayResponse port f)

/-- TRANSIT_FORWARD (R337): a frame for another node is queued toward it with one hop less. -/
def transitForward (port : Nat) (f : Frame) (d : Dev) : Dev :=
  d.arrive port f [1, 2, 3, 4, 5, 0x10, 0x11, 0x12, 0x13, 0x81, 0x82, 0x83, 0x84, 0x85] false fun d =>
    if f.hops = 0 then { d.freeBuf port (isRsp f) with sw.hopDiscard := d.sw.hopDiscard + 1 }
    else
      let g := { f with hops := f.hops - 1, enc := false, counter := 0, credit := 0 }
      let r := d.emit (engineOf port) d.tb.ns (some port) g
      if r.2 then r.1 else d.freeBuf port (isRsp f)
/-- TRANSIT_FORWARD (R337). -/
def execTransitForward (port : Nat) (f : Frame) (s : State) : Result := s.run (.transitForward port f) (transitForward port f)

/-- SPILLWAY_TIMEOUT (R330, R331). -/
def spillwayTimeout (gen unit : Nat) (d : Dev) : Dev :=
  let mine := d.sw.ops.filter fun o => o.gen == gen && o.unit == unit && o.left.isSome
  match (sortBy (fun (a b : SwOp) => decide (a.left.getD 0 ≤ b.left.getD 0)) mine).head? with
  | some o => ((d.reach (o.left.getD 0 + d.sw.timeout * 1000)).timeoutOp o).leaveDone
  | none => d
/-- SPILLWAY_TIMEOUT (R331). -/
def execSpillwayTimeout (gen unit : Nat) (s : State) : Result := s.run (.spillwayTimeout gen unit) (spillwayTimeout gen unit)

/-- The operation of an own frame begins to be timed (R330). -/
def Dev.leaves (f : Frame) (d : Dev) : Dev :=
  match d.opOf f with
  | some o => { d with sw.ops := mapIf (· == o) (fun o => { o with left := some d.tb.ns }) d.sw.ops }
  | none => d

/-- FRAME_TRANSMIT (R324, R330, R341): the first queued frame of a class with a credit is sent; its header returns credits. -/
def frameTransmit (port : Nat) (d : Dev) : Dev :=
  let p := d.fport port
  let ok := fun (x : TxFrame) => decide (0 < (if isRsp x.frame then p.rspCredit else p.reqCredit))
  match p.queue.find? ok with
  | none => d
  | some x =>
    if p.st ≠ .up then d
    else
      let rq := min 15 p.reqFree
      let rs := min 15 p.rspFree
      let g := { x.frame with enc := p.enc, counter := if p.enc then p.txCounter else 0, credit := rq + 16 * rs }
      let sent := fun (y : FPort) =>
        let z := { y with queue := y.queue.erase x, reqFree := y.reqFree - rq, rspFree := y.rspFree - rs, framesTx := y.framesTx + 1
                          txCounter := if y.enc then y.txCounter + 1 else y.txCounter }
        if isRsp x.frame then { z with rspCredit := z.rspCredit - 1 } else { z with reqCredit := z.reqCredit - 1 }
      let d1 := { (d.onFport port sent) with sw.sent := (port, g) :: d.sw.sent }
      match x.from_ with
      | some q => d1.freeBuf q (isRsp x.frame)
      | none => if isRsp x.frame then d1 else d1.leaves x.frame
/-- FRAME_TRANSMIT (R324). -/
def execFrameTransmit (port : Nat) (s : State) : Result := s.run (.frameTransmit port) (frameTransmit port)

/-- The transit frame of a cell that crosses the Basin from a fibre port (R337): since when this module holds it. -/
def BCell.heldFor (port : Nat) (c : BCell) : Option Nat := c.frame.bind fun x => if x.2.1 = some port then some x.1 else none

/-- STALE_FRAME_EXPIRY (R338): the frames held at a port for more than 10 ms, also on their way to another engine, are discarded; the timeout
of an own frame runs from its discard. -/
def staleFrameExpiry (port : Nat) (d : Dev) : Dev :=
  let held := ((d.fport port).queue.map (·.since)) ++ (d.sw.deliver.filter (·.1 == port)).map (·.2.1) ++
    (d.ba.out.filterMap fun q => q.cell.heldFor port) ++ d.ba.recv.filterMap fun w => w.2.2.heldFor port
  match held with
  | [] => d
  | t :: ts =>
    let d1 := d.reach (ts.foldl min t + 10000000)
    let old := fun (since : Nat) => decide (since + 10000000 ≤ d1.tb.ns)
    let stale := fun (c : BCell) => (c.heldFor port).any old
    let gone := (d1.fport port).queue.filter fun x => old x.since
    let late := d1.sw.deliver.filter fun e => e.1 == port && old e.2.1
    let cells := (d1.ba.out.filter fun q => stale q.cell).map (·.cell) ++ (d1.ba.recv.filter fun w => stale w.2.2).map (·.2.2)
    let d2 := d1.onFport port fun p => { p with queue := p.queue.filter fun (x : TxFrame) => !old x.since }
    let d3 := { d2 with sw.staleDiscard := d2.sw.staleDiscard + gone.length + late.length + cells.length
                        sw.deliver := d2.sw.deliver.filter fun e => !late.contains e
                        ba.out := d2.ba.out.filter fun q => !stale q.cell
                        ba.recv := d2.ba.recv.filter fun w => !stale w.2.2 }
    let d4 := each gone (fun x d => match x.from_ with
      | some q => d.freeBuf q (isRsp x.frame)
      | none => if isRsp x.frame then d else d.leaves x.frame) d3
    let d5 := each late (fun e d => d.freeBuf e.1 false) d4
    each cells (fun c d => c.frame.elim d fun x => d.freeBuf port (isRsp x.2.2)) d5
/-- STALE_FRAME_EXPIRY (R338). -/
def execStaleFrameExpiry (port : Nat) (s : State) : Result := s.run (.staleFrameExpiry port) (staleFrameExpiry port)

/-! ## Codewords (R318, R319, R324) -/

/-- IDLE_CODEWORD (R324). -/
def idleCodeword (port credit : Nat) (d : Dev) : Dev :=
  let d1 := d.drainAll
  if (d1.fport port).st = .up ∧ !(d1.fport port).skipping then d1.credit port credit else d1
/-- IDLE_CODEWORD (R324). -/
def execIdleCodeword (port credit : Nat) (s : State) : Result := s.run (.idleCodeword port credit) (idleCodeword port credit)

/-- The lanes on the spares of a map of line to lane: lane on line 17, lane on line 16. -/
def sparesOf (map : List Nat) : Nat × Nat :=
  let on := fun (l : Nat) => let v := (map[l]?).getD l; if v = l then 255 else v
  (on 17, on 16)

/-- A lane map falls due at a marker (R314): in force when the partner has confirmed it, else the link goes DOWN with cause LANES. The lane
that a calibration has on line 16 goes back once the calibration is over. -/
def Dev.laneMapDue (port seq : Nat) (d : Dev) : Dev :=
  let p := d.fport port
  match p.laneMap with
  | some (map, at_, confirmed) =>
    let s := sparesOf map
    if seq < at_ then d
    else if !confirmed then d.portDown port 7 true
    else if p.calMap then
      let d1 := d.onFport port fun p => { p with laneMap := none, calMap := false, faultLane := s.1, calNow := some s.2 }
      if (d.optic (fibreOptic port) 0).cal.isSome then d1 else d1.sendMap port s.1 255 false
    else d.onFport port fun p => { p with laneMap := none, faultLane := s.1, calLane := s.2, calNow := none }
  | none => d

/-- Keys that fall due at a marker (R341, R342): each direction's counter starts at 0 for its new key. -/
def Dev.keysDue (port seq : Nat) (d : Dev) : Dev :=
  d.onFport port fun p =>
    let rx := p.keySwitch.elim false fun s => decide (s ≤ seq)
    let tx := p.txSwitch.elim false fun s => decide (s ≤ seq)
    let p1 := if rx then { p with keySwitch := none, rxCounter := none, rxKey := p.rxKey + 1 } else p
    if tx then { p1 with txSwitch := none, txCounter := 0, txKey := p1.txKey + 1, keySince := d.tb.ns } else p1

/-- MARKER (R314, R318, R319, R324, R342). -/
def marker (port credit nextStart seq : Nat) (d : Dev) : Dev :=
  let p := d.fport port
  if p.st ≠ .up ∧ p.st ≠ .training then d
  else
    let up := p.st == .up
    let d1 := d.onFport port fun p => { p with marker := some seq, skipping := p.skipping && nextStart == 0xFFFF }
    if up then (((d1.credit port credit).laneMapDue port seq).keysDue port seq).drainAll else d1
/-- MARKER (R318). -/
def execMarker (port credit nextStart seq : Nat) (s : State) : Result := s.run (.marker port credit nextStart seq) (marker port credit nextStart seq)

/-- Symbols of a codeword that a fibre port receives wrong (R317): those given, and those of the data lanes whose rings do not hold lock;
`c` counts the codeword from the last marker. -/
def Dev.fibreWrong (d : Dev) (port c : Nat) (wrong : List Nat) : Nat :=
  let p := d.fport port
  let line := fun (l : Nat) => if p.faultLane = l then 17 else if p.calLane = l ∨ p.calNow = some l then 16 else l
  let dead := fun (l : Nat) => !(d.ring { port := fibreOptic port, plane := 0, side := .rx, idx := line l }).locked
  (wrong ++ (List.range 36).filter fun j => dead (symbolLane c j)).eraseDups.length

/-- FRAME_UNCORRECTABLE (R319): a frame's codeword `index` comes with wrong symbols; one is corrected and counted (log 108). An uncorrectable
codeword of the payload or tag discards the frame, one of the header all that follows up to the next marker. -/
def frameUncorrectable (port index c : Nat) (wrong : List Nat) (response : Bool) (d : Dev) : Dev :=
  let p := d.fport port
  let n := d.fibreWrong port c wrong
  if p.st ≠ .up ∨ p.skipping ∨ n = 0 then d
  else if n = 1 then d.onFport port fun p => { p with corrected := p.corrected + 1 }
  else
    let d1 := d.log (fibreUnit port) 0 0x0102 3
    let d2 :=
      if index < 2 then d1.onFport port fun p => { p with skipping := true }
      else d1.onFport port fun p => if response then { p with rspFree := p.rspFree + 1 } else { p with reqFree := p.reqFree + 1 }
    d2.discardFrame port
/-- FRAME_UNCORRECTABLE (R319). -/
def execFrameUncorrectable (port : Nat) (errors : CodewordErrors) (response : Bool) (s : State) : Result :=
  s.run (.frameUncorrectable port errors response) (frameUncorrectable port errors.index errors.c errors.wrong response)

/-! ## Link management (R314, R321 to R323, R341, R342) -/

/-- Whether a partner's epoch is acceptable (R333): E or E − 1. -/
def Dev.epochAccepted (d : Dev) (e : Nat) : Bool := e == d.sw.epoch || e + 1 == d.sw.epoch

/-- HELLO (R321 to R323, R333, R341). -/
def hello (port version node epoch reqCredits rspCredits : Nat) (required : Bool) (d : Dev) : Dev :=
  let p := d.fport port
  let d1 := d.onFport port fun p => { p with partner := node % 65536, partnerEpoch := epoch % 2 ^ 32 }
  if p.st ≠ .up ∧ p.st ≠ .training then d
  else if !d.epochAccepted epoch then d1.portDown port 5 true
  else if p.st = .up ∨ version ≠ 1 then d1
  else if required ≠ bitOf d.sw.encMask port then d1.onFport port fun p => { p with cause := 6, helloIn := false }
  else d1.onFport port fun p => { p with helloIn := true, reqCredit := reqCredits, rspCredit := rspCredits }
/-- HELLO (R321). -/
def execHello (port version node epoch reqCredits rspCredits : Nat) (required : Bool) (s : State) : Result :=
  s.run (.hello port version node epoch reqCredits rspCredits required) (hello port version node epoch reqCredits rspCredits required)

/-- HELLO_TIMER (R321): every 10 ms of a port that is UP. -/
def helloTimer (port : Nat) (d : Dev) : Dev :=
  let p := d.fport port
  if p.st ≠ .up then d
  else (d.reach (p.changed + ((d.tb.ns - p.changed) / 10000000 + 1) * 10000000)).sendHello port
/-- HELLO_TIMER (R321). -/
def execHelloTimer (port : Nat) (s : State) : Result := s.run (.helloTimer port) (helloTimer port)

/-- Whether a lane map puts each of the 18 roles on one line. -/
def mapOk (map : List Nat) : Bool := map.all (decide <| · < 18) && (map.eraseDups.length == 18)

/-- LANE_MAP (R314): the confirmation of the map this end sent, or a map that takes effect at its marker and is confirmed. -/
def laneMap (port : Nat) (map : List Nat) (seq : Nat) (d : Dev) : Dev :=
  let p := d.fport port
  let ours := p.laneMap.elim false fun m => m.1 == map && !m.2.2
  if p.st ≠ .up ∨ !mapOk map then d
  else if ours then d.onFport port fun p => { p with laneMap := p.laneMap.map fun m => (m.1, m.2.1, true) }
  else (d.onFport port fun p => { p with laneMap := some (map, seq, true), calMap := false }).sendMgmt port (.laneMap map seq)
/-- LANE_MAP (R314). -/
def execLaneMap (port : Nat) (map : List Nat) (seq : Nat) (s : State) : Result := s.run (.laneMap port map seq) (laneMap port map seq)

/-- LEAVE (R321, R323). -/
def leave (port : Nat) (d : Dev) : Dev := if (d.fport port).st = .up ∨ (d.fport port).st = .training then d.portDown port 3 true else d
/-- LEAVE (R321). -/
def execLeave (port : Nat) (s : State) : Result := s.run (.leave port) (leave port)

/-- SPDM (R341, R342, R483): the agreement goes on, ends well, or ends the link with cause AUTH; without a usable device key it cannot
succeed. A new key of a link that is UP comes into use at the marker that KEY_SWITCH names. -/
def spdm (port : Nat) (done ok : Bool) (d : Dev) : Dev :=
  let p := d.fport port
  if (p.st ≠ .up ∧ p.st ≠ .training) ∨ !bitOf d.sw.encMask port then d
  else if !d.keyUsable ∨ (done && !ok) then d.portDown port 4 true
  else if !done then d.sendMgmt port .spdm
  else if p.st = .training then d.onFport port fun p => { p with keyed := true }
  else
    let at_ := p.marker.getD 0 + 16
    (d.onFport port fun p => { p with txSwitch := some at_ }).sendMgmt port (.keySwitch at_)
/-- SPDM (R341). -/
def execSpdm (port : Nat) (done ok : Bool) (s : State) : Result := s.run (.spdm port done ok) (spdm port done ok)

/-- KEY_SWITCH (R342). -/
def keySwitch (port seq : Nat) (d : Dev) : Dev :=
  if (d.fport port).st = .up ∧ (d.fport port).enc then d.onFport port fun p => { p with keySwitch := some seq } else d
/-- KEY_SWITCH (R342). -/
def execKeySwitch (port seq : Nat) (s : State) : Result := s.run (.keySwitch port seq) (keySwitch port seq)

/-- REKEY_TIMER (R342): after 2^31 frames or 1 h on a key. -/
def rekeyTimer (port : Nat) (d : Dev) : Dev :=
  let p := d.fport port
  if p.st ≠ .up ∨ !p.enc then d
  else (if 2 ^ 31 ≤ p.txCounter then d else d.reach (p.keySince + 3600000000000)).sendMgmt port .spdm
/-- REKEY_TIMER (R342). -/
def execRekeyTimer (port : Nat) (s : State) : Result := s.run (.rekeyTimer port) (rekeyTimer port)

/-- PORT_LOSS_OF_LIGHT (R323): cause LOS or MARKER. -/
def portLossOfLight (port : Nat) (byMarker light : Bool) (d : Dev) : Dev :=
  if (d.fport port).st = .up ∨ (d.fport port).st = .training then d.portDown port (if byMarker then 2 else 1) light else d
/-- PORT_LOSS_OF_LIGHT (R323). -/
def execPortLossOfLight (port : Nat) (byMarker light : Bool) (s : State) : Result :=
  s.run (.portLossOfLight port byMarker light) (portLossOfLight port byMarker light)

/-- APR_ENTRY (R316): 5 ms without light on any line. -/
def aprEntry (port : Nat) (d : Dev) : Dev :=
  let p := d.fport port
  if p.st = .dark ∨ p.st = .probing ∨ p.lost then d
  else
    let d1 := d.portDown port 1 false
    (d1.onFport port fun p => { p with trainSince := none }).setPort port .probing
/-- APR_ENTRY (R316). -/
def execAprEntry (port : Nat) (s : State) : Result := s.run (.aprEntry port) (aprEntry port)

/-- APR_PROBE_LIGHT (R316, R322): full power, and training: every line is to lock and pass its identity check. -/
def aprProbeLight (port : Nat) (d : Dev) : Dev :=
  if (d.fport port).st = .probing then ((d.recheckFibre port .tx true).recheckFibre port .rx true).train port else d
/-- APR_PROBE_LIGHT (R316). -/
def execAprProbeLight (port : Nat) (s : State) : Result := s.run (.aprProbeLight port) (aprProbeLight port)

/-- PORT_UP (R322, R341): every line locked and checked, marker lock, both HELLOs, and the key agreement where encryption is required. -/
def portUp (port : Nat) (d : Dev) : Dev :=
  let p := d.fport port
  let enc := bitOf d.sw.encMask port
  if p.st = .training ∧ p.helloIn ∧ p.marker.isSome ∧ d.linesReady port ∧ (!enc ∨ p.keyed) then
    (d.onFport port fun p => { p with enc, txCounter := 0, rxCounter := none, txKey := p.txKey + natOf enc, rxKey := p.rxKey + natOf enc, keySince := d.tb.ns, trainSince := none, skipping := false }).setPort port .up
  else d
/-- PORT_UP (R322). -/
def execPortUp (port : Nat) (s : State) : Result := s.run (.portUp port) (portUp port)

/-- TRAINING_TIMEOUT (R322): not UP 500 ms after it left PROBING. -/
def trainingTimeout (port : Nat) (d : Dev) : Dev :=
  let p := d.fport port
  match p.trainSince with
  | some t =>
    if p.st = .training then ((d.reach (t + 500000000)).onFport port fun p => { p.unlink with trainSince := none }).setPort port .probing else d
  | none => d
/-- TRAINING_TIMEOUT (R322). -/
def execTrainingTimeout (port : Nat) (s : State) : Result := s.run (.trainingTimeout port) (trainingTimeout port)

/-- SPILLWAY_COMB_FAILURE (R312). -/
def spillwayCombFailure (engine source : Nat) (d : Dev) : Dev :=
  if (d.comb engine source).failed then d
  else
    let u := combUnit (51 + engine) source
    let feeds := d.portFed engine source
    let d1 := ((d.fdm u 1 5 1).notice u 0).onComb engine source fun c => { c with failed := true, moveNext := false, biasNext := false }
    match feeds with
    | some p => d1.toSpare p
    | none => d1
/-- SPILLWAY_COMB_FAILURE (R312). -/
def execSpillwayCombFailure (engine source : Nat) (s : State) : Result := s.run (.spillwayCombFailure engine source) (spillwayCombFailure engine source)

/-! ## Rack barriers (R343 to R345) -/

/-- Whether this module takes part in the barrier of the round (R166, R343, R344). -/
def Dev.inBarrier (d : Dev) : Bool := d.sw.joined && d.sw.role != 0 && !d.sw.selfOut && !d.sw.rootOut && !d.noBarrier

/-- The 16 bytes of a barrier record (R343). -/
def barrierRecord (round group : Nat) (incomplete : Bool) (count : Nat) : List Byte :=
  leBytes 8 round ++ leBytes 2 group ++ leBytes 2 (natOf incomplete) ++ leBytes 4 count

/-- An engine sends a barrier frame to a node (R343): by the route in force; with none it is lost. -/
def Dev.sendBarrier (kind node : Nat) (incomplete : Bool) (count : Nat) (d : Dev) : Dev :=
  let f : Frame :=
    { kind, enc := false, poison := false, posted := false, last := false, dst := node, src := d.sw.node, address := 0, gen := 0, unit := 0
      hops := d.sw.maxHops, credit := 0, epoch := d.sw.epoch % 65536, aop := 0, aty := 0, status := 0, size := 16, counter := 0, tagOk := true
      payload := barrierRecord d.rd.number d.sw.group incomplete count }
  match d.route node with
  | some p => d.enqueue p d.tb.ns none f
  | none => d

/-- Nodes that the root counts (R343, R344): its members and itself, without those withdrawn. -/
def Dev.expectedNodes (d : Dev) : List Nat := ((d.sw.node :: d.sw.members).eraseDups).filter fun n => !d.sw.withdrawn.contains n

/-- The outcome of the round's barrier is known (R345): held for the barrier word, and sent to the Headgate (R281). -/
def Dev.barrierOutcome (arrivals outcome withdrawn : Nat) (d : Dev) : Dev :=
  Dev.sendCtl 51 48 (.barrier d.rd.number arrivals outcome withdrawn) { d with sw.outcome := some (d.rd.number, arrivals, outcome, withdrawn) }

/-- The root releases the round (R343). -/
def Dev.release (d : Dev) : Dev :=
  if d.sw.released then d
  else
    let nodes := d.expectedNodes
    let bad := !(nodes.all fun n => d.sw.arrivals.any (·.1 == n)) || d.sw.arrivals.any (·.2)
    let count := d.sw.arrivals.length
    let d1 := { d with sw.released := true }
    let d2 := each (nodes.filter (· != d.sw.node)) (fun n d => d.sendBarrier 0x11 n bad count) d1
    d2.barrierOutcome count (natOf bad) d.sw.withdrawn.length

/-- The root releases when every arrival is in (R343). -/
def Dev.releaseIfAll (d : Dev) : Dev := if d.expectedNodes.all fun n => d.sw.arrivals.any (·.1 == n) then d.release else d

/-- An arrival is counted at the root (R343): once for each node that is expected, before the release. -/
def Dev.countArrival (node : Nat) (incomplete : Bool) (d : Dev) : Dev :=
  if d.sw.released || !d.expectedNodes.contains node || d.sw.arrivals.any (·.1 == node) then d
  else ({ d with sw.arrivals := d.sw.arrivals ++ [(node, incomplete)] } : Dev).releaseIfAll

/-- This module's own arrival (R343): sent to the root, or counted when it is the root. -/
def Dev.arriveBarrier (incomplete : Bool) (d : Dev) : Dev :=
  if d.sw.arrived || !d.inBarrier then d
  else
    let d1 := { d with sw.arrived := true }
    if d1.sw.role = 2 then d1.countArrival d1.sw.node incomplete else d1.sendBarrier 0x10 d1.sw.root incomplete 0

/-- Whether a remote access changes what it names. -/
def opWrites : RemoteOp → Bool
  | .store _ _ => true
  | .atomic _ _ _ _ _ => true
  | _ => false

/-- Whether an operation that the barrier of the round covers is outstanding (R343): a store, atomic or bulk write issued before the
stage deadline, whether its frame is at an engine or not yet. -/
def Dev.coveredOps (d : Dev) : Bool :=
  let before := fun (t : Nat) => decide (t < d.rd.start + d.rd.period - 40000)
  (d.sw.ops.any fun o => (o.ask.op == 2 || o.ask.op == 3 || o.ask.op == 4) && before o.issued) ||
  (d.cs.parked.any fun p => p.rack && opWrites p.op && before p.issued) ||
  d.cs.transfers.any fun x => x.rack && !x.desc.isRead && before x.issued

/-- BARRIER_ARRIVE_SEND (R343): after the stage deadline, once every covered operation has ended. -/
def barrierArriveSend (d : Dev) : Dev :=
  if !d.rd.active || d.sw.arrived || d.coveredOps || !d.inBarrier then d
  else (d.reach (d.rd.start + d.rd.period - 40000)).arriveBarrier false
/-- BARRIER_ARRIVE_SEND (R343). -/
def execBarrierArriveSend (s : State) : Result := s.run .barrierArriveSend barrierArriveSend

/-- BARRIER_ARRIVE_DEADLINE (R343): +P − 25 µs. -/
def barrierArriveDeadline (d : Dev) : Dev := d.onPoint .arriveDeadline (d.rd.period - 25000) (Dev.arriveBarrier true)
/-- BARRIER_ARRIVE_DEADLINE (R343). -/
def execBarrierArriveDeadline (s : State) : Result := s.run .barrierArriveDeadline barrierArriveDeadline

/-- Whether a frame's barrier record is of this group, and, `now`, of the round in progress (R343). -/
def Dev.ofRound (d : Dev) (f : Frame) (now : Bool) : Bool := u16 f.payload 8 == d.sw.group && (!now || (d.rd.active && u64 f.payload 0 == d.rd.number))

/-- A barrier frame arrives and gives its buffer back. -/
def Dev.barrierFrame (port : Nat) (f : Frame) (kind : Nat) (act : Dev → Dev) (d : Dev) : Dev :=
  d.arrive port f [kind] true fun d => act (d.freeBuf port false)

/-- BARRIER_ARRIVE (R343): at the root. -/
def barrierArrive (port : Nat) (f : Frame) (d : Dev) : Dev :=
  d.barrierFrame port f 0x10 fun d =>
    if d.sw.role = 2 ∧ d.inBarrier ∧ d.ofRound f true then d.countArrival f.src (bitOf (u16 f.payload 10) 0) else d
/-- BARRIER_ARRIVE (R343). -/
def execBarrierArrive (port : Nat) (f : Frame) (s : State) : Result := s.run (.barrierArrive port f) (barrierArrive port f)

/-- BARRIER_RELEASE_DEADLINE (R343): +P − 15 µs. -/
def barrierReleaseDeadline (d : Dev) : Dev :=
  d.onPoint .releaseDeadline (d.rd.period - 15000) fun d => if d.sw.role = 2 ∧ d.inBarrier then d.release else d
/-- BARRIER_RELEASE_DEADLINE (R343). -/
def execBarrierReleaseDeadline (s : State) : Result := s.run .barrierReleaseDeadline barrierReleaseDeadline

/-- BARRIER_RELEASE (R343, R345): at a member, from its root. -/
def barrierRelease (port : Nat) (f : Frame) (withdrawn : Nat) (d : Dev) : Dev :=
  d.barrierFrame port f 0x11 fun d =>
    if d.sw.role = 1 ∧ d.inBarrier ∧ f.src = d.sw.root ∧ d.ofRound f true ∧ d.sw.outcome = none then
      d.barrierOutcome (u32 f.payload 12) (u16 f.payload 10 % 2) (withdrawn % 65536)
    else d
/-- BARRIER_RELEASE (R343). -/
def execBarrierRelease (port : Nat) (f : Frame) (withdrawn : Nat) (s : State) : Result :=
  s.run (.barrierRelease port f withdrawn) (barrierRelease port f withdrawn)

/-- BARRIER_MISSED (R343): +P − 10 µs. -/
def barrierMissed (d : Dev) : Dev :=
  d.onPoint .barrierMissed (d.rd.period - 10000) fun d =>
    if d.sw.role = 1 ∧ d.inBarrier ∧ d.sw.outcome = none then d.barrierOutcome 0 2 0 else d
/-- BARRIER_MISSED (R343). -/
def execBarrierMissed (s : State) : Result := s.run .barrierMissed barrierMissed

/-- BARRIER_WITHDRAW (R344): the root counts one member fewer, or a member is suspended with its root. -/
def barrierWithdraw (port : Nat) (f : Frame) (d : Dev) : Dev :=
  d.barrierFrame port f 0x12 fun d =>
    if !d.ofRound f false then d
    else if d.sw.role = 2 ∧ d.sw.members.contains f.src then
      let d1 := { d with sw.withdrawn := insertNew f.src d.sw.withdrawn, sw.rejoins := d.sw.rejoins.filter (· != f.src) }
      if d1.inBarrier ∧ d1.rd.active then d1.releaseIfAll else d1
    else if d.sw.role = 1 ∧ f.src = d.sw.root then { d with sw.rootOut := true, sw.rejoins := [] }
    else d
/-- BARRIER_WITHDRAW (R344). -/
def execBarrierWithdraw (port : Nat) (f : Frame) (s : State) : Result := s.run (.barrierWithdraw port f) (barrierWithdraw port f)

/-- BARRIER_REJOIN (R344): from the round that follows. -/
def barrierRejoin (port : Nat) (f : Frame) (d : Dev) : Dev :=
  d.barrierFrame port f 0x13 fun d =>
    let known := (d.sw.role == 2 && d.sw.withdrawn.contains f.src) || (d.sw.role == 1 && f.src == d.sw.root)
    if d.ofRound f false && known then { d with sw.rejoins := insertNew f.src d.sw.rejoins } else d
/-- BARRIER_REJOIN (R344). -/
def execBarrierRejoin (port : Nat) (f : Frame) (s : State) : Result := s.run (.barrierRejoin port f) (barrierRejoin port f)

/-- HOLDOVER_AGE_LIMIT (R166, R344): the age passes 10 s; the withdrawal follows at the next boundary. -/
def holdoverAgeLimit (d : Dev) : Dev :=
  match d.tb.holdSince with
  | some t => if d.tbAxis = 1 then d.reach (t + 10000000001) else d
  | none => d
/-- HOLDOVER_AGE_LIMIT (R344). -/
def execHoldoverAgeLimit (s : State) : Result := s.run .holdoverAgeLimit holdoverAgeLimit

/-- Barriers at a round boundary (R344): rejoins take effect, this module withdraws or asks to rejoin, and the counts of the new round
begin. -/
def Dev.barrierBoundary (d : Dev) : Dev :=
  let d0 := { d with sw.arrivals := [], sw.arrived := false, sw.released := false, sw.outcome := none }
  if !d.sw.joined ∨ d.sw.role = 0 then d0
  else
    let d1 := { d0 with sw.withdrawn := d.sw.withdrawn.filter (fun n => !d.sw.rejoins.contains n)
                        sw.rootOut := d.sw.rootOut && !d.sw.rejoins.contains d.sw.root, sw.rejoins := []
                        sw.selfOut := d.sw.selfOut && d.sw.rejoinAt.elim true (fun r => decide (d.rd.number < r))
                        sw.rejoinAt := d.sw.rejoinAt.bind fun r => if d.rd.number < r then some r else none }
    let goal := if d1.sw.role = 2 then d1.sw.members.filter (· != d1.sw.node) else [d1.sw.root]
    let tell := fun (kind : Nat) (d : Dev) => each goal (fun n d => d.sendBarrier kind n false 0) d
    if !d1.sw.selfOut ∧ d1.noBarrier then tell 0x12 { d1 with sw.selfOut := true, sw.rejoinAt := none }
    else if d1.sw.selfOut ∧ d1.noBarrier then { d1 with sw.rejoinAt := none }
    else if d1.sw.selfOut ∧ d1.tbAxis = 0 ∧ d1.sw.rejoinAt = none then tell 0x13 { d1 with sw.rejoinAt := some (d1.rd.number + 1) }
    else d1

/-! ## Fabric commands (R332 to R336) -/

/-- Whether a range of a FABRIC_JOIN field holds. -/
def joinFits (b : List Byte) : Bool :=
  let role := u8 b 13
  let t := u32 b 8
  u16 b 0 != 0xFFFF && u32 b 4 != 0 && (t == 0 || (decide (20 ≤ t) && decide (t ≤ 100000))) && decide (u8 b 12 ≤ 31) && decide (role ≤ 2) &&
  (if role = 1 then u16 b 16 != 0xFFFF else u16 b 16 == 0xFFFF) && u16 b 18 == 0 &&
  (if role = 2 then decide (2 ≤ u32 b 20) && decide (u32 b 20 ≤ 65535) else u32 b 20 == 0 && u64 b 24 == 0)

/-- The node ids of a member list. -/
def nodeList (bs : List Byte) : List Nat := (List.range (bs.length / 2)).map fun i => u16 bs (2 * i)

/-- The members that a FABRIC_JOIN of a root names: none when the list cannot be read or names no node. -/
def Dev.joinMembers (d : Dev) (b : List Byte) : Option (List Nat) :=
  if u8 b 13 ≠ 2 then some []
  else if !d.rangePopulated (u64 b 24) (2 * u32 b 20) then none
  else match d.readBytes (u64 b 24) (2 * u32 b 20) with
    | some bs => if (nodeList bs).all (· != 0xFFFF) then some (nodeList bs) else none
    | none => none

/-- A port's comb source has failed before (R312): the hot spare feeds it, or it stays dark. -/
def Dev.feedPort (port : Nat) (d : Dev) : Dev :=
  if (d.comb (port / 2) (d.feedOf port)).failed then d.toSpare port else d

/-- The fabric is joined (R332): the enabled ports begin to probe. -/
def Dev.joinFabric (b : List Byte) (members : List Nat) (d : Dev) : Dev :=
  let d1 :=
    { d with
      sw.joined := true
      sw.node := u16 b 0
      sw.enabled := u8 b 2
      sw.encMask := u8 b 3
      sw.epoch := u32 b 4
      sw.timeout := if u32 b 8 = 0 then 1000 else u32 b 8
      sw.maxHops := if u8 b 12 = 0 then 8 else u8 b 12
      sw.role := u8 b 13
      sw.group := u16 b 14
      sw.root := u16 b 16
      sw.members := members
      sw.table := []
      sw.withdrawn := []
      sw.selfOut := false
      sw.rootOut := false
      sw.rejoins := []
      sw.rejoinAt := none
      sw.arrivals := []
      sw.arrived := false
      sw.released := false
      sw.outcome := none }
  let ports := (List.range 8).filter (bitOf (u8 b 2))
  each ports (fun p d => (d.feedPort p).probe p) d1

/-- FABRIC_JOIN (R310, R332, R343). -/
def fabricJoin (ch : Nat) (d : Dev) : Dev :=
  d.onCommand 0x0302 ch fun _ b d =>
    let n := 2 * u32 b 20
    if d.sw.joined ∨ (d.noBarrier ∧ (u8 b 13 = 1 ∨ u8 b 13 = 2)) then d.failState ch
    else if !joinFits b then d.fail ch stBadParam
    else if u8 b 13 = 2 ∧ d.rangePopulated (u64 b 24) n ∧ d.mustSnoop (u64 b 24) n then d.snoopRange (u64 b 24) n
    else match d.joinMembers b with
      | none => d.fail ch stBadParam
      | some ms => if !bitOf d.fw.features 0 then d.fail ch stNotLicensed else (d.joinFabric b ms).answer ch stOk [] 0
/-- FABRIC_JOIN (R332). -/
def execFabricJoin (ch : Nat) (s : State) : Result := s.run (.fabricJoin ch) (fabricJoin ch)

/-- FABRIC_LEAVE (R336): LEAVE goes out on every UP port, and the command waits for the operations that are outstanding. -/
def fabricLeave (ch : Nat) (d : Dev) : Dev :=
  d.onCommand 0x0303 ch fun _ _ d =>
    if !d.sw.joined then d.failState ch
    else match d.sw.leaving with
      | some l => if l.1 = ch then d.leaveDone else d.failState ch
      | none =>
        let up := (List.range 8).filter fun p => (d.fport p).st == .up
        (each up (fun p (d : Dev) => d.sendMgmt p .leave) { d with sw.leaving := some (ch, 0) }).leaveDone
/-- FABRIC_LEAVE (R336). -/
def execFabricLeave (ch : Nat) (s : State) : Result := s.run (.fabricLeave ch) (fabricLeave ch)

/-- Whether the fields of a FABRIC_TABLE_SET hold (R335). -/
def Dev.tableFits (d : Dev) (b : List Byte) : Bool :=
  let mode := u8 b 0
  let n := u32 b 4
  decide (mode ≤ 1) && decide (u8 b 1 ≤ 1) && decide (1 ≤ n) && decide (n ≤ if mode = 0 then 472 else 65536) && decide (u16 b 2 + n ≤ 65536) &&
  (if u8 b 1 = 1 then u32 b 8 == d.sw.epoch + 1 else u32 b 8 == 0) && u32 b 12 == 0 &&
  (if mode = 0 then allZero (b.drop (16 + 2 * n)) else allZero (b.drop 24) && u64 b 16 % 64 == 0)

/-- The entries that a FABRIC_TABLE_SET gives. -/
def Dev.tableEntries (d : Dev) (b : List Byte) : Option (List Nat) :=
  let n := u32 b 4
  let bytes := if u8 b 0 = 0 then some (slice b 16 (2 * n))
    else if d.rangePopulated (u64 b 16) (2 * n) then d.readBytes (u64 b 16) (2 * n) else none
  bytes.bind fun bs => if (nodeList bs).all fun e => decide (e < 4096) then some (nodeList bs) else none

/-- Every engine's copy of the route table takes the new entries (R335); the entries with nothing valid are not listed. -/
def setTable (first : Nat) (entries : List Nat) (t : List (Nat × Nat)) : List (Nat × Nat) :=
  (t.filter fun e => decide (e.1 < first) || decide (first + entries.length ≤ e.1)) ++
  (entries.zipIdx.filter (·.1 != 0)).map fun e => (first + e.2, e.1)

/-- FABRIC_TABLE_SET (R333, R335): a new epoch is in force at its completion, and goes out by HELLO (R321). -/
def fabricTableSet (ch : Nat) (d : Dev) : Dev :=
  d.onCommand 0x0304 ch fun _ b d =>
    let n := 2 * u32 b 4
    if !d.sw.joined then d.failState ch
    else if !d.tableFits b then d.fail ch stBadParam
    else if u8 b 0 = 1 ∧ d.rangePopulated (u64 b 16) n ∧ d.mustSnoop (u64 b 16) n then d.snoopRange (u64 b 16) n
    else match d.tableEntries b with
      | none => d.fail ch stBadParam
      | some es =>
        let d1 := { d with sw.table := setTable (u16 b 2) es d.sw.table }
        let up := (List.range 8).filter fun p => (d.fport p).st == .up
        let d2 := if u8 b 1 = 1 then each up Dev.sendHello { d1 with sw.epoch := u32 b 8 } else d1
        d2.answer ch stOk [] 0
/-- FABRIC_TABLE_SET (R335). -/
def execFabricTableSet (ch : Nat) (s : State) : Result := s.run (.fabricTableSet ch) (fabricTableSet ch)

/-- The 64 bytes of a port record (10, after `FABRIC_QUERY`). -/
def Dev.portRecord (d : Dev) (port : Nat) : List Byte :=
  let p := d.fport port
  leBytes 1 port ++ leBytes 1 (stateCode p.st) ++ leBytes 1 p.cause ++ leBytes 1 (natOf p.enc) ++ leBytes 2 p.partner ++ leBytes 2 p.partnerEpoch ++
  leBytes 1 p.faultLane ++ leBytes 1 p.calLane ++ zeros 2 ++ leInt 4 (d.optic (fibreOptic port) 0).margin ++ leBytes 8 p.framesTx ++ leBytes 8 p.framesRx ++
  leBytes 8 p.corrected ++ leBytes 8 p.discarded ++ leBytes 8 p.authFail ++ leBytes 8 p.changed

/-- The response body of FABRIC_QUERY (10). -/
def Dev.fabricBody (d : Dev) : List Byte :=
  let barrier := if d.sw.role = 0 then 0 else if d.sw.selfOut ∨ d.noBarrier then 2 else 1
  leBytes 2 (if d.sw.joined then d.sw.node else 0xFFFF) ++ leBytes 1 d.fabricAxis ++ leBytes 1 barrier ++ leBytes 4 d.sw.epoch ++ leBytes 4 d.sw.timeout ++
  zeros 4 ++ leBytes 8 d.sw.noRoute ++ leBytes 8 d.sw.epochDiscard ++ leBytes 8 d.sw.hopDiscard ++ leBytes 8 d.sw.staleDiscard ++
  leBytes 8 d.sw.lateRsp ++ zeros 8 ++ ((List.range 8).map d.portRecord).flatten

/-- FABRIC_QUERY (R336). -/
def fabricQuery (ch : Nat) (d : Dev) : Dev := d.onCommand 0x0305 ch fun _ _ d => d.answer ch stOk d.fabricBody 0
/-- FABRIC_QUERY (R336). -/
def execFabricQuery (ch : Nat) (s : State) : Result := s.run (.fabricQuery ch) (fabricQuery ch)

end Sys2Proof.Machine
end

