-- ==== Sys2Proof/Machine/Compute.lean ====
section
/-!
DEFINITION. The compute stacks (chapter 03): remote accesses of Tally threads, transfer descriptors, fences, bond beats, core ageing,
and the resets of a stack.
-/

namespace Sys2Proof.Machine

/-! ## Remote accesses (R79, R148) -/

/-- Whether a thread can issue (R69, R78, R79, R103, R521): a Tally thread of a running site that waits for nothing. -/
def Dev.canIssue (d : Dev) (t : Thread) : Bool :=
  decide (18 ≤ t.pos) && !d.bondLooped && (d.site t.site).phase == .running && d.inService t.site && (d.parkedOp t).isNone && !d.cs.waiting.any (·.1 == t) &&
  !d.cs.suspended.any (·.thread == t) && !((d.fa.testing ++ d.fa.resume).any fun u => unitHasCore u (t.site, t.stand, t.pos))

/-- Whether a load or store issues (R148). -/
def remoteIssues (size a : Nat) : Bool :=
  decide (8 ≤ size) && decide (size ≤ 256) && size % 8 == 0 && a % 8 == 0 && a / 256 == (a + size - 1) / 256

/-- Whether the sizes, types and alignment of an access let it issue (R79, R81, R148). -/
def opIssues (own : Nat) : RemoteOp → Bool
  | .load a n => remoteIssues n a
  | .store a data => remoteIssues data.length a
  | .atomic op ty a _ _ => atomicPair op ty && a % ty.bytes == 0
  | .fence => true
  | .standLoad st off n => st != own && decide (1 ≤ n) && decide (n ≤ 256) && decide (off + n ≤ 0x200000)
  | .standStore st off data => st != own && decide (1 ≤ data.length) && decide (data.length ≤ 256) && decide (off + data.length ≤ 0x200000)
  | .standAtomic op ty st off _ _ => st != own && atomicPair op ty && off % ty.bytes == 0
  | .awaitDescriptor _ => true

/-- Operand bytes of an atomic (R219): the operand, and for a compare-and-swap the value to compare. -/
def atomicData (op : AtomicOp) (ty : AtomicTy) (operand compare : Nat) : List Byte :=
  leBytes ty.bytes operand ++ if op = .cas then leBytes ty.bytes compare else []

/-- The request record of an access (R219). -/
def accessRec (t : Thread) (tag : Nat) (op : RemoteOp) : Rec :=
  let r : Rec := { op := 1, aop := 0, aty := 0, size := 0, status := 0, address := 0, port := t.site, unit := threadCode t, tag, data := [], fromHost := false }
  match op with
  | .load a n => { r with size := n, address := a }
  | .store a data => { r with op := 2, size := data.length, address := a, data }
  | .atomic op ty a x y =>
    let data := atomicData op ty x y
    { r with op := 3, aop := op.code, aty := ty.code, size := data.length, address := a, data }
  | _ => r

/-- Port to which an access on the package goes (R237, R281): its home, the owner of its MMIO page; none where nothing is populated. -/
def Dev.accessPort (d : Dev) (op : RemoteOp) (a : Nat) : Option Nat :=
  let write := match op with
    | .load _ _ => false
    | _ => true
  match d.homePort write a with
  | some p => some p
  | none =>
    if !((placeOf d.mBytes a) matches .mmio _) then none
    else
      let page := (a - 0x300000000000) / 0x1000
      if page < 2 then some 48 else some (stackSite (page - 16))

/-- An access on the package (R79, R80, R91, R102, R237, R281): a CACHED read goes to its slice, the site's own scratch is reached
within the site; a job page's store counts as a job; an unpopulated place gives POISON and is recorded. -/
def Dev.accessHere (t : Thread) (op : RemoteOp) (a tag : Nat) (rack : Bool) (d : Dev) : Dev :=
  match d.accessPort op a with
  | none => (d.notice 0 0).finishThread t 2 []
  | some port =>
    let r := { accessRec t tag op with address := a }
    if port = t.site then d
    else match d.cachedRead { t, op, rack, issued := 0, tag, lost := 0, group := none } with
      | some line => d.wantLine t line
      | none =>
        let d1 := if !rack && r.isJob port then { d with cs.jobs := d.cs.jobs ++ [(tag, t, d.tb.ns)] } else d
        d1.sendRec 3 t.site port r

/-- An access to another node (R331, R334, R336): to the engine whose port the route selects; TIMEOUT at once when no operation is
issued or no route exists. An access whose operands are poisoned has a cell of its own, which carries the mark (R243, R528). -/
def Dev.accessFar (t : Thread) (op : RemoteOp) (a tag : Nat) (poison posted : Bool) (d : Dev) : Dev :=
  if !d.rackOpen then (d.lose t true).finishThread t 1 []
  else match d.route (a / 2 ^ 48) with
    | some p =>
      let r := { accessRec t tag op with posted }
      if poison then Dev.sendCell { BCell.blank 3 t.site (engineOf p) with recs := [r], length := r.bytes, poison := true } d
      else d.sendRec 3 t.site (engineOf p) r
    | none => (Dev.lose t true { d with sw.noRoute := d.sw.noRoute + 1 }).finishThread t 1 []

/-- TALLY_REMOTE_ACCESS (R79, R148): the thread parks. -/
def tallyRemoteAccess (t : Thread) (rack : Bool) (op : RemoteOp) (d : Dev) : Dev :=
  if !d.canIssue t || !opIssues t.stand op then d
  else
    let tag := d.cs.nextTag
    let d1 := Dev.park t op rack tag 0 { d with cs.nextTag := (tag + 1) % 2 ^ 32 }
    match opAddress op with
    | none => d1
    | some a =>
      if rack && a / 2 ^ 48 != d.sw.node then d1.accessFar t op a tag false false
      else d1.accessHere t op (a % 2 ^ 48) tag rack
/-- TALLY_REMOTE_ACCESS (R79). -/
def execTallyRemoteAccess (t : Thread) (rack : Bool) (op : RemoteOp) (s : State) : Result :=
  s.run (.tallyRemoteAccess t rack op) (tallyRemoteAccess t rack op)

/-! ## Transfer descriptors (R80, R308, R326) -/

/-- Descriptors pending on a Stand. -/
def Dev.pendingOn (d : Dev) (t : Thread) : Nat := (d.cs.transfers.filter fun x => x.t.site == t.site && x.t.stand == t.stand).length

/-- Add a piece to the part of its home. -/
def addPiece (port n : Nat) (parts : List XferPart) : List XferPart :=
  upsert (·.port == port) { tag := 0, port, total := 0, got := 0, done := false } (fun (p : XferPart) => { p with total := p.total + n }) parts

/-- The parts of a transfer on the package: one for each home; none when a piece is not populated. -/
def Dev.partsOf (d : Dev) (x : XferDesc) : Option (List XferPart) :=
  (allPieces x).foldl (fun (acc : Option (List XferPart)) (p : Nat × Nat) =>
    acc.bind fun ps => (d.homePort (!x.isRead) ((x.remote + p.1) % 2 ^ 48)).map fun port =>
      addPiece port (p.2 + if p.1 + p.2 = x.length then extraBytes x else 0) ps) (some [])

/-- Whether the transfer engine refuses a descriptor (R308; log 34): a Cruiser's transfer over 64 KiB, with more than one home, or not
with a stack of the package. -/
def refusesCruiser (x : XferDesc) (far : Bool) (parts : List XferPart) : Bool :=
  match x.cruiser with
  | .none => false
  | _ => decide (65536 < x.length) || far || parts.length != 1 || x.scatterAdd.isSome || !parts.all fun p => isMemory p.port

/-- A descriptor ends before anything is sent. -/
def Dev.endDescriptor (tag status : Nat) (d : Dev) : Dev := { d with cs.ended := (tag, status) :: d.cs.ended }

/-- A descriptor becomes pending (R80, R326, R331, R336). -/
def Dev.startTransfer (t : Thread) (desc : XferDesc) (d : Dev) : Dev :=
  let tag := d.cs.nextTag
  let far := desc.rack && desc.remote / 2 ^ 48 != d.sw.node
  let next := fun (n : Nat) (d : Dev) => { d with cs.nextTag := (tag + 1 + n) % 2 ^ 32 }
  let begin_ := fun (desc : XferDesc) (parts : List XferPart) =>
    let named := parts.zipIdx.map fun e => { e.1 with tag := (tag + 1 + e.2) % 2 ^ 32 }
    let group := d.chooseGroup t.site t.stand
    let x : Transfer :=
      { tag, t, rack := desc.rack, desc := { desc with rack := far }, issued := d.tb.ns, sent := 0, parts := named, status := 0, timedOut := false, group }
    next parts.length { d with cs.transfers := d.cs.transfers ++ [x] }
  if desc.length = 0 then (next 0 d).endDescriptor tag 0
  else if far then
    if refusesCruiser desc true [] then (next 0 d).endDescriptor tag 2
    else if !d.rackOpen then ((next 0 d).lose t true).endDescriptor tag 1
    else match d.route (desc.remote / 2 ^ 48) with
      | some p => begin_ desc [{ tag := 0, port := engineOf p, total := desc.length, got := 0, done := false }]
      | none => (Dev.lose t true { next 0 d with sw.noRoute := d.sw.noRoute + 1 }).endDescriptor tag 1
  else match d.partsOf desc with
    | some parts => if refusesCruiser desc false parts then (next 0 d).endDescriptor tag 2 else begin_ { desc with remote := desc.remote % 2 ^ 48 } parts
    | none => ((next 0 d).notice 0 0).endDescriptor tag 2

/-- TRANSFER_DESCRIPTOR_WRITE (R80): the 33rd pending descriptor of a Stand parks its thread. -/
def transferDescriptorWrite (t : Thread) (desc : XferDesc) (d : Dev) : Dev :=
  if !d.canIssue t then d
  else if 32 ≤ d.pendingOn t then { d with cs.waiting := d.cs.waiting ++ [(t, desc)] }
  else d.startTransfer t desc
/-- TRANSFER_DESCRIPTOR_WRITE (R80). -/
def execTransferDescriptorWrite (t : Thread) (desc : XferDesc) (s : State) : Result :=
  s.run (.transferDescriptorWrite t desc) (transferDescriptorWrite t desc)

/-! ## Completion (R79, R298, R329) -/

/-- Whether everything that a fence covers has completed or ended (R298, R329): the thread's transfers, and its jobs for PACKAGE scope. -/
def Dev.fenceDone (d : Dev) (t : Thread) (rack : Bool) : Bool :=
  !(d.cs.transfers.any fun x => x.t == t && x.rack == rack) && (rack || !(d.cs.jobs.any fun j => j.2.1 == t))

/-- A fence completes (R149): 0, or FENCE_INCOMPLETE with the number that timed out since the last one. -/
def Dev.finishFence (t : Thread) (rack : Bool) (d : Dev) : Dev :=
  let n := d.lostBy t rack
  Dev.finishThread t (if n = 0 then 0 else 3 + n % 2 ^ 24 * 256) [] { d with cs.lost := d.cs.lost.filter fun e => !(e.1 == t && e.2.1 == rack) }

/-- An access to the site's own scratch (R90, R95, R102); `bad`: a word that it reads is wrong beyond correction. -/
def Dev.ownAccess (t : Thread) (op : RemoteOp) (bad : Bool) (d : Dev) : Dev :=
  let poison := (d.notice 0 0).finishThread t 2 []
  let lost := fun (a : Nat) => (d.finishThread t 2 []).uncorrectable (d.sliceUnit t.site a) 5
  let ok := fun (a : Nat) => d.scratchOk t.site (a - scratchKey t.site 0)
  match op with
  | .load a0 n =>
    let a := a0 % 2 ^ 48
    if !ok a then poison else if bad then lost a else match d.readBytes a n with
      | some bs => d.finishThread t 0 bs
      | none => d.finishThread t 2 []
  | .store a0 data => let a := a0 % 2 ^ 48; if !ok a then poison else (d.store a data).finishThread t 0 []
  | .atomic o ty a0 x y =>
    let a := a0 % 2 ^ 48
    if !ok a then poison else if bad then lost a else match d.readBytes a ty.bytes with
      | some bs => (d.store a (leBytes ty.bytes (atomicNew o ty (leNat bs) x y))).finishThread t 0 bs
      | none => d.finishThread t 2 []
  | _ => d

/-- The words of another Stand's memory that an access reads: first and number; `none` for other accesses. -/
def standWords : RemoteOp → Option (Nat × Nat × Nat)
  | .standLoad st off n => some (st, (st * 0x200000 + off) / 16, ((st * 0x200000 + off) % 16 + n + 15) / 16)
  | .standAtomic _ ty st off _ _ => some (st, (st * 0x200000 + off) / 16, ((st * 0x200000 + off) % 16 + ty.bytes + 15) / 16)
  | _ => none

/-- A Stand word that a read finds wrong beyond correction keeps giving POISON until a write replaces it (R77). -/
def Dev.badWord (site w : Nat) (d : Dev) : Dev :=
  (d.onSite site fun s => { s with standPoison := insertNew w s.standPoison }).uncorrectable (standUnit site (w / 0x20000)) 5

/-- An access to the memory of another Stand (R77, R81). -/
def Dev.standAccess (t : Thread) (op : RemoteOp) (d : Dev) : Dev :=
  let at_ := fun (st off : Nat) => st * 0x200000 + off
  match op with
  | .standLoad st off n => match d.readStand t.site (at_ st off) n with
    | some bs => d.finishThread t 0 bs
    | none => d.finishThread t 2 []
  | .standStore st off data => (d.writeStand t.site (at_ st off) data).finishThread t 0 []
  | .standAtomic o ty st off x y => match d.readStand t.site (at_ st off) ty.bytes with
    | some bs => (d.writeStand t.site (at_ st off) (leBytes ty.bytes (atomicNew o ty (leNat bs) x y))).finishThread t 0 bs
    | none => d.finishThread t 2 []
  | _ => d

/-- The data of a CACHED read that hits (R92). -/
def Dev.hit (p : Parked) (line : Nat) (d : Dev) : Dev :=
  match (d.site p.t.site).cache.find? (·.1 == line) with
  | some e => d.finishThread p.t 0 (p.fromLine e.2)
  | none => d

/-- Stand that an access to another Stand's memory goes to. -/
def opStand : RemoteOp → Option Nat
  | .standLoad st _ _ => some st
  | .standStore st _ _ => some st
  | .standAtomic _ _ st _ _ _ => some st
  | _ => none

/-- An access to another Stand completes (R82): those that the same source Stand sent to the same Stand before it have arrived first. -/
def Dev.standArrives (p : Parked) (d : Dev) : Dev :=
  let same := fun (q : Parked) => q.t.site == p.t.site && q.t.stand == p.t.stand && opStand q.op == opStand p.op
  let before := (d.cs.parked.takeWhile fun q => q.t != p.t).filter same
  each (before ++ [p]) (fun q d => d.standAccess q.t q.op) d

/-- What completes a parked access without a response from elsewhere; of the SRAM words that it reads `corrected` were corrected, and
with `bad` one could not be (R77, R95). -/
def Dev.completeParked (p : Parked) (corrected : Nat) (bad : Bool) (d : Dev) : Dev :=
  let site := p.t.site
  match p.op with
  | .fence => if d.fenceDone p.t p.rack then d.finishFence p.t p.rack else d
  | .awaitDescriptor tag => (d.endedAs tag).elim d fun st => d.finishThread p.t st []
  | op =>
    match opAddress op, opStand op with
    | none, some st =>
      let d1 := if (standWords op).isSome then d.sramCorrected site (standUnit site st) corrected else d
      let d2 := match (if bad then standWords op else none) with
        | some w => d1.badWord site w.2.1
        | none => d1
      d2.standArrives p
    | none, none => d
    | some a, _ =>
      if p.rack && a / 2 ^ 48 != d.sw.node then d
      else
        let reads := match op with
          | .store _ _ => false
          | _ => true
        let counted := if reads then d.sramCorrected site (d.sliceUnit site a) corrected else d
        if d.accessPort op (a % 2 ^ 48) = some site then counted.ownAccess p.t op (bad && reads)
        else match d.cachedRead p with
          | some line =>
            if !(d.site site).cache.any (·.1 == line) then d
            else if bad then
              let gone := counted.onSite site fun s => { s with cache := s.cache.filter fun (e : Nat × List Byte) => e.1 != line }
              (gone.wantLine p.t line).uncorrectable (d.sliceUnit site a) 5
            else counted.hit p line
          | none => d

/-! ## Timeouts (R79, R220, R298) -/

/-- The timeout of an operation that began at an instant (R79): on the package, or Spillway's. -/
def Dev.opTimeout (d : Dev) (far : Bool) (began : Nat) : Nat := began + if far then d.sw.timeout * 1000 else d.rd.timeout

/-- Whether a frame of a tag is outstanding: its own timeout applies (R330). -/
def Dev.frameOut (d : Dev) (tag : Nat) : Bool := d.sw.ops.any fun o => o.ask.tag == tag

/-- A parked access without its response times out (R79); a read leaves the fill that it joined. -/
def Dev.timeoutParked (p : Parked) (far : Bool) (d : Dev) : Dev :=
  let lost := (opAddress p.op).isSome || (opStand p.op).isSome
  let d0 := d.reach (d.opTimeout far p.issued)
  let d1 := (if lost then d0.lose p.t p.rack else d0).finishThread p.t 1 []
  d1.onSite p.t.site fun s => { s with fills := s.fills.map fun (f : Nat × List Thread) => (f.1, f.2.filter (· != p.t)) }

/-- A transfer times out (R220): what was applied stays. -/
def Dev.timeoutTransfer (x : Transfer) (d : Dev) : Dev :=
  ((d.reach (d.opTimeout x.desc.rack x.issued)).lose x.t x.rack).endTransfer { x with timedOut := true } 1

/-- A Gather-reduce job that has sent no completion times out (R298). -/
def Dev.timeoutJob (j : Nat × Thread × Nat) (d : Dev) : Dev := ((d.reach (d.opTimeout false j.2.2)).lose j.2.1 false).jobDone j.1 1

/-- What of a thread can time out: the instant, and what happens (R79, R220, R298). A parked operation that covers others is not itself
lost to a fence. -/
def Dev.timeouts (t : Thread) (d : Dev) : List (Nat × (Dev → Dev)) :=
  let parked := (d.parkedOp t).toList.filterMap fun p =>
    let far := p.rack && (opAddress p.op).elim false fun a => a / 2 ^ 48 != d.sw.node
    let far := far || (p.rack && p.op == .fence)
    if far && d.frameOut p.tag then none else some (d.opTimeout far p.issued, Dev.timeoutParked p far)
  let transfers := (d.cs.transfers.filter fun x => x.t == t && !(x.parts.any fun p => d.frameOut p.tag)).map fun x =>
    (d.opTimeout x.desc.rack x.issued, Dev.timeoutTransfer x)
  let jobs := (d.cs.jobs.filter fun j => j.2.1 == t).map fun j => (d.opTimeout false j.2.2, Dev.timeoutJob j)
  parked ++ transfers ++ jobs

/-- REMOTE_ACCESS_TIMEOUT (R79): of what the thread waits for, what times out first. -/
def remoteAccessTimeout (t : Thread) (d : Dev) : Dev :=
  let all := d.timeouts t
  let first := (all.map (·.1)).foldl min ((all.headD (0, id)).1)
  (all.find? (·.1 == first)).elim d fun e => e.2 d
/-- REMOTE_ACCESS_TIMEOUT (R79). -/
def execRemoteAccessTimeout (t : Thread) (s : State) : Result := s.run (.remoteAccessTimeout t) (remoteAccessTimeout t)

/-! ## The stack's own faults (R84, R98) -/

/-- BOND_BEAT_UNCORRECTABLE (R98): the operation of the beat, an access or a transfer that uses the group, completes with POISON, and the
group is tested at once. -/
def bondBeatUncorrectable (site group : Nat) (beat : BeatOwner) (d : Dev) : Dev :=
  let d1 := match beat with
    | .access t =>
      match d.parkedOp t with
      | some p => if p.t.site = site ∧ p.group = some group then d.finishThread p.t 2 [] else d
      | none => d
    | .transfer tag =>
      let hit := fun (y : Transfer) => y.tag == tag && y.t.site == site && y.group == some group
      { d with cs.transfers := mapIf hit (fun (y : Transfer) => { y with status := max y.status 2 }) d.cs.transfers }
    | .other => d
  d1.uncorrectable (groupUnit site group) 1
/-- BOND_BEAT_UNCORRECTABLE (R98). -/
def execBondBeatUncorrectable (site group : Nat) (beat : BeatOwner) (s : State) : Result :=
  s.run (.bondBeatUncorrectable site group beat) (bondBeatUncorrectable site group beat)

/-- CORE_AGEING_LOWER (R84): one step of 25 MHz at the next boundary. -/
def coreAgeingLower (site stand pos : Nat) (d : Dev) : Dev := { d with cs.lowering := insertNew (site, stand, pos) d.cs.lowering }
/-- CORE_AGEING_LOWER (R84). -/
def execCoreAgeingLower (site stand pos : Nat) (s : State) : Result := s.run (.coreAgeingLower site stand pos) (coreAgeingLower site stand pos)

/-! ## Resets of a stack (R103 to R107) -/

/-- UNDERSTORY_RESET (R103). -/
def understoryReset (site : Nat) (d : Dev) : Dev := if (d.site site).phase = .usReset then d else d.resetUnderstory site
/-- UNDERSTORY_RESET (R103). -/
def execUnderstoryReset (site : Nat) (s : State) : Result := s.run (.understoryReset site) (understoryReset site)

/-- The Stand memory contents of the placed graphs on a site (R104): the operands of their Mill cores (R70). -/
def Dev.placedContents (d : Dev) (site : Nat) : List Host.Cell :=
  d.cs.mill.foldl (fun m b => match d.millPlace b.core with
    | some q => if q.1 = site then cellsWrite (cellsWrite m q.2 b.a) (q.2 + 0x8000) b.w else m
    | none => m) []

/-- The reload of a Canopy goes to its site in repeated single sends (R104, R236): the contents of its Stand memory, in address order (log 100),
from the active Ranger. -/
def Dev.sendReload (site : Nat) (d : Dev) : Dev :=
  each (cellParts ((d.placedContents site).map (·.2))) (Dev.sendCopy d.activePort site) d

/-- UNDERSTORY_READY (R104): the Canopy reload begins; the retained setpoints are restored (R100). -/
def understoryReady (site : Nat) (d : Dev) : Dev :=
  if (d.site site).phase = .usReset then
    let d1 := (d.onSite site fun s => { s with phase := .reloading }).dieReady site
    Dev.sendReload site { d1 with ck.retained := d1.ck.retained.filter (·.1 != site) }
  else d
/-- UNDERSTORY_READY (R104). -/
def execUnderstoryReady (site : Nat) (s : State) : Result := s.run (.understoryReady site) (understoryReady site)

/-- CANOPY_RESET (R107). -/
def canopyReset (site : Nat) (d : Dev) : Dev :=
  if (d.site site).phase = .usReset ∨ (d.site site).phase = .cpReset then d else d.resetCanopy site
/-- CANOPY_RESET (R107). -/
def execCanopyReset (site : Nat) (s : State) : Result := s.run (.canopyReset site) (canopyReset site)

/-- CANOPY_RELOAD_COMPLETE (R52, R104, R107): core programs and Stand memory are those of the placed graphs, and the SR generators start
again; the Stands resume at the next boundary. DESIGN CHOICE (log 100): Stand memory outside those contents is zero. -/
def canopyReloadComplete (site : Nat) (d : Dev) : Dev :=
  if (d.site site).phase = .reloading ∨ (d.site site).phase = .cpReset then
    let d1 := d.onSite site fun s => { s with phase := .resuming, stand := d.placedContents site, standPoison := [] }
    (d1.restartGenerators fun c => c / 2500 + 8 == site).loadPrograms
  else d
/-- CANOPY_RELOAD_COMPLETE (R104). -/
def execCanopyReloadComplete (site : Nat) (s : State) : Result := s.run (.canopyReloadComplete site) (canopyReloadComplete site)

end Sys2Proof.Machine
end

