-- ==== Sys2Proof/Machine/Faults.lean ====
section
/-!
DEFINITION. Fault reports, recoveries and their self-tests (chapter 18), and the preparation of substitutes (chapter 16).
-/

namespace Sys2Proof.Machine

/-- Whether the fault manager takes reports (R498): a Ranger runs, the device is in none of BRINGUP and SAFE_HOLD. -/
def Dev.faultsTaken (d : Dev) : Bool := d.fw.rangerUp && d.hg.devState != .bringup && d.hg.devState != .safeHold

/-- What an uncorrectable error of a unit is recorded as (18, UNCORRECTABLE). -/
def errorCode (unit : Nat) : Nat :=
  match unitKind unit with
  | 1 => 4
  | 3 => 1
  | 4 => 1
  | 6 => 2
  | 7 => 2
  | 9 => 0
  | 0x0A => 0
  | 0x0B => 0
  | 0x0D => 3
  | _ => 5

/-- The standby detects a fault in itself (R478): it is held in reset and runs its ROM self-test; a live activation that has not
reached its boundary is abandoned (R504). -/
def Dev.standbyFault (d : Dev) : Dev :=
  if d.fw.standby = .bad ∨ d.fw.standby = .unused then d
  else
    let d1 := d.setStandby .selfTest
    if d1.fw.live.elim false (fun l => l.ready && !l.passed) then Dev.notice (rangerUnit d1.otherPort) 0 { d1 with fw.live := none, fw.update := 1 } else d1

/-- FAULT_REPORT (R492, R496, R498, R499). -/
def faultReport (unit : Nat) (kind : FaultKind) (d : Dev) : Dev :=
  if !d.faultsTaken then d
  else if unitKind unit = 0x0E ∧ unitPlace unit = d.activePort then d.handover 2
  else if unitKind unit = 0x0E then d.standbyFault
  else match kind with
    | .unit => d.uncorrectable unit (errorCode unit)
    | k => d.reportFault unit k
/-- FAULT_REPORT (R498). -/
def execFaultReport (unit : Nat) (kind : FaultKind) (s : State) : Result := s.run (.faultReport unit kind) (faultReport unit kind)

/-- A recovery that is still under way after its first action (R498). -/
def Dev.settle (port : Nat) (d : Dev) : Dev :=
  let busy := (isCompute port && (d.site port).phase == .usReset) || (isMemory port && (d.stack (siteStack port)).resetting)
  if busy then d else d.dieReady port

/-- The next report is taken from the queue (R498): a die is reset, a unit tested. -/
def Dev.recover (r : Report) (d : Dev) : Dev :=
  let d1 := { d with fa.queue := d.fa.queue.erase r, fa.now := some { report := r, started := d.tb.ns, retest := false } }
  let port := unitPort r.unit
  match r.kind with
  | .unit => if testable r.unit then d1.beginTest r.unit else ({ d1 with fa.now := none }).isolate port r.unit
  | _ => (d1.resetDie port).settle port

/-- The re-test of an isolated site (R500): a reset of its die, then the self-tests of the units named. A site that may not be reset
again stays out of service until the next start. -/
def Dev.retestSite (port unit : Nat) (d : Dev) : Dev :=
  let d1 := { d with fa.now := some { report := { unit, kind := .die }, started := d.tb.ns, retest := true } }
  if isCompute port ∨ isMemory port then
    let d2 := d1.resetDie port
    let reset := (isCompute port && (d2.site port).phase == .usReset) || (isMemory port && (d2.stack (siteStack port)).resetting)
    if reset then d2 else { d2 with fa.now := none, fa.isolated := d2.fa.isolated.filter (·.1 != port) }
  else d1.beginRetest port

/-- RECOVERY_START (R498, R500): one at a time, in order of arrival; isolated sites when the queue is empty, but those that the test chain
holds (R520). -/
def recoveryStart (d : Dev) : Dev :=
  if !d.faultsTaken || d.fa.now.isSome || d.fw.handover.isSome then d
  else match d.fa.queue with
    | r :: _ => d.recover r
    | [] => match d.fa.isolated.filter fun e => !d.chained e.1 with
      | e :: _ => d.retestSite e.1 (e.2.headD 0)
      | [] => d
/-- RECOVERY_START (R498). -/
def execRecoveryStart (s : State) : Result := s.run .recoveryStart recoveryStart

/-- Whether the test of a unit speaks of another one: its lanes (R452, R492). -/
def testNames (tested unit : Nat) : Bool :=
  tested == unit ||
  (unitKind tested == 4 && unitKind unit == 3 && unitPlace tested == unitPlace unit && bitsOf tested 31 16 == bitsOf unit 31 16) ||
  ((unitKind tested == 6 || unitKind tested == 7) && (unitKind unit == 6 || unitKind unit == 7) && unitPlace tested == unitPlace unit &&
    bitsOf tested 47 40 == bitsOf unit 47 40) ||
  (unitKind tested == 0x0D && unitKind unit == 0x0D && unitPlace tested == unitPlace unit)

/-- Whether a unit's test waits for the calibration window to close (R247). -/
def Dev.testHeld (d : Dev) (unit : Nat) : Bool :=
  (unitKind unit == 6 || unitKind unit == 7) && (d.pport (unitPlace unit) (bitsOf unit 47 40)).testWaits

/-- One test of a re-test is done (R500): when all have passed the site returns; a failure keeps it out until the next start. -/
def Dev.retested (tested unit : Nat) (result : TestResult) (d : Dev) : Dev :=
  let port := unitPort tested
  let d1 := d.endTest tested
  let mine := fun (u : Nat) => unitPort u == port
  match result with
  | .pass => if d1.fa.testing.any mine then d1 else d1.siteReturns port
  | _ =>
    let d2 := (d1.log unit 2 0x0202 (if result = .fail then 0 else 2)).fdm unit 1 1 1
    { d2 with fa.now := none, fa.testing := d2.fa.testing.filter (fun u => !mine u), fa.isolated := d2.fa.isolated.filter (·.1 != port) }

/-- The self-test of a report is done (R493 to R495): the recovery ends, unless a substitute is to be prepared. -/
def Dev.tested (tested unit : Nat) (result : TestResult) (d : Dev) : Dev :=
  let d1 := d.endTest tested
  match result with
  | .pass => Dev.transient tested { d1 with fa.now := none }
  | _ =>
    let d2 := d1.lasting unit (if result = .fail then 0 else 2)
    if d2.sp.substs.any fun s => s.ready.isNone && unitPort s.unit == unitPort unit then d2 else { d2 with fa.now := none }

/-- TARGETED_SELF_TEST_COMPLETE (R492 to R495, R500). -/
def targetedSelfTestComplete (unit : Nat) (result : TestResult) (d : Dev) : Dev :=
  match d.fa.now with
  | none => d
  | some r =>
    match d.fa.testing.find? fun u => testNames u unit && unitPort u == unitPort r.report.unit with
    | none => d
    | some u => if d.testHeld u then d else if r.retest then d.retested u unit result else d.tested u unit result
/-- TARGETED_SELF_TEST_COMPLETE (R492). -/
def execTargetedSelfTestComplete (unit : Nat) (result : TestResult) (s : State) : Result :=
  s.run (.targetedSelfTestComplete unit result) (targetedSelfTestComplete unit result)

/-- RECOVERY_TIMEOUT (R500): 100 ms after the start. -/
def recoveryTimeout (d : Dev) : Dev :=
  match d.fa.now with
  | some r => (d.reach (r.started + 100000000)).abandonRecovery
  | none => d
/-- RECOVERY_TIMEOUT (R500). -/
def execRecoveryTimeout (s : State) : Result := s.run .recoveryTimeout recoveryTimeout

/-- Identifier of the die at a Basin port (R460): a site, a stack, a Ranger; a Spillway engine by its first port's lane 0. -/
def dieUnit (port : Nat) : Nat :=
  if isCompute port then siteUnit port else if isMemory port then stackUnit (siteStack port)
  else if 51 ≤ port then unitId 0x0D (2 * (port - 51)) 0 0 0 0 else unitId 0x0E port 0 0 0 0

/-- Whether a die is already in reset. -/
def Dev.inReset (d : Dev) (port : Nat) : Bool :=
  (isCompute port && (d.site port).phase == .usReset) || (isMemory port && (d.stack (siteStack port)).resetting) ||
  (decide (51 ≤ port) && d.sw.engineReset.contains (port - 51))

/-- STEWARD_HEARTBEAT_MISSED (R496, R499): 100 µs of silence. In a recovery of its own die the silence is recorded. -/
def stewardHeartbeatMissed (port : Nat) (d : Dev) : Dev :=
  if !d.faultsTaken || d.inReset port || decide (48 ≤ port ∧ port ≤ 50) then d
  else
    let u := dieUnit port
    let own := d.fa.now.elim false fun r => unitPort r.report.unit == port
    (onlyIf own (Dev.notice u 0) d).reportFault u .die
/-- STEWARD_HEARTBEAT_MISSED (R496). -/
def execStewardHeartbeatMissed (port : Nat) (s : State) : Result := s.run (.stewardHeartbeatMissed port) (stewardHeartbeatMissed port)

/-- CHIME_LOSS (R389, R496): a fault of that die. A Wellhead's has no step of the ladder: it is recorded. -/
def chimeLoss (port : Nat) (d : Dev) : Dev :=
  let d1 := { d with ck.chimeLost := insertNew port d.ck.chimeLost }
  if !d1.faultsTaken then d1
  else if 0x80 ≤ port then d1.notice (combUnit port (d1.well (port - 0x80)).source) 0
  else if port = 48 then d1.reportFault 0 .headgate
  else if port = d1.activePort then d1.handover 1
  else if port = d1.otherPort then d1.standbyFault
  else d1.reportFault (dieUnit port) .die
/-- CHIME_LOSS (R389). -/
def execChimeLoss (port : Nat) (s : State) : Result := s.run (.chimeLoss port) (chimeLoss port)

/-- CORRECTED_ERROR_HOUR (R489, R490): the hour's counts are recorded; more than 1,024 call for a self-test, but of lanes. -/
def correctedErrorHour (d : Dev) : Dev :=
  let one := fun (c : ErrCount) (d : Dev) =>
    let d1 := d.log c.unit 0 0x0101 c.hour
    if 1024 < c.hour ∧ unitKind c.unit ≠ 6 ∧ unitKind c.unit ≠ 0x0D then d1.reportFault c.unit .unit else d1
  each (d.fa.counts.filter fun c => decide (0 < c.hour)) one { d with fa.counts := d.fa.counts.map fun (c : ErrCount) => { c with hour := 0 } }
/-- CORRECTED_ERROR_HOUR (R490). -/
def execCorrectedErrorHour (s : State) : Result := s.run .correctedErrorHour correctedErrorHour

/-- COPPICE_PREPARATION_COMPLETE (R449): the substitute takes the place at the first boundary at least 10 µs later. -/
def coppicePreparationComplete (unit : Nat) (d : Dev) : Dev :=
  if d.sp.substs.any fun s => s.unit == unit && s.ready.isNone then
    let d1 := { d with sp.substs := mapIf (·.unit == unit) (fun (s : Subst) => { s with ready := some d.tb.ns }) d.sp.substs }
    let ends := d1.fa.now.elim false fun r => !r.retest && unitPort r.report.unit == unitPort unit && r.report.kind == .unit && !d1.fa.testing.contains r.report.unit
    if ends then { d1 with fa.now := none } else d1
  else d
/-- COPPICE_PREPARATION_COMPLETE (R449). -/
def execCoppicePreparationComplete (unit : Nat) (s : State) : Result := s.run (.coppicePreparationComplete unit) (coppicePreparationComplete unit)

end Sys2Proof.Machine
end

