-- ==== Sys2Proof/Machine/Firmware.lean ====
section
/-!
DEFINITION. Firmware updates, activation, the configuration record, licences and debug tokens (chapter 17); writing the Field
Defect Map (chapter 16).
-/

namespace Sys2Proof.Machine

/-- Status INTERNAL (12). -/
def stInternal : Nat := 0x00F0

/-! ## Slots and the boot record (R466 to R469) -/

/-- A flash slot by number. -/
def Dev.slot (d : Dev) (n : Nat) : Slot := if n = 0 then d.fw.slotA else d.fw.slotB

/-- The slot that did not boot (R470). -/
def Dev.otherSlot (d : Dev) : Nat := 1 - d.fw.booted

/-- Set a flash slot. -/
def Dev.setSlot (n : Nat) (x : Slot) (d : Dev) : Dev := if n = 0 then { d with fw.slotA := x } else { d with fw.slotB := x }

/-- The boot record when neither copy is valid (R468). -/
def BootRec.blank : BootRec := { generation := 0, preferred := 0, trial := false, tried := false, versionA := 0, versionB := 0 }

/-- The newest valid copy of the boot record (R467, R468). -/
def Dev.boot (d : Dev) : BootRec :=
  match d.fw.boot0, d.fw.boot1 with
  | some a, some b => if a.generation < b.generation then b else a
  | some a, none => a
  | none, some b => b
  | none, none => BootRec.blank

/-- A new copy of the boot record over the older or an invalid one (R467). -/
def Dev.writeBoot (f : BootRec → BootRec) (d : Dev) : Dev :=
  let r := d.boot
  let new := { f r with generation := r.generation + 1 }
  let second := match d.fw.boot0, d.fw.boot1 with
    | some a, some b => decide (b.generation ≤ a.generation)
    | some _, none => true
    | none, _ => false
  if second then { d with fw.boot1 := some new } else { d with fw.boot0 := some new }

/-- Set the version of a slot in a boot record (R470, R472). -/
def BootRec.setVersion (n v : Nat) (r : BootRec) : BootRec := if n = 0 then { r with versionA := v } else { r with versionB := v }

/-- The bytes that blocks of an update hold, in block order. -/
def blockBytes (count : Nat) (blocks : List (Nat × List Byte)) : List Byte :=
  ((List.range count).map fun i => (valueOf i blocks).getD []).flatten

/-- Header fields of an image (17, image header). -/
def imageHeader (bs : List Byte) : SlotImage :=
  { version := u32 bs 8, handoffMin := u16 bs 6, handoff := u16 bs 0x14, rollback := u32 bs 0xC, length := u32 bs 0x10
    rantilMajor := u16 bs 0x16, rantilMinor := u16 bs 0x18, arborMinor := u16 bs 0x1A }

/-- Whether keys and signature of an image verify (R465, R469). -/
def imageSigned (bs : List Byte) : Bool :=
  Config.sigValid 3 (slice bs 0x140 640) &&
  Config.sigValid 0 (bs.take 0xFC0 ++ (bs.take (u32 bs 0x10)).drop 0x1000 ++ slice bs 0xFC0 64)

/-- Whether the running image can hand over to an image live (R472). -/
def Dev.liveFlag (d : Dev) (x : SlotImage) : Bool := decide (x.handoffMin ≤ d.fw.running.handoff)

/-! ## Updating (R470 to R472, R480) -/

/-- Blocks of a length (R469). -/
def blockCount (length : Nat) : Nat := (length + 65535) / 65536

/-- FW_UPDATE_BEGIN (R470, R480). -/
def fwUpdateBegin (ch : Nat) (d : Dev) : Dev :=
  d.onCommand 0x0500 ch fun _ b d =>
    let target := u8 b 0
    let length := u32 b 4
    let version := u32 b 8
    let proc : Update := { target, length, version, blocks := [] }
    if target = 0 ∧ (d.fw.update = 2 ∨ d.fw.activated) then d.failState ch
    else if 1 < target ∨ field b 1 3 ≠ 0 ∨ (target = 0 ∧ (length < 4096 ∨ 41943040 < length)) ∨
        (target = 1 ∧ (length ≠ 64 ∨ version ≠ 0)) then d.fail ch stBadParam
    else if !d.flashOk then d.fail ch stTempRange
    else if target = 1 then ({ d with fw.proc := some proc }).answer ch stOk (leBytes 1 0xFF ++ zeros 3 ++ leBytes 4 1) 0
    else
      let n := d.otherSlot
      let d1 := (d.setSlot n { image := none, blocks := [], verified := false }).writeBoot (BootRec.setVersion n 0)
      ({ d1 with fw.proc := some proc, fw.update := 0 }).answer ch stOk (leBytes 1 n ++ zeros 3 ++ leBytes 4 (blockCount length)) 0
/-- FW_UPDATE_BEGIN (R470). -/
def execFwUpdateBegin (ch : Nat) (s : State) : Result := s.run (.fwUpdateBegin ch) (fwUpdateBegin ch)

/-- Blocks that a procedure has written. -/
def Dev.written (d : Dev) (p : Update) : List (Nat × List Byte) := if p.target = 0 then (d.slot d.otherSlot).blocks else p.blocks

/-- Write one block of a procedure (R471). -/
def Dev.writeBlock (p : Update) (i : Nat) (bs : List Byte) (d : Dev) : Dev :=
  if p.target = 0 then
    let x := d.slot d.otherSlot
    d.setSlot d.otherSlot { x with blocks := x.blocks ++ [(i, bs)] }
  else { d with fw.proc := some { p with blocks := p.blocks ++ [(i, bs)] } }

/-- FW_UPDATE_BLOCK (R471): the block is read from device memory, checked, written and read back. -/
def fwUpdateBlock (ch : Nat) (readbackOk : Bool) (d : Dev) : Dev :=
  d.onCommand 0x0501 ch fun _ b d =>
    let i := u32 b 0
    let a := u64 b 8
    match d.fw.proc with
    | none => d.failState ch
    | some p =>
      if blockCount p.length ≤ i ∨ (d.written p).any (·.1 == i) ∨ a % 64 ≠ 0 ∨ !d.rangePopulated a 65536 then d.fail ch stBadParam
      else if d.mustSnoop a 65536 then d.snoopRange a 65536
      else match d.readBytes a 65536 with
        | none => d.fail ch stBadParam
        | some bs =>
          if crc32c bs ≠ u32 b 4 then d.fail ch stBadParam
          else if !d.flashOk then d.fail ch stTempRange
          else if readbackOk then (d.writeBlock p i bs).answer ch stOk [] 0
          else ({ d with fw.proc := none }).fail ch stInternal
/-- FW_UPDATE_BLOCK (R471). -/
def execFwUpdateBlock (ch : Nat) (readbackOk : Bool) (s : State) : Result :=
  s.run (.fwUpdateBlock ch readbackOk) (fwUpdateBlock ch readbackOk)

/-- Whether every field of a configuration record lies in range (R479). -/
def confOk (bs : List Byte) : Bool :=
  let cap := u32 bs 0x18
  u32 bs 0 == 0x46434250 && u16 bs 4 == 1 && u16 bs 6 == 0 && decide (u8 bs 0x10 ≤ 2) && decide (u8 bs 0x11 ≤ 1) &&
  decide (u8 bs 0x12 ≤ 9) && decide (u8 bs 0x13 ≤ 1) && decide (u32 bs 0x14 ≤ 10000) &&
  (cap == 0 || (decide (12500 ≤ cap) && decide (cap ≤ 15000) && cap % 100 == 0)) && coolantOk (slice bs 0x1C 16) &&
  allZero (slice bs 0x2C 16) && u32 bs 0x3C == crc32c (bs.take 0x3C)

/-- The fields of a configuration record. -/
def confOf (bs : List Byte) : ConfigRec :=
  { generation := u64 bs 8, memtest := u8 bs 0x10, plane3 := u8 bs 0x11, mirror := u8 bs 0x12, tbMode := u8 bs 0x13
    ppsDelay := u32 bs 0x14, cap := u32 bs 0x18, coolant := slice bs 0x1C 16 }

/-- The commit of a configuration procedure (R480): the record alone, followed by zeros. -/
def Dev.commitConf (ch : Nat) (p : Update) (d : Dev) : Dev :=
  let bs := blockBytes 1 p.blocks
  if !confOk bs || !allZero (bs.drop 64) then d.fail ch stBadParam
  else if !d.flashOk then d.fail ch stTempRange
  else ({ d.writeConf (fun _ => confOf bs) with fw.proc := none }).answer ch stOk (zeros 12) 0

/-- The commit of a firmware procedure (R469, R472). -/
def Dev.commitImage (ch : Nat) (p : Update) (d : Dev) : Dev :=
  let n := d.otherSlot
  let x := d.slot n
  let bs := blockBytes (blockCount p.length) x.blocks
  let h := imageHeader bs
  if !imageSigned bs then d.fail ch stAuthFail
  else if u16 bs 4 ≠ 1 ∨ h.rollback < d.fw.fuseF then d.fail ch stIncompatible
  else if u32 bs 0 ≠ 0x57464250 ∨ h.version ≠ p.version ∨ h.length ≠ p.length ∨ !allZero (bs.drop p.length) then d.fail ch stBadParam
  else if !d.flashOk then d.fail ch stTempRange
  else
    let d1 := (d.setSlot n { x with image := some h, verified := true }).writeBoot (BootRec.setVersion n h.version)
    let body := leBytes 4 h.version ++ leBytes 4 h.rollback ++ leBytes 1 (natOf (d.liveFlag h)) ++ zeros 3
    ({ d1 with fw.proc := none, fw.update := 1 }).answer ch stOk body 0

/-- FW_UPDATE_COMMIT (R472, R480). -/
def fwUpdateCommit (ch : Nat) (d : Dev) : Dev :=
  d.onCommand 0x0502 ch fun _ _ d =>
    match d.fw.proc with
    | none => d.failState ch
    | some p =>
      if (List.range (blockCount p.length)).all fun i => (d.written p).any (·.1 == i) then
        if p.target = 0 then d.commitImage ch p else d.commitConf ch p
      else d.failState ch
/-- FW_UPDATE_COMMIT (R472). -/
def execFwUpdateCommit (ch : Nat) (s : State) : Result := s.run (.fwUpdateCommit ch) (fwUpdateCommit ch)

/-! ## Activation (R473 to R475) -/

/-- FW_ACTIVATE with a mode other than 0 (R473): mode 1 makes the staged slot preferred, on trial. -/
def fwActivate (ch : Nat) (d : Dev) : Dev :=
  d.onCommand 0x0503 ch fun _ b d =>
    if u8 b 0 = 0 then d
    else if d.fw.update ≠ 1 then d.failState ch
    else if u8 b 0 ≠ 1 then d.fail ch stBadParam
    else if !d.flashOk then d.fail ch stTempRange
    else
      let d1 := d.writeBoot fun r => { r with preferred := d.otherSlot, trial := true, tried := false }
      ({ d1 with fw.activated := true }).answer ch stAccepted [] atNextStart
/-- FW_ACTIVATE (R473). -/
def execFwActivate (ch : Nat) (s : State) : Result := s.run (.fwActivate ch) (fwActivate ch)

/-- The first round boundary at or after an instant. -/
def Dev.boundaryFrom (d : Dev) (t : Nat) : Nat := d.rd.epoch + (t - d.rd.epoch + d.rd.period - 1) / d.rd.period * d.rd.period

/-- FW_ACTIVATE with mode 0 (R474): the standby restarts on the staged slot; control passes at the first boundary at least 5 s
later. -/
def fwActivateLive (ch : Nat) (d : Dev) : Dev :=
  d.onCommand 0x0503 ch fun _ b d =>
    if u8 b 0 ≠ 0 then d
    else if d.fw.update ≠ 1 ∨ d.simplex then d.failState ch
    else if !((d.slot d.otherSlot).image.elim false d.liveFlag) then d.fail ch stIncompatible
    else if !d.flashOk then d.fail ch stTempRange
    else
      let m := d.boundaryFrom (d.tb.ns + 5000000000)
      let live : Live := { m, started := d.tb.ns, ready := false, block := false, passed := false }
      Dev.answer ch stAccepted [] m (Dev.setStandby .booting { d with fw.update := 2, fw.live := some live })
/-- FW_ACTIVATE_LIVE (R474). -/
def execFwActivateLive (ch : Nat) (s : State) : Result := s.run (.fwActivateLive ch) (fwActivateLive ch)

/-! ## Licences (R481) -/

/-- A licence record whose format is wrong (R481, step 1). -/
def licenceBad (r : List Byte) : Bool :=
  u32 r 0 != 0x504D5453 || u16 r 4 != 1 || u16 r 6 != 0 || decide (16 ≤ u64 r 0x10) || !allZero (slice r 0x30 144)

/-- Whether a licence record is this unit's and its signature holds (R481, step 2; R441). -/
def Dev.licenceOurs (d : Dev) (r : List Byte) : Bool := u64 r 8 == d.fw.serial && Config.sigValid 1 (r.take 256)

/-- LICENCE_INSTALL (R481): the features join at the next boundary. -/
def licenceInstall (ch : Nat) (d : Dev) : Dev :=
  d.onCommand 0x0504 ch fun _ b d =>
    let r := b.take 256
    if licenceBad r then d.fail ch stBadParam
    else if !d.licenceOurs r then d.fail ch stAuthFail
    else if d.fw.licences.contains r then d.answer ch stOk [] 0
    else if 4096 ≤ d.fw.licences.length then d.fail ch stNoResource
    else if !d.flashOk then d.fail ch stTempRange
    else
      let d1 := { d with fw.licences := d.fw.licences ++ [r], fw.licValid := d.fw.licValid + 1, fw.featNext := d.fw.featNext ||| u64 r 0x10 }
      d1.answer ch stAccepted [] d.rd.next
/-- LICENCE_INSTALL (R481). -/
def execLicenceInstall (ch : Nat) (s : State) : Result := s.run (.licenceInstall ch) (licenceInstall ch)

/-- LICENCE_QUERY (12). -/
def licenceQuery (ch : Nat) (d : Dev) : Dev :=
  d.onCommand 0x0505 ch fun _ _ d =>
    d.answer ch stOk (leBytes 4 d.fw.licences.length ++ leBytes 4 d.fw.licValid ++ leBytes 8 d.fw.features ++ leBytes 8 d.fw.featNext) 0
/-- LICENCE_QUERY (R481). -/
def execLicenceQuery (ch : Nat) (s : State) : Result := s.run (.licenceQuery ch) (licenceQuery ch)

/-! ## Debug tokens (R484, R485) -/

/-- DEBUG_NONCE_REQUEST (R484): a new nonce replaces any earlier one. -/
def debugNonceRequest (ch : Nat) (d : Dev) : Dev :=
  d.onCommand 0x0506 ch fun _ b d =>
    if !bitOf (u8 b 0) 0 then d
    else if u8 b 0 ≠ 1 ∨ !allZero ((b.take 136).drop 1) then d.fail ch stBadParam
    else
      let n := Config.random d.free % 2 ^ 256
      ({ d.draw with fw.nonce := some n }).answer ch stOk (leBytes 32 n) 0
/-- DEBUG_NONCE_REQUEST (R484). -/
def execDebugNonceRequest (ch : Nat) (s : State) : Result := s.run (.debugNonceRequest ch) (debugNonceRequest ch)

/-- Whether a token's kind is legal in the present lifecycle (R484). -/
def Dev.tokenLegal (d : Dev) (kind : Nat) : Bool :=
  ((kind == 1 || kind == 3) && d.fw.lifecycle == 1) || (kind == 2 && d.fw.lifecycle == 2)

/-- What a valid token does (R483, R485). -/
def Dev.useToken (t : List Byte) (d : Dev) : Dev :=
  match u8 t 6 with
  | 1 => { d with fw.lifecycle := 2, fw.debugLatch := true, fw.scope := u64 t 48 }
  | 2 => { d with fw.lifecycle := 1, fw.debugLatch := false, fw.scope := 0 }
  | _ => { d with fw.lifecycle := 3 }

/-- A token checked against the nonce (R484): the nonce is spent in any case, and journaled as spent. -/
def Dev.checkToken (ch : Nat) (t : List Byte) (d : Dev) : Dev :=
  let ok := u64 t 8 == d.fw.serial && d.fw.nonce == some (field t 16 32) && Config.sigValid 2 (t.take 128)
  let d1 := { d with fw.nonce := none }
  if ok then (d1.useToken t).answer ch stAccepted [] atNextStart
  else (d1.fail ch stAuthFail).onChan ch fun c => { c with journaled := true }

/-- DEBUG_UNLOCK (R484). -/
def debugUnlock (ch : Nat) (d : Dev) : Dev :=
  d.onCommand 0x0506 ch fun _ b d =>
    let t := (b.take 136).drop 8
    if bitOf (u8 b 0) 0 then d
    else if !allZero (b.take 8) ∨ u32 t 0 ≠ 0x4B474244 ∨ u16 t 4 ≠ 1 ∨ u8 t 7 ≠ 0 ∨ u64 t 56 ≠ 0 then d.fail ch stBadParam
    else if !d.tokenLegal (u8 t 6) then d.failState ch
    else d.checkToken ch t
/-- DEBUG_UNLOCK (R484). -/
def execDebugUnlock (ch : Nat) (s : State) : Result := s.run (.debugUnlock ch) (debugUnlock ch)

/-! ## The Field Defect Map (R459) -/

/-- The map as the flash would hold it now. -/
def Dev.fdmCopy (d : Dev) (gen : Nat) : FdmCopy :=
  { gen, starts := d.sp.starts, fullTest := d.sp.fullTest, dropped := d.sp.dropped, hbm := d.sp.hbmEvent, entries := d.sp.fdm }

/-- FDM_WRITE (R459, R423): both copies in turn, each a write of its own. -/
def fdmWrite (d : Dev) : Dev :=
  if d.sp.held.isNone || !d.flashOk || !d.fw.rangerUp || d.fw.handover.isSome then d
  else
    let gen := d.sp.fdmGen + 2
    { d with sp.held := none, sp.fdmGen := gen, sp.copies := (true, true), sp.flash := d.fdmCopy gen }
/-- FDM_WRITE (R459). -/
def execFdmWrite (s : State) : Result := s.run .fdmWrite fdmWrite

/-- The 32 bytes of an entry (R459). -/
def FdmEntry.bytes (e : FdmEntry) : List Byte :=
  leBytes 8 e.unit ++ leBytes 1 e.type ++ leBytes 1 e.source ++ zeros 2 ++ leBytes 4 e.value ++ leBytes 8 e.first ++ leBytes 8 e.last

/-- The header and entries in force (R459). -/
def Dev.fdmBytes (d : Dev) : List Byte :=
  let head := leBytes 4 0x4D444446 ++ leBytes 2 1 ++ zeros 2 ++ leBytes 8 d.fw.serial ++ leBytes 8 d.sp.fdmGen ++
    leBytes 4 d.sp.fdm.length ++ leBytes 4 d.sp.starts ++ leBytes 4 d.sp.fullTest ++ leBytes 4 d.sp.dropped ++ zeros 20
  let es := (d.sp.fdm.map FdmEntry.bytes).flatten
  head ++ leBytes 4 (crc32c (head ++ es)) ++ es

/-- DEFECT_MAP_READ (R459, R375): a buffer that is too small takes nothing. -/
def defectMapRead (ch : Nat) (d : Dev) : Dev :=
  d.onCommand 0x0602 ch fun _ b d =>
    let a := u64 b 0
    let n := u64 b 8
    if !d.bufferOk a n then d.fail ch stBadParam
    else if n < 64 + 32 * d.sp.fdm.length then d.answer ch stNoResource (leBytes 4 (64 + 32 * d.sp.fdm.length)) 0
    else (d.store a d.fdmBytes).answer ch stOk (leBytes 4 (64 + 32 * d.sp.fdm.length)) 0
/-- DEFECT_MAP_READ (R459). -/
def execDefectMapRead (ch : Nat) (s : State) : Result := s.run (.defectMapRead ch) (defectMapRead ch)

end Sys2Proof.Machine
end

