-- ==== Sys2Proof/Machine/Diagnostics.lean ====
section
/-!
DEFINITION. Telemetry, the event log, self-tests on command and TEST mode (12 R376, R378, R379; 18 R488; 19 R521, R522).
-/

namespace Sys2Proof.Machine

/-! ## TELEMETRY_READ (R379) -/

/-- A count that saturates at its largest value (R379). -/
def sat (n v : Nat) : List Byte := leBytes n (min v (2 ^ (8 * n) - 1))

/-- Basin port counter record (12). -/
def PlanePort.bytes (p : PlanePort) : List Byte :=
  let state := if p.retired then 2 else if p.holds.isEmpty then 0 else 1
  leBytes 1 p.port ++ leBytes 1 p.plane ++ leBytes 1 state ++ zeros 5 ++ sat 8 p.corrected ++ sat 8 p.discarded ++
  sat 8 p.misdelivered ++ sat 8 p.aged ++ sat 8 p.suspended ++ sat 8 p.sent ++ sat 8 p.received

/-- Standing grant record (12). -/
def Standing.bytes (g : Standing) : List Byte :=
  leBytes 1 g.plane ++ leBytes 1 g.src ++ leBytes 1 g.dst ++ leBytes 1 g.r ++ leBytes 1 (natOf g.suspended + 2 * natOf g.journal) ++
  zeros 3 ++ sat 8 g.used

/-- Droop counts of one region, the droop in progress included (R392). -/
def Dev.droopOf (d : Dev) (site stand pos : Nat) : Nat × Nat × Nat :=
  let c := d.ck.droopCounts.find? fun c => c.site == site && c.stand == stand && c.pos == pos
  let now := (d.ck.droops.find? fun x => x.site == site && x.stand == stand && x.pos == pos).elim 0 fun x => d.tb.ns - x.since
  (c.elim 0 (·.droops), c.elim 0 (·.sustained), c.elim 0 (·.time) + now)

/-- Droop record (12). -/
def droopBytes (site dom stand pos : Nat) (c : Nat × Nat × Nat) : List Byte :=
  leBytes 1 site ++ leBytes 1 dom ++ leBytes 2 stand ++ leBytes 1 pos ++ zeros 3 ++ sat 8 c.1 ++ sat 8 c.2.1 ++ sat 8 c.2.2

/-- Droop record of a site and domain, summed over its regions. -/
def Dev.droopSum (d : Dev) (site : Nat) (dom : Domain) : List Byte :=
  let places := ((d.ck.droopCounts.map fun c => (c.site, c.stand, c.pos)) ++ (d.ck.droops.map fun x => (x.site, x.stand, x.pos))).eraseDups
  let mine := places.filter fun p => p.1 == site && posDomain p.2.2 == dom
  let one := mine.map fun p => d.droopOf p.1 p.2.1 p.2.2
  droopBytes site (domNo dom) 0xFFFF 0xFF ((one.map (·.1)).sum, (one.map (·.2.1)).sum, (one.map (·.2.2)).sum)

/-- Droop records (12): per site and domain, or per region of one site. -/
def Dev.droopRecords (d : Dev) (idx : Nat) : List (List Byte) :=
  if idx = 0xFFFF then (computeSites.map fun s => [d.droopSum s .cd9, d.droopSum s .cd10]).flatten
  else ((List.range 133).map fun st => (List.range 21).map fun p => droopBytes idx (domNo (posDomain p)) st p (d.droopOf idx st p)).flatten

/-- Lowest effective frequency of a logical core of a site, MHz (R85). -/
def Dev.slowestCore (d : Dev) (site : Nat) : Nat :=
  let one := fun (s : Nat) => match d.physStand site s with
    | none => []
    | some ps => (List.range 20).filterMap fun p => (d.physPos site ps p).map fun q => d.effective site ps q
  let fs := ((List.range 125).map one).flatten
  fs.foldl min (fs.headD 0)

/-- Spares and repair record of a compute site (12). -/
def Dev.spareRecord (d : Dev) (site : Nat) : List Byte :=
  let state := if !d.inService site then 1 else if (d.site site).phase == .running then 0 else 2
  let used := (List.range 125).filterMap (d.physStand site)
  let usable := (List.range 133).filter fun p => d.standUsable site p && !d.sp.failed.contains (standUnit site p)
  let moved := (d.sp.coreMap.filter (·.1 == site)).length
  let short := usable.filter fun p => (d.mills site p).length < 13
  let noSpare := usable.filter fun p => (d.mills site p).length < 13 || d.sp.coreMap.any (fun e => e.1 == site && e.2.1 == p) ||
    d.sp.failed.contains (coreUnit site p (pick 0 (d.mills site p) 12))
  leBytes 1 site ++ leBytes 1 state ++ leBytes 2 (d.standsPresent site) ++ leBytes 2 (usable.filter fun p => !used.contains p).length ++
  sat 2 (countOf site d.sp.substituted) ++ leBytes 2 (short.length + moved) ++ leBytes 2 noSpare.length ++
  leBytes 2 (d.sp.lanes.filter (·.1 == site)).length ++ leBytes 2 (d.site site).retired.length ++
  leBytes 4 (d.cs.maxima.filter (·.1 == site)).length ++ leBytes 4 (d.slowestCore site) ++ zeros 8

/-- Transients of a unit within 24 h (R494). -/
def Dev.transientsOf (d : Dev) (unit : Nat) : Nat :=
  (d.fa.transients.filter fun t => t.1 == unit && decide (d.tb.ns < t.2 + 86400000000000)).length

/-- Error count records of the units of a kind, or of all (12, R490, R494). -/
def Dev.errorRecords (d : Dev) (idx : Nat) : List (List Byte) :=
  let units := (d.fa.counts.map (·.unit) ++ d.fa.transients.map (·.1)).eraseDups.filter fun u => idx == 0xFFFF || unitKind u == idx
  units.filterMap fun u =>
    let c := lookup (·.unit == u) ({ unit := u, hour := 0, corrected := 0, uncorrectable := 0 } : ErrCount) d.fa.counts
    if c.hour + c.corrected + c.uncorrectable + d.transientsOf u = 0 then none
    else some (leBytes 8 u ++ sat 8 c.hour ++ sat 8 c.corrected ++ sat 4 c.uncorrectable ++ sat 4 (d.transientsOf u))

/-- Site power and throttle record (12). -/
def Dev.powerRecord (d : Dev) (site : Nat) : List Byte :=
  let mine := d.th.throttles.filter (·.site == site)
  let hot := (d.th.sensors.filter (·.die == 0x100 + site)).map d.control
  let e := lookup (fun (e : Nat × Nat × Option Nat) => e.1 == site) (site, 0, none) d.th.throttled
  let trickle := d.pw.trickleRatio - (d.limiter (some site)).trickleOff - (d.limiter none).trickleOff
  leBytes 1 site ++ leBytes 1 (((List.range 8).filter fun z => mine.any fun t => t.zone == z && (decide (0 < t.skip) || decide (1 < t.div))).map (2 ^ ·)).sum ++
  leBytes 1 ((mine.map (·.skip)).foldl max 0) ++ leBytes 1 ((mine.map (·.div)).foldl max 1) ++ leBytes 1 trickle ++
  leBytes 1 (d.limiter (some site)).skip ++ leInt 2 (hot.foldl max (hot.headD 0)) ++ leBytes 4 ((d.limiter (some site)).mean / 100) ++
  leBytes 4 (d.limitOf (some site) / 100) ++ sat 8 (e.2.1 + e.2.2.elim 0 (d.tb.ns - ·)) ++ zeros 8

/-- Lanes of the units of a loopback test (R521): (where, plane, group), lanes of each, and line bits per lane and 20 ns (R216, 01). -/
def loopUnits : Nat → List (Nat × Nat × Nat) × Nat × Nat
  | 1 => (((List.range 55).map fun p => (List.range 4).map fun q => (p, q, 0)).flatten, 18, 2125)
  | 2 => ((computeSites.map fun s => (List.range 256).map fun g => (s, 0, g)).flatten, 154, 78)
  | 3 => ((computeSites.map fun s => (List.range 256).map fun g => (s, 0, g)).flatten, 154, 78)
  | 4 => ((List.range 8).map fun p => (p, 0, 0), 18, 2125)
  | _ => ([], 0, 0)

/-- Whether a lane of a unit under loopback stands on a spare in service (R522). -/
def Dev.loopSpare (d : Dev) (test : Nat) (u : Nat × Nat × Nat) (lane : Nat) : Bool :=
  match test with
  | 1 => let o := d.optic u.1 u.2.1; o.txFault == lane || o.txCal == lane || o.rxFault == lane || o.rxCal == lane
  | 4 => let p := d.fport u.1; p.faultLane == lane || p.calLane == lane
  | _ => d.sp.lanes.any fun e => e.1 == u.1 && e.2.1 == u.2.2 && e.2.2.1 == lane

/-- A loopback result record (R522): what the lanes show is free (log 23). -/
def Dev.loopRecord (d : Dev) (test k : Nat) (u : Nat × Nat × Nat) : List Byte :=
  let info := loopUnits test
  let head := leBytes 1 test ++ leBytes 1 u.1 ++ leBytes 1 u.2.1 ++ zeros 1 ++ leBytes 2 u.2.2 ++ leBytes 2 info.2.1 ++
    leBytes 8 ((d.tb.ns - d.ts.entered) * info.2.2 / 20) ++ leBytes 8 d.ts.entered ++ zeros 8
  let lane := fun (i : Nat) =>
    let f := fun (j : Nat) => Config.loopResult d.free (3 * (154 * k + i) + j)
    leBytes 4 (f 0) ++ leBytes 2 (f 1) ++ leBytes 1 (f 2 % 2 + 2 * natOf (d.loopSpare test u i)) ++ zeros 1
  head ++ ((List.range info.2.1).map lane).flatten

/-- The records of a selector and index (R379): bytes of each and the records; none for an unknown selector or an index outside. -/
def Dev.telemetry (d : Dev) (sel idx : Nat) : Option (Nat × List (List Byte)) :=
  let planes := if idx = 0xFFFF then [0, 1, 2, 3] else [idx]
  let sites := if idx = 0xFFFF then computeSites else [idx]
  let planeOk := decide (idx < 4) || idx == 0xFFFF
  let siteOk := isCompute idx || idx == 0xFFFF
  match sel with
  | 0x01 => if planeOk then some (64, ((List.range 55).map fun p => planes.map fun q => (d.pport p q).bytes).flatten) else none
  | 0x02 => if planeOk then some (16, (d.ba.standing.filter fun g => planes.contains g.plane).map Standing.bytes) else none
  | 0x03 => if siteOk then some (32, d.droopRecords idx) else none
  | 0x04 => if siteOk then some (32, sites.map d.spareRecord) else none
  | 0x05 => if (decide (1 ≤ idx) && decide (idx ≤ 0x0E)) || idx == 0xFFFF then some (32, d.errorRecords idx) else none
  | 0x06 => if siteOk then some (32, sites.map d.powerRecord) else none
  | 0x40 =>
    let test := d.ts.selector.getD 0
    some (32 + 8 * (loopUnits test).2.1, (loopUnits test).1.zipIdx.map fun u => d.loopRecord test u.2 u.1)
  | _ => none

/-- TELEMETRY_READ (R379). -/
def telemetryRead (ch : Nat) (d : Dev) : Dev :=
  d.onCommand 0x0600 ch fun _ b d =>
    let sel := u16 b 0
    let idx := u16 b 2
    let a := u64 b 8
    let n := u64 b 16
    if sel = 0x40 ∧ d.hg.devState ≠ .test then d.failState ch
    else match d.telemetry sel idx with
      | none => d.fail ch stBadParam
      | some (size, rs) =>
        let need := 16 + size * rs.length
        if u32 b 4 ≠ 0 ∨ !d.bufferOk a n then d.fail ch stBadParam
        else if n < need then d.answer ch stNoResource (leBytes 4 need ++ zeros 4) 0
        else
          let head := leBytes 2 sel ++ leBytes 2 size ++ leBytes 4 rs.length ++ leBytes 8 d.tb.ns
          ((onlyIf (sel == 0x40) Dev.draw d).store a (head ++ rs.flatten)).answer ch stOk (leBytes 4 need ++ leBytes 4 rs.length) 0
/-- TELEMETRY_READ (R379). -/
def execTelemetryRead (ch : Nat) (s : State) : Result := s.run (.telemetryRead ch) (telemetryRead ch)

/-! ## EVENT_LOG_READ (R488) -/

/-- The 32 bytes of an event log entry (R488). -/
def Event.bytes (e : Event) : List Byte :=
  leBytes 8 e.number ++ leBytes 8 e.xtb ++ leBytes 8 e.unit ++ leBytes 1 (e.code / 256) ++ leBytes 1 e.outcome ++ leBytes 2 e.code ++
  leBytes 4 e.value

/-- EVENT_LOG_READ (R488): entries from a number on, as many as are held and wanted. -/
def eventLogRead (ch : Nat) (d : Dev) : Dev :=
  d.onCommand 0x0601 ch fun _ b d =>
    let first := u64 b 0
    let count := u32 b 8
    let a := u64 b 16
    if u32 b 12 ≠ 0 ∨ !d.bufferOk a (32 * count) then d.fail ch stBadParam
    else
      let es := (d.lg.entries.reverse.filter fun e => decide (first ≤ e.number)).take count
      let next := (es.getLast?).elim (min first d.lg.next) fun e => e.number + 1
      (d.store a (es.map Event.bytes).flatten).answer ch stOk (leBytes 8 next ++ leBytes 4 es.length) 0
/-- EVENT_LOG_READ (R488). -/
def execEventLogRead (ch : Nat) (s : State) : Result := s.run (.eventLogRead ch) (eventLogRead ch)

/-! ## SELFTEST_RUN (R378, R462, R523) -/

/-- Whether an identifier names a unit that SELFTEST_RUN tests (R378, R460). -/
def selfTestUnit (u : Nat) : Bool :=
  let p := unitPlace u
  let plane := bitsOf u 47 40
  let c := bitsOf u 39 32
  let e := bitsOf u 31 16
  let f := bitsOf u 15 0
  match unitKind u with
  | 0x01 => isCompute p && plane == 0 && decide (c < 21) && decide (e < 133) && f == 0
  | 0x02 => isCompute p && plane == 0 && c == 0 && decide (e < 133) && f == 0
  | 0x03 => isCompute p && plane == 0 && c == 0 && decide (e < 256) && decide (f < 154)
  | 0x04 => isCompute p && plane == 0 && c == 0 && decide (e < 256) && f == 0
  | 0x05 => isCompute p && bitsOf u 47 0 == 0
  | 0x06 => decide (p < 55) && decide (plane < 4) && decide (c < 2) && e == 0 && decide (f < 18)
  | 0x07 => decide (p < 55) && decide (plane < 4) && c == 0 && e == 0 && (f == 0 || decide (55 ≤ f ∧ f < 64))
  | 0x09 => decide (p < 16) && decide (plane < 32)
  | 0x0A => decide (p < 16) && decide (plane < 16) && bitsOf u 39 0 == 0
  | 0x0B => decide (p < 16) && bitsOf u 47 0 == 0
  | 0x0D => decide (p < 8) && plane == 0 && decide (c < 2) && e == 0 && decide (f < 18)
  | 0x0E => (p == 49 || p == 50) && bitsOf u 47 0 == 0
  | _ => false

/-- Whether a test may not run now (R378, R462, R523): of the active Ranger, of a die on the test chain, below the minimum
configuration, or to clear a unit that the fuses mark bad. -/
def Dev.testRefused (d : Dev) (u : Nat) (clear : Bool) : Bool :=
  let p := unitPlace u
  let plane := bitsOf u 47 40
  let lastPort := (List.range 4).all fun q => q == plane || (d.pport p q).retired
  d.chained (unitPort u) || (clear && d.sp.fuseBad.contains u) ||
  (match unitKind u with
   | 0x05 => d.inService p && decide (d.siteCount ≤ 24)
   | 0x06 => (p == 48 || p == d.activePort) && lastPort
   | 0x07 => (p == 48 || p == d.activePort) && lastPort
   | 0x0B => !(d.stack p).fenced && decide (d.stackCount ≤ 12)
   | 0x0E => p == d.activePort
   | _ => false)

/-- A failing test excludes its unit (R378, R495): a site leaves service, every other unit as for a lasting fault. -/
def Dev.excludeUnit (u why : Nat) (d : Dev) : Dev :=
  match unitKind u with
  | 0x05 => (((d.log u 2 0x0202 why).fdm u 1 1 1).siteOut (unitPlace u)).checkMinimum
  | 0x0E => (d.lasting u why).setStandby .bad
  | _ => d.lasting u why

/-- Whether a unit that may be tested is out of service already (R378, R462). -/
def Dev.unitOut (d : Dev) (u : Nat) : Bool :=
  match unitKind u with
  | 0x05 => !d.inService (unitPlace u)
  | 0x0B => (d.stack (unitPlace u)).fenced
  | 0x0E => d.fw.standby == .bad
  | _ => d.sp.failed.contains u

/-- The unit whose traffic and work stop while another is tested (R378): a bond lane's group. -/
def heldUnit (u : Nat) : Nat := if unitKind u = 3 then unitId 4 (unitPlace u) 0 0 (bitsOf u 31 16) 0 else u

/-- The test of a unit begins (R378, R492): it carries no traffic and no work; a site leaves service, a stack is fenced, the standby is
held in reset. -/
def Dev.holdTested (u : Nat) (d : Dev) : Dev :=
  match unitKind u with
  | 0x05 => if d.inService (unitPlace u) then d.siteOut (unitPlace u) else d
  | 0x0B => (((d.onStack (unitPlace u) fun s => { s with fenced := true }).failOps (unitPlace u) fun _ => true).log u 4 0x0204 0).degrade
  | 0x0E => d.setStandby .selfTest
  | _ => d.beginTest (heldUnit u)

/-- A unit whose test has ended carries traffic and work again, unless it was out of service before (R378, R492). -/
def Dev.releaseTested (r : SelfRun) (d : Dev) : Dev :=
  match unitKind r.unit with
  | 0x05 => if r.wasOut then d else ({ d with sp.out := d.sp.out.filter (· != unitPlace r.unit) } : Dev).replaceFor (unitPlace r.unit)
  | 0x0B => if r.wasOut then d else d.onStack (unitPlace r.unit) fun s => { s with fenced := false }
  | 0x0E => if d.fw.standby = .selfTest then d.setStandby (if r.wasOut then .bad else .booting) else d
  | _ =>
    let u := heldUnit r.unit
    let d1 := d.endTest u
    if unitKind u = 6 ∨ unitKind u = 7 then d1.freePort .selfTest (unitPlace u) (bitsOf u 47 40) else d1

/-- A failing test of a unit ends (R378): it is excluded. -/
def Dev.failTested (r : SelfRun) (why : Nat) (d : Dev) : Dev :=
  match unitKind r.unit with
  | 0x05 => d.excludeUnit r.unit why
  | 0x0B => (d.onStack (unitPlace r.unit) fun s => { s with fenced := r.wasOut }).excludeUnit r.unit why
  | 0x0E => d.excludeUnit r.unit why
  | _ => (d.endTest (heldUnit r.unit)).excludeUnit r.unit why

/-- A unit's BAD or SUSPECT entry is removed by a test that passes (R462). -/
def Dev.clearMark (u : Nat) (d : Dev) : Dev :=
  let mark := fun (e : FdmEntry) => e.unit == u && (e.type == 1 || e.type == 3)
  if d.sp.fdm.any mark then
    { d with sp.fdm := d.sp.fdm.filter (fun e => !mark e), sp.held := some (d.sp.held.getD d.tb.ns) }
  else d

/-- The self-test of a running SELFTEST_RUN ends (R378): the unit resumes at the next boundary, or is excluded. -/
def Dev.endRun (ch : Nat) (r : SelfRun) (result : TestResult) (duration : Nat) (clear : Bool) (d : Dev) : Dev :=
  let body := fun (x o : Nat) => leBytes 1 x ++ leBytes 1 o ++ zeros 2 ++ leBytes 4 (duration / 1000)
  let d0 := d.reach (r.since + duration)
  let rest := d0.ts.runs.filter (· != r)
  match result with
  | .pass =>
    let d1 : Dev := { d0 with ts.runs := rest ++ [{ r with ch := none }] }
    (onlyIf clear (Dev.clearMark r.unit) d1).answer ch stOk (body 0 0) 0
  | x =>
    let d1 := Dev.failTested r (if x = .fail then 0 else 2) { d0 with ts.runs := rest }
    d1.answer ch (if d1.sp.degraded ∧ !r.degraded then stDegraded else stOk) (body (if x = .fail then 1 else 2) 2) 0

/-- SELFTEST_RUN (R378): as the row first runs, the command is judged and the unit's test begins; the next time the row runs the test has
ended (log 112), and what it showed and how long it ran are the row's operands. -/
def selftestRun (ch : Nat) (result : TestResult) (duration : Nat) (d : Dev) : Dev :=
  d.onCommand 0x0604 ch fun _ b d =>
    let u := u64 b 0
    let clear := bitOf (u8 b 8) 0
    match d.ts.runs.find? fun r => r.ch == some ch && decide ((d.chan ch).accepted ≤ r.since) with
    | some r => d.endRun ch r result duration clear
    | none =>
      if !selfTestUnit u ∨ 1 < u8 b 8 then d.fail ch stBadParam
      else if d.testRefused u clear then d.failState ch
      else
        let r : SelfRun := { ch := some ch, unit := u, since := d.tb.ns, degraded := d.sp.degraded, wasOut := d.unitOut u }
        Dev.holdTested u { d with ts.runs := d.ts.runs ++ [r] }
/-- SELFTEST_RUN (R378). -/
def execSelftestRun (ch : Nat) (result : TestResult) (duration : Nat) (s : State) : Result :=
  s.run (.selftestRun ch result duration) (selftestRun ch result duration)

/-! ## TEST (R376, R521) -/

/-- The test of a selector begins (R521): far-end bond loopback quiesces every Canopy, SPILLWAY_LOOPBACK darkens the fibres. -/
def Dev.startTest (sel : Nat) (d : Dev) : Dev :=
  match sel with
  | 3 => each (computeSites.filter d.inService) (fun s d => (d.poisonSite s).stopCanopy s .cpReset) d
  | 4 => each (List.range 8) (fun p d => d.onFport p fun x => { x with st := .dark, changed := d.tb.ns }) d
  | _ => d

/-- TEST_MODE_ENTER (R376, R383): the other sessions close, then the test runs. -/
def testModeEnter (ch : Nat) (d : Dev) : Dev :=
  d.onCommand 0x0700 ch fun id b d =>
    let sel := u8 b 0
    if sel < 1 ∨ 5 < sel then d.fail ch stBadParam
    else
      let others := (d.ses.list.filter (·.id != id)).map (·.id)
      if others.any fun o => d.sessionBusy o none then each others Dev.beginClose d
      else
        let a := d.prepareClose others
        if !a.2 then a.1
        else
        let d1 := (each others (fun o d => (d.closeSession o).1) a.1).setState .test
        (Dev.startTest sel { d1 with ts.selector := some sel, ts.entered := d1.tb.ns, ts.session := id }).answer ch stOk [] 0
/-- TEST_MODE_ENTER (R521). -/
def execTestModeEnter (ch : Nat) (s : State) : Result := s.run (.testModeEnter ch) (testModeEnter ch)

/-- TEST_MODE_EXIT (R376, R523): the test stops; the device restarts after the response. -/
def testModeExit (ch : Nat) (d : Dev) : Dev :=
  d.onCommand 0x0701 ch fun _ _ d => ({ d with ts.selector := none }).answer ch stAccepted [] atNextStart
/-- TEST_MODE_EXIT (R376). -/
def execTestModeExit (ch : Nat) (s : State) : Result := s.run (.testModeExit ch) (testModeExit ch)

end Sys2Proof.Machine
end

