-- ==== Sys2Proof/Machine/Timebase.lean ====
section
/-!
DEFINITION. The external timebase (chapter 05): its states, its inputs, the step of the count, and the commands that
configure the timebase and the rounds.
-/

namespace Sys2Proof.Machine

/-! ## Transitions (R160, R165, R167) -/

/-- A transition of the timebase (R160): recorded with its cause, TIMEBASE raised; the HOLDOVER age begins, continues or ends
(R165); in FREE and HOLDOVER nothing steers the increment (R162, R163). -/
def Dev.setTb (st : TbState) (cause : Nat) (d : Dev) : Dev :=
  let hold := match st with
    | .holdover => some (d.tb.holdSince.getD d.tb.ns)
    | .acquiring => d.tb.holdSince
    | _ => none
  let steer := st == TbState.acquiring || st == TbState.locked
  let d1 :=
    { d with
      tb.st := st
      tb.cause := cause
      tb.acqFrom := if st = TbState.acquiring then d.tb.st else d.tb.acqFrom
      tb.holdSince := hold
      tb.incr := if steer then d.tb.incr else 0
      tb.slewing := st == TbState.acquiring && d.tb.st == TbState.holdover
      tb.everLocked := d.tb.everLocked || st == TbState.locked
      tb.mayStep := false
      tb.blocked := false
      tb.farEdge := false
      tb.goodEdges := 0
      tb.lockEdges := 0
      tb.offEdges := 0
      tb.badSecs := 0 }
  (d1.log 0 0 0x0501 cause).raiseInt 3

/-- ACQUIRING entered with the right to step the count (R164): from FREE, or by reacquire. -/
def Dev.acquire (cause : Nat) (step : Bool) (d : Dev) : Dev :=
  let d1 := d.setTb .acquiring cause
  { d1 with tb.mayStep := step, tb.slewing := !step }

/-- TB_CLK or TB_PPS is lost (R160): ACQUIRING returns to the state it was entered from, and LOCKED gives way to HOLDOVER. -/
def Dev.inputLost (cause : Nat) (d : Dev) : Dev :=
  match d.tb.st with
  | .locked => d.setTb .holdover cause
  | .acquiring =>
    let back := d.tb.acqFrom
    let d1 := d.setTb back cause
    if back = .locked then d1.setTb .holdover cause else d1
  | _ => d

/-- Whether no TB_PPS edge has come for 1.05 s (R160). -/
def Dev.ppsGone (d : Dev) : Bool := d.tb.lastEdge.elim true fun t => decide (t + 1050000000 ≤ d.tb.ns)

/-- ACQUIRING entered by reacquire (R160, R164): with an input already lost it returns at once. -/
def Dev.reacquire (d : Dev) : Dev :=
  let d1 := d.acquire 6 true
  if !d.tb.clk then d1.inputLost 1 else if d.ppsGone then d1.inputLost 2 else d1

/-- TB_CLK has been absent for 1 µs (R160). -/
def tbClkLoss (d : Dev) : Dev := ({ d with tb.clk := false }).inputLost 1
/-- TB_CLK_LOSS (R160). -/
def execTbClkLoss (s : State) : Result := s.run .tbClkLoss tbClkLoss

/-- TB_CLK returns: it drives the count again (R163). -/
def tbClkRestored (d : Dev) : Dev := { d with tb.clk := true }
/-- TB_CLK_RESTORED (R163). -/
def execTbClkRestored (s : State) : Result := s.run .tbClkRestored tbClkRestored

/-- No TB_PPS edge for 1.05 s after the last one (R160). -/
def tbPpsLoss (d : Dev) : Dev :=
  match d.tb.lastEdge with
  | some t =>
    let d1 := d.reach (t + 1050000000)
    Dev.inputLost 2 { d1 with tb.pps := false }
  | none => d
/-- TB_PPS_LOSS (R160). -/
def execTbPpsLoss (s : State) : Result := s.run .tbPpsLoss tbPpsLoss

/-! ## TB_PPS edges -/

/-- The offset at an edge, in 2^-16 ns (05, timebase states): the count less pps_delay, modulo 10^9 ns, in (−5 × 10^8,
5 × 10^8]. -/
def Dev.edgeOffset (d : Dev) : Int :=
  let full : Int := (65536000000000 : Nat)
  let v := (((d.tb.ns * 65536 + d.tb.frac : Nat) : Int) - ((d.tb.ppsDelay * 65536 : Nat) : Int)) % full
  if full / 2 < v then v - full else v

/-- Whether an offset exceeds a number of ns in magnitude. -/
def beyond (offset : Int) (ns : Nat) : Bool := decide (ns * 65536 < offset.natAbs)

/-- The second that the count names at the last edge. -/
def Dev.edgeSecond (d : Dev) : Nat := (d.tb.lastEdge.getD 0 - d.tb.ppsDelay + 500000000) / 1000000000

/-- Whether the frame of the last edge is one that LOCKED accepts: valid, not unlocked, its seconds those of the count
(R160). -/
def Dev.secondGood (d : Dev) : Bool := d.tb.frame.elim false fun f => !f.unlocked && f.seconds == d.edgeSecond

/-- LOCKED at an edge (R160): an offset above 100 ns at 2 edges, or 3 bad seconds, leads to HOLDOVER; the first row that
applies is taken. -/
def Dev.lockedEdge (d : Dev) : Dev :=
  if d.tb.st = .locked then
    if 2 ≤ d.tb.offEdges then d.setTb .holdover 3
    else if 3 ≤ d.tb.badSecs then d.setTb .holdover 4
    else d
  else d

/-- A new increment, the firmware's own choice within 3 × 2^-16 ns of 1 ns (R531, log 18): in LOCKED, and in ACQUIRING
(R164); in LOCKED the rate ratio is measured (R163). -/
def Dev.steer (d : Dev) : Dev :=
  if d.tb.st = .locked ∨ d.tb.st = .acquiring then
    { d.draw with tb.incr := max (-3) (min 3 (Config.increment d.free))
                  tb.ratio := if d.tb.st = .locked then Config.clkRatio d.free else d.tb.ratio }
  else d

/-- A rising edge of TB_PPS (R160, R531): presence, offset, and the seconds and edges that LOCKED counts; what is measured during a handover
is discarded (R31). -/
def tbPpsEdge (prevHigh : Nat) (d : Dev) : Dev :=
  let iv := d.tb.lastEdge.map (d.tb.ns - ·)
  let ok := iv.elim false (fun i => decide (999999000 ≤ i) && decide (i ≤ 1000001000)) &&
    decide (100 ≤ prevHigh) && decide (prevHigh ≤ 900000000)
  let off := d.edgeOffset
  let noFrame := d.tb.frame.elim true (·.unlocked)
  let bad := d.tb.lastEdge.isSome && !d.secondGood
  let d0 := { d with tb.pps := ok, tb.lastEdge := some d.tb.ns, tb.prevFrame := d.tb.frame, tb.frame := none }
  let d1 :=
    { d0 with
      tb.offset := off
      tb.goodEdges := if noFrame then 0 else d.tb.goodEdges
      tb.lockEdges := if noFrame then 0 else d.tb.lockEdges
      tb.offEdges := if beyond off 100 then d.tb.offEdges + 1 else 0
      tb.badSecs := if bad then d.tb.badSecs + 1 else 0 }
  if d.fw.handover.isSome then d0 else if d.tb.freeRun then d1 else d1.lockedEdge.steer
/-- TB_PPS_EDGE (R160). -/
def execTbPpsEdge (prevHigh : Nat) (s : State) : Result := s.run (.tbPpsEdge prevHigh) (tbPpsEdge prevHigh)

/-! ## The step of the count (R164, R170) -/

/-- An item is late because of a step of the count (R170): status ITEM_LATE, detail 0x32, once its work is done. -/
def Item.stepLate (it : Item) : Item := if it.status = 0 then { it with status := 2, detail := 0x32 } else it

/-- A forward step: the items that were dispatched in the round that it ends are late (R170). -/
def Dev.lateDispatched (d : Dev) : Dev :=
  d.onItems fun _ it =>
    let out : Bool := match it.stage with
      | .taken => false
      | .loading => false
      | .ready => false
      | _ => true
    if out && it.dispatched == d.rd.number then it.stepLate else it

/-- A backward step before dispatch: the items that the round would have dispatched are late (R170). DEDUCED (log 109): items already
dispatched are not. -/
def Dev.lateWaiting (d : Dev) : Dev :=
  d.onItems fun _ it => match it.stage with
    | .running _ _ => it
    | .finished => it
    | _ => it.stepLate

/-- The first boundary at or after an instant with a round number of at least `k` (R170). -/
def scheduleFrom (period epoch t k : Nat) : Nat := epoch + max k ((t - epoch + period - 1) / period) * period

/-- How rounds go on after a step of the count to `new` (R170). -/
def Dev.roundStep (old new : Nat) (d : Dev) : Dev :=
  let p := d.rd.period
  let e := d.rd.epoch
  if d.rd.active then
    if new < old ∨ new < e then
      let d1 := if d.rd.done.contains .dispatch then d else d.lateWaiting
      let skipped := [RoundPoint.descRead, .calOpen, .dispatch].filter (fun q => !d.rd.done.contains q)
      { d1 with rd.done := skipped ++ d.rd.done, rd.next := e + (d.rd.number + 1) * p }
    else { d.lateDispatched with rd.active := false, rd.next := scheduleFrom p e new (d.rd.number + 1) }
  else { d with rd.next := scheduleFrom p e new (if d.rd.begun then d.rd.top + 1 else 0) }

/-- A step of the master count (R164, R170), recorded with its size and the boundary from which rounds follow R168 again. -/
def Dev.countStep (new : Nat) (d : Dev) : Dev :=
  let old := d.tb.ns
  let delta : Int := (new : Int) - old
  let move := fun (t : Nat) => ((t : Int) + delta).toNat
  let d1 := ({ d with tb.ns := new, tb.frac := 0, tb.lastEdge := d.tb.lastEdge.map move, tb.holdSince := d.tb.holdSince.map move
                      bu.stepped := true }).roundStep old new
  d1.logWith 0 0 0x0506 (natOf (decide (new < old))) [((delta % (2 ^ 64 : Nat)).toNat, 0), (d1.rd.next, 0)]

/-! ## TB_TOD frames (R158) -/

/-- Whether a frame is valid (R158): sync, version and crc, and its end within 10 to 900 ms of the edge. -/
def Dev.frameValid (bytes : List Byte) (d : Dev) : Bool :=
  u16 bytes 0 == 0x4254 && u8 bytes 2 == 1 && u16 bytes 14 == crc16 (bytes.take 14) &&
  d.tb.lastEdge.elim false (fun t => decide (t + 10000000 ≤ d.tb.ns) && decide (d.tb.ns ≤ t + 900000000))

/-- A valid frame that counts, in ACQUIRING (R160, R164): it may step the count; three edges within 20 ns lock. -/
def Dev.acquiringFrame (f : TodFrame) (d : Dev) : Dev :=
  if f.unlocked then { d with tb.lockEdges := 0 }
  else if d.tb.mayStep then
    let elapsed := d.tb.ns - d.tb.lastEdge.getD d.tb.ns
    let d1 := d.countStep (f.seconds * 1000000000 + d.tb.ppsDelay + elapsed)
    { d1 with tb.mayStep := false, tb.lockEdges := 0 }
  else
    let next := d.tb.prevFrame.elim false (fun p => f.seconds == p.seconds + 1)
    let n := if beyond d.tb.offset 20 || !next then 0 else d.tb.lockEdges + 1
    if 3 ≤ n then d.setTb .locked 8 else { d with tb.lockEdges := n }

/-- A valid frame that counts, in FREE or HOLDOVER (R160, R161): inputs that return with an offset above 1 ms block the return to ACQUIRING. -/
def Dev.waitingFrame (f : TodFrame) (d : Dev) : Dev :=
  if f.unlocked then { d with tb.goodEdges := 0, tb.farEdge := false }
  else
    let n := d.tb.goodEdges + 1
    let far := beyond d.tb.offset 1000000
    let wasFar := d.tb.farEdge
    let d1 := { d with tb.goodEdges := n, tb.farEdge := far }
    if 2 ≤ n ∧ d.tb.clk ∧ d.tb.pps ∧ !d.tb.blocked then
      if d.tb.st = .free then d1.acquire 7 true
      else if far || wasFar then { d1 with tb.cause := 9, tb.blocked := true }
      else d1.acquire 7 false
    else d1

/-- A TB_TOD frame ends (R158): only the first valid frame of an edge counts; FREE_RUN ignores the inputs (R159), and nothing follows from a
frame that ends during a handover (R31). -/
def tbTodFrame (bytes : List Byte) (d : Dev) : Dev :=
  let f : TodFrame := { unlocked := u8 bytes 3 % 2 == 0, seconds := u64 bytes 4 }
  let d0 := { d with tb.lastGood := d.frameValid bytes && !f.unlocked }
  if !d.frameValid bytes || d.tb.frame.isSome then d0
  else
    let d1 := { d0 with tb.frame := some f }
    if d.tb.freeRun ∨ d.fw.handover.isSome then d1
    else match d.tb.st with
      | .acquiring => if d.tb.clk then d1.acquiringFrame f else d1
      | .locked => d1
      | _ => d1.waitingFrame f
/-- TB_TOD_FRAME (R158). -/
def execTbTodFrame (bytes : List Byte) (s : State) : Result := s.run (.tbTodFrame bytes) (tbTodFrame bytes)

/-- Dies that hold a replica of the count (R157): by Basin port, 0x100 + site for a Canopy, 0x40 for the Basin's. -/
def replicaDies : List Nat := ((List.range 55).filter (· != 48)) ++ 0x40 :: computeSites.map (0x100 + ·)

/-- A die's replica of the count, 2^-16 ns (R157); the Headgate's is the master. -/
def Dev.replica (d : Dev) (die : Nat) : Int := ((d.tb.ns * 65536 + d.tb.frac : Nat) : Int) + (valueOf die d.tb.skew).getD 0

/-- The rate correction to every replica, every 10 µs (R157): each differs from the master by at most 4 ns. A row of the round table acts on
every die together (log 27). -/
def xtbRateCorrection (d : Dev) : Dev :=
  let d1 := d.reach (d.tb.lastRate + 10000)
  let skew := replicaDies.map fun die => (die, max (-262144) (min 262144 (Config.replica d1.free die)))
  { d1.draw with tb.lastRate := d1.tb.ns, tb.skew := skew }
/-- XTB_RATE_CORRECTION (R157). -/
def execXtbRateCorrection (s : State) : Result := s.run .xtbRateCorrection xtbRateCorrection

/-! ## TIMEBASE_CONFIG, TIMEBASE_STATUS, ROUND_CONFIG -/

/-- The settings take effect at once (R159, R160). -/
def Dev.applyTimebase (mode reacquire delay : Nat) (d : Dev) : Dev :=
  let d1 := { d with tb.freeRun := mode == 1, tb.ppsDelay := delay }
  if mode = 1 then (if d.tb.st = .free then d1 else d1.setTb .free 5)
  else if reacquire = 1 ∧ (d.tb.st = .locked ∨ d.tb.st = .holdover) then d1.reacquire
  else d1

/-- TIMEBASE_CONFIG (R159): kept in the configuration record (R479); TEMP_RANGE when the flash cannot be written (R372). -/
def timebaseConfig (ch : Nat) (d : Dev) : Dev :=
  d.onCommand 0x0404 ch fun _ b d =>
    let mode := u8 b 0
    let re := u8 b 1
    let delay := u32 b 4
    if 1 < mode ∨ 1 < re ∨ u16 b 2 ≠ 0 ∨ 10000 < delay then d.fail ch stBadParam
    else if !d.flashOk then d.fail ch stTempRange
    else ((d.writeConf fun c => { c with tbMode := mode, ppsDelay := delay }).applyTimebase mode re delay).answer ch stOk [] 0
/-- TIMEBASE_CONFIG (R159). -/
def execTimebaseConfig (ch : Nat) (s : State) : Result := s.run (.timebaseConfig ch) (timebaseConfig ch)

/-- TIMEBASE_STATUS response body, 64 bytes (R167). -/
def Dev.timebaseBody (d : Dev) : List Byte :=
  let flags := natOf d.tb.clk + 2 * natOf d.tb.pps + 4 * natOf d.tb.lastGood + 8 * natOf d.tb.slewing +
    16 * natOf d.tb.everLocked + 32 * natOf (!d.rd.active)
  leBytes 1 d.tb.st.code ++ leBytes 1 d.tbAxis ++ leBytes 2 flags ++ leBytes 4 d.tb.cause ++ leBytes 8 d.tb.ns ++
  leBytes 2 d.tb.frac ++ zeros 6 ++ leInt 8 d.tb.offset ++ leBytes 8 d.holdAge ++ leBytes 8 d.rd.number ++
  leBytes 4 (d.rd.period / 1000) ++ leBytes 4 d.rd.overruns ++ leBytes 8 d.rd.epoch

/-- TIMEBASE_STATUS (R167). -/
def timebaseStatus (ch : Nat) (d : Dev) : Dev := d.onCommand 0x0405 ch fun _ _ d => d.answer ch stOk d.timebaseBody 0
/-- TIMEBASE_STATUS (R167). -/
def execTimebaseStatus (ch : Nat) (s : State) : Result := s.run (.timebaseStatus ch) (timebaseStatus ch)

/-- ROUND_CONFIG (R169, R242): refused while a graph is PLACED or BOUND; the schedule changes as the response is written. -/
def roundConfig (ch : Nat) (d : Dev) : Dev :=
  d.onCommand 0x0200 ch fun _ b d =>
    let us := u32 b 0
    let timeout := u32 b 4
    let epoch := u64 b 8
    match d.gr.list.find? (·.isPlaced) with
    | some g => d.failConflict ch [] 1 (d.graphState g) g.handle
    | none =>
      if us < 100 ∨ 10000 < us ∨ us % 100 ≠ 0 ∨ d.tb.ns < epoch ∨ (timeout ≠ 0 ∧ (timeout < 2 ∨ 1000 < timeout)) then
        d.fail ch stBadParam
      else if us < 400 ∧ !bitOf d.fw.features 3 then d.fail ch stNotLicensed
      else
        let new : NewRounds := { ch, period := us * 1000, epoch, timeout := if timeout = 0 then d.rd.timeout else timeout * 1000 }
        ({ d with rd.pending := d.rd.pending ++ [new] } : Dev).answer ch stAccepted (zeros 8) 0
/-- ROUND_CONFIG (R169). -/
def execRoundConfig (ch : Nat) (s : State) : Result := s.run (.roundConfig ch) (roundConfig ch)

end Sys2Proof.Machine
end

