-- ==== Sys2Proof/Machine/Bringup.lean ====
section
/-!
DEFINITION. Bring-up (chapter 15): the stages S0 to S9, their reports, discovery, and the reset that begins them (11 R362).
-/

namespace Sys2Proof.Machine

/-- What a stage ends with: the device, the outcomes as (result, cause, unit), units excluded or retired, and d0 to d3. -/
structure StageEnd where
  dev : Dev
  causes : List (Nat × Nat × Nat)
  excluded : Nat
  detail : List Int

/-- An outcome of a stage when a condition holds. -/
def causeIf (c : Bool) (result code unit : Nat) : List (Nat × Nat × Nat) := if c then [(result, code, unit)] else []

/-- An entry of the bring-up log (R433). -/
def Dev.bringLog (kind cause unit value : Nat) (d : Dev) : Dev :=
  let e : BringLog := { xtb := d.tb.ns, stage := d.hg.stage, kind, cause, unit, value }
  { d with bu.log := (e :: d.bu.log).take 16384 }

/-! ## S0 and S1 -/

/-- S0 (R428, R429, R510, R511): rails, fuses, straps, the ROM self-tests of both Rangers. -/
def stage0 (f : StageFindings) (d : Dev) : StageEnd :=
  let strap := if d.ts.tpol = 0 then 0 else if d.ts.tpol = 1 then 1 else 2
  let d1 := { d with
    ts.i3cAddr := 0x40 + d.ts.i3ca
    ts.valveDriven := true
    th.policy := d.fw.policyFuse.getD strap
    th.policySource := if d.fw.policyFuse.isSome then 0 else 1
    fw.rangerB := !f.romA && f.romB
    fw.standby := if f.romA && f.romB then .current else .unused }
  let lost := if f.romA then rangerUnit 50 else rangerUnit 49
  { dev := d1
    causes := causeIf (f.rails != 0) 3 0x01 0 ++ causeIf (!f.fuseOk) 3 0x03 0 ++ causeIf (!f.romA && !f.romB) 3 0x02 0 ++
      causeIf (f.romA != f.romB) 2 0x10 lost
    excluded := natOf (f.romA != f.romB)
    detail := [d.pw.volts, f.rails, natOf (!f.romA), natOf (!f.romB)] }

/-- Whether a slot verifies (R469). -/
def Dev.slotVerifies (d : Dev) (n : Nat) : Bool :=
  let x := d.slot n
  x.verified && x.image.elim false fun h => decide (d.fw.fuseF ≤ h.rollback)

/-- The ROM's choice of a slot (R468): the slot to boot, none when neither verifies. A trial slot gets one start. -/
def Dev.chooseSlot (d : Dev) : Option Nat × Dev :=
  let r := d.boot
  let p := r.preferred
  let start : Nat × Dev :=
    if r.trial && r.tried then
      (1 - p, onlyIf d.flashOk (Dev.writeBoot fun r => { r with preferred := 1 - p, trial := false, tried := false }) d)
    else if r.trial then (if d.flashOk then (p, d.writeBoot fun r => { r with tried := true }) else (1 - p, d))
    else (p, d)
  if d.slotVerifies start.1 then (some start.1, start.2)
  else if d.slotVerifies (1 - start.1) then (some (1 - start.1), start.2)
  else (none, start.2)

/-- What the firmware reads from the flash at S1 (R430, R434, R505): the map's copies, the calibration store, the timebase settings;
the start is counted; the update axis is set. -/
def Dev.readFlash (d : Dev) : Dev :=
  let c := d.conf
  let b := d.boot
  let other := (d.slot d.otherSlot).image
  let staged := !b.trial && other.elim false fun h => decide (d.fw.running.version < h.version)
  let lost := !d.sp.copies.1 && !d.sp.copies.2
  let d1 := { d.applyTimebase c.tbMode 0 c.ppsDelay with
    sp.fdm := if lost then [] else d.sp.fdm
    sp.starts := if lost then 1 else d.sp.starts + 1
    sp.held := some (d.sp.held.getD d.tb.ns)
    sp.copies := if lost ∨ !d.flashOk then d.sp.copies else (true, true)
    fw.update := natOf staged
    hg.mbReady := true
    hg.xtbShown := true }
  if d.fw.calOk then d1 else { d1 with op.rings := [], op.stored := [] }

/-- S1 (R430, R434, R468): the slot is chosen, the Rangers boot it, the flash is read. -/
def stage1 (f : StageFindings) (d : Dev) : StageEnd :=
  let r := d.chooseSlot
  match (if f.flashOk then r.1 else none) with
  | none =>
    { dev := d, causes := causeIf (!f.flashOk) 3 0x01 0 ++ causeIf f.flashOk 3 0x02 0, excluded := 0, detail := [0, d.fw.fuseF, 0, 0] }
  | some n =>
    let d1 := { r.2 with fw.booted := n, fw.running := (d.slot n).image.getD d.fw.running, fw.rangerUp := true }
    let bad := d1.sp.fdm.any fun e => e.type == 1 && e.unit == rangerUnit d1.otherPort
    let fails := d1.fw.standby == Standby.current && !f.standbyBoots
    let d2 := { d1 with fw.standby := if d1.fw.standby != Standby.current then d1.fw.standby else if bad then .unused
                                      else if f.standbyBoots then .current else .selfTest }
    let one := d.sp.copies.1 != d.sp.copies.2
    let lost := !d.sp.copies.1 && !d.sp.copies.2
    let conf := d.fw.conf0.isSome || d.fw.conf1.isSome
    { dev := d2.readFlash
      causes := causeIf (n != d.boot.preferred) 1 0x10 0 ++ causeIf fails 2 0x11 (rangerUnit d1.otherPort) ++ causeIf one 1 0x12 0 ++
        causeIf lost 2 0x13 0 ++ causeIf (!conf) 1 0x14 0 ++ causeIf (!d.fw.calOk) 1 0x15 0
      excluded := 0
      detail := [((d.slot (1 - n)).image.elim 0 (·.version) : Nat), (d.fw.fuseF : Nat), natOf d.sp.copies.1 + 2 * natOf d.sp.copies.2,
        natOf conf] }

/-! ## S2 -/

/-- A lane that fails its bring-up check takes a spare of its side (R245, R259), a third retires the plane port. -/
def Dev.bringLane (r : RingId) (d : Dev) : Dev :=
  let s := (d.optic r.port r.plane).spares r.side
  if 18 ≤ r.idx ∨ s.1 = r.idx ∨ s.2 = r.idx then d
  else if s.1 = 255 then d.onOptic r.port r.plane fun o => o.setSpares r.idx s.2 r.side
  else if s.2 = 255 then d.onOptic r.port r.plane fun o => o.setSpares s.1 r.idx r.side
  else d.retireNow r.port r.plane

/-- A Wellhead at S2 (R250, R251): where its comb source does not light the other takes over; with both dark its plane ports are retired.
A spare that does not light counts as failed. -/
def Dev.bringComb (bad : List (Nat × Nat)) (w : Nat) (d : Dev) : Dev :=
  let x := d.well w
  let spareBad := x.spareUsed || bad.contains (w, 1 - x.source)
  if !bad.contains (w, x.source) then (if spareBad && !x.spareUsed then d.onWell w fun x => { x with spareUsed := true } else d)
  else if spareBad then each (fedPorts w) (fun p => Dev.retireNow p (w % 4)) d
  else d.onWell w fun x => { x with source := 1 - x.source, spareUsed := true, bias := x.spareBias, spareBias := x.bias }

/-- Comb sources of the Wellheads that the Field Defect Map marks bad (R250, R461): Wellhead, source. -/
def Dev.badCombs (d : Dev) : List (Nat × Nat) :=
  (d.sp.fdm.filter fun e => e.type == 1 && unitKind e.unit == 8 && decide (0x80 ≤ unitPlace e.unit)).map fun e => (unitPlace e.unit - 0x80, bitsOf e.unit 39 32)

/-- Lanes that the Field Defect Map marks bad (R461). -/
def Dev.badLanes (d : Dev) : List RingId :=
  (d.sp.fdm.filter fun e => e.type == 1 && unitKind e.unit == 6).map fun e =>
    { port := unitPlace e.unit, plane := bitsOf e.unit 47 40, side := if bitsOf e.unit 39 32 = 0 then .tx else .rx, idx := bitsOf e.unit 15 0 }

/-- A plane port with a switch port that the map marks bad (R457, R461): its die link is steered to the lowest spare switch port. -/
def Dev.bringSwitch (port plane : Nat) (d : Dev) : Dev :=
  let used := (d.ba.ports.filter (·.plane == plane)).filterMap (·.steer)
  let bad := (d.sp.fdm.filter fun e => e.type == 1 && unitKind e.unit == 7 && bitsOf e.unit 47 40 == plane).map fun e => bitsOf e.unit 15 0
  match ((List.range 9).map (· + 55)).find? fun s => !used.contains s && !bad.contains s with
  | some s => d.onPort port plane fun p => { p with steer := some s }
  | none => d.retireNow port plane

/-- Lanes on a spare (R245). -/
def Dev.sparedLanes (d : Dev) : Nat :=
  (d.op.ports.map fun o => ([o.txFault, o.txCal, o.rxFault, o.rxCal].filter (· != 255)).length).sum

/-- S2 (R245, R251, R253, R264): the Basin runs, the Wellheads are lit, every ring is locked from its interpolated set-point, lane roles are
assigned. -/
def stage2 (f : StageFindings) (d : Dev) : StageEnd :=
  let retired := fun (d : Dev) => (d.ba.ports.filter (·.retired)).length
  let d1 := { d with ba.up := true, ba.slot := 0, ba.slotStart := d.tb.ns, op.dark := false }
  let d2 := each (List.range 8) (Dev.bringComb (f.combsBad ++ d.badCombs)) d1
  let switches := ((d.sp.fdm.filter fun e => e.type == 1 && unitKind e.unit == 7).map fun e => (unitPlace e.unit, bitsOf e.unit 47 40)).eraseDups
  let d2 := each (d2.op.rings.map (·.id)) Dev.sweepFrom d2
  let d3 := each switches (fun s => Dev.bringSwitch s.1 s.2) (each (f.lanesBad ++ d2.badLanes) Dev.bringLane d2)
  let combs := (d3.op.wells.filter (·.spareUsed)).length
  let dark := ((computeSites ++ (List.range 16).map stackSite).filter fun p => (List.range 4).all fun q => (d3.pport p q).retired).length
  let first := (d3.ba.ports.find? (·.retired)).elim 0 fun p => switchUnit p.port p.plane 0
  { dev := d3
    causes := causeIf (!f.chimeOk) 3 0x01 0 ++ causeIf (decide (0 < combs + d3.sparedLanes)) 1 0x10 0 ++
      causeIf (decide (0 < retired d3)) 2 0x11 first
    excluded := retired d3 - retired d
    detail := [(combs : Nat), (d3.sparedLanes : Nat), (retired d3 : Nat), (dark : Nat)] }

/-! ## S3 and S4 (R435 to R437) -/

/-- The positions of the package manifest. -/
def positions : List Nat := List.range 55 ++ (List.range 8).map (· + 0x80)

/-- Die kind of a position (15, manifest entry). -/
def dieKind (p : Nat) : Nat :=
  if 0x80 ≤ p then 6 else if isCompute p then 1 else if isMemory p then 2 else if p = 48 then 3 else if p ≤ 50 then 4 else 5

/-- Kind and identifiers of a position's manifest entry. -/
def Dev.manifestEntry (d : Dev) (p : Nat) : Nat × Nat × Nat :=
  ((d.fw.manifest.find? (·.1 == p)).map (·.2)).getD (dieKind p, 0, 0)

/-- Identifier of the unit at a position (R460). -/
def positionUnit (p : Nat) : Nat := if 0x80 ≤ p then combUnit p 0 else dieUnit p

/-- A position is excluded for this start (R436, R437). -/
def Dev.excludePosition (p : Nat) (d : Dev) : Dev :=
  if d.bu.excluded.contains p then d
  else
    let d1 := Dev.bringLog 1 0x11 (positionUnit p) 0 { d with bu.excluded := d.bu.excluded ++ [p] }
    if 0x80 ≤ p then each (fedPorts (p - 0x80)) (fun q => Dev.retireNow q ((p - 0x80) % 4)) d1
    else if 51 ≤ p then each [2 * (p - 51), 2 * (p - 51) + 1] (fun q d => d.onFport q fun x => { x with retired := true }) d1
    else if p = d1.otherPort then { d1 with fw.standby := .unused }
    else d1

/-- Whether a position's failure ends S3 with FAIL (R436). -/
def Dev.corePosition (d : Dev) (p : Nat) : Bool := p == 48 || p == d.activePort

/-- DISCOVERY_RESPONSE (R435, R436). -/
def discoveryResponse (position kind id1 id2 : Nat) (d : Dev) : Dev :=
  if d.hg.devState ≠ .bringup ∨ d.hg.stage ≠ 3 ∨ !d.bu.running ∨ !positions.contains position ∨ d.bu.replied.contains position ∨
      d.bu.excluded.contains position then d
  else
    let d1 := { d with bu.replied := d.bu.replied ++ [position] }
    if d.manifestEntry position = (kind, id1, id2) then { d1 with bu.answered := d1.bu.answered ++ [position] }
    else if d1.corePosition position then d1
    else d1.excludePosition position
/-- DISCOVERY_RESPONSE (R435). -/
def execDiscoveryResponse (position kind id1 id2 : Nat) (s : State) : Result :=
  s.run (.discoveryResponse position kind id1 id2) (discoveryResponse position kind id1 id2)

/-- DISCOVERY_TIMEOUT (R435, R436): 10 ms after the discovery cell. -/
def discoveryTimeout (position : Nat) (d : Dev) : Dev :=
  if d.hg.devState ≠ .bringup ∨ d.hg.stage ≠ 3 ∨ !d.bu.running ∨ !positions.contains position ∨ d.bu.replied.contains position ∨
      d.bu.excluded.contains position then d
  else
    let d1 := d.reach (d.bu.stageStart + 10000000)
    if d1.corePosition position then d1 else d1.excludePosition position
/-- DISCOVERY_TIMEOUT (R435). -/
def execDiscoveryTimeout (position : Nat) (s : State) : Result := s.run (.discoveryTimeout position) (discoveryTimeout position)

/-- S3 (R435, R436): the manifest is verified; positions that did not agree are excluded. -/
def stage3 (d : Dev) : StageEnd :=
  let core := !(d.bu.answered.contains 48 && d.bu.answered.contains d.activePort)
  let silent := positions.filter fun p => !d.bu.answered.contains p && !d.corePosition p
  let d1 := each silent Dev.excludePosition d
  { dev := d1
    causes := causeIf (!d.fw.manifestForm) 3 0x02 0 ++ causeIf (!d.fw.manifestOk) 3 0x01 0 ++ causeIf core 3 0x03 0 ++
      causeIf (!silent.isEmpty) 2 0x11 (positionUnit (silent.headD 0))
    excluded := silent.length
    detail := [(d.bu.replied.length : Nat), (d.bu.answered.length : Nat), (silent.length : Nat), 1] }

/-- Dies that are given a steward at S4 (R437). -/
def Dev.loadedDies (d : Dev) : List Nat := (computeSites ++ (List.range 16).map stackSite ++ [51, 52, 53, 54]).filter fun p => !d.bu.excluded.contains p

/-- STEWARD_START_TIMEOUT (R437): 1 s without a report. -/
def stewardStartTimeout (port : Nat) (d : Dev) : Dev :=
  if d.hg.devState ≠ .bringup ∨ d.hg.stage ≠ 4 ∨ !d.bu.running ∨ d.bu.stewards.contains port ∨ !d.loadedDies.contains port then d
  else (d.reach (d.bu.stageStart + 1000000000)).excludePosition port
/-- STEWARD_START_TIMEOUT (R437). -/
def execStewardStartTimeout (port : Nat) (s : State) : Result := s.run (.stewardStartTimeout port) (stewardStartTimeout port)

/-- S4 (R437): dies whose image check failed twice, or whose steward has not reported, are excluded. -/
def stage4 (f : StageFindings) (d : Dev) : StageEnd :=
  let dies := d.loadedDies
  let before := (d.bu.excluded.filter fun p => !d.bu.answered.contains p).length
  let bad := dies.filter fun p => f.imageBad.contains p || !d.bu.stewards.contains p
  let d1 := each bad Dev.excludePosition d
  let started := dies.filter fun p => !bad.contains p
  let all := d1.bu.excluded.length - before
  { dev := d1
    causes := causeIf (decide (0 < all)) 2 0x11 (positionUnit (bad.headD (d1.bu.excluded.getLastD 0)))
    excluded := all
    detail := [((dies.filter fun p => !f.imageBad.contains p).length : Nat), (started.length : Nat), (2500 * (started.filter isCompute).length : Nat),
      (all : Nat)] }

/-! ## S5 (R438, R439, R447) -/

/-- A bond lane that may not be used (R447, R452): its group's lowest usable spare takes it, or the group is retired. -/
def Dev.bringBond (bad : List Nat) (u : Nat) (d : Dev) : Dev :=
  let site := unitPlace u
  let g := bitsOf u 31 16
  let lane := bitsOf u 15 0
  let used := (d.sp.lanes.filter fun e => e.1 == site && e.2.1 == g).map (·.2.2.2)
  if 144 ≤ lane then d
  else match ((List.range 10).map (· + 144)).find? fun s => !used.contains s && !bad.contains (unitId 3 site 0 0 g s) with
    | some s => { d with sp.lanes := d.sp.lanes ++ [(site, g, lane, s)] }
    | none => d.onSite site fun x => { x with retired := insertNew g x.retired }

/-- Core maxima as the map's FMAX entries set them (R461, R84). -/
def Dev.fmax (d : Dev) : List (Nat × Nat × Nat × Nat) :=
  (d.sp.fdm.filter (·.type == 2)).map fun e => (unitPlace e.unit, bitsOf e.unit 31 16, bitsOf e.unit 39 32, e.value)

/-- The units that may not be used leave (R438, R447, R453, R456). -/
def Dev.leaveOut (bad : List Nat) (d : Dev) : Dev :=
  let slow := (d.fmax.filter fun e => decide (e.2.2.2 < 1450)).map fun e => (e.1, e.2.1, e.2.2.1)
  let cores := ((bad.filter (unitKind · == 1)).map fun u => (unitPlace u, bitsOf u 31 16, bitsOf u 39 32)) ++ slow
  let stands := (bad.filter (unitKind · == 2)).map fun u => (unitPlace u, bitsOf u 31 16)
  let mills := fun (c : Nat × Nat × Nat) => (cores.eraseDups.filter fun e => e.1 == c.1 && e.2.1 == c.2.1 && decide (e.2.2 < 13)).length
  let gone := (cores.filter fun c => decide (13 ≤ c.2.2) || decide (2 ≤ mills c)).map fun c => (c.1, c.2.1)
  let d1 := { d with cs.maxima := d.fmax, sp.coresOut := cores.eraseDups, sp.standsOut := (stands ++ gone).eraseDups }
  let d2 := each (bad.filter (unitKind · == 3)) (Dev.bringBond bad) d1
  let d3 := each (bad.filter (unitKind · == 4)) (fun u (d : Dev) => d.onSite (unitPlace u) fun x => { x with retired := insertNew (bitsOf u 31 16) x.retired }) d2
  let d4 := each (bad.filter (unitKind · == 0x0B)) (fun u (d : Dev) => d.onStack (unitPlace u) fun s => { s with fenced := true }) d3
  let d5 := each (bad.filter (unitKind · == 0x0A)) (fun u (d : Dev) => d.onStack (unitPlace u) fun s =>
    { s with channels := s.channels ++ [{ channel := bitsOf u 47 40, retrain := false, returns := false }] }) d4
  let out := (bad.filter (unitKind · == 5)).map unitPlace ++ (d5.cs.sites.filter fun s => decide (16 < s.retired.length)).map (·.site)
  { d5 with sp.out := each out insertNew d5.sp.out }

/-- S5 (R438, R439, R461): fuses, map and test merge; logical numbers follow from the units left. -/
def stage5 (f : StageFindings) (d : Dev) : StageEnd :=
  let marked := (d.sp.fdm.filter (·.type == 1)).map (·.unit)
  let failing := f.unitsBad.filter fun u => !d.sp.fuseBad.contains u && !marked.contains u
  let suspects := fun (e : FdmEntry) => e.type == 3 && !f.unitsBad.contains e.unit
  let d1 := if d.sp.fdm.any suspects then
      { d with sp.fdm := d.sp.fdm.filter (fun e => !suspects e), sp.held := some (d.sp.held.getD d.tb.ns), bu.fdmChanged := true }
    else d
  let d2 := each failing (fun u (d : Dev) => (d.fdm u 1 0 1).bringLog 1 0x10 u 0) d1
  let bad := (d.sp.fuseBad ++ marked ++ failing).eraseDups
  let d3 := d2.leaveOut bad
  let lost := d3.sp.out != d.sp.out || computeSites.any fun s => decide (8 < (d3.sp.standsOut.filter (·.1 == s)).length)
  let here := bad.filter fun u => decide (unitKind u ≤ 5) || unitKind u == 0x0B
  { dev := d3
    causes := causeIf (!here.isEmpty) 1 0x10 (failing.headD (here.headD 0)) ++ causeIf lost 2 0x11 (failing.headD (here.headD 0))
    excluded := failing.length
    detail := [((failing.filter (unitKind · == 1)).length : Nat), (d3.sp.standsOut.length : Nat), (d3.sp.lanes.length : Nat),
      ((d3.cs.sites.map (·.retired.length)).sum : Nat)] }

/-! ## S6 (R431, R440) -/

/-- Whether the full memory test is selected (R431). -/
def Dev.fullMemoryTest (d : Dev) : Bool :=
  let m := d.conf.memtest
  m == 2 || (m == 0 && (d.sp.hbmEvent || decide (d.sp.fullTest + 32 ≤ d.sp.starts) || d.bu.badEnd))

/-- Lines of a stack that a row holds (R278, R287). -/
def rowLines (unit : Nat) : List Nat :=
  (List.range 312500000).filter fun l =>
    pseudoChannel l == bitsOf unit 47 40 && Config.bankRow (unitPlace unit) l == (bitsOf unit 39 32, bitsOf unit 31 0)

/-- A row that failed a pass of the memory test (R440, R461): repaired and recorded, or its lines stay poisoned. -/
def Dev.bringRow (r : Nat × Bool) (d : Dev) : Dev :=
  if r.2 then d.fdm r.1 4 3 1
  else
    let d1 := each (rowLines r.1) (Dev.poisonLine (unitPlace r.1)) (d.fdm r.1 1 3 1)
    { d1 with sp.fdm := d1.sp.fdm.filter fun e => !(e.unit == r.1 && e.type == 4), sp.failed := insertNew r.1 d1.sp.failed }

/-- S6 (R284, R289, R431, R440): keys, training and the memory test; every line is zero; the mirrored size is in force. -/
def stage6 (f : StageFindings) (d : Dev) : StageEnd :=
  let d1 := each (List.range 16) (fun k (d : Dev) => d.onStack k fun s => { s with keys := s.keys + 1 }) d
  let clear := fun (k : Nat) (d : Dev) => { d with mem.cells := cellsClear d.mem.cells (hbmKey k 0) (hbmKey (k + 1) 0) }
  let d2 := each (List.range 16) clear { d1 with mem.poison := d1.mem.poison.filter fun l => decide (0x200000000000 ≤ l * 256), mem.mirror := d1.conf.mirror }
  let d3 := each f.rowsBad Dev.bringRow (each f.channelsBad (fun c => Dev.fenceChannel c.1 c.2) d2)
  let d4 := if d.bu.fullTest then { d3 with sp.fullTest := d3.sp.starts, sp.hbmEvent := !f.rowsBad.isEmpty || !f.channelsBad.isEmpty
                                            sp.held := some (d3.sp.held.getD d3.tb.ns) } else d3
  let d5 := { d4 with mem.ready := true, hg.memActive := true }
  let fenced := (d5.mem.stackList.filter (·.fenced)).length
  let channels := (d5.mem.stackList.map (·.channels.length)).sum
  let repaired := (f.rowsBad.filter (·.2)).length
  { dev := d5
    causes := causeIf (decide (0 < repaired)) 1 0x10 ((f.rowsBad.headD (0, true)).1) ++
      causeIf (decide (0 < fenced + channels)) 2 0x11 ((f.channelsBad.map fun c => channelUnit c.1 c.2).headD 0)
    excluded := channels
    detail := [(channels : Nat), (fenced : Nat), (repaired : Nat), (d5.mem.mirror : Nat)] }

/-! ## S7 to S9 -/

/-- S7 (R441, R483): the features of every valid record; a RETIRED unit ignores its licences. -/
def stage7 (d : Dev) : StageEnd :=
  let rs := if d.fw.lifecycle = 3 then [] else d.fw.licences
  let good := rs.filter fun r => !licenceBad r && d.licenceOurs r
  let features := good.foldl (fun m r => m ||| u64 r 0x10) 0
  let bad := rs.length - good.length
  let d1 := { d with fw.featNext := features, fw.licValid := good.length }
  { dev := if bad = 0 then d1 else d1.bringLog 0 0x11 0 bad
    causes := causeIf (decide (0 < bad)) 1 0x11 0
    excluded := 0
    detail := [(d.fw.licences.length : Nat), (good.length : Nat), (features : Nat), (bad : Nat)] }

/-- The journal's standing grants (R230). -/
def journalGrants : List Standing :=
  [(49, 50), (50, 49)].map fun p =>
    { plane := 0, src := p.1, dst := p.2, r := 2, journal := true, suspended := false, unused := 0, used := 0, graph := none, slots := [0, 32], wake := false, stopped := false }

/-- S8 (R230, R233, R403, R420, R421, R442): the rest of the configuration, the journal's grants, the splitter trees. -/
def stage8 (f : StageFindings) (d : Dev) : StageEnd :=
  let c := d.conf
  let cap := if c.cap = 0 then 15000 else c.cap
  let cascade := c.plane3 == 1
  let ok := cascade && f.splitterOk
  let d1 := ({ d with ba.cascade := cascade, ba.splitterOk := ok, ba.standing := journalGrants } : Dev).setCoolant c.coolant
  let d2 := { d1 with pw.cap := cap, pw.effCap := d1.derated cap }
  let margin := (List.range 8).foldl (fun m w => min m (d2.lineMargin w)) (d2.lineMargin 0)
  { dev := d2
    causes := causeIf (cascade && !ok) 1 0x10 0 ++ causeIf (decide (d2.coolLost ≠ 0)) 1 0x11 0
    excluded := 0
    detail := [natOf cascade, (d2.pw.effCap : Nat), (d2.th.flow / 10 : Nat), margin] }

/-- The image of a trial start is confirmed (R473, R475). -/
def Dev.confirmImage (d : Dev) : Dev :=
  let b := d.boot
  if b.trial ∧ b.preferred = d.fw.booted then
    let d1 := onlyIf d.flashOk (Dev.writeBoot fun r => { r with trial := false, tried := false }) d
    { d1 with fw.update := 0, fw.fuseF := max d1.fw.fuseF d1.fw.running.rollback }
  else d

/-- S9 (R427, R393, R409, R433, R473, R483): the device is READY, or in DEBUG when it is unlocked. -/
def stage9 (d : Dev) : StageEnd :=
  let d1 := { d with ck.cd9 := 1950, ck.cd10 := 1950, pw.trickleOn := true, pw.trickleLevel := 12, pw.trickleStep := d.tb.ns, fw.features := d.fw.featNext, fw.featNext := 0 }
  let d2 := d1.confirmImage.fixSwallow
  let d3 := each d2.bu.log.reverse (fun e d => d.notice e.unit e.cause) d2
  { dev := d3
    causes := []
    excluded := 0
    detail := [((computeSites.map d3.siteCores).sum : Nat), (d3.standCount : Nat), (d3.siteCount : Nat), (d3.stackCount : Nat)] }

/-! ## Reports, the next stage, failure (R432, R443, R444) -/

/-- A stage ends with FAIL (R444): power leaves the compute and memory dies, light goes dark, the valve opens. -/
def Dev.failStage (d : Dev) : Dev :=
  { d with
    hg.stageFail := true
    hg.memActive := false
    bu.running := false
    pw.diesOff := true
    op.dark := true
    th.duty := 1000
    mem.ready := false
    mem.cells := []
    mem.poison := []
    sw.ports := d.sw.ports.map fun (p : FPort) => { p with st := PortSt.dark, changed := d.tb.ns, queue := [] } }

/-- What the next stage does as it begins (R431, R435, R437). -/
def Dev.beginStage (k : Nat) (d : Dev) : Dev :=
  let d1 := { d with hg.stage := k, bu.stageStart := d.tb.ns, bu.repeated := false, bu.stepped := false, bu.fdmChanged := false }
  match k with
  | 3 => d1.sendCtlCopies d1.activePort ((List.range 55).filter (· != d1.activePort)) .discover
  | 4 => d1.sendCtlCopies d1.activePort d1.loadedDies .image
  | 6 => { d1 with bu.fullTest := d1.fullMemoryTest }
  | _ => d1

/-- The 64 bytes of a stage report (R432). -/
def stageReport (d : Dev) (result cause unit excluded : Nat) (detail : List Int) : List Byte :=
  let k := d.hg.stage
  let none_ := k == 0 || (k == 1 && result == 3)
  let flags := natOf d.bu.fullTest + 2 * natOf d.bu.fdmChanged + 4 * natOf d.bu.repeated + 8 * natOf d.bu.stepped
  let body := leBytes 1 0xB5 ++ leBytes 1 k ++ leBytes 1 result ++ leBytes 1 flags ++ leBytes 2 cause ++ leBytes 1 (natOf d.fw.rangerB) ++
    leBytes 1 (if none_ then 0xFF else d.fw.booted) ++ leBytes 8 d.bu.stageStart ++ leBytes 8 d.tb.ns ++ leBytes 4 excluded ++
    leBytes 4 (if none_ then 0 else d.fw.running.version) ++ leBytes 8 unit ++ (detail.map (leInt 4)).flatten ++ zeros 4
  body ++ leBytes 4 (crc32c body)

/-- The most severe of some outcomes, the first of the equally severe (R432). -/
def worst (cs : List (Nat × Nat × Nat)) : Nat × Nat × Nat := cs.foldl (fun a c => if a.1 < c.1 then c else a) (0, 0, 0)

/-- The stage in progress ends (R427, R432, R443, R444): its report is written, and the next stage begins or bring-up stops. -/
def StageEnd.finish (e : StageEnd) : Dev :=
  let d := { e.dev with sp.degraded := !e.dev.fullCapacity }
  let k := d.hg.stage
  let w := worst (e.causes ++ causeIf (decide (2 ≤ k) && !d.minimumOk) 3 0x7F 0)
  let result := if w.1 = 3 then 3 else if d.sp.degraded ∨ d.simplex then 2 else w.1
  let report := stageReport d result w.2.1 w.2.2 e.excluded e.detail
  let d1 := Dev.bringLog (if result = 3 then 3 else 0) w.2.1 w.2.2 result { d with hg.stageLog := d.hg.stageLog ++ [(k, report)] }
  if result = 3 then d1.failStage
  else if k < 9 then d1.beginStage (k + 1)
  else Dev.setState (if d1.fw.lifecycle = 2 then .debug else .ready) { d1 with bu.running := false, bu.badEnd := false }

/-- What a stage finds (R428 to R443). -/
def stageEnd (f : StageFindings) (d : Dev) : StageEnd :=
  match d.hg.stage with
  | 0 => stage0 f d
  | 1 => stage1 f d
  | 2 => stage2 f d
  | 3 => stage3 d
  | 4 => stage4 f d
  | 5 => stage5 f d
  | 6 => stage6 f d
  | 7 => stage7 d
  | 8 => stage8 f d
  | _ => stage9 d

/-- Whether bring-up is under way (R427). -/
def Dev.bringing (d : Dev) : Bool := d.hg.devState == .bringup && d.bu.running && !d.bu.perst && !d.th.heldInReset && d.fw.handover.isNone

/-- BRINGUP_STAGE_COMPLETE (R427). -/
def bringupStageComplete (f : StageFindings) (d : Dev) : Dev := if d.bringing then (stageEnd f d).finish else d
/-- BRINGUP_STAGE_COMPLETE (R427). -/
def execBringupStageComplete (findings : StageFindings) (s : State) : Result :=
  s.run (.bringupStageComplete findings) (bringupStageComplete findings)

/-- Maximum duration of a stage, ns (R428). -/
def Dev.stageMax (d : Dev) : Nat :=
  let s := match d.hg.stage with
    | 0 => 1
    | 1 => 10
    | 2 => 40
    | 3 => 5
    | 4 => 15
    | 5 => 60
    | 6 => if d.bu.fullTest then 300 else 90
    | 7 => 2
    | _ => 20
  s * 1000000000

/-- BRINGUP_STAGE_TIMEOUT (R428). S9 has no maximum. -/
def bringupStageTimeout (d : Dev) : Dev :=
  if !d.bringing || d.hg.stage == 9 then d
  else
    let d1 := d.reach (d.bu.stageStart + d.stageMax)
    StageEnd.finish { dev := d1, causes := [(3, 0x7E, 0)], excluded := 0, detail := [0, 0, 0, 0] }
/-- BRINGUP_STAGE_TIMEOUT (R428). -/
def execBringupStageTimeout (s : State) : Result := s.run .bringupStageTimeout bringupStageTimeout

/-! ## PERST# (R362, R514, R519) -/

/-- PERST_ASSERT (R362): the whole device resets, and stays in reset. -/
def perstAssert (d : Dev) : Dev :=
  let z := d.restarted false d.th.tripped.isSome
  let z1 := if d.ts.ir = 0 then { z with ts.ir := 0, ts.pinsHeld := d.ts.pinsHeld } else z
  { z1 with hg.hostMem := d.hg.hostMem, bu.perst := true, bu.running := false }
/-- PERST_ASSERT (R362). -/
def execPerstAssert (s : State) : Result := s.run .perstAssert perstAssert

/-- PERST_DEASSERT (R162, R427, R514): bring-up begins at S0, with the count at 0, when the input is good; an EXTEST that only PERST# permitted gives way to
BYPASS (R519). -/
def perstDeassert (d : Dev) : Dev :=
  if !d.bu.perst then d
  else
    let d1 := { d with bu.perst := false, bu.running := d.pw.inputGood, bu.stageStart := 0, tb.ns := 0, tb.frac := 0 }
    if d.ts.ir = 0x00 ∧ (d.fw.lifecycle = 1 ∨ d.fw.lifecycle = 3) then { d1 with ts.ir := 0xFF, ts.pinsHeld := 0 } else d1
/-- PERST_DEASSERT (R514). -/
def execPerstDeassert (s : State) : Result := s.run .perstDeassert perstDeassert

end Sys2Proof.Machine
end

