-- ==== Sys2Proof/Machine/Rangers.lean ====
section
/-!
DEFINITION. The Ranger duplex and the steps of a live activation (17 R474 to R478, R487; 12 R385).
-/

namespace Sys2Proof.Machine

/-- A live activation ends without effect (R475, R504): the axis returns to STAGED, the event is logged. -/
def Dev.abandonLive (d : Dev) : Dev := Dev.notice (rangerUnit d.otherPort) 0 { d with fw.live := none, fw.update := 1 }

/-- The standby leaves the duplex (R477, R478); an activation that has not reached its boundary is abandoned (R504). -/
def Dev.loseStandby (st : Standby) (d : Dev) : Dev :=
  let d1 := d.setStandby st
  if d1.fw.live.elim false (fun l => l.ready && !l.passed) then d1.abandonLive else d1

/-- A switch-over during bring-up (R445): in S1 the other Ranger's ROM runs the stage again, or the stage fails; in S2 to S8 the stage
in progress runs again from its start. -/
def Dev.bringupHandover (cause : Nat) (d : Dev) : Dev :=
  if d.hg.stage = 1 then
    if d.fw.standby = .current then
      Dev.setStandby .selfTest { d with fw.rangerB := !d.fw.rangerB, bu.stageStart := d.tb.ns, bu.repeated := true }
    else StageEnd.finish { dev := d, causes := [(3, 0x02, 0)], excluded := 0, detail := [0, d.fw.fuseF, 0, 0] }
  else
    let d1 := d.handover cause
    if d.hg.stage = 0 then d
    else if d1.fw.handover.isSome then (({ d1 with bu.stageStart := d1.tb.ns, bu.repeated := true } : Dev).bringLog 2 0 (rangerUnit d1.otherPort) 0)
    else d1

/-- The active Ranger asserts handover (R476). -/
def Dev.assertHandover (cause : Nat) (d : Dev) : Dev :=
  if d.hg.devState = .bringup then (if d.bu.running then d.bringupHandover cause else d) else d.handover cause

/-- Code of a handover's cause (18, HANDOVER). -/
def HandoverCause.code : HandoverCause → Nat
  | .lockstep => 1
  | .sram => 2
  | .watchdog => 3
  | .periodic => 4

/-- RANGER_HANDOVER (R476). -/
def execRangerHandover (cause : HandoverCause) (s : State) : Result := s.run (.rangerHandover cause) (Dev.assertHandover (HandoverCause.code cause))

/-- RANGER_WATCHDOG_EXPIRY (R476). -/
def execRangerWatchdogExpiry (s : State) : Result := s.run .rangerWatchdogExpiry (Dev.assertHandover 3)

/-- RANGER_PERIODIC_SELF_TEST (R476): a failure is a cause of handover. -/
def rangerPeriodicSelfTest (pass : Bool) (d : Dev) : Dev := if pass then d else d.assertHandover 4
/-- RANGER_PERIODIC_SELF_TEST (R476). -/
def execRangerPeriodicSelfTest (pass : Bool) (s : State) : Result := s.run (.rangerPeriodicSelfTest pass) (rangerPeriodicSelfTest pass)

/-- What becomes of one channel's command at a switch-over (R385): journaled commands complete, other running ones are to be
retried. -/
def Dev.takeOver (ch : Nat) (d : Dev) : Dev :=
  let c := d.chan ch
  if c.st ≠ .running then d
  else match c.outcome with
    | some o => if c.journaled then d.complete ch o else d.complete ch { status := stRetry, body := [], effect := 0 }
    | none => d.complete ch { status := stRetry, body := [], effect := 0 }

/-- The commands and sessions at a switch-over (R385): placements and departures that were not journaled have no effect, the gap does
not count for the sessions. -/
def Dev.takeOverMailbox (gap : Nat) (d : Dev) : Dev :=
  let d1 := { d with
    gr.list := d.gr.list.map fun (g : Graph) => { g with installing := none }
    sw.leaving := none
    ses.list := d.ses.list.map fun (s : Session) => { s with lastDoorbell := s.lastDoorbell + gap } }
  each (d1.mb.chans.map (·.ch)) Dev.takeOver d1

/-- The stage in progress runs again from its start under the Ranger that took over (R445). -/
def Dev.rerunStage (d : Dev) : Dev :=
  let d1 := d.beginStage d.hg.stage
  { d1 with bu.repeated := true, bu.fdmChanged := d.bu.fdmChanged, bu.stepped := d.bu.stepped
            bu.replied := if d.hg.stage = 3 then [] else d.bu.replied, bu.answered := if d.hg.stage = 3 then [] else d.bu.answered
            bu.stewards := if d.hg.stage = 4 then [] else d.bu.stewards }

/-- HANDOVER_COMPLETE (R385, R476, R499): the new active Ranger drives every output, from fresh readings (R31); a recovery in progress is abandoned, its site
isolated. -/
def handoverComplete (d : Dev) : Dev :=
  match d.fw.handover with
  | none => d
  | some t =>
    let d1 := (Dev.takeOverMailbox (d.tb.ns - t) { d with fw.handover := none }).freshReadings
    let d2 := if d1.hg.devState = .bringup ∧ d1.bu.running then d1.rerunStage else d1
    if d.fw.handoverCause = 5 then d2 else d2.abandonRecovery
/-- HANDOVER_COMPLETE (R476). -/
def execHandoverComplete (s : State) : Result := s.run .handoverComplete handoverComplete

/-- JOURNAL_HEARTBEAT_MISSED (R477, R504). -/
def journalHeartbeatMissed (d : Dev) : Dev := if d.fw.standby = .current ∧ d.fw.rangerUp then d.loseStandby .stale else d
/-- JOURNAL_HEARTBEAT_MISSED (R477). -/
def execJournalHeartbeatMissed (s : State) : Result := s.run .journalHeartbeatMissed journalHeartbeatMissed

/-- The last step of a live activation (R474, R475): the boot record prefers the new slot, fuses advance, the axis is NONE. -/
def Dev.finishLive (d : Dev) : Dev :=
  let d1 := onlyIf d.flashOk (Dev.writeBoot fun r => { r with preferred := d.fw.booted, trial := false, tried := false }) d
  { d1 with fw.update := 0, fw.live := none, fw.activated := false, fw.fuseF := max d1.fw.fuseF d1.fw.running.rollback }

/-- STANDBY_RESYNC_COMPLETE (R474, R477): the standby is current; in a live activation it reports ready, or, once control has passed,
ends the activation. -/
def standbyResyncComplete (d : Dev) : Dev :=
  if (d.fw.standby ≠ .stale ∧ d.fw.standby ≠ .booting) ∨ !d.fw.rangerUp then d
  else
    let d1 := d.setStandby .current
    match d1.fw.live with
    | some l => if l.passed then d1.finishLive else { d1 with fw.live := some { l with ready := true } }
    | none => d1
/-- STANDBY_RESYNC_COMPLETE (R477). -/
def execStandbyResyncComplete (s : State) : Result := s.run .standbyResyncComplete standbyResyncComplete

/-- RANGER_ROM_SELF_TEST_COMPLETE (R478): a pass counts as a transient, and the Ranger boots as standby; a failure, or the eighth
transient, marks it bad. -/
def rangerRomSelfTestComplete (rangerB pass : Bool) (d : Dev) : Dev :=
  if d.fw.standby ≠ .selfTest ∨ rangerB = d.fw.rangerB ∨ !d.fw.rangerUp then d
  else
    let u := rangerUnit d.otherPort
    let d1 := if pass then d.transient u else d.lasting u 0
    let bad := !pass || d1.sp.failed.contains u
    ({ d1 with fa.resume := d1.fa.resume.filter (· != u) } : Dev).setStandby (if bad then .bad else .booting)
/-- RANGER_ROM_SELF_TEST_COMPLETE (R478). -/
def execRangerRomSelfTestComplete (rangerB pass : Bool) (s : State) : Result :=
  s.run (.rangerRomSelfTestComplete rangerB pass) (rangerRomSelfTestComplete rangerB pass)

/-- Whether the coming boundary is the switch-over boundary of a live activation (R474). -/
def Dev.liveNext (d : Dev) : Bool := d.fw.live.elim false fun l => l.ready && !l.passed && decide (l.m ≤ d.rd.next)

/-- HANDOFF_BLOCK_WRITE (R474): 40 µs before m no queued command starts any more; pending frequency steps move one round. -/
def handoffBlockWrite (d : Dev) : Dev :=
  match d.fw.live with
  | some l =>
    if !d.liveNext || l.block then d
    else
      let d1 := d.reach (d.rd.next - 40000)
      let move := fun (r : StepReq) => if r.at_ ≤ d1.rd.next then { r with at_ := d1.rd.next + d1.rd.period } else r
      { d1 with fw.live := some { l with block := true }, ck.req9 := d1.ck.req9.map move, ck.req10 := d1.ck.req10.map move }
  | none => d
/-- HANDOFF_BLOCK_WRITE (R474). -/
def execHandoffBlockWrite (s : State) : Result := s.run .handoffBlockWrite handoffBlockWrite

/-- LIVE_ACTIVATION_TIMEOUT (R475): 10 s after the command the standby is not ready; it restarts on the slot that runs. -/
def liveActivationTimeout (d : Dev) : Dev :=
  match d.fw.live with
  | some l => if l.ready then d else (d.reach (l.started + 10000000000)).abandonLive
  | none => d
/-- LIVE_ACTIVATION_TIMEOUT (R475). -/
def execLiveActivationTimeout (s : State) : Result := s.run .liveActivationTimeout liveActivationTimeout

/-- LIVE_CONTROL_PASS (R474): at boundary m control passes to the Ranger that runs the new image; the other one boots it. -/
def Dev.livePass (d : Dev) : Dev :=
  let d1 := (d.log (rangerUnit d.activePort) 0 0x0301 5).passLive
  Dev.setStandby .booting { d1 with fw.rangerB := !d1.fw.rangerB, fw.handover := some d1.tb.ns, fw.handoverCause := 5 }

end Sys2Proof.Machine
end

