-- ==== Sys2Proof/Machine/Access.lean ====
section
/-!
DEFINITION. The package TAP (19 R516 to R523): its instructions, the chain of die TAPs, the loopbacks it starts.
-/

namespace Sys2Proof.Machine

/-- Whether the lifecycle permits an instruction of MANUFACTURE alone and, with any of some scope bits, of DEBUG_UNLOCKED
(R517). -/
def Dev.tapPermits (scopeBits : Nat) (d : Dev) : Bool :=
  d.fw.lifecycle == 0 || (d.fw.lifecycle == 2 && (scopeBits == 0 || (d.fw.scope &&& scopeBits) != 0))

/-- An instruction becomes the current one (R516, R517): the pins are released or held, and what only another instruction keeps going
ends. -/
def Dev.tapSelect (code pins loop : Nat) (debug : Bool) (d : Dev) : Dev :=
  { d with ts.ir := code, ts.pinsHeld := pins, ts.jtagLoop := loop, ts.rangerDebug := debug }

/-- An instruction that is not permitted selects the bypass register; nothing is recorded (R518). -/
def Dev.tapBypass : Dev → Dev := Dev.tapSelect 0xFF 0 0 false

/-- An instruction where it is permitted, else the bypass register. -/
def Dev.tapIf (ok : Bool) (code pins loop : Nat) (debug : Bool) (d : Dev) : Dev := if ok then d.tapSelect code pins loop debug else d.tapBypass

/-- BYPASS (R517). -/
def execBypass (s : State) : Result := s.run .bypass Dev.tapBypass

/-- IDCODE (R516). -/
def execIdcode (s : State) : Result := s.run .idcode (Dev.tapSelect 0x01 0 0 false)

/-- The data that the IDCODE instruction returns (R516): version, part and manufacturer code. -/
def idcode : Nat := 0x180004B5

/-- SAMPLE_PRELOAD (R516, R517): the levels of the pins in the boundary register, or levels preloaded there. -/
def samplePreload (pins : Nat) (d : Dev) : Dev := Dev.tapSelect 0x02 0 0 false { d with ts.boundary := pins, ts.captured := pins }
/-- SAMPLE_PRELOAD (R517). -/
def execSamplePreload (pins : Nat) (s : State) : Result := s.run (.samplePreload pins) (samplePreload pins)

/-- EXTEST (R517, R519): in DEPLOYED and RETIRED only while PERST# is asserted. -/
def extest (d : Dev) : Dev := d.tapIf (d.tapPermits 0 || d.bu.perst) 0x00 1 0 false
/-- EXTEST (R519). -/
def execExtest (s : State) : Result := s.run .extest extest

/-- CLAMP (R517): the boundary register holds the outputs. -/
def clamp (d : Dev) : Dev := d.tapIf (d.tapPermits 0) 0x03 1 0 false
/-- CLAMP (R517). -/
def execClamp (s : State) : Result := s.run .clamp clamp

/-- HIGHZ (R517): the outputs are high-impedance. -/
def highz (d : Dev) : Dev := d.tapIf (d.tapPermits 0) 0x04 2 0 false
/-- HIGHZ (R517). -/
def execHighz (s : State) : Result := s.run .highz highz

/-- Whether the scope of R484 covers a bit of the chain's register (R517, R520): compute dies, Cistern dies, I/O-ring dies, the
Basin keeper. -/
def Dev.chainBit (d : Dev) (p : Nat) : Bool :=
  d.fw.lifecycle == 0 ||
  bitOf d.fw.scope (if p = 55 then 3 else if isCompute p then 0 else if isMemory p then 1 else 2)

/-- CHAIN_SELECT (R517, R520): a bit that the scope does not cover reads 0 and selects nothing. The fault manager treats the selected compute
and memory dies as isolated (R496). -/
def chainSelect (bits : Word) (d : Dev) : Dev :=
  if d.tapPermits 0xF then
    let chain := ((List.range 56).filter fun p => bits.getLsbD p && d.chainBit p).foldl (fun m p => m + 2 ^ p) 0
    let d1 := Dev.tapSelect 0x10 0 0 false { d with ts.chain := chain }
    let new := (List.range 48).filter fun p => d1.chained p && !d.chained p && !d1.bu.excluded.contains p
    if d1.faultsTaken then each new (fun p d => d.isolate p (dieUnit p)) d1 else d1
  else d.tapBypass
/-- CHAIN_SELECT (R520). -/
def execChainSelect (bits : Word) (s : State) : Result := s.run (.chainSelect bits) (chainSelect bits)

/-- PORT_LOOPBACK (R517, R521). -/
def portLoopback (d : Dev) : Dev := d.tapIf (d.tapPermits 0x10) 0x20 0 1 false
/-- PORT_LOOPBACK (R521). -/
def execPortLoopback (s : State) : Result := s.run .portLoopback portLoopback

/-- BOND_LOOPBACK (R517, R521). -/
def bondLoopback (d : Dev) : Dev := d.tapIf (d.tapPermits 0x10) 0x21 0 2 false
/-- BOND_LOOPBACK (R521). -/
def execBondLoopback (s : State) : Result := s.run .bondLoopback bondLoopback

/-- RANGER_DEBUG (R517): run control of the Rangers. -/
def rangerDebug (d : Dev) : Dev := d.tapIf (d.tapPermits 0x20) 0x30 0 0 true
/-- RANGER_DEBUG (R517). -/
def execRangerDebug (s : State) : Result := s.run .rangerDebug rangerDebug

/-- TRST_ASSERT (R516, R523): Test-Logic-Reset; a loopback that JTAG started stops. -/
def execTrstAssert (s : State) : Result := s.run .trstAssert (Dev.tapSelect 0x01 0 0 false)

end Sys2Proof.Machine
end

