-- ==== Sys2Proof/Machine/Rounds.lean ====
section
/-!
DEFINITION. The round boundary and the publication deadline (05 R168 to R172), in the order of the rows of the round table; what
the passing of one CD14 cycle does (R155, R531).
-/

namespace Sys2Proof.Machine

/-! ## The new round (R168) -/

/-- The round that begins at a boundary has its number, its start and its next boundary (R168). -/
def Dev.beginRound (d : Dev) : Dev :=
  let t := d.rd.next
  let n := (t - d.rd.epoch) / d.rd.period
  { d with rd.number := n, rd.top := max d.rd.top n, rd.start := t, rd.next := t + d.rd.period, rd.done := [], rd.begun := true, rd.active := true }

/-- Counts of one round end with it (18 TIMEOUTS, R244, R304, R491, R496). -/
def Dev.endRoundCounts (d : Dev) : Dev :=
  let d1 := onlyIf (d.fa.timeouts != 0) (Dev.log 0 0 0x0103 d.fa.timeouts) d
  { d1 with
    fa.timeouts := 0
    fa.lastingStands := []
    ba.ports := d1.ba.ports.map fun (p : PlanePort) => { p with corrRound := 0, discRound := 0 }
    sw.ports := d1.sw.ports.map fun (p : FPort) => { p with discRound := 0 }
    mem.stackList := d1.mem.stackList.map fun (s : Stack) => { s with timeouts := [], parity := [] } }

/-! ## What returns (R104, R304, R413, R492, R497) -/

/-- The capacity axis is FULL again once all of R458 holds. -/
def Dev.restoreCapacity (d : Dev) : Dev := { d with sp.degraded := d.sp.degraded && !d.fullCapacity }

/-- Stands resume issue after a reload (R104), at the steps in force (R393). -/
def Dev.resumeSites (d : Dev) : Dev :=
  { d with cs.sites := d.cs.sites.map fun (s : Site) => if s.phase = .resuming then { s with phase := .running } else s }

/-- Units that passed their self-test carry traffic and work again (R492). -/
def Dev.resumeUnits (d : Dev) : Dev :=
  let one := fun (u : Nat) (d : Dev) =>
    if unitKind u = 6 ∨ unitKind u = 7 then (d.endTest u).freePort .selfTest (unitPlace u) (bitsOf u 47 40) else d.endTest u
  each d.fa.resume one { d with fa.resume := [] }

/-- Units resume whose test on command has passed, or whose command was stopped with its test (R378, R385, R492). -/
def Dev.releaseTests (d : Dev) : Dev :=
  let runs := fun (r : SelfRun) => r.ch.any fun ch => (d.chan ch).st == .running && (d.chan ch).opcode == 0x0604 && decide ((d.chan ch).accepted ≤ r.since)
  each (d.ts.runs.filter fun r => !runs r) Dev.releaseTested { d with ts.runs := d.ts.runs.filter runs }

/-- Whether an isolated site that passed its re-test can return now: its stack of dies has been reloaded (R104). -/
def Dev.canReturn (d : Dev) (port : Nat) : Bool := !isCompute port || (d.site port).phase == .running

/-- Isolated sites that passed their re-test return (R497): the placements whose site mask includes them are updated. -/
def Dev.returnSites (d : Dev) : Dev :=
  let go := d.fa.returning.filter d.canReturn
  let one := fun (p : Nat) (d : Dev) => ({ d with sp.out := d.sp.out.filter (· != p) } : Dev).replaceFor p
  each go one { d with fa.returning := d.fa.returning.filter fun p => !go.contains p }

/-- Whether a stack fenced for its temperature returns (R413): below 90 °C for 10 s, its channels retrained. -/
def Stack.cooled (s : Stack) (now : Nat) : Bool :=
  decide (16 ≤ s.retrained.length) && s.hotFence.elim false fun since => since.elim false fun t => decide (t + 10000000000 ≤ now)

/-- Channels and stacks that return (R304, R413). -/
def Dev.returnMemory (d : Dev) : Dev :=
  let one := fun (s : Stack) =>
    let s1 := { s with channels := s.channels.filter fun c => !c.returns }
    if s1.cooled d.rd.start then { s1 with fenced := false, hotFence := none, retrained := [] } else s1
  { d with mem.stackList := d.mem.stackList.map one }

/-- Engines that were reset train their ports again (R496). -/
def Dev.resumeEngines (d : Dev) : Dev :=
  let ports := (d.sw.engineReset.map fun e => [2 * e, 2 * e + 1]).flatten
  each ports Dev.probe { d with sw.engineReset := [] }

/-! ## Core maxima (R84, R86) -/

/-- One core's maximum is lowered by 25 MHz, and recorded; below 1.45 GHz the core counts as failed. -/
def Dev.lowerCore (c : Nat × Nat × Nat) (d : Dev) : Dev :=
  let mhz := d.coreMax c.1 c.2.1 c.2.2 - 25
  let here := fun (e : Nat × Nat × Nat × Nat) => e.1 == c.1 && e.2.1 == c.2.1 && e.2.2.1 == c.2.2
  let entry := (c.1, c.2.1, c.2.2, mhz)
  let d1 := ({ d with cs.maxima := upsert here entry (fun _ => entry) d.cs.maxima } : Dev).fdm (coreUnit c.1 c.2.1 c.2.2) 2 5 mhz
  if mhz < 1450 ∧ !d1.sp.failed.contains (coreUnit c.1 c.2.1 c.2.2) then
    Dev.replaceCore c.1 c.2.1 c.2.2 { d1 with sp.failed := insertNew (coreUnit c.1 c.2.1 c.2.2) d1.sp.failed }
  else d1

/-- The lowerings that were due take effect (R84). -/
def Dev.lowerCores (d : Dev) : Dev := each d.cs.lowering Dev.lowerCore { d with cs.lowering := [] }

/-! ## The boundary (R172) -/

/-- The splitter-tree calibration is repeated until it succeeds (R442). -/
def Dev.splitterBoundary (d : Dev) : Dev :=
  if d.ba.cascade ∧ !d.ba.splitterOk then { d.draw with ba.splitterOk := Config.splitter d.free } else d

/-- Licence features installed in the round before join the features in force (R481). -/
def Dev.licenceBoundary (d : Dev) : Dev := { d with fw.features := d.fw.features ||| d.fw.featNext, fw.featNext := 0 }

/-- What the active Ranger changes at a boundary, in the order of the round table: substitutions, what returns, the lasers,
placements, licence features, cap and Trickle. -/
def Dev.rangerBoundary (d : Dev) : Dev :=
  let d1 := d.roundMargins.coppiceBoundary.combBoundary.resumeUnits.releaseTests.returnSites.returnMemory.restoreCapacity.splitterBoundary
  ({ d1.updatePlacements.installAll with ba.dueGrants := true } : Dev).licenceBoundary.powerBoundary

/-- READY becomes SERVICE when a stream exists, SERVICE becomes READY when none does (R374); `any`: one existed as the boundary
began. -/
def Dev.serviceBoundary (any : Bool) (d : Dev) : Dev :=
  if d.hg.devState = .ready ∧ any then d.setState .service
  else if d.hg.devState = .service ∧ !any then d.setState .ready
  else d

/-- The changes of a boundary in BRINGUP and SAFE_HOLD apart (R501), and in a gap between two Rangers apart (R31, R474): committed
steps, core maxima, then what the active Ranger changes. -/
def Dev.changeBoundary (pass : Bool) (d : Dev) : Dev :=
  if d.hg.devState = .bringup ∨ d.hg.devState = .safeHold then d
  else
    let d1 := d.resumeSites.lowerCores.stepBoundary.resumeEngines
    if pass then d1.livePass
    else if d1.fw.handover.isSome then d1
    else d1.rangerBoundary

/-- The active Ranger's journal of the round goes to a current standby (R241, R477). DESIGN CHOICE (log 106): one cell stands for the entries and
heartbeats of a round. -/
def Dev.sendJournal (d : Dev) : Dev :=
  if d.ba.up ∧ d.fw.rangerUp ∧ d.fw.handover = none ∧ d.fw.standby = .current then d.sendCtl d.activePort d.otherPort .journal else d

/-- ROUND_BOUNDARY (R168, R172): the round before ends with its counts, the new one begins, what was due takes effect, and the intake
cut-off is taken. Nothing happens while the device is held in reset. -/
def roundBoundary (d : Dev) : Dev :=
  if d.heldReset then d
  else
    let pass := d.liveNext
    let any := !d.str.list.isEmpty
    let d1 := ((d.reach d.rd.next).slackBoundary.endRoundCounts.beginRound).destroyStreams
    (((d1.changeBoundary pass).barrierBoundary).serviceBoundary any).cutoff.sendJournal
/-- ROUND_BOUNDARY (R172). -/
def execRoundBoundary (s : State) : Result := s.run .roundBoundary roundBoundary

/-! ## The publication deadline (R172, R194, R281, R345) -/

/-- The Headgate writes the barrier word of the round (R281, R345). -/
def Dev.writeBarrierWord (d : Dev) : Dev :=
  let word :=
    if !d.sw.joined ∨ d.sw.role = 0 then (0, 0, 4, 0)
    else match d.sw.outcome with
      | some w => w
      | none => (d.rd.number, 0, if d.inBarrier then 2 else 3, 0)
  { d with sw.word := word }

/-- PUBLICATION_DEADLINE, 10 µs before the end of a round (R172, R194): published is written, and the barrier word. -/
def publicationDeadline (d : Dev) : Dev :=
  d.onPoint .pubDeadline (d.rd.period - 10000) fun d => d.publishDeadline.writeBarrierWord
/-- PUBLICATION_DEADLINE (R194). -/
def execPublicationDeadline (s : State) : Result := s.run .publicationDeadline publicationDeadline

/-! ## One cycle of the master count -/

/-- A restart that follows a command (R376, R485) takes place when it is due; else the count advances by one CD14 cycle (log 25), but while the
device is held in reset (R162). -/
def Dev.idle (d : Dev) : Dev :=
  if d.heldReset then d else
  let d1 := d.tick
  if d1.fw.restartAt.elim false fun t => decide (t ≤ d1.tb.ns) then d1.restart true else d1

end Sys2Proof.Machine
end

