-- ==== Sys2Proof/Machine/Sessions.lean ====
section
/-!
DEFINITION. Sessions (12 R380 to R384): opening, keepalive, the ORPHANED condition, reattaching.
-/

namespace Sys2Proof.Machine

/-- A new session (R381): id, name, token, hold time; the doorbell that opened it is its first activity. -/
def Dev.openSession (ch hold : Nat) (name : List Byte) (d : Dev) : Dev :=
  let token := Config.random d.free % 2 ^ 128
  let s : Session :=
    { id := d.ses.nextId, name, token, hold, lastDoorbell := (d.chan ch).accepted, orphaned := none, closing := false, closeRead := false, authFails := []
      lockout := none }
  let d1 := { d.draw with ses.list := d.ses.list ++ [s], ses.nextId := d.ses.nextId + 1 }
  d1.answer ch stOk (leBytes 4 s.id ++ zeros 4 ++ leBytes 16 token) 0

/-- SESSION_OPEN (R380, R381): hold 0 selects 600 s. -/
def sessionOpen (ch : Nat) (d : Dev) : Dev :=
  d.onCommand 0x0010 ch fun _ b d =>
    let hold := u32 b 16
    if hold ≠ 0 ∧ (hold < 10 ∨ 3600 < hold) then d.fail ch stBadParam
    else if 64 ≤ d.ses.list.length ∨ 0xFFFFFFFF < d.ses.nextId then d.fail ch stNoResource
    else d.openSession ch (if hold = 0 then 600 else hold) (b.take 16)
/-- SESSION_OPEN (R381). -/
def execSessionOpen (ch : Nat) (s : State) : Result := s.run (.sessionOpen ch) (sessionOpen ch)

/-- HOST_KEEPALIVE (R382): state 0 OPEN and the master count. -/
def hostKeepalive (ch : Nat) (d : Dev) : Dev :=
  d.onCommand 0x0013 ch fun _ _ d => d.answer ch stOk (zeros 8 ++ leBytes 8 d.tb.ns) 0
/-- HOST_KEEPALIVE (R382). -/
def execHostKeepalive (ch : Nat) (s : State) : Result := s.run (.hostKeepalive ch) (hostKeepalive ch)

/-- The counts of SESSION_REATTACH (12): graphs, streams, rings and held results of a session. -/
def Dev.sessionCounts (d : Dev) (id : Nat) : List Byte :=
  let streams := d.str.list.filter (·.session == id)
  let rings := (d.str.intakes.filter (·.session == id)).length + (d.str.results.filter (·.session == id)).length
  let held := (streams.map fun s => s.held.length).sum
  leBytes 4 (d.gr.list.filter (·.session == id)).length ++ leBytes 4 streams.length ++ leBytes 4 rings ++ leBytes 4 held

/-- A reattach with a wrong token (R384): the eighth within 60 s locks reattaching out for 60 s and is recorded. -/
def Dev.wrongToken (id : Nat) (d : Dev) : Dev :=
  match d.session? id with
  | none => d
  | some s =>
    let recent := d.tb.ns :: s.authFails.filter (fun t => decide (d.tb.ns < t + 60000000000))
    if recent.length < 8 then d.onSession id fun s => { s with authFails := recent }
    else (d.onSession id fun s => { s with authFails := recent, lockout := some (d.tb.ns + 60000000000) }).log 0 0 0x0601 4

/-- SESSION_REATTACH (R384). -/
def sessionReattach (ch : Nat) (d : Dev) : Dev :=
  d.onCommand 0x0012 ch fun hs b d =>
    let id := u32 b 0
    if hs ≠ 0 ∨ u32 b 4 ≠ 0 then d.fail ch stBadParam
    else match d.session? id with
      | none => d.fail ch stBadSession
      | some s =>
        if s.closing then d.fail ch stBadSession
        else if s.lockout.elim false (fun t => decide (d.tb.ns < t)) then d.fail ch stAuthFail
        else if field b 8 16 ≠ s.token then (d.wrongToken id).fail ch stAuthFail
        else
          let at_ := max s.lastDoorbell (d.chan ch).accepted
          let d1 := (d.onSession id fun s => { s with orphaned := none, lastDoorbell := at_ }).log 0 0 0x0601 3
          d1.answer ch stOk (d1.sessionCounts id) 0
/-- SESSION_REATTACH (R384). -/
def execSessionReattach (ch : Nat) (s : State) : Result := s.run (.sessionReattach ch) (sessionReattach ch)

/-- The 5 s instant of a session comes (R382): it becomes ORPHANED; no instant comes in the gap of a switch-over (R385). -/
def sessionOrphanTimer (id : Nat) (d : Dev) : Dev :=
  match d.session? id with
  | some s =>
    if s.orphaned.isNone ∧ !s.closing ∧ d.fw.handover.isNone then (d.reach (s.lastDoorbell + 5000000000)).orphan id else d
  | none => d
/-- SESSION_ORPHAN_TIMER (R382). -/
def execSessionOrphanTimer (session : Nat) (s : State) : Result := s.run (.sessionOrphanTimer session) (sessionOrphanTimer session)

/-- The reattach lock-out of a session ends (R384). -/
def reattachLockoutExpiry (id : Nat) (d : Dev) : Dev :=
  match (d.session? id).bind (·.lockout) with
  | some t => (d.reach t).onSession id fun s => { s with lockout := none }
  | none => d
/-- REATTACH_LOCKOUT_EXPIRY (R384). -/
def execReattachLockoutExpiry (session : Nat) (s : State) : Result :=
  s.run (.reattachLockoutExpiry session) (reattachLockoutExpiry session)

end Sys2Proof.Machine
end

