-- ==== Sys2Proof/Machine/GraphMath.lean ====
section
/-!
DEFINITION. The arithmetic of graph nodes on lists of elements (chapter 02; R127 to R146, R525 to R527): matrix products,
expressions, reductions, ranking, sampling, conversions to an output format.
-/

namespace Sys2Proof.Machine

/-- A value that a node computes: an exact floating-point value of a format, or an integer. -/
inductive Num
  | val (format : Nat) (v : Val)
  | int (i : Int)
  deriving DecidableEq, Repr

/-- An FP32 code as a number. -/
def Num.ofFp (c : Nat) : Num := .val 1 (ofFp32 c)
/-- The number an element of a tensor is: a Ladder element is first decoded to FP32 (R527). DESIGN CHOICE (log 85): R41's product may need
more bits than FP32 holds; it rounds to nearest even, and beyond the range it is an infinity. -/
def numOf (t : Tensor) (e : Elem) : Num :=
  if isInteger t.format then .int (e.int t.format)
  else if isLadder t.format then Num.ofFp (e.fp t.format t.variant)
  else .val t.format (e.val t.format t.variant)
/-- The FP32 code an Edger core reads (R46, R130). -/
def Num.fp : Num → Nat
  | .val _ v => toFp32 v
  | .int i => fpOfInt i
/-- The integer of an integer number; 0 for another. -/
def Num.toInt : Num → Int
  | .int i => i
  | .val _ _ => 0
/-- Ranking order of R64, ascending: every NaN above +infinity, −0 equal to +0. -/
def Num.rankLt : Num → Num → Bool
  | .int a, .int b => decide (a < b)
  | a, b =>
    match a, b with
    | .val _ .nan, _ => false
    | _, .val _ .nan => true
    | .val _ x, .val _ y => x.cmp y == some .lt
    | _, _ => false

/-! ## Indices -/

/-- Coordinates of a linear index, innermost first. -/
def coordsOf : List Nat → Nat → List Nat
  | [], _ => []
  | n :: ds, i => i % max 1 n :: coordsOf ds (i / max 1 n)

/-- Linear index of coordinates in a shape; an extent of 1 is broadcast. -/
def indexOf : List Nat → List Nat → Nat
  | [], _ => 0
  | _, [] => 0
  | n :: ds, c :: cs => (if n = 1 then 0 else c) + n * indexOf ds cs

/-! ## Matrix products (R53 to R62) -/

/-- The entries of a weight row by position: stored ones, or one zero (R62). -/
def rowAt (row : List (Nat × Elem)) (p : Nat) : List Elem :=
  match row.filter (·.1 == p) with
  | [] => [Elem.plain 0]
  | es => es.map (·.2)

/-- One element of a Ladder operand in a group (R41, R55): its value with its block scale, without its tile scale; zero under a tile
scale of +0. -/
def ladderPart (t : Tensor) (e : Elem) : Val :=
  match ofFp32 e.tile, fmtUe5m3.decodeMag false e.scale, elemFmt t.format t.variant with
  | .fin _ _ _, s, some f => if e.scale = 0 ∨ e.tile = 0 then (if s = .nan then .nan else .fin false 0 0) else s.mul (f.decode e.code)
  | _, _, _ => .nan

/-- Operand of a product, for its class. -/
def matPart (t : Tensor) (e : Elem) : Val := if isLadder t.format then ladderPart t e else e.val t.format t.variant

/-- Products at some positions of K (R54). -/
def productsAt (a w : Tensor) (arow : List Elem) (wrow : List (Nat × Elem)) (ps : List Nat) : List Val :=
  (ps.map fun p =>
    let x := matPart a (pick (Elem.plain 0) arow p)
    (rowAt wrow p).map fun e => x.mul (matPart w e)).flatten

/-- Products of the positions of one group (R54): 16 positions of K from `g`. -/
def groupProducts (a w : Tensor) (arow : List Elem) (wrow : List (Nat × Elem)) (g hi : Nat) : List Val :=
  productsAt a w arow wrow ((List.range (min 16 (hi - g))).map (g + ·))

/-- Sum of the integer products of one group (R57). -/
def groupInts (a w : Tensor) (arow : List Elem) (wrow : List (Nat × Elem)) (g hi : Nat) : Int :=
  ((List.range (min 16 (hi - g))).map fun j =>
    ((rowAt wrow (g + j)).map fun e => (pick (Elem.plain 0) arow (g + j)).int a.format * e.int w.format).sum).sum

/-- The tile scale of two places, where they agree; an element of tile scale +0 agrees with any. -/
def joinTile (a b : Nat) : Option Nat := if a = 0 then some b else if b = 0 ∨ a = b then some a else none

/-- The tile scales of a position of K: of A and of W. -/
def tilesAt (arow : List Elem) (wrow : List (Nat × Elem)) (p : Nat) : Nat × Nat :=
  ((pick (Elem.plain 0) arow p).tile, (wrow.find? (·.1 == p)).elim 0 (·.2.tile))

/-- Positions cut into runs of one pair of tile scales. -/
def tileRuns (arow : List Elem) (wrow : List (Nat × Elem)) : List Nat → List ((Nat × Nat) × List Nat)
  | [] => []
  | p :: ps =>
    let t := tilesAt arow wrow p
    match tileRuns arow wrow ps with
    | [] => [(t, [p])]
    | (u, qs) :: rest =>
      match joinTile t.1 u.1, joinTile t.2 u.2 with
      | some a, some b => ((a, b), p :: qs) :: rest
      | _, _ => (t, [p]) :: (u, qs) :: rest

/-- One slice of 128 positions of the Ladder class (R58). DESIGN CHOICE (log 86): where a slice of CONV2D spans several tiles, each run of
positions of one pair of tile scales has its own partial T and its own tile product. -/
def ladderSlice (a w : Tensor) (arow : List Elem) (wrow : List (Nat × Elem)) (lo hi acc : Nat) : Nat :=
  let n := min 128 (hi - lo)
  let part := fun (ps : List Nat) => (List.range ((n + 15) / 16)).foldl
    (fun t g => fpAdd t (toFp32 (groupSum (productsAt a w arow wrow (ps.filter fun p => (p - lo) / 16 == g))))) 0
  (tileRuns arow wrow ((List.range n).map (lo + ·))).foldl (fun acc r => fpFma (part r.2) (fpMul r.1.1 r.1.2) acc) acc

/-- Accumulator of one core over positions [lo, hi) of K (R53, R56 to R58), as an FP32 code. -/
def matPartial (a w : Tensor) (arow : List Elem) (wrow : List (Nat × Elem)) (lo hi : Nat) : Nat :=
  let groups := List.range ((hi - lo + 15) / 16)
  match matClass a.format with
  | some 0 =>
    (List.range (hi - lo)).foldl (fun acc j =>
      (rowAt wrow (lo + j)).foldl (fun acc e => fpFma ((pick (Elem.plain 0) arow (lo + j)).code) e.code acc) acc) 0
  | some 1 => groups.foldl (fun acc g => accAdd acc (halfSum (groupProducts a w arow wrow (lo + 16 * g) hi))) 0
  | some 3 => fpOfInt (groups.foldl (fun (acc : Int) g => satInt 32 (acc + groupInts a w arow wrow (lo + 16 * g) hi)) 0)
  | some 4 => (List.range ((hi - lo + 127) / 128)).foldl (fun acc s => ladderSlice a w arow wrow (lo + 128 * s) hi acc) 0
  | _ => groups.foldl (fun acc g => accAdd acc (groupSum (groupProducts a w arow wrow (lo + 16 * g) hi))) 0

/-- Sum of FP32 codes in the balanced tree of R525, with fuel. -/
def treeSumFuel : Nat → List Nat → Nat
  | _, [] => 0
  | 0, _ => 0
  | _, [x] => x
  | k + 1, xs =>
    let h := (xs.length + 1) / 2
    fpAdd (treeSumFuel k (xs.take h)) (treeSumFuel k (xs.drop h))
/-- Sum of FP32 codes in the balanced tree of R525. -/
def treeSum (xs : List Nat) : Nat := treeSumFuel 64 xs

/-- Sum of the partials of a split (R59): tree 0 balanced pairwise, 1 linear ascending. -/
def joinPartials (tree : Nat) : List Nat → Nat
  | [] => 0
  | x :: xs => if tree = 0 then treeSum (x :: xs) else xs.foldl fpAdd x

/-- The K ranges of a split (R59): whole units of K, each cut off at the depth. -/
def kRanges (a : Tensor) (choice node c k : Nat) : List (Nat × Nat) :=
  if c ≤ 1 then [(0, k)]
  else
    let u := kUnit a
    let b := kBounds choice node c ((k + u - 1) / u)
    (b.zip b.tail).map fun r => (min k (r.1 * u), min k (r.2 * u))

/-- An activation (the operation set): ReLU is a maximum with +0; GELU, SiLU, tanh and sigmoid lie within the bound of their class
(R60, R67). -/
def activate (draw code x : Nat) : Nat :=
  match code with
  | 0 => x
  | 1 => fpMax x 0
  | 2 => edger draw 0x27 x
  | 3 => edger draw 0x28 x
  | 4 => edger draw 0x24 x
  | _ => edger draw 0x25 x

/-- The epilogue up to the conversion (R60). -/
def epilogue (draw activation : Nat) (scale bias acc : Nat) : Nat := activate draw activation (fpFma acc scale bias)

/-! ## Expressions (R130) -/

/-- One expression node, given the values of the earlier ones. -/
def exprStep (draw : Nat) (inputs vals : List Nat) (x : ExprNode) : Nat :=
  let a := pick 0 vals x.a
  let b := pick 0 vals x.b
  let c := pick 0 vals x.c
  let truth := fun (t : Bool) => if t then fpOne else 0
  match x.op with
  | 0x00 => pick 0 inputs x.imm
  | 0x01 => x.imm
  | 0x10 => fpAdd a b
  | 0x11 => fpAdd a (fpNeg b)
  | 0x12 => fpMul a b
  | 0x13 => fpDiv a b
  | 0x14 => fpFma a b c
  | 0x15 => fpMin a b
  | 0x16 => fpMax a b
  | 0x17 => fpNeg a
  | 0x18 => toFp32 (ofFp32 a).abs
  | 0x19 => fpSqrt a
  | 0x30 => truth (fpLt a b)
  | 0x31 => truth (fpLe a b)
  | 0x32 => truth (fpEq a b)
  | 0x33 => if fpEq a 0 then c else b
  | op => edger draw op a

/-- The value of an expression: its last node. -/
def evalExpr (draw : Nat) (inputs : List Nat) (xs : List ExprNode) : Nat :=
  ((xs.foldl (fun vals x => vals ++ [exprStep draw inputs vals x]) []).getLast?).getD 0

/-! ## Reductions (R525) and ranking (R64, R138) -/

/-- Position of the first extreme value: `before x y` says that x ranks strictly ahead of y. -/
def argBest (before : Num → Num → Bool) : List Num → Nat → Nat → Num → Nat
  | [], _, best, _ => best
  | x :: xs, i, best, v => if before x v then argBest before xs (i + 1) i x else argBest before xs (i + 1) best v

/-- Index of the maximum under R64, lowest index among equals. -/
def argMax (xs : List Num) : Nat := argBest (fun x y => y.rankLt x) xs 0 0 (xs.headD (.int 0))
/-- Index of the minimum under R64. -/
def argMin (xs : List Num) : Nat := argBest (fun x y => x.rankLt y) xs 0 0 (xs.headD (.int 0))

/-- One reduction (R525) of the values along an axis; `extent` is the extent of the axis. -/
def reduceOne (kind extent : Nat) (isInt : Bool) (xs : List Num) : Num :=
  let fps := xs.map Num.fp
  let ints := xs.map Num.toInt
  let sumInt := toSigned 64 (ofSigned 64 ints.sum)
  match kind with
  | 4 => .int (argMax xs)
  | 5 => .int (argMin xs)
  | 0 => if isInt then .int sumInt else Num.ofFp (treeSum fps)
  | 1 => Num.ofFp (toFp32 ((ofFp32 (if isInt then fpOfInt sumInt else treeSum fps)).div (.fin false extent 0)))
  | 2 => if isInt then .int (ints.foldl max (ints.headD 0)) else Num.ofFp (fps.foldl fpMax (fps.headD 0))
  | _ => if isInt then .int (ints.foldl min (ints.headD 0)) else Num.ofFp (fps.foldl fpMin (fps.headD 0))

/-- Indices of a row in rank order (R64): ties by ascending index. -/
def ranked (descending : Bool) (xs : List Num) : List Nat :=
  let before := fun (x y : Num) => if descending then y.rankLt x else x.rankLt y
  (sortBy (fun a b => before a.1 b.1) xs.zipIdx).map (·.2)

/-! ## Sampling (R139 to R141) -/

/-- Probabilities of a row of logits (R139): the softmax of logits / temperature, within the bound of R67. -/
def probabilities (draw temperature : Nat) (xs : List Nat) : List Nat :=
  softmaxCodes draw (xs.map fun x => (ofFp32 x).div (ofFp32 temperature)) (xs.map fun _ => true)

/-- Running sums of FP32 codes. -/
def runningSums (xs : List Nat) : List Nat :=
  (xs.foldl (fun (p : List Nat × Nat) x => let s := fpAdd p.2 x; (p.1 ++ [s], s)) ([], 0)).1

/-- A draw (R139): the first token, in descending order of probability, at which the running sum reaches u × total; top-p first
keeps the shortest prefix whose sum is at least top_p. -/
def drawToken (topP : Option Nat) (ps : List Nat) (u : Nat) : Nat :=
  let order := ranked true (ps.map Num.ofFp)
  let sums := runningSums (order.map (pick 0 ps))
  let keep := match topP with
    | none => order.length
    | some p => ((sums.findIdx? (fun s => fpLe p s)).getD (order.length - 1)) + 1
  let kept := sums.take keep
  let total := (kept.getLast?).getD 0
  pick 0 order (((kept.findIdx? (fun s => fpLe (fpMul u total) s))).getD (keep - 1))

/-- The token of one logits row (R139). -/
def sampleRow (draw : Nat) (n : Node) (seed item pos : Nat) (xs : List Nat) : Nat :=
  match n.at8 0 with
  | 0 => argMax (xs.map Num.ofFp)
  | 1 => drawToken none (probabilities draw (n.at32 4) xs) (drawU seed item pos)
  | _ => drawToken (some (n.at32 8)) (probabilities draw (n.at32 4) xs) (drawU seed item pos)

/-- How many drafts are accepted (R141): in order while the sampled token equals the draft. -/
def acceptCount : List Int → List Int → Nat
  | d :: ds, t :: ts => if d = t then acceptCount ds ts + 1 else 0
  | _, _ => 0

/-- Tokens and accepted count of SAMPLE (R141). -/
def sampleOut (drafts tokens : List Int) (hasDrafts : Bool) : List Int × Nat :=
  if hasDrafts then
    let k := acceptCount drafts tokens
    (tokens.zipIdx.map (fun (t, i) => if i ≤ k then t else -1), k)
  else (tokens, 0)

/-! ## Conversion to the output format (R46 to R52, R45, R527) -/

/-- What conversions of one node draw from (R51, R52): the binding's seed, choice number and index of the node, the logical Mill and
Edger cores that round its output. -/
structure Draws where
  seed : Nat
  choice : Nat
  node : Nat
  cores : List Nat

/-- The logical core that rounds output element `e` (R52, log 16). -/
def Draws.core (w : Draws) (e : Nat) : Option Nat := w.cores[Config.place w.choice w.node (1000 + e) % max 1 w.cores.length]?

/-- SR generators: (logical core, seed, state) (R51). -/
abbrev Generators := List (Nat × Nat × Nat)

/-- Round one element: with SR, the next draw of its core's generator, kept when it was consumed (R50, R52). DESIGN CHOICE (log 87): a
conversion on a unit that has no generator (R51) takes a free 16-bit value. -/
def roundOne (w : Draws) (isSr : Bool) (e : Nat) (f : Round → Elem × Bool) (sr : Generators) : Elem × Generators :=
  if isSr then
    match w.core e with
    | none => ((f (.sr (Config.place w.choice w.node (2000000 + e) % 65536))).1, sr)
    | some core =>
      let s := srNext ((sr.find? (·.1 == core)).elim (srInit w.seed core) (·.2.2))
      let r := f (.sr (srValue s))
      (r.1, if r.2 then upsert (·.1 == core) (core, w.seed, 0) (fun g => (core, g.2.1, s)) sr else sr)
  else ((f .rne).1, sr)

/-- Round a list of elements in order. -/
def roundAll {α : Type} (w : Draws) (isSr : Bool) (f : α → Round → Elem × Bool) : Nat → List α → Generators → List Elem × Generators
  | _, [], sr => ([], sr)
  | e, x :: xs, sr =>
    let r := roundOne w isSr e (f x) sr
    let rest := roundAll w isSr f (e + 1) xs r.2
    (r.1 :: rest.1, rest.2)

/-- Conversion of a number to a format that is not Ladder (R46, R47): a widening conversion is exact, infinities included; between
integers only the first row of R47 applies. -/
def convertNum (fmt : Nat) (inf : Bool) (x : Num) (mode : Round) : Elem × Bool :=
  match x with
  | .int i =>
    if isInteger fmt then (Elem.plain (ofSigned (elemBits fmt) (satInt (elemBits fmt) i)), false)
    else narrow fmt mode inf (.fin (decide (i < 0)) i.natAbs 0)
  | .val src v => narrow fmt mode (inf || widens src fmt) v

/-- Quantize FP32 codes of a shape to a Ladder format (R45): tile exponents and block scales first, then the elements. -/
def quantize (w : Draws) (isSr : Bool) (t : Tensor) (ds : List Nat) (xs : List Nat) (sr : Generators) : List Elem × Generators :=
  let places := (List.range xs.length).map (tilePlace ds)
  let tile := fun (k : Nat) => (xs.zip places).filter (fun p => p.2.1 == k)
  let cell := fun (x : Nat) (p : Nat × Nat × Nat) (mode : Round) =>
    let here := tile p.1
    let et := tileExp t.format t.variant (here.map (·.1))
    let block := (here.filter fun q => q.2.2.1 == p.2.1 && q.2.2.2 / 16 == p.2.2 / 16).map (·.1)
    blockElem t.format t.variant et (blockScale t.format t.variant et block) mode x
  roundAll w isSr (fun (q : Nat × Nat × Nat × Nat) mode => cell q.1 q.2 mode) 0 (xs.zip places) sr

/-- Convert numbers of a shape to a tensor's format, by the node's flags. -/
def convertAll (w : Draws) (n : Node) (t : Tensor) (ds : List Nat) (xs : List Num) (sr : Generators) : List Elem × Generators :=
  let isSr := n.flags % 4 == 1
  if isLadder t.format then quantize w isSr t ds (xs.map Num.fp) sr
  else roundAll w isSr (fun x mode => convertNum t.format (bitOf n.flags 2) x mode) 0 xs sr

end Sys2Proof.Machine
end

