-- ==== Sys2Proof/Machine/GraphEval.lean ====
section
/-!
DEFINITION. What a stage of a graph does for the items of one batch (chapter 04): reading tensors, one function per group of
operations, poison (R528), writing outputs, loops and exits. The effects of a stage take place when its last share completes
(log 17).
-/

namespace Sys2Proof.Machine

/-! ## The state of an evaluation -/

/-- A batch under evaluation: the device, its items, and the access of a remote node that it waits for (R148). -/
structure Eval where
  dev : Dev
  items : List Item
  wait : Option Suspended

/-- Whether an item still runs. -/
def Item.live (it : Item) : Bool :=
  match it.stage with
  | .running _ _ => true
  | _ => false

/-- Change the generators by what a conversion drew. -/
def Eval.setSr (sr : Generators) (e : Eval) : Eval := { e with dev := { e.dev with cs.sr := sr } }

/-- Change the item at a place of the batch. -/
def Eval.onItem (p : Nat) (f : Item → Item) (e : Eval) : Eval :=
  match e.items[p]? with
  | some it => { e with items := e.items.set p (f it) }
  | none => e

/-! ## STATE memory (storage classes, R202, R207, R528) -/

/-- Key of an item's STATE memory (R202, R207): stream, decode stream, tensor. A decode item has its own; so has an item of a feeder, for
the KV tensor, at the decode stream it has reserved; other items share their stream's. -/
def Dev.stateKey (d : Dev) (x : Frame0) (it : Item) (tensor : Nat) : Nat × Nat × Nat :=
  let kv := (x.g.image.decls[x.st.decl]?).elim false (fun y => y.kvState == tensor)
  let fed := d.str.list.find? fun s => s.feeder == some x.st.id
  match it.decode, (if kv then fed else none) with
  | some n, _ => (x.st.id, n, tensor)
  | none, some s => (s.id, ((s.slots.find? (·.2 == it.seq)).elim 0 (·.1)), tensor)
  | none, none => (x.st.id, 0, tensor)

/-- Whether an item has STATE memory of a tensor of its own. -/
def Dev.ownState (d : Dev) (x : Frame0) (it : Item) (tensor : Nat) : Bool :=
  it.decode.isSome || (d.stateKey x it tensor).1 != x.st.id

/-- STATE memory of a key. -/
def Dev.stateOf (d : Dev) (h : Nat) (key : Nat × Nat × Nat) : StateMem :=
  let z : StateMem := { stream := key.1, decode := key.2.1, tensor := key.2.2, cells := [], poison := [] }
  ((d.graph? h).bind fun g => g.stateMem.find? fun m => m.stream == key.1 && m.decode == key.2.1 && m.tensor == key.2.2).getD z

/-- Bytes of STATE memory, and whether one is poisoned. -/
def StateMem.read (m : StateMem) : Reader := fun o n => (cellsRead m.cells o n, m.poison.any fun r => overlaps o n r.1 r.2)

/-- What is left of a range without [o, o + n). -/
def cutRange (o n : Nat) (r : Nat × Nat) : List (Nat × Nat) :=
  (if r.1 < o then [(r.1, min (r.1 + r.2) o - r.1)] else []) ++
  (if o + n < r.1 + r.2 then [(max r.1 (o + n), r.1 + r.2 - max r.1 (o + n))] else [])

/-- Write STATE memory: the bytes written are poisoned or not as their value is. -/
def StateMem.write (o : Nat) (b : List Byte) (poison : Bool) (m : StateMem) : StateMem :=
  { m with cells := cellsWrite m.cells o b
           poison := (if poison then [(o, b.length)] else []) ++ (m.poison.map (cutRange o b.length)).flatten }

/-- Change the STATE memory of a key. -/
def Dev.onState (h : Nat) (key : Nat × Nat × Nat) (f : StateMem → StateMem) (d : Dev) : Dev :=
  let same := fun (m : StateMem) => m.stream == key.1 && m.decode == key.2.1 && m.tensor == key.2.2
  d.onGraph h fun g => { g with stateMem := upsert same (d.stateOf h key) f g.stateMem }

/-! ## Reading (R91, R117, R121, R528) -/

/-- A byte as a site reads it (R91): a CACHED read takes what the cache holds. -/
def Dev.cachedByte (d : Dev) (site : Option Nat) (cached : Bool) (a : Nat) : Option Byte :=
  match (if cached then site.bind fun s => (d.site s).cache.find? (·.1 == a / 256) else none) with
  | some e => some ((e.2[a % 256]?).getD 0)
  | none => d.readByte a

/-- Bytes of a WEIGHT tensor from its region, as a site reads them; poisoned bytes read 0. -/
def Dev.weightReader (d : Dev) (g : Graph) (site : Option Nat) (t : Tensor) : Reader := fun o n =>
  match d.tensorDpa g t with
  | none => (zeros n, true)
  | some r =>
    let bs := (List.range n).map fun i => d.cachedByte site (bitOf t.flags 0) (r.1 + o + i)
    (bs.map (·.getD 0), bs.any (·.isNone))

/-- The lines of ranges of a read-only WEIGHT tensor enter the caches of the sites that read them (R91). -/
def Dev.cacheIn (g : Graph) (sites : List Nat) (t : Tensor) (ranges : List (Nat × Nat)) (d : Dev) : Dev :=
  match d.tensorDpa g t with
  | none => d
  | some r =>
    if t.cls ≠ 2 ∨ !bitOf t.flags 0 then d
    else
      let lines := (ranges.map fun q => (List.range ((r.1 + q.1 + q.2 + 255) / 256 - (r.1 + q.1) / 256)).map ((r.1 + q.1) / 256 + ·)).flatten
      let one := fun (s line : Nat) (d : Dev) =>
        if (d.site s).cache.any (·.1 == line) then d
        else (d.readBytes (line * 256) 256).elim d fun b => d.fillCache s line b
      each sites (fun s d => each lines (one s) d) d

/-- The bytes that a CONSTANT or WEIGHT tensor is read from. -/
def Dev.tensorReader (d : Dev) (x : Frame0) (site : Option Nat) (t : Tensor) : Reader :=
  if t.cls = 1 then readList ((x.g.image.constants.drop t.offset).take t.size) else d.weightReader x.g site t

/-- The slice at a position of a CONSTANT or WEIGHT tensor, or the whole of one that is not per-item (R119). -/
def Dev.constSlice (d : Dev) (x : Frame0) (site : Option Nat) (t : Tensor) (pos : Nat) : List Elem × Bool :=
  elemsAt (d.tensorReader x site t) t.format t.extents (if t.perItem then pos * t.sliceCount else 0) t.sliceCount

/-- First element and extents by which an item's slice of a STATE tensor lies in its STATE memory (R119): an item with memory of its own
has its slice at the start. -/
def Dev.statePlace (d : Dev) (x : Frame0) (it : Item) (id : Nat) (t : Tensor) : Nat × List Nat :=
  if t.perItem && !d.ownState x it id then (it.pos * t.sliceCount, t.extents) else (0, t.sliceDims)

/-- Elements of an item's slice of a per-item tensor, or of the whole of another; and whether it is poisoned. -/
def Dev.readSlice (d : Dev) (x : Frame0) (site : Option Nat) (it : Item) (id : Nat) (t : Tensor) : List Elem × Bool :=
  match t.cls with
  | 1 => d.constSlice x site t it.pos
  | 2 => d.constSlice x site t it.pos
  | 3 => (unpack t.format t.sliceDims (it.payload.getD []), it.payloadPoison)
  | 4 => (unpack t.format t.sliceDims ((it.desc.drop (32 + t.offset)).take t.sliceBytes), false)
  | 6 =>
    let p := d.statePlace x it id t
    elemsAt (d.stateOf x.g.handle (d.stateKey x it id)).read t.format p.2 p.1 t.sliceCount
  | _ => (it.values.find? (·.1 == id)).elim (List.replicate t.sliceCount (Elem.plain 0), false) (·.2)

/-- Elements of a tensor by its id. -/
def Dev.readTensor (d : Dev) (x : Frame0) (it : Item) (id : Nat) : List Elem × Bool :=
  (x.g.image.tensors[id]?).elim ([], false) fun t => d.readSlice x none it id t

/-- An input of a node for a batch: the slices of a per-item tensor by position; of another tensor the whole, by the position of the item
that holds it; the bytes of a tensor of which only rows are read. `draw` numbers the free values of absent items. -/
structure Input where
  t : Tensor
  id : Nat
  slices : List (Nat × List Elem × Bool)
  rd : Option Reader
  draw : Nat

/-- The absent input. -/
def Input.none_ : Input := { t := tensorOf [], id := 0xFFFF, slices := [], rd := none, draw := 0 }
/-- Input `k`. -/
def arg (is : List Input) (k : Nat) : Input := pick Input.none_ is k

/-- Whether only rows of an input are read. -/
def readsRows (n : Node) (k : Nat) (t : Tensor) : Bool :=
  (t.cls == 1 || t.cls == 2) && (((n.opcode == 0x01 || n.opcode == 0x02) && k == 1) || ((n.opcode == 0x0A || n.opcode == 0x0B) && k == 0))

/-- An input of a node for the items at some places of the batch. -/
def Eval.input (x : Frame0) (site : Option Nat) (ps : List Nat) (n : Node) (e : Eval) (id k : Nat) (t : Tensor) : Input :=
  let i : Input := { t, id, slices := [], rd := none, draw := e.dev.free }
  if (n.opcode == 0x09 && k == 3) || (n.opcode == 0x0C && k == 0) then i
  else if readsRows n k t then { i with rd := some (e.dev.tensorReader x (if n.opcode = 0x0A then none else site) t) }
  else
    let its := ps.filterMap (e.items[·]?)
    let every := t.perItem && (t.cls == 1 || t.cls == 2)
    { i with slices :=
        if every then (List.range ((t.extents.getLast?).getD 1)).map fun p => (p, e.dev.constSlice x site t p)
        else if t.perItem || t.cls == 0 || t.cls == 6 then its.map fun it => (it.pos, e.dev.readSlice x site it id t)
        else (its.take 1).map fun it => (it.pos, e.dev.readSlice x site it id t) }

/-- The inputs of a node for the items at some places of the batch. -/
def Eval.inputs (x : Frame0) (site : Option Nat) (ps : List Nat) (n : Node) (e : Eval) : List Input :=
  n.inputs.zipIdx.map fun (id, k) => e.input x site ps n id k ((x.g.image.tensors[id]?).getD (tensorOf []))

/-- The slice of an input at a position: of a per-item tensor the item's, with free values for an item that is not there (log 31); of
another the whole, as the item of the position holds it. -/
def Input.slice (i : Input) (pos : Nat) : List Elem × Bool :=
  let free := fun (j : Nat) => Elem.plain (Config.transcend i.draw (0x1000 + pos) j % 2 ^ elemBits i.t.format)
  match i.slices.find? (·.1 == pos) with
  | some s => s.2
  | none => if i.t.perItem then ((List.range i.t.sliceCount).map free, false) else (i.slices.head?).elim ([], false) (·.2)

/-- Position that coordinates name in a per-item tensor; an extent of 1 is broadcast. -/
def Tensor.itemAt (t : Tensor) (c : List Nat) : Nat := if t.extents.getLast? = some 1 then 0 else c.getD (t.rank - 1) 0

/-- Element of an input at coordinates, innermost first, the item position last for a per-item tensor; `pos` is the position of the
item that the node computes for. -/
def Input.elem (i : Input) (pos : Nat) (c : List Nat) : Elem :=
  if i.t.perItem then pick (Elem.plain 0) (i.slice (i.t.itemAt c)).1 (indexOf i.t.sliceDims (c.take (i.t.rank - 1)))
  else pick (Elem.plain 0) (i.slice pos).1 (indexOf i.t.extents c)

/-- Number of an input at coordinates. -/
def Input.num (i : Input) (pos : Nat) (c : List Nat) : Num := numOf i.t (i.elem pos c)
/-- FP32 code of an input at coordinates. -/
def Input.fp (i : Input) (pos : Nat) (c : List Nat) : Nat := (i.elem pos c).fp i.t.format i.t.variant
/-- Integer of an input at coordinates. -/
def Input.int (i : Input) (pos : Nat) (c : List Nat) : Int := (i.elem pos c).int i.t.format
/-- Integers of the slice of an input at a position. -/
def Input.ints (i : Input) (pos : Nat) : List Int := (i.slice pos).1.map (Elem.int i.t.format)
/-- FP32 codes of an input that is a vector. -/
def Input.vec (i : Input) (pos : Nat) : List Nat := (List.range (i.t.extents.headD 0)).map fun j => i.fp pos [j]
/-- Coordinates of a row of an input, by its outer coordinates. -/
def Input.row (i : Input) (rest : List Nat) : List (List Nat) := (List.range (i.t.extents.headD 1)).map (· :: rest)

/-- Whether what a node reads of an input for a position is poisoned; across items: whether any slice is. -/
def Input.poison (i : Input) (across : Bool) (pos : Nat) : Bool := if across then i.slices.any (·.2.2) else (i.slice pos).2

/-- Coordinates of the elements of an output: of one item's slice, or of the whole of a tensor that is not per-item. -/
def outCoords (y : Tensor) (pos : Nat) : List (List Nat) :=
  (List.range y.sliceCount).map fun i =>
    let c := coordsOf y.sliceDims i
    if y.perItem then c ++ [pos] else c

/-- An output row by row along its innermost dimension: `f` gives the row at the outer coordinates. -/
def byRows (y : Tensor) (pos : Nat) (f : List Nat → List Num) : List Num :=
  if y.perItem && y.rank == 1 then [pick (.int 0) (f []) pos]
  else
    let ds := y.sliceDims.tail
    ((List.range (volume ds)).map fun r => f (coordsOf ds r ++ if y.perItem then [pos] else [])).flatten

/-- An output item by item: `f` gives what the item at a position computes. -/
def byItems (y : Tensor) (pos : Nat) (f : Nat → List Num) : List Num :=
  if y.perItem then f pos else ((List.range ((y.extents.getLast?).getD 1)).map f).flatten

/-- Whether a value of a per-item output may depend on several items (R119): a reduction or a row along the items, an operand whose item
dimension is not that of the output. -/
def acrossItems (n : Node) (ins : List Tensor) (y : Tensor) : Bool :=
  let items := ins.filter (·.perItem)
  match n.opcode with
  | 0x01 => (ins.drop 1).any fun t => t.perItem && t.rank ≤ 2
  | 0x02 => (ins.drop 1).any (·.perItem)
  | 0x03 => items.any fun t => t.rank != y.rank
  | 0x04 => items.any fun t => n.at8 1 + 1 == t.rank
  | 0x0B => (ins.take 1).any (·.perItem)
  | 0x20 => items.any fun t => t.rank != y.rank
  | _ =>
    ([0x05, 0x06, 0x07, 0x0D, 0x0E].contains n.opcode && items.any (·.rank == 1)) ||
    ((n.opcode == 0x06 || n.opcode == 0x07) && (ins.drop 1).any (·.perItem))

/-! ## What a node gives (R127 to R146) -/

/-- Result of a node for one item, or for all of them: one list of numbers for each output; poison from rows or memory; a fault detail. -/
structure Made where
  outs : List (List Num)
  poison : Bool
  fault : Option Nat

/-- A result without poison or fault. -/
def made (outs : List (List Num)) : Made := { outs, poison := false, fault := none }

/-- What is fixed while a node computes for one position: the frame, the node's index, its inputs and outputs, the position, the trip of
the innermost loop, the items, and the number of its free values. -/
structure At where
  x : Frame0
  k : Nat
  n : Node
  is : List Input
  outs : List Tensor
  pos : Nat
  trip : Nat
  items : List Item
  draw : Nat

/-- An element of the left operand's row for an output place (R127, R128): for CONV2D a row of the patch matrix, padding zero. -/
def matRow (n : Node) (a : Input) (pos : Nat) (c : List Nat) : List Elem :=
  let depth := a.t.extents.headD 1
  if n.opcode = 0x02 then
    let h := (a.t.extents[2]?).getD 1
    let wd := (a.t.extents[1]?).getD 1
    ((List.range (n.at8 0 * n.at8 1)).map fun q =>
      let r := c.getD 2 0 * n.at8 2 + q / max 1 (n.at8 1)
      let s := c.getD 1 0 * n.at8 3 + q % max 1 (n.at8 1)
      (List.range depth).map fun j =>
        if r < n.at8 4 ∨ n.at8 4 + h ≤ r ∨ s < n.at8 5 ∨ n.at8 5 + wd ≤ s then Elem.plain 0
        else a.elem pos (j :: (s - n.at8 5) :: (r - n.at8 4) :: c.drop 3)).flatten
  else (List.range depth).map fun j => a.elem pos (j :: c.tail)

/-- The entries of the weight's row for an output place (R61, R127, R128), and whether one of them is poisoned: from the stored bytes, or
from the elements of a tensor of another class. -/
def matCol (n : Node) (w : Input) (pos : Nat) (c : List Nat) : List (Nat × Elem) × Bool :=
  let conv := n.opcode == 0x02
  let col := c.headD 0
  let batch := if conv ∨ w.t.rank = 2 then [] else c.drop 2
  match w.rd with
  | some rd =>
    let rows := if conv then (w.t.extents[3]?).getD 1 else (w.t.extents.tail).headD 1
    weightRow rd w.t conv (indexOf (w.t.extents.drop 2) batch * (if conv then 0 else rows) + col)
  | none =>
    let depth := w.t.extents.headD 1
    let kw := max 1 (n.at8 1)
    let place := fun (p : Nat) => if conv then [p % depth, p / depth % kw, p / depth / kw, col] else p :: col :: batch
    let k := if conv then depth * n.at8 0 * n.at8 1 else depth
    ((List.range k).map fun p => (p, w.elem pos (place p)), false)

/-- A matrix product under its placement: choice number, node, split, tree, the depth of K. -/
structure MatPlan where
  choice : Nat
  node : Nat
  split : Nat
  tree : Nat
  depth : Nat

/-- The plan of a node's matrix product (R59). -/
def matPlan (x : Frame0) (k : Nat) (n : Node) (a : Tensor) : MatPlan :=
  let p := x.p.nodes[k]?
  { choice := x.p.choice, node := k, split := p.elim 1 (·.kSplit), tree := p.elim 0 (·.tree)
    depth := a.extents.headD 1 * if n.opcode = 0x02 then n.at8 0 * n.at8 1 else 1 }

/-- The partials of one output of a matrix product, one for each K range (R59). -/
def matParts (m : MatPlan) (a w : Tensor) (arow : List Elem) (wrow : List (Nat × Elem)) : List Nat :=
  (kRanges a m.choice m.node m.split m.depth).map fun r => matPartial a w arow wrow r.1 r.2

/-- MATMUL and CONV2D (R53 to R60, R127, R128). -/
def matNode (s : At) (y : Tensor) : Made :=
  let n := s.n
  let a := arg s.is 0
  let w := arg s.is 1
  let m := matPlan s.x s.k n a.t
  let flag := n.at8 (if n.opcode = 0x02 then 9 else 1)
  let bias := if bitOf flag 0 then some ((arg s.is 2).vec s.pos) else none
  let scale := if n.opcode = 0x01 ∧ bitOf flag 1 then some ((arg s.is (2 + flag % 2)).vec s.pos) else none
  let one := fun (c : List Nat) =>
    let wr := matCol n w s.pos c
    let acc := joinPartials m.tree (matParts m a.t w.t (matRow n a s.pos c) wr.1)
    let col := c.headD 0
    let sc := scale.elim fpOne fun l => if l.length = 1 then l.headD fpOne else pick fpOne l col
    (Num.ofFp (epilogue s.draw (n.at8 (if n.opcode = 0x02 then 8 else 0)) sc (bias.elim 0 fun l => pick 0 l col) acc), wr.2)
  let r := (outCoords y s.pos).map one
  { made [r.map (·.1)] with poison := r.any (·.2) }

/-- A row of a table, and whether a byte of it is poisoned (R43, R528). -/
def tableRow (i : Input) (pos r : Nat) : List Elem × Bool :=
  let width := i.t.extents.headD 1
  match i.rd with
  | some rd => elemsAt rd i.t.format i.t.extents (r * width) width
  | none => ((List.range width).map fun j => i.elem pos [j, r], (i.slice (if i.t.perItem then r else pos)).2)

/-- Whether every index names a row (R136). -/
def indicesOk (rows : Nat) (ix : List Int) : Bool := ix.all fun i => decide (0 ≤ i) && decide (i < rows)

/-- Pooling of rows of FP32 codes (R66). DESIGN CHOICE (log 92): a sum or mean starts from +0. -/
def poolCodes (pool : Nat) (vs : List Nat) : Nat :=
  if vs.isEmpty then 0
  else match pool with
    | 0 => vs.foldl fpAdd 0
    | 1 => fpDiv (vs.foldl fpAdd 0) (fpOfInt vs.length)
    | _ => vs.tail.foldl fpMax (vs.headD 0)

/-- EMBED_BAG (R66, R135, R136). DESIGN CHOICE (log 93): bag offsets that do not lie within 0 to n fault the item, detail 0x11. -/
def bagNode (s : At) (y : Tensor) : Made :=
  let tb := arg s.is 0
  let width := tb.t.extents.headD 1
  let one := fun (pos : Nat) =>
    let ix := (arg s.is 1).ints pos
    let offs := (arg s.is 2).ints pos
    let rs := if s.n.at8 1 = 1 then some ((arg s.is 3).slice pos).1 else none
    let bags := (offs.zip offs.tail).map fun b => (List.range (b.2 - b.1).toNat).map (b.1.toNat + ·)
    let good := offs.all (fun o => decide (0 ≤ o) && decide (o ≤ (ix.length : Int))) && indicesOk ((tb.t.extents.tail).headD 1) ix
    let row := fun (q : Nat) => tableRow tb pos (pick 0 ix q).toNat
    let scaled := fun (q j : Nat) =>
      let v := (pick (Elem.plain 0) (row q).1 j).fp tb.t.format tb.t.variant
      rs.elim v fun l => fpMul v (pick (Elem.plain fpOne) l q).code
    let out := (bags.map fun qs => (List.range width).map fun j => Num.ofFp (poolCodes (s.n.at8 0) (qs.map (scaled · j)))).flatten
    (good, out, good && bags.flatten.any fun q => (row q).2)
  let used := if y.perItem then [s.pos] else s.items.map (·.pos)
  if used.all fun p => (one p).1 then { made [byItems y s.pos fun p => (one p).2.1] with poison := used.any fun p => (one p).2.2 }
  else { made [] with fault := some 0x11 }

/-- GATHER (R136). -/
def gatherNode (s : At) (y : Tensor) : Made :=
  let tb := arg s.is 0
  let ix := arg s.is 1
  let index := fun (rest : List Nat) => ix.int s.pos rest
  let places := (outCoords y s.pos).map (·.tail)
  if indicesOk ((tb.t.extents.tail).headD 1) (places.map index) then
    let rows := places.eraseDups.map fun r => (r, tableRow tb s.pos (index r).toNat)
    let at_ := fun (c : List Nat) => ((rows.find? (·.1 == c.tail)).elim [] (·.2.1))
    { made [(outCoords y s.pos).map fun c => numOf tb.t (pick (Elem.plain 0) (at_ c) (c.headD 0))] with poison := rows.any (·.2.2) }
  else { made [] with fault := some 0x11 }

/-- Rotary embedding of one element (R132), each step within its Edger bound; whether a product and a sum are one fused operation is the
core's own (log 94). -/
def rotaryOne (s : At) (c : List Nat) : Num :=
  let i := arg s.is 0
  let rd := s.n.at16 4
  let j := c.headD 0
  let adjacent := s.n.at8 6 == 0
  if rd ≤ j then i.num s.pos c
  else
    let pair := if adjacent then j / 2 else j % (rd / 2)
    let first := if adjacent then j % 2 == 0 else decide (j < rd / 2)
    let a := i.fp s.pos ((if adjacent then 2 * pair else pair) :: c.tail)
    let b := i.fp s.pos ((if adjacent then 2 * pair + 1 else pair + rd / 2) :: c.tail)
    let power := fpMul (fpDiv (fpOfInt (-2 * (pair : Int))) (fpOfInt (rd : Nat))) (edger s.draw 0x23 (s.n.at32 0))
    let angle := fpMul (fpOfInt ((arg s.is 1).int s.pos (c.drop 2))) (edger s.draw 0x21 power)
    let sin := edger s.draw 0x29 angle
    let cos := edger s.draw 0x2A angle
    let u := if first then a else b
    let v := if first then fpNeg b else a
    Num.ofFp (match Config.transcend s.draw 0x08 s.k % 3 with
      | 0 => fpAdd (fpMul u cos) (fpMul v sin)
      | 1 => fpFma u cos (fpMul v sin)
      | _ => fpFma v sin (fpMul u cos))

/-- Source coordinates of an output element of a VIEW (R526). -/
def viewSource (n : Node) (x y : Tensor) (c : List Nat) : List Nat :=
  if n.at8 0 = 0 then coordsOf x.extents (indexOf y.extents c)
  else
    let p := n.perm x.rank
    (List.range x.rank).map fun j => pick 0 c ((p.findIdx? (· == j)).getD 0)

/-- Source of every element that a copying node takes over (R145, R526): input and coordinates. -/
def copySource (s : At) (y : Tensor) (c : List Nat) : Input × List Nat :=
  if s.n.opcode = 0x42 then
    let at_ := y.itemAt c
    ((if (arg s.is 0).int s.pos [at_] ≠ 0 then arg s.is 1 else arg s.is 2), c)
  else (arg s.is 0, viewSource s.n (arg s.is 0).t y c)

/-- Whether an output copies the elements of a source as they are stored (R526, R527): not in a Ladder format, or tile record for tile
record. -/
def copiesRaw (n : Node) (x y : Tensor) : Bool :=
  !isLadder y.format || (n.opcode == 0x42 && decide (3 ≤ x.rank)) ||
  (n.opcode == 0x12 && decide (2 ≤ x.rank) && decide (2 ≤ y.rank) && x.extents.take 2 == y.extents.take 2 &&
    (n.at8 0 == 0 || (n.perm x.rank).take 2 == [0, 1]))

/-- Whether an element that a copying node takes over is poisoned: its source slice is, or the predicate (R528). -/
def copyPoison (s : At) (y : Tensor) : Bool :=
  (outCoords y s.pos).any fun c =>
    let q := copySource s y c
    (q.1.slice (if q.1.t.perItem then q.1.t.itemAt q.2 else s.pos)).2 ||
    (s.n.opcode == 0x42 && ((arg s.is 0).slice (y.itemAt c)).2)

/-- The sites of a COLLECTIVE (R146): those of the node that makes its input, or its own; for groups 1 and 2 those in the grid row or column of
the lowest. -/
def groupSites (x : Frame0) (k : Nat) (n : Node) : List Nat :=
  let maker := (x.g.image.nodes.take k).findIdx? fun m => n.inputs.any m.outputs.contains
  let mask := ((maker.bind (x.p.nodes[·]?)).map (·.sites)).getD ((x.p.nodes[k]?).elim 0 (·.sites))
  let all := computeSites.filter (bitOf (if mask = 0 then (x.p.nodes[k]?).elim 0 (·.sites) else mask))
  let first := all.headD 8
  match n.at8 1 with
  | 0 => all
  | 1 => all.filter fun s => s / 8 == first / 8
  | _ => all.filter fun s => s % 8 == first % 8

/-- COLLECTIVE (R146), linear index of the output at hand. DESIGN CHOICE (log 95): where X has q times the elements of Y, X holds q parts
that are summed; where both have as many, each site of the group holds a copy of X; where Y has q times as many, Y is q copies of X; else
the result is free. -/
def collectiveOne (s : At) (y : Tensor) (sites : List Nat) (tree : Nat) (c : List Nat) : Num :=
  let i := arg s.is 0
  let a := volume i.t.extents
  let b := volume y.extents
  let o := indexOf y.extents c
  let at_ := fun (j : Nat) => i.num s.pos (coordsOf i.t.extents j)
  let sums := s.n.at8 0 == 1 || s.n.at8 0 == 3
  if sums ∧ b ≠ 0 ∧ a % b = 0 then
    let q := if a = b then max 1 sites.length else a / b
    Num.ofFp (joinPartials tree ((List.range q).map fun r => (at_ (if a = b then o else r * b + o)).fp))
  else if !sums ∧ a ≠ 0 ∧ b % a = 0 then at_ (o % a)
  else Num.ofFp (unstated s.draw 0x20 o)

/-- The item at a position of a batch. -/
def itemOf (items : List Item) (pos : Nat) : Option Item := items.find? (·.pos == pos)

/-- Tokens of SAMPLE for one item, and how many drafts are accepted (R139 to R141). -/
def sampleItem (s : At) (pos : Nat) : List Int × Nat :=
  let l := arg s.is 0
  let rows := (l.t.extents[1]?).getD 1
  match itemOf s.items pos with
  | none => ((List.range rows).map fun t => ((unstated s.draw 0x0F (pos * 65536 + t) : Nat) : Int), 0)
  | some it =>
    let base := it.emitted + s.trip * rows
    let tokens := (List.range rows).map fun t =>
      ((sampleRow (s.draw + t) s.n s.x.p.binding.seed (u64 it.desc 0) (s.k * 2 ^ 48 + base + t)
        ((l.row [t, pos]).map (l.fp s.pos)) : Nat) : Int)
    sampleOut ((arg s.is 1).ints pos) tokens (s.n.at8 1 == 1)

/-- Whether the scores of an item pass a FILTER (R142). -/
def passes (s : At) (pos : Nat) : Bool :=
  let i := arg s.is 0
  let hits := (i.row [pos]).zipIdx.map fun (c, j) =>
    let v := i.fp s.pos c
    let t := (arg s.is 1).fp s.pos [j]
    match s.n.at8 0 with
    | 0 => fpLe t v
    | 1 => fpLt t v
    | 2 => fpLe v t
    | _ => fpLt v t
  if s.n.at8 1 = 0 then hits.all id else hits.any id

/-- The numbers of the output `o` of a node that computes without effects (R130 to R132, R138 to R146, R525). -/
def nodeOut (s : At) (o : Nat) (y : Tensor) : List Num :=
  let n := s.n
  let i := arg s.is 0
  let coords := outCoords y s.pos
  let fps := fun (rest : List Nat) => (i.row rest).map (i.fp s.pos)
  let nums := fun (rest : List Nat) => (i.row rest).map (i.num s.pos)
  match n.opcode with
  | 0x03 => coords.map fun c => Num.ofFp (evalExpr s.draw (s.is.map fun i => i.fp s.pos c) (pick [] s.x.g.image.exprs (n.at32 0)))
  | 0x04 =>
    let axis := n.at8 1
    let ext := pick 1 i.t.extents axis
    let at_ := fun (c : List Nat) (j : Nat) => if i.t.rank = 1 then [j] else c.take axis ++ [j] ++ c.drop axis
    coords.map fun c => reduceOne (n.at8 0) ext (isInteger i.t.format) ((List.range ext).map fun j => i.num s.pos (at_ c j))
  | 0x05 => byRows y s.pos fun rest =>
    let on := (i.row rest).map fun c => n.at8 4 == 0 || (arg s.is 1).int s.pos c != 0
    (softmaxCodes s.draw ((fps rest).map fun v => (ofFp32 v).mul (ofFp32 (n.at32 0))) on).map Num.ofFp
  | 0x06 =>
    let gamma := if bitOf (n.at8 4) 0 then (arg s.is 1).vec s.pos else []
    let beta := if bitOf (n.at8 4) 1 then (arg s.is (1 + n.at8 4 % 2)).vec s.pos else []
    byRows y s.pos fun rest => (normCodes s.draw true (n.at32 0) (fps rest) gamma beta).map Num.ofFp
  | 0x07 =>
    let gamma := if n.at8 4 = 1 then (arg s.is 1).vec s.pos else []
    byRows y s.pos fun rest => (normCodes s.draw false (n.at32 0) (fps rest) gamma []).map Num.ofFp
  | 0x08 => coords.map (rotaryOne s)
  | 0x0D => byRows y s.pos fun rest =>
    let r := nums rest
    let ix := (ranked (n.at8 4 == 1) r).take (n.at32 0)
    if o = 0 then ix.map (pick (.int 0) r) else ix.map fun j => Num.int (j : Nat)
  | 0x0E => byRows y s.pos fun rest =>
    let r := nums rest
    let ix := ranked (n.at8 0 == 1) r
    if o = 0 then ix.map (pick (.int 0) r) else ix.map fun j => Num.int (j : Nat)
  | 0x0F => byItems y s.pos fun p => let t := sampleItem s p; if o = 0 then t.1.map Num.int else [.int (t.2 : Nat)]
  | 0x10 => byItems y s.pos fun p => [.int (natOf (passes s p) : Nat)]
  | 0x20 =>
    let sites := groupSites s.x s.k n
    let tree := (s.x.p.nodes[s.k]?).elim 0 (·.tree)
    coords.map (collectiveOne s y sites tree)
  | 0x12 => coords.map fun c => let q := copySource s y c; q.1.num s.pos q.2
  | 0x42 => coords.map fun c => let q := copySource s y c; q.1.num s.pos q.2
  | _ => coords.map (i.num s.pos)

/-- What a node gives for one position. -/
def nodeMade (s : At) : Made :=
  let y := s.outs.headD (tensorOf [])
  match s.n.opcode with
  | 0x01 => matNode s y
  | 0x02 => matNode s y
  | 0x0A => bagNode s y
  | 0x0B => gatherNode s y
  | _ =>
    let copy := s.n.opcode == 0x12 || s.n.opcode == 0x42
    { made (s.outs.zipIdx.map fun (y, o) => nodeOut s o y) with poison := copy && copyPoison s y }

/-- Whether what a node's inputs hold for a position is poisoned (R528); of a copying node only what it copies counts. -/
def inputPoison (s : At) (y : Tensor) : Bool :=
  if s.n.opcode = 0x12 ∨ s.n.opcode = 0x42 then false
  else
    let across := !y.perItem || acrossItems s.n (s.is.map (·.t)) y
    s.is.any fun i => i.poison (across && i.t.perItem) s.pos

/-! ## Writing (R42, R43, R117, R119, R124, R527, R528) -/

/-- What a node gives for an output: numbers to be converted, or elements copied as they are stored. -/
inductive Out
  | nums (l : List Num)
  | elems (l : List Elem)

/-- FP32 codes of an output. -/
def Out.codes (t : Tensor) : Out → List Nat
  | .nums l => l.map Num.fp
  | .elems l => l.map (Elem.fp t.format t.variant)

/-- An output for the item at a place of the batch: its position, what the node gives, whether it is poisoned. -/
structure Piece where
  p : Nat
  pos : Nat
  out : Out
  poison : Bool

/-- Draws of a node (R52): the Mill and Edger cores that it uses. -/
def drawsOf (x : Frame0) (k : Nat) : Draws :=
  { seed := x.p.binding.seed, choice := x.p.choice, node := k
    cores := ((x.p.nodes[k]?).elim [] (·.coreSet)).filter fun c => decide (coreKind c < 2) }

/-- The elements of an output of a shape. -/
def Out.convert (w : Draws) (n : Node) (t : Tensor) (ds : List Nat) (sr : Generators) : Out → List Elem × Generators
  | .nums l => convertAll w n t ds l sr
  | .elems l => (l, sr)

/-- A range of HBM or scratch that holds poisoned data is marked line by line (R528). -/
def Dev.markPoison (a n : Nat) (d : Dev) : Dev :=
  each (List.range ((a + n + 255) / 256 - a / 256)) (fun i d =>
    match placeOf d.mBytes ((a / 256 + i) * 256) with
    | .hbm s o => d.poisonLine (d.homeStack s o) (o / 256)
    | .scratch s o => { d with mem.poison := insertNew (scratchKey s o / 256) d.mem.poison }
    | _ => d) d

/-- A store of a node into a weight region (R120, R299, R528): pieces in read-only ranges are not applied; poison goes with the data. -/
def Dev.putWeights (a : Nat) (b : List Byte) (poison : Bool) (d : Dev) : Dev :=
  let piece := fun (p : Nat × Nat) (d : Dev) =>
    if d.sealed p.1 p.2 then d
    else
      let d1 := d.store p.1 ((b.drop (p.1 - a)).take p.2)
      if poison then d1.markPoison p.1 p.2 else d1
  each (pieces a b.length) piece d

/-- Whether a tensor lies in memory: a weight region or STATE memory. -/
def Tensor.inMemory (t : Tensor) : Bool := t.cls == 2 || t.cls == 6

/-- The reader of a tensor that a node writes in memory. -/
def Dev.targetReader (d : Dev) (x : Frame0) (it : Item) (id : Nat) (t : Tensor) : Reader :=
  if t.cls = 2 then d.weightReader x.g none t else (d.stateOf x.g.handle (d.stateKey x it id)).read

/-- Write bytes of a tensor in memory, for the item at a place; poison that enters the state of a decode item ends it (R528). -/
def Eval.putBytes (x : Frame0) (p id : Nat) (t : Tensor) (o : Nat) (b : List Byte) (poison : Bool) (e : Eval) : Eval :=
  match e.items[p]? with
  | none => e
  | some it =>
    if t.cls = 2 then
      match e.dev.tensorDpa x.g t with
      | some r => { e with dev := e.dev.putWeights (r.1 + o) b poison }
      | none => e
    else
      let e1 := { e with dev := e.dev.onState x.g.handle (e.dev.stateKey x it id) (StateMem.write o b poison) }
      if poison && it.decode.isSome then e1.onItem p fun it => it.finish 3 0x10 e.dev.tb.ns else e1

/-- Where the codes of elements from `lo` on lie in a dense tensor, and the bytes that hold them: what shares a byte with them stays
(R39, R40). -/
def spliceCodes (rd : Reader) (bits lo : Nat) (codes : List Nat) : Nat × List Byte :=
  let o := lo * bits / 8
  let s := lo * bits % 8
  let n := codes.length * bits
  if s = 0 ∧ n % 8 = 0 then (o, packCodes bits codes)
  else
    let old := leNat (rd o ((s + n + 7) / 8)).1
    let new := leNat (packBits bits codes)
    (o, leBytes ((s + n + 7) / 8) (old % 2 ^ s + new * 2 ^ s + old / 2 ^ (s + n) * 2 ^ (s + n)))

/-- Write elements from element `lo` of a tensor in memory, of extents `ds`; the elements have extents `es`. -/
def Eval.putElems (x : Frame0) (p id : Nat) (t : Tensor) (ds : List Nat) (lo : Nat) (es : List Nat) (xs : List Elem) (poison : Bool)
    (e : Eval) : Eval :=
  match e.items[p]? with
  | none => e
  | some it =>
    let q := if isLadder t.format then ((tilePlace ds lo).1 * tileBytes t.format, pack t.format es xs)
      else spliceCodes (e.dev.targetReader x it id t) (elemBits t.format) lo (xs.map (·.code))
    e.putBytes x p id t q.1 q.2 poison

/-- Write the slice of the item at a place: a value of the item, or memory. -/
def Eval.putSlice (x : Frame0) (p id : Nat) (t : Tensor) (xs : List Elem) (poison : Bool) (e : Eval) : Eval :=
  match e.items[p]? with
  | none => e
  | some it =>
    if t.inMemory then
      let q := if t.cls = 6 then e.dev.statePlace x it id t else (if t.perItem then it.pos * t.sliceCount else 0, t.extents)
      e.putElems x p id t q.2 q.1 t.sliceDims xs poison
    else if t.cls = 0 ∨ t.cls = 5 then
      e.onItem p fun it => { it with values := upsert (·.1 == id) (id, [], false) (fun _ => (id, xs, poison)) it.values }
    else e

/-- Whether the items of a per-item Ladder tensor share tiles (R42, R119): the item dimension is one of the two innermost. -/
def sharesTiles (t : Tensor) : Bool := t.perItem && isLadder t.format && decide (t.rank ≤ 2)

/-- Write the slices of items that share the tiles of one band of 128 positions (R42, R45): the band is quantized as a whole, in memory
with the slices that it holds already. -/
def Eval.putBand (x : Frame0) (w : Draws) (n : Node) (id : Nat) (t : Tensor) (ps : List Piece) (b : Nat) (e : Eval) : Eval :=
  match ps.head? with
  | none => e
  | some h =>
    let lo := 128 * b
    let size := min 128 (((t.extents.getLast?).getD 1) - lo)
    let es := t.sliceDims ++ [size]
    let rd := (e.items[h.p]?).elim (readList []) fun it => e.dev.targetReader x it id t
    let old := fun (pos : Nat) =>
      if t.inMemory then (elemsAt rd t.format t.extents (pos * t.sliceCount) t.sliceCount).1 else List.replicate t.sliceCount (Elem.plain 0)
    let row := fun (pos : Nat) => (ps.find? (·.pos == pos)).elim (Out.elems (old pos)) (·.out)
    let rows := (List.range size).map fun i => row (lo + i)
    let raw := match h.out with
      | .elems _ => true
      | .nums _ => false
    let q := if raw then ((rows.map fun o => match o with
        | .elems l => l
        | .nums _ => []).flatten, e.dev.cs.sr)
      else quantize w (n.flags % 4 == 1) t es (rows.map (Out.codes t)).flatten e.dev.cs.sr
    let e1 := e.setSr q.2
    if t.inMemory then e1.putElems x h.p id t t.extents (lo * t.sliceCount) es q.1 (ps.any (·.poison))
    else each ps (fun s e => e.putSlice x s.p id t ((q.1.drop ((s.pos - lo) * t.sliceCount)).take t.sliceCount) s.poison) e1

/-- Write an output. Of a tensor that is not per-item, a piece is for its item `alone`, or for the whole batch. -/
def Eval.store (x : Frame0) (k : Nat) (n : Node) (id : Nat) (t : Tensor) (alone : Bool) (ps : List Piece) (e : Eval) : Eval :=
  let w := drawsOf x k
  let own := fun (s : Piece) => t.cls == 6 && (e.items[s.p]?).elim false fun it => e.dev.ownState x it id
  if sharesTiles t && !ps.any own then
    each ((ps.map fun s => s.pos / 128).eraseDups) (fun b e => e.putBand x w n id t (ps.filter fun s => s.pos / 128 == b) b) e
  else
    each ps (fun s e =>
      let c := s.out.convert w n t t.sliceDims e.dev.cs.sr
      let e1 := e.setSr c.2
      if t.perItem || alone || t.cls == 2 then e1.putSlice x s.p id t c.1 s.poison
      else each (List.range e1.items.length) (fun p e => e.putSlice x p id t c.1 s.poison) e1) e

/-! ## Mill cores (R70, R77) -/

/-- What a buffer of a size holds after a longer run of bytes went through it. -/
def lastPart (size : Nat) {α : Type} (l : List α) : List α := l.drop ((l.length - 1) / size * size)

/-- The Mill cores of a node, each with its K range and its share of the outputs of one position (R59, R70). -/
def millShares (x : Frame0) (k split total : Nat) : List (Nat × Nat × Nat × Nat) :=
  let cores := ((x.p.nodes[k]?).elim [] (·.coreSet)).filter fun c => coreKind c == 0
  let parts := max 1 split
  let columns := max 1 (cores.length / parts)
  cores.zipIdx.map fun (core, i) => (core, i % parts, i / parts * total / columns, (i / parts + 1) * total / columns)

/-- The operands of a matrix product pass through the Stand memories of its Mill cores into their buffers, which its last share leaves as
they are (R56, R70). -/
def Eval.fillMill (s : At) (y : Tensor) (e : Eval) : Eval :=
  let a := arg s.is 0
  let w := arg s.is 1
  let m := matPlan s.x s.k s.n a.t
  let coords := outCoords y s.pos
  let one := fun (c : Nat × Nat × Nat × Nat) (e : Eval) =>
    let mine := (coords.drop c.2.2.1).take (c.2.2.2 - c.2.2.1)
    let bytes := fun (t : Tensor) (es : List Elem) => lastPart 0x8000 (packCodes (elemBits t.format) (es.map (·.code)))
    let ab := bytes a.t ((mine.map (·.tail)).eraseDups.map fun r => matRow s.n a s.pos (0 :: r)).flatten
    let wb := bytes w.t ((mine.map fun c => c.headD 0 :: c.drop 2).eraseDups.map fun c => (matCol s.n w s.pos (c.headD 0 :: 0 :: c.tail)).1.map (·.2)).flatten
    let acc := lastPart 0x4000 (mine.map fun o =>
      pick 0 (matParts m a.t w.t (matRow s.n a s.pos o) (matCol s.n w s.pos o).1) c.2.1)
    match e.dev.millPlace c.1 with
    | some q =>
      let d1 := e.dev.onSite q.1 fun (z : Site) => { z with stand := cellsWrite (cellsWrite z.stand q.2 ab) (q.2 + 0x8000) wb }
      let mill := upsert (fun (b : MillBuf) => b.core == c.1) { core := c.1, a := [], w := [], acc := [] }
        (fun (b : MillBuf) => { b with a := ab, w := wb, acc }) d1.cs.mill
      { e with dev := ({ d1 with cs.mill := mill } : Dev) }
    | none => e
  each (millShares s.x s.k m.split coords.length) one e

/-! ## ATTENTION (R133, R134) -/

/-- Where a token's keys of a layer lie in the KV memory (R133): byte offset. -/
def kvOffset (perLayer tpp entry layer p : Nat) : Nat := ((layer * perLayer + p / tpp) * 65536) + p % tpp * entry

/-- Pages that a layer of one context has (R133, R202): for the pool of the declaration whose streams hold it, or 32,768 positions. -/
def pagesPerLayer (d : Dev) (x : Frame0) (stream tpp : Nat) : Nat :=
  let decl := (d.stream? stream).elim x.st.decl (·.decl)
  ((x.p.pools.find? (·.decl == decl)).elim 32768 (·.maxContext) + tpp - 1) / tpp

/-- ATTENTION for one item (R133, R134): the new keys and values go to the cache, then each query row attends to the positions that
count. DESIGN CHOICE (log 97): a negative len counts as 0; a context above 32,768 positions faults the item, detail 0x11, after the
write. -/
def Eval.attention (s : At) (p : Nat) (it : Item) (e : Eval) : Eval × Made :=
  let n := s.n
  let q := arg s.is 0
  let kv := arg s.is 3
  let len := ((arg s.is 4).int s.pos [s.pos]).toNat
  let hq := n.at16 4
  let hkv := n.at16 6
  let dd := n.at16 8
  let bytes := elemBits kv.t.format / 8
  let half := hkv * dd
  let tpp := max 1 ((tokensPerPage hkv dd bytes).getD 1)
  let ts := (q.t.extents[2]?).getD 1
  let key := e.dev.stateKey s.x it kv.id
  let per := pagesPerLayer e.dev s.x key.1 tpp
  let at_ := fun (pos : Nat) => kvOffset per tpp (2 * half * bytes) (n.at8 11) pos
  let nums := fun (i : Input) => (List.range (ts * half)).map fun j => i.num s.pos [j % dd, j / dd % hkv, j / half, s.pos]
  let w := drawsOf s.x s.k
  let ks := convertAll w n kv.t [ts * half] (nums (arg s.is 1)) e.dev.cs.sr
  let vs := convertAll w n kv.t [ts * half] (nums (arg s.is 2)) ks.2
  let bad := ((arg s.is 1).slice s.pos).2 || ((arg s.is 2).slice s.pos).2 || ((arg s.is 4).slice s.pos).2
  let put := fun (l : List Elem) (t : Nat) => packCodes (bytes * 8) (((l.drop (t * half)).take half).map (·.code))
  let e1 := each (List.range ts) (fun t e => e.putBytes s.x p kv.id kv.t (at_ (len + t)) (put ks.1 t ++ put vs.1 t) bad) (e.setSr vs.2)
  let m := e1.dev.stateOf s.x.g.handle key
  let one := fun (pos part h : Nat) => (elemsAt (fun o k => m.read (at_ pos + o) k) kv.t.format [] (part * half + h * dd) dd)
  let out := fun (c : List Nat) =>
    let h := c.getD 1 0 * hkv / max 1 hq
    let t := c.getD 2 0
    let row := (List.range dd).map fun j => q.elem s.pos (j :: c.tail)
    let seen := List.range (len + ts)
    let score := fun (pos : Nat) =>
      let k := (one pos 0 h).1
      (((row.zip k).foldl (fun (v : Val) (r : Elem × Elem) => v.add ((r.1.val q.t.format q.t.variant).mul (r.2.val kv.t.format 0))) (.fin false 0 0)).mul (ofFp32 (n.at32 0)))
    let on := fun (pos : Nat) => n.at8 10 == 0 || decide (pos ≤ len + t)
    let v := fun (pos : Nat) => (pick (Elem.plain 0) (one pos 1 h).1 (c.headD 0)).val kv.t.format 0
    Num.ofFp (attentionCode s.draw (indexOf q.t.sliceDims (c.take 3)) dd (seen.map score) (seen.map on) (seen.map v))
  let y := s.outs.headD (tensorOf [])
  let read := (List.range (len + ts)).any fun pos => (m.read (at_ pos) (2 * half * bytes)).2
  let e2 := e1.onItem p fun it => { it with context := max it.context (len + ts) }
  (e2, { made [(outCoords y s.pos).map out] with poison := read, fault := if len + ts ≤ 32768 then none else some 0x11 })

/-! ## SCATTER (R65, R136, R137) -/

/-- An order of a list, which the free values choose: the order between atomic adds is undefined (log 22). -/
def shuffle {α : Type} (draw key : Nat) : Nat → List α → List α
  | 0, l => l
  | fuel + 1, l =>
    match l with
    | [] => []
    | a :: as =>
      let i := Config.scatterWinner draw (key * 65536 + fuel) % (as.length + 1)
      pick a (a :: as) i :: shuffle draw key fuel ((a :: as).eraseIdx i)

/-- A row that SCATTER writes: the row of the destination, the elements, whether they are poisoned. -/
structure RowWrite where
  row : Nat
  xs : List Elem
  poison : Bool

/-- What a row of the destination holds afterwards (R137): mode 0, one of the rows written; mode 1, one atomic add after another. -/
def scatterRow (draw : Nat) (n : Node) (t : Tensor) (r : Nat) (was : List Elem) (ws : List (List Elem)) : List Elem :=
  if ws.isEmpty then was
  else if n.at8 0 = 0 then pick was ws (Config.scatterWinner draw (r * 65536 * 65536) % ws.length)
  else was.zipIdx.map fun (o, j) =>
    let vs := shuffle draw (r * was.length + j) ws.length (ws.map fun w => (pick (Elem.plain 0) w j).code)
    Elem.plain (if t.format = 1 then vs.foldl fpAdd o.code else (vs.foldl (· + ·) o.code) % 2 ^ elemBits t.format)

/-- Write rows of one destination tensor, as the item at a place holds it: only the rows written, in a Ladder format their tiles. -/
def Eval.scatterRows (x : Frame0) (k draw : Nat) (n : Node) (id : Nat) (t : Tensor) (p : Nat) (ws : List RowWrite) (e : Eval) : Eval :=
  match e.items[p]? with
  | none => e
  | some it =>
    let width := t.extents.headD 1
    let rows := (t.extents.tail).headD 1
    let value := e.dev.readSlice x none it id t
    let rd := e.dev.targetReader x it id t
    let old := fun (r : Nat) => if t.inMemory then elemsAt rd t.format t.extents (r * width) width else ((value.1.drop (r * width)).take width, false)
    let mine := fun (r : Nat) => ws.filter (·.row == r)
    let new := fun (r : Nat) => scatterRow draw n t r (old r).1 ((mine r).map (·.xs))
    let bad := fun (r : Nat) => (mine r).any (·.poison) || (n.at8 0 == 1 && !(mine r).isEmpty && (old r).2)
    let touched := (ws.map (·.row)).eraseDups
    let band := fun (b : Nat) (e : Eval) =>
      let size := min 128 (rows - 128 * b)
      let codes := ((List.range size).map fun i => (new (128 * b + i)).map (Elem.fp t.format t.variant)).flatten
      let q := quantize (drawsOf x k) (n.flags % 4 == 1) t [width, size] codes e.dev.cs.sr
      (q.1, e.setSr q.2, (List.range size).any fun i => bad (128 * b + i))
    let bands := (touched.map (· / 128)).eraseDups
    if t.inMemory then
      if isLadder t.format then
        each bands (fun b e => let q := band b e; q.2.1.putElems x p id t t.extents (128 * b * width) [width, min 128 (rows - 128 * b)] q.1 q.2.2) e
      else each touched (fun r e => e.putElems x p id t t.extents (r * width) [width] (new r) (bad r)) e
    else
      let step := fun (acc : List Elem × Eval) (b : Nat) =>
        let q := band b acc.2
        (acc.1.take (128 * b * width) ++ q.1 ++ acc.1.drop (128 * b * width + q.1.length), q.2.1)
      let r := if isLadder t.format then bands.foldl step (value.1, e) else (((List.range rows).map new).flatten, e)
      each (List.range e.items.length) (fun q e => e.putSlice x q id t r.1 (value.2 || touched.any bad)) r.2

/-- SCATTER for the items at some places (R136, R137). -/
def Eval.scatter (x : Frame0) (k : Nat) (n : Node) (is : List Input) (ps : List Nat) (e : Eval) : Eval :=
  let dst := arg is 0
  let width := dst.t.extents.headD 1
  let rows := (dst.t.extents.tail).headD 1
  let draw := e.dev.free
  let at_ := ps.filterMap fun p => (e.items[p]?).map fun it => (p, it)
  let good := fun (it : Item) => indicesOk rows ((arg is 1).ints it.pos)
  let writes := fun (it : Item) =>
    let src := (arg is 2).slice it.pos
    ((arg is 1).ints it.pos).zipIdx.map fun (r, i) =>
      ({ row := r.toNat, xs := (src.1.drop (i * width)).take width, poison := src.2 || ((arg is 1).slice it.pos).2 } : RowWrite)
  let fit := at_.filter fun q => good q.2
  let each1 := (is.drop 1).any (·.t.perItem)
  let own := dst.t.cls == 6 && fit.any fun q => e.dev.ownState x q.2 dst.id
  let e1 := each (at_.filter fun q => !good q.2) (fun q e => e.onItem q.1 fun it => it.finish 3 0x11 e.dev.tb.ns) { e with dev := e.dev.draw }
  if own then each fit (fun q e => e.scatterRows x k draw n dst.id dst.t q.1 (writes q.2)) e1
  else
    let all := ((if each1 then fit else fit.take 1).map fun q => writes q.2).flatten
    (fit.head?).elim e1 fun q => e1.scatterRows x k draw n dst.id dst.t q.1 all

/-! ## COLLECTIVE (R146, R147) -/

/-- One payload from a site to a group of sites (R147): to a row or column by `Dev.multicast`, else by repeated single sends. -/
def Dev.carryTo (src : Nat) (sites : List Nat) (payload : List Byte) (d : Dev) : Dev :=
  let row := sites.all fun s => s / 8 == src / 8
  let column := sites.all fun s => s % 8 == src % 8
  if row then d.multicast src (src / 8) payload
  else if column then d.multicast src (128 + src % 8) payload
  else each (sites.filter (· != src)) (fun s d => d.sendCopy src s payload) d

/-- The cells of a COLLECTIVE (R147). DESIGN CHOICE (log 95): every site of the group sends its contribution to the lowest, which sends the
result to all; a broadcast is sent by the lowest alone. The value does not depend on them. -/
def Dev.carry (kind : Nat) (sites : List Nat) (own result : List Byte) (d : Dev) : Dev :=
  match sites with
  | [] => d
  | [_] => d
  | low :: rest =>
    let up := fun (s : Nat) (d : Dev) => each (cellParts own) (fun b d => d.sendCopy s low b) d
    let d1 := if kind = 0 then d else each rest up d
    each (cellParts result) (fun b d => d.carryTo low sites b) d1

/-! ## Remote operations (R148, R149) -/

/-- Whether an access goes to another node (R148). -/
def Dev.goesOut (d : Dev) (rack : Bool) (a : Nat) : Bool := rack && a / 2 ^ 48 != d.sw.node

/-- What a load of a node returns on the package: the barrier word (R345), or device memory. -/
def Dev.nodeLoad (d : Dev) (rack : Bool) (a size : Nat) : Option (List Byte) :=
  if !rack && a == barrierDpa && size == 16 then some d.barrierWord else d.readBytes a size

/-- A store of a node on the package, and its status (R94, R281, R528): read-only and unpopulated places give POISON; 64 bytes at a job
page queue a Gather-reduce job, or time out while its Cistern takes none. -/
def Dev.nodeStore (rack : Bool) (a : Nat) (b : List Byte) (poison : Bool) (d : Dev) : Dev × Nat :=
  match (if rack || b.length != 64 then none else jobStack a) with
  | some k =>
    if (d.stack k).fenced then (d, 2)
    else if (d.stack k).jobs.length < 256 || d.opRoom k 1 then (d.pushJob k { desc := b, reply := .none }, 0)
    else (d, 1)
  | none =>
    if (d.readBytes a b.length).isSome && !d.sealed a b.length then
      let d1 := d.store a b
      (if poison then d1.markPoison a b.length else d1, 0)
    else (d, 2)

/-- Threads of the Tally cores that a node uses (R78). -/
def Dev.nodeThreads (d : Dev) (x : Frame0) (k : Nat) : List Thread :=
  let cores := ((x.p.nodes[k]?).elim [] (·.coreSet)).filter fun c => coreKind c == 2
  ((cores.filterMap d.corePlace).map fun q => (List.range 8).map fun i => ({ site := q.1, stand := q.2.1, pos := q.2.2, thread := i } : Thread)).flatten

/-- The thread that makes a node's accesses to other nodes: the first that waits for nothing. -/
def Dev.nodeThread (d : Dev) (x : Frame0) (k : Nat) : Option Thread :=
  (d.nodeThreads x k).find? fun t => (d.parkedOp t).isNone && !d.cs.waiting.any (·.1 == t) && !d.cs.suspended.any (·.thread == t)

/-- The atomic operation of a node. -/
def Node.atomic (n : Node) : AtomicOp × AtomicTy := ((AtomicOp.ofCode (n.at8 4)).getD .add, (AtomicTy.ofCode (n.at8 5)).getD .int32)

/-- Bytes of one access of a node. -/
def Node.accessBytes (n : Node) : Nat := if n.opcode = 0x32 then n.atomic.2.bytes else n.at16 2

/-- Whether the addresses of an item let its accesses issue (R148). -/
def accessesIssue (n : Node) (addrs : List Nat) : Bool :=
  if n.opcode = 0x32 then addrs.all fun a => a % n.atomic.2.bytes == 0 else addrs.all (remoteIssues (n.at16 2))

/-- Access `i` of an item (R148): its operation. -/
def accessOf (n : Node) (is : List Input) (pos i : Nat) : RemoteOp :=
  let a := ofSigned 64 (pick 0 ((arg is 0).ints pos) i)
  let get := fun (k size : Nat) =>
    let y := arg is k
    let per := size * 8 / elemBits y.t.format
    packCodes (elemBits y.t.format) ((((y.slice pos).1.drop (i * per)).take per).map (·.code))
  match n.opcode with
  | 0x30 => .load a (n.at16 2)
  | 0x31 => .store a (get 1 (n.at16 2))
  | _ =>
    let w := n.atomic.2.bytes
    .atomic n.atomic.1 n.atomic.2 a (leNat (get 1 w)) (if n.atomic.1 = .cas then leNat (get 2 w) else 0)

/-- An access of a node on the package (R148): its status and its data. -/
def Dev.accessLocal (rack : Bool) (op : RemoteOp) (poison : Bool) (d : Dev) : Dev × Nat × List Byte :=
  match op with
  | .load a size =>
    match d.nodeLoad rack (a % 2 ^ 48) size with
    | some b => (d, 0, b)
    | none => (d, 2, zeros size)
  | .store a data => let r := d.nodeStore rack (a % 2 ^ 48) data poison; (r.1, r.2, [])
  | .atomic o ty a0 u v =>
    let a := a0 % 2 ^ 48
    match (if d.sealed a ty.bytes then none else d.readBytes a ty.bytes) with
    | some b =>
      let d1 := d.store a (leBytes ty.bytes (atomicNew o ty (leNat b) u v))
      (if poison then d1.markPoison a ty.bytes else d1, 0, b)
    | none => (d, 2, zeros ty.bytes)
  | _ => (d, 0, [])

/-- Whether the adds of a node are posted (R327): no node reads their old values. DEDUCED (log 111): nor does the host, as a result. -/
def Image.postsAdds (img : Image) (n : Node) : Bool :=
  n.opcode == 0x32 && n.atomic.1 == .add && (n.outputs.head?).any fun id =>
    !(img.nodes.any fun m => m.inputs.contains id) && (img.tensors[id]?).any (·.cls == 0)

/-- An access that has ended: item, index, status, data; without data what it returns is a free value (log 21). -/
def Suspended.add (z : Suspended) (draw status bytes : Nat) (data : List Byte) : Suspended :=
  match z.todo with
  | [] => z
  | a :: rest =>
    let b := if status = 0 ∧ data.length = bytes then data
      else if status = 2 then zeros bytes else (List.range bytes).map fun j => Config.farByte draw (a.1 * 65536 * 256 + a.2 * 256 + j)
    { z with todo := rest, got := z.got ++ [(a.1, a.2, status, b)] }

/-- Make the accesses of a remote node in order until one waits for another node (R148); `false` when one does. An item that a failed
access has ended makes no more. -/
def Eval.access (posted : Bool) (n : Node) (is : List Input) : Nat → Suspended → Eval → Eval × Suspended × Bool
  | 0, z, e => (e, z, true)
  | fuel + 1, z, e =>
    match z.todo with
    | [] => (e, z, true)
    | a :: rest =>
      let failed := n.at8 1 == 0 && z.got.any fun g => g.1 == a.1 && g.2.2.1 != 0
      match e.items.find? (·.seq == a.1) with
      | none => Eval.access posted n is fuel { z with todo := rest } e
      | some it =>
        if failed || !it.live then Eval.access posted n is fuel { z with todo := rest } e
        else
          let rack := n.at8 0 == 1
          let op := accessOf n is it.pos a.2
          let addr := (opAddress op).getD 0
          let poison := (List.range is.length).any fun k => ((arg is k).slice it.pos).2
          if e.dev.goesOut rack addr then
            let tag := e.dev.cs.nextTag
            let d1 := Dev.accessFar z.thread op addr tag poison posted
              (Dev.park z.thread op true tag 0 { e.dev with cs.nextTag := (tag + 1) % 2 ^ 32 })
            match d1.parkedOp z.thread with
            | some _ => ({ e with dev := d1 }, z, false)
            | none => Eval.access posted n is fuel (z.add d1.free 1 n.accessBytes []) { e with dev := d1.draw }
          else
            let r := e.dev.accessLocal rack op poison
            let d1 := if r.2.1 = 1 then r.1.lose z.thread rack else r.1
            Eval.access posted n is fuel (z.add d1.free r.2.1 n.accessBytes r.2.2) { e with dev := d1.draw }

/-- The outputs of a remote node once its accesses have ended (R148, R149, R528): data, then status. -/
def Eval.endRemote (x : Frame0) (k : Nat) (n : Node) (is : List Input) (z : Suspended) (e : Eval) : Eval :=
  let outs := n.outputs.map fun id => (id, (x.g.image.tensors[id]?).getD (tensorOf []))
  let at_ := e.items.zipIdx.filter fun q => q.1.live && z.got.any (·.1 == q.1.seq)
  let mine := fun (it : Item) => z.got.filter (·.1 == it.seq)
  let failed := fun (it : Item) => n.at8 1 == 0 && (mine it).any (·.2.2.1 != 0)
  let fit := at_.filter fun q => !failed q.1
  let input := fun (it : Item) => is.any fun i => (i.slice it.pos).2
  let data := fun (t : Tensor) (it : Item) =>
    ((mine it).map fun g => (unpack t.format [n.accessBytes * 8 / elemBits t.format] g.2.2.2).map (numOf t)).flatten
  let piece := fun (o : Nat) (t : Tensor) (q : Item × Nat) =>
    let status := o + 1 == outs.length
    ({ p := q.2, pos := q.1.pos
       out := .nums (if status then (mine q.1).map fun g => Num.int (g.2.2.1 : Nat) else data t q.1)
       poison := input q.1 || (!status && (mine q.1).any (·.2.2.1 == 2)) } : Piece)
  let e1 := each (at_.filter fun q => failed q.1) (fun q e => e.onItem q.2 fun it => it.finish 3 0x12 e.dev.tb.ns) e
  each outs.zipIdx (fun o e => e.store x k n o.1.1 o.1.2 false (fit.map (piece o.2 o.1.2))) e1

/-- REMOTE_LOAD, REMOTE_STORE and REMOTE_ATOMIC for the items at some places (R148, R149). DESIGN CHOICE (log 98): access by access, in
item order and index order; an item with an address that does not issue makes none. -/
def Eval.remote (x : Frame0) (stage k : Nat) (n : Node) (loops : List (Nat × Nat)) (is : List Input) (ps : List Nat) (e : Eval) : Eval :=
  let at_ := ps.filterMap fun p => (e.items[p]?).map fun it => (p, it)
  let addrs := fun (it : Item) => ((arg is 0).ints it.pos).map (ofSigned 64)
  let good := fun (it : Item) => accessesIssue n (addrs it)
  let e1 := each (at_.filter fun q => !good q.2) (fun q e => e.onItem q.1 fun it => it.finish 3 0x12 e.dev.tb.ns) e
  let todo := ((at_.filter fun q => good q.2).map fun q => (List.range (addrs q.2).length).map fun i => (q.2.seq, i)).flatten
  let t := ((e.dev.nodeThread x k).orElse fun _ => (e.dev.nodeThreads x k).head?).getD { site := 8, stand := 0, pos := 18, thread := 0 }
  let z : Suspended := { stream := x.st.id, stage, thread := t, items := e.items.map (·.seq), node := k, loops, todo, got := [] }
  let r := Eval.access (x.g.image.postsAdds n) n is todo.length z e1
  if r.2.2 then r.1.endRemote x k n is r.2.1 else { r.1 with wait := some r.2.1 }

/-- REMOTE_FENCE (R149, R329): its code counts what timed out under the graph's threads since their last fence of the scope. -/
def Eval.fence (x : Frame0) (k : Nat) (n : Node) (ps : List Nat) (e : Eval) : Eval :=
  let rack := n.at8 0 == 1
  let threads := ((List.range x.p.nodes.length).map (e.dev.nodeThreads x)).flatten.eraseDups
  let lost := (threads.map fun t => e.dev.lostBy t rack).sum
  let code := if lost = 0 then 0 else 3 + lost % 2 ^ 24 * 256
  let clear := fun (l : Thread × Bool × Nat) => !(threads.contains l.1 && l.2.1 == rack)
  let e1 := { e with dev := { e.dev with cs.lost := e.dev.cs.lost.filter clear } }
  if n.at8 1 = 0 ∧ code ≠ 0 then each ps (fun p e => e.onItem p fun it => it.finish 3 0x12 e.dev.tb.ns) e1
  else
    let id := n.outputs.headD 0
    e1.store x k n id ((x.g.image.tensors[id]?).getD (tensorOf [])) false
      ((ps.take 1).map fun p => { p, pos := 0, out := .nums [.int (code : Nat)], poison := false })

/-! ## One node (R119, R528) -/

/-- Ranges of a weight that a node reads: rows of a GATHER, else the whole. -/
def readRanges (n : Node) (is : List Input) (ps : List Nat) (i : Input) : List (Nat × Nat) :=
  if n.opcode = 0x0B ∧ !isLadder i.t.format then
    let bits := i.t.extents.headD 1 * elemBits i.t.format
    ((ps.map fun pos => (arg is 1).ints pos).flatten.eraseDups).map fun r => (r.toNat * bits / 8, (bits + 7) / 8)
  else [(0, i.t.bytes (n.opcode == 0x02))]

/-- The pieces of an output of a node. -/
def pieceOf (s : At) (o : Nat) (y : Tensor) (p : Nat) (m : Made) : Piece :=
  let src := (arg s.is (if s.n.opcode = 0x42 then 1 else 0)).t
  let raw := (s.n.opcode == 0x12 || s.n.opcode == 0x42) && copiesRaw s.n src y
  { p, pos := s.pos, poison := m.poison
    out := if raw then .elems ((outCoords y s.pos).map fun c => let q := copySource s y c; q.1.elem s.pos q.2) else .nums (pick [] m.outs o) }

/-- One node for the items at some places: each for itself, or, where the output is not per-item, one for all. -/
def Eval.compute (x : Frame0) (k trip : Nat) (n : Node) (is : List Input) (ps : List Nat) (draw : Nat) (e : Eval) : Eval :=
  let outs := n.outputs.map fun id => (id, (x.g.image.tensors[id]?).getD (tensorOf []))
  let each1 := outs.any (·.2.perItem)
  let alone := !each1 && !is.any (·.t.perItem) && e.items.any (·.decode.isSome)
  let turns := if each1 || alone then ps else ps.take 1
  let cores := (x.p.nodes[k]?).elim [] (·.coreSet)
  let step := fun (acc : Eval × List (At × Nat × Made)) (p : Nat) =>
    match acc.1.items[p]? with
    | none => acc
    | some it =>
      let s : At := { x, k, n, is, outs := outs.map (·.2), pos := it.pos, trip, items := ps.filterMap (e.items[·]?), draw }
      let y := s.outs.headD (tensorOf [])
      let mill := n.opcode == 0x01 || n.opcode == 0x02
      let r := if n.opcode = 0x09 then acc.1.attention s p it else (acc.1, nodeMade s)
      let bad := (mill && cores.any fun c => coreKind c == 0 && e.dev.millPoison c) || inputPoison s y
      let m := { r.2 with poison := r.2.poison || bad }
      let e1 := if mill then r.1.fillMill s y else r.1
      match m.fault with
      | some f => (e1.onItem p fun it => it.finish 3 f e.dev.tb.ns, acc.2)
      | none => (e1, acc.2 ++ [(s, p, m)])
  let r := turns.foldl step (e, [])
  let write := fun (o : (Nat × Tensor) × Nat) (e : Eval) =>
    e.store x k n o.1.1 o.1.2 alone (r.2.map fun q => pieceOf q.1 o.2 o.1.2 q.2.1 q.2.2)
  let e1 := each outs.zipIdx write r.1
  if n.opcode = 0x20 then
    let bytes := fun (id : Nat) => (ps.head?.bind (e1.items[·]?)).elim [] fun it =>
      (x.g.image.tensors[id]?).elim [] fun t => pack t.format t.sliceDims (e1.dev.readSlice x none it id t).1
    { e1 with dev := e1.dev.carry (n.at8 0) (groupSites x k n) (bytes (n.inputs.headD 0)) (bytes (n.outputs.headD 0)) }
  else e1

/-- One node for the items at some places of the batch. -/
def Eval.node (x : Frame0) (stage k : Nat) (n : Node) (loops : List (Nat × Nat)) (ps : List Nat) (e : Eval) : Eval :=
  if ps.isEmpty then e
  else
    let sites := computeSites.filter (bitOf ((x.p.nodes[k]?).elim 0 (·.sites)))
    let is := e.inputs x sites.head? ps n
    let poss := (ps.filterMap (e.items[·]?)).map (·.pos)
    let fill := fun (i : Input) (d : Dev) => if n.opcode = 0x0A then d else d.cacheIn x.g sites i.t (readRanges n is poss i)
    let draw := e.dev.free
    let e1 := { e with dev := each is fill e.dev.draw }
    match n.opcode with
    | 0x0C => e1.scatter x k n is ps
    | 0x30 => e1.remote x stage k n loops is ps
    | 0x31 => e1.remote x stage k n loops is ps
    | 0x32 => e1.remote x stage k n loops is ps
    | 0x33 => e1.fence x k n ps
    | _ => e1.compute x k (loops.head?.elim 0 (·.2)) n is ps draw

/-! ## Stages, loops and exits (R143, R144) -/

/-- Trips of the item at a place in a loop (R144). -/
def Eval.trips (e : Eval) (x : Frame0) (n : Node) (p : Nat) : Nat :=
  if n.at8 4 = 0 then n.at32 0
  else match e.items[p]?, (n.inputs.getLast?) with
    | some it, some id =>
      match x.g.image.tensors[id]? with
      | some t =>
        let v := (e.dev.readTensor x it id).1
        min ((numOf t (pick (Elem.plain 0) v (if t.perItem then 0 else it.pos))).toInt.toNat) (n.at32 0)
      | none => 0
    | _, _ => 0

/-- Places at which a node runs now: live items that have trips left in every open loop. -/
def Eval.active (e : Eval) (x : Frame0) (loops : List (Nat × Nat)) : List Nat :=
  (List.range e.items.length).filter fun p =>
    (e.items[p]?).elim false Item.live &&
    loops.all fun l => (x.g.image.nodes[l.1]?).elim false fun b => decide (l.2 < e.trips x b p)

/-- Copy tensors from ids to ids for the items at some places, as they are. -/
def Eval.copyTensors (x : Frame0) (k : Nat) (n : Node) (pairs : List (Nat × Nat)) (ps : List Nat) (e : Eval) : Eval :=
  let at_ := ps.filterMap fun p => (e.items[p]?).map fun it => (p, it)
  let piece := fun (id : Nat) (q : Nat × Item) =>
    let v := e.dev.readTensor x q.2 id
    ({ p := q.1, pos := q.2.pos, out := .elems v.1, poison := v.2 } : Piece)
  let all := pairs.map fun q => (q.2, at_.map (piece q.1))
  each all (fun v e => e.store x k n v.1 (pick (tensorOf []) x.g.image.tensors v.1) true v.2) e

/-- End the items of an EXIT_IF whose predicate is not 0 (R143): their work is complete. -/
def Eval.exits (x : Frame0) (n : Node) (ps : List Nat) (e : Eval) : Eval :=
  let one := fun (p : Nat) (e : Eval) =>
    match e.items[p]? with
    | none => e
    | some it =>
      let v := e.dev.readTensor x it (n.inputs.headD 0)
      if (pick (Elem.plain 0) v.1 0).code = 0 then e
      else e.onItem p fun it => { it with stage := .between 0xFFFF, flags := it.flags ||| 1 }
  each ps one e

/-- Run nodes from index `k` on, those of one stage and of the stream's declaration (fuel: nodes that may still run), until the end or
until one waits. -/
def Eval.run (x : Frame0) (stage : Nat) (decls : List (Option Nat)) : Nat → Nat → List (Nat × Nat) → Eval → Eval
  | 0, _, _, e => e
  | fuel + 1, k, loops, e =>
    match x.g.image.nodes[k]?, e.wait with
    | none, _ => e
    | some _, some _ => e
    | some n, none =>
      let mine := ((decls[k]?).getD none).elim true (· == x.st.decl)
      let here := (x.p.nodes[k]?).elim false (·.stage == stage)
      let go := fun (e : Eval) => Eval.run x stage decls fuel (k + 1) loops e
      if !mine || !here then go e
      else
        let ps := e.active x loops
        match n.opcode with
        | 0x40 => Eval.run x stage decls fuel (k + 1) ((k, 0) :: loops) (e.copyTensors x k n (n.inputs.zip n.outputs) ps)
        | 0x41 =>
          match loops with
          | [] => go e
          | l :: rest =>
            let b := (x.g.image.nodes[l.1]?).getD n
            let e1 := e.copyTensors x k n (n.inputs.zip b.outputs) ps
            let next := (l.1, l.2 + 1)
            if (e1.active x (next :: rest)).isEmpty then
              Eval.run x stage decls fuel (k + 1) rest (e1.copyTensors x k n (b.outputs.zip n.outputs) (e1.active x rest))
            else Eval.run x stage decls fuel (l.1 + 1) (next :: rest) e1
        | 0x43 => go (e.exits x n ps)
        | _ => go (e.node x stage k n loops ps)

/-- Nodes that can run in one pass: every loop at its maximum of trips (R144). -/
def evalFuel (img : Image) : Nat :=
  (img.nodes.length + 1) * (img.nodes.filter (·.opcode == 0x40)).foldl (fun m n => m * (n.at32 0 + 1)) 1

/-- Go on with a stage from a node. -/
def Eval.from (x : Frame0) (stage k : Nat) (loops : List (Nat × Nat)) (e : Eval) : Eval :=
  Eval.run x stage (nodeDecls x.g.image [] x.g.image.nodes) (evalFuel x.g.image) k loops e

/-- Run one stage of a graph for a batch of items of a stream. -/
def Dev.evalStage (x : Frame0) (stage : Nat) (items : List Item) (d : Dev) : Eval :=
  Eval.from x stage 0 [] { dev := d, items, wait := none }

/-- Go on with a stage once the access that it waited for has ended (R148). -/
def Dev.resumeStage (x : Frame0) (z : Suspended) (status : Nat) (data : List Byte) (items : List Item) (d : Dev) : Eval :=
  match x.g.image.nodes[z.node]? with
  | none => { dev := d, items, wait := none }
  | some n =>
    let e : Eval := { dev := d.draw, items, wait := none }
    let is := e.inputs x none (List.range items.length) n
    let z1 := z.add d.free status n.accessBytes data
    let r := Eval.access (x.g.image.postsAdds n) n is z1.todo.length z1 e
    if r.2.2 then (r.1.endRemote x z.node n is r.2.1).from x z.stage (z.node + 1) z.loops else { r.1 with wait := some r.2.1 }

/-! ## The end of an item's work (R124, R192, R204, R528) -/
/-- Tokens that a decode item emits in this round: accepted + 1 of the declaration's last SAMPLE node (R141); 1 without one;
none when they are poisoned. -/
def Dev.tokensOf (_ : Dev) (x : Frame0) (it : Item) : Option Nat :=
  let ds := nodeDecls x.g.image [] x.g.image.nodes
  let samples := (x.g.image.nodes.zip ds).filter fun p => p.1.opcode == 0x0F && p.2.elim true (· == x.st.decl)
  match samples.getLast? with
  | none => some 1
  | some s =>
    let val := fun (k : Nat) => it.values.find? (·.1 == pick 0xFFFF s.1.outputs k)
    if ((val 0).elim false (·.2.2)) || ((val 1).elim false (·.2.2)) then none
    else some ((val 1).elim 1 fun v => (pick (Elem.plain 0) v.2.1 0).code + 1)

/-- RESULT bytes of an item (R124): unwritten bytes are zero; none when they are poisoned. -/
def resultOf (x : Frame0) (it : Item) : Option (List Byte) :=
  match x.g.image.decls[x.st.decl]? with
  | none => some []
  | some y =>
    match x.g.image.tensors[y.result]?, it.values.find? (·.1 == y.result) with
    | some t, some v => if v.2.2 then none else some (padTo y.resultBytes (pack t.format t.sliceDims v.2.1))
    | _, _ => some (zeros y.resultBytes)

end Sys2Proof.Machine
end

