-- ==== Sys2Proof/Machine/Shares.lean ====
section
/-!
DEFINITION. What becomes of items: the completion of shares (05 R172 to R175), the end of an item's work (06), and of a Tally thread's
access that completes at its site, with the stage that may wait for it (03 R79, 04 R148).
-/

namespace Sys2Proof.Machine

/-! ## The end of an item's work (R192, R204 to R206) -/

/-- Positions a decode item's context may reach (R202, R205). -/
def Frame0.maxContext (x : Frame0) : Nat := (x.p.pools.find? (·.decl == x.st.decl)).elim 32768 (·.maxContext)

/-- What remains of an item's tensors for its next decode round: the RESULT tensor (R206). -/
def Frame0.kept (x : Frame0) (it : Item) : List (Nat × List Elem × Bool) :=
  it.values.filter fun v => (x.g.image.tensors[v.1]?).elim false (·.cls == 5)

/-- An item's work is complete (R143, R174, R192, R204 to R206, R528): a decode item that goes on waits for its next round, after a
PARTIAL result when it reports progress. -/
def Dev.completeItem (d : Dev) (x : Frame0) (it : Item) : List Item :=
  let now := d.tb.ns
  let exited := bitOf it.flags 0
  let mark := if it.status = 2 then (2, it.detail) else if d.deadlineOf it.due < now then (2, 0x30) else (1, 0)
  match resultOf x it with
  | none => [it.finish 3 0x10 now]
  | some bs =>
    let done := { it with stage := .finished, status := mark.1, detail := mark.2, result := bs, completion := now }
    match it.decode with
    | none => [done]
    | some _ =>
      match d.tokensOf x it with
      | none => [it.finish 3 0x10 now]
      | some t =>
        let it1 := { done with tokens := t, emitted := it.emitted + t }
        let full := decide (x.maxContext ≤ it.context)
        if exited || full then
          [{ it1 with flags := it.flags ||| 16 ||| (if full && !exited then 32 else 0) }]
        else
          let next := { it1 with stage := .ready, status := 0, detail := 0, tokens := 0, values := x.kept it }
          if bitOf it.descFlags 0 then [next, { it1 with flags := it.flags ||| 8, values := [], payload := none }] else [next]

/-- Number of an item's batch: the items of one cut-off, or the decode items of one dispatch. -/
def Item.key (it : Item) : Nat := if it.decode.isSome then it.dispatched else it.round

/-- What becomes of an item after a stage of its graph. -/
def Dev.afterStage (d : Dev) (x : Frame0) (it : Item) : List Item :=
  match it.stage with
  | .running s _ => if s < x.lastStage then [{ it with stage := .between (s + 1) }] else d.completeItem x it
  | .between _ => d.completeItem x it
  | _ => [it]

/-- Take over what an evaluation gave: the items as they are, and what waits for an access; else the items go on from the stage. -/
def Eval.finish (x : Frame0) (e : Eval) : Dev :=
  let put := fun (it : Item) => match e.items.find? (·.seq == it.seq) with
    | some y => if e.wait.isSome then [y] else e.dev.afterStage x y
    | none => [it]
  let d1 := e.dev.onStream x.st.id fun st => { st with items := (st.items.map put).flatten }
  e.wait.elim d1 fun z => { d1 with cs.suspended := d1.cs.suspended ++ [z] }

/-- Run a stage for the items of a batch whose shares are all complete. -/
def Dev.runStage (id key stage : Nat) (d : Dev) : Dev :=
  match (d.stream? id).bind d.frameOf with
  | none => d
  | some x =>
    let held := (d.cs.suspended.filter fun z => z.stream == id).map (·.items) |>.flatten
    let ready := fun (it : Item) => it.stage == .running stage [] && it.key == key && !held.contains it.seq
    let items := x.st.items.filter ready
    if items.isEmpty then d else (d.evalStage x stage items).finish x

/-- Whether a share of a batch on a site, or its stage, is still to complete for an item. -/
def Item.inBatch (key site : Nat) (it : Item) : Bool :=
  it.key == key &&
  match it.stage with
  | .running _ left => left.contains site || left.isEmpty
  | _ => false

/-- Whether every remote node of a stage that may leave the package has a Tally thread to issue its accesses (R78, R148). -/
def Dev.threadsFree (d : Dev) (x : Frame0) (stage : Nat) : Bool :=
  (x.stageNodes stage).all fun e =>
    match x.g.image.nodes[e.1]? with
    | some n => !([0x30, 0x31, 0x32].contains n.opcode && n.at8 0 == 1) || (d.nodeThread x e.1).isSome
    | none => true

/-- Stand-memory words that the Mill cores of a share read: `corrected` were corrected, those of `bad` could not be (R77). A word is named
by its physical Stand and its place: Stand × 0x20000 + word. -/
def Dev.shareWords (site corrected : Nat) (bad : List Nat) (d : Dev) : Dev :=
  let d1 := if corrected = 0 then d else d.onSite site fun s => { s with corrected := s.corrected + corrected }
  each bad (Dev.badWord site) d1

/-- A site completes its share of a batch (R172, R174, R175): a share dispatched earlier on the site completes first, and a stage waits
until its remote nodes have a thread. -/
def shareComplete (batch site corrected : Nat) (bad : List Nat) (d : Dev) : Dev :=
  let id := batch % 256
  let key := batch / 256
  match d.stream? id with
  | none => d
  | some st =>
    let mine := st.items.filter (·.inBatch key site)
    let first := mine.foldl (fun m it => max m it.dispatched) 0
    let before := d.str.list.any fun s => s.items.any fun it => decide (it.dispatched < first) && (match it.stage with
      | .running _ left => left.contains site
      | _ => false)
    let stages := (mine.filterMap fun it => match it.stage with
      | .running s _ => some s
      | _ => none).eraseDups
    let blocked := (d.frameOf st).elim false fun x => stages.any fun k => !d.threadsFree x k
    if mine.isEmpty || before || blocked then d
    else
      let cut := fun (it : Item) => match it.stage with
        | .running s left => { it with stage := .running s (left.erase site) }
        | _ => it
      let d0 := d.shareWords site corrected bad
      let d1 := d0.onStream id fun s => { s with items := mapIf (·.inBatch key site) cut s.items }
      (each stages (Dev.runStage id key) d1).trickleNow
/-- SHARE_COMPLETE (R174). -/
def execShareComplete (batch : Nat) (share : ShareRead) (s : State) : Result :=
  s.run (.shareComplete batch share) (shareComplete batch share.site share.corrected share.bad)

/-! ## Accesses that complete (R79, R80, R148) -/

/-- A stage goes on once the access that it waited for has ended (R148). -/
def Dev.resumeSuspended (z : Suspended) (status : Nat) (data : List Byte) (d : Dev) : Dev :=
  let d1 := { d with cs.suspended := d.cs.suspended.erase z, cs.finished := d.cs.finished.filter (·.t != z.thread) }
  match (d1.stream? z.stream).bind d1.frameOf with
  | none => d1
  | some x => ((d1.resumeStage x z status data (x.st.items.filter fun it => z.items.contains it.seq)).finish x).trickleNow

/-- REMOTE_ACCESS_COMPLETE (R79, R80, R148): an access that a response completes does so by the response's own row; a stage that waited
for the thread's access goes on. Of the SRAM words that the access reads `corrected` were corrected, and with `bad` one could not be. -/
def remoteAccessComplete (t : Thread) (corrected : Nat) (bad : Bool) (d : Dev) : Dev :=
  if (d.site t.site).phase ≠ .running then d
  else match d.parkedOp t with
    | some p => d.completeParked p corrected bad
    | none =>
      match d.cs.suspended.find? (·.thread == t), d.cs.finished.find? (·.t == t) with
      | some z, some r => d.resumeSuspended z r.status r.data
      | _, _ =>
        match d.cs.waiting.find? (·.1 == t) with
        | some w => if d.pendingOn t < 32 then Dev.startTransfer t w.2 { d with cs.waiting := d.cs.waiting.erase w } else d
        | none => d
/-- REMOTE_ACCESS_COMPLETE (R79). -/
def execRemoteAccessComplete (read : ThreadRead) (s : State) : Result :=
  s.run (.remoteAccessComplete read) (remoteAccessComplete read.t read.corrected read.bad)

end Sys2Proof.Machine
end

