-- ==== Sys2Proof/Machine/Dispatch.lean ====
section
/-!
DEFINITION. The dispatch of a command to its meaning: one arm for each row of the table.
-/

namespace Sys2Proof.Machine

/-- The effect of a command on everything but the queue. -/
def exec (i : Instr) (s : State) : Host.Outcome State Fault Refusal :=
  match i with
  | .mbDoorbellWrite ch value => Sys2Proof.Machine.execMbDoorbellWrite ch value s
  | .commandStart => Sys2Proof.Machine.execCommandStart s
  | .commandComplete ch => Sys2Proof.Machine.execCommandComplete ch s
  | .registerWrite target value => Sys2Proof.Machine.execRegisterWrite target value s
  | .hgDoorbellRestart value => Sys2Proof.Machine.execHgDoorbellRestart value s
  | .devQuery ch => Sys2Proof.Machine.execDevQuery ch s
  | .devState ch => Sys2Proof.Machine.execDevState ch s
  | .bringupLogRead ch => Sys2Proof.Machine.execBringupLogRead ch s
  | .sessionOpen ch => Sys2Proof.Machine.execSessionOpen ch s
  | .sessionClose ch => Sys2Proof.Machine.execSessionClose ch s
  | .sessionReattach ch => Sys2Proof.Machine.execSessionReattach ch s
  | .hostKeepalive ch => Sys2Proof.Machine.execHostKeepalive ch s
  | .graphLoad ch => Sys2Proof.Machine.execGraphLoad ch s
  | .graphUnload ch => Sys2Proof.Machine.execGraphUnload ch s
  | .graphPlace ch => Sys2Proof.Machine.execGraphPlace ch s
  | .graphQuery ch => Sys2Proof.Machine.execGraphQuery ch s
  | .roundConfig ch => Sys2Proof.Machine.execRoundConfig ch s
  | .streamCreate ch => Sys2Proof.Machine.execStreamCreate ch s
  | .streamDestroy ch => Sys2Proof.Machine.execStreamDestroy ch s
  | .intakeRingCreate ch => Sys2Proof.Machine.execIntakeRingCreate ch s
  | .resultRingCreate ch => Sys2Proof.Machine.execResultRingCreate ch s
  | .streamPause ch => Sys2Proof.Machine.execStreamPause ch s
  | .streamResume ch => Sys2Proof.Machine.execStreamResume ch s
  | .decodePoolConfig ch => Sys2Proof.Machine.execDecodePoolConfig ch s
  | .regionMap ch => Sys2Proof.Machine.execRegionMap ch s
  | .regionUnmap ch => Sys2Proof.Machine.execRegionUnmap ch s
  | .mirrorConfig ch => Sys2Proof.Machine.execMirrorConfig ch s
  | .fabricJoin ch => Sys2Proof.Machine.execFabricJoin ch s
  | .fabricLeave ch => Sys2Proof.Machine.execFabricLeave ch s
  | .fabricTableSet ch => Sys2Proof.Machine.execFabricTableSet ch s
  | .fabricQuery ch => Sys2Proof.Machine.execFabricQuery ch s
  | .powerCapSet ch => Sys2Proof.Machine.execPowerCapSet ch s
  | .freqStepSet ch => Sys2Proof.Machine.execFreqStepSet ch s
  | .trickleConfig ch => Sys2Proof.Machine.execTrickleConfig ch s
  | .thermalPolicyQuery ch => Sys2Proof.Machine.execThermalPolicyQuery ch s
  | .timebaseConfig ch => Sys2Proof.Machine.execTimebaseConfig ch s
  | .timebaseStatus ch => Sys2Proof.Machine.execTimebaseStatus ch s
  | .coolantConfig ch => Sys2Proof.Machine.execCoolantConfig ch s
  | .fwUpdateBegin ch => Sys2Proof.Machine.execFwUpdateBegin ch s
  | .fwUpdateBlock ch readbackOk => Sys2Proof.Machine.execFwUpdateBlock ch readbackOk s
  | .fwUpdateCommit ch => Sys2Proof.Machine.execFwUpdateCommit ch s
  | .fwActivate ch => Sys2Proof.Machine.execFwActivate ch s
  | .fwActivateLive ch => Sys2Proof.Machine.execFwActivateLive ch s
  | .licenceInstall ch => Sys2Proof.Machine.execLicenceInstall ch s
  | .licenceQuery ch => Sys2Proof.Machine.execLicenceQuery ch s
  | .debugNonceRequest ch => Sys2Proof.Machine.execDebugNonceRequest ch s
  | .debugUnlock ch => Sys2Proof.Machine.execDebugUnlock ch s
  | .telemetryRead ch => Sys2Proof.Machine.execTelemetryRead ch s
  | .eventLogRead ch => Sys2Proof.Machine.execEventLogRead ch s
  | .defectMapRead ch => Sys2Proof.Machine.execDefectMapRead ch s
  | .calibrationStatus ch => Sys2Proof.Machine.execCalibrationStatus ch s
  | .selftestRun ch result duration => Sys2Proof.Machine.execSelftestRun ch result duration s
  | .cruiserRun ch => Sys2Proof.Machine.execCruiserRun ch s
  | .testModeEnter ch => Sys2Proof.Machine.execTestModeEnter ch s
  | .testModeExit ch => Sys2Proof.Machine.execTestModeExit ch s
  | .perstAssert => Sys2Proof.Machine.execPerstAssert s
  | .perstDeassert => Sys2Proof.Machine.execPerstDeassert s
  | .linkUp width rate lopt => Sys2Proof.Machine.execLinkUp width rate lopt s
  | .hotReset linkDown => Sys2Proof.Machine.execHotReset linkDown s
  | .cxlMemRead x => Sys2Proof.Machine.execCxlMemRead x s
  | .cxlMemWrite x data poisoned => Sys2Proof.Machine.execCxlMemWrite x data poisoned s
  | .biSnoopResponse line data => Sys2Proof.Machine.execBiSnoopResponse line data s
  | .biSnoopTimeout line => Sys2Proof.Machine.execBiSnoopTimeout line s
  | .cxlCacheReadComplete addr data => Sys2Proof.Machine.execCxlCacheReadComplete addr data s
  | .cxlCacheReadTimeout addr => Sys2Proof.Machine.execCxlCacheReadTimeout addr s
  | .hostSnoop line => Sys2Proof.Machine.execHostSnoop line s
  | .ideIntegrityFail => Sys2Proof.Machine.execIdeIntegrityFail s
  | .ideKeyExchange => Sys2Proof.Machine.execIdeKeyExchange s
  | .spdmRequest req => Sys2Proof.Machine.execSpdmRequest req s
  | .msixUnmask vector => Sys2Proof.Machine.execMsixUnmask vector s
  | .inputUndervoltage deciVolts => Sys2Proof.Machine.execInputUndervoltage deciVolts s
  | .inputRestored deciVolts => Sys2Proof.Machine.execInputRestored deciVolts s
  | .powerSample site milliwatts deciVolts => Sys2Proof.Machine.execPowerSample site milliwatts deciVolts s
  | .limiterStep site => Sys2Proof.Machine.execLimiterStep site s
  | .limiterRelease site => Sys2Proof.Machine.execLimiterRelease site s
  | .trickleRatioStep => Sys2Proof.Machine.execTrickleRatioStep s
  | .sensorSample die sensor reading => Sys2Proof.Machine.execSensorSample die sensor reading s
  | .throttleDividerTimer site zone source => Sys2Proof.Machine.execThrottleDividerTimer site zone source s
  | .throttleSkipDecay site zone source => Sys2Proof.Machine.execThrottleSkipDecay site zone source s
  | .thermalTrip group readings => Sys2Proof.Machine.execThermalTrip group readings s
  | .thermalPolicyRestart => Sys2Proof.Machine.execThermalPolicyRestart s
  | .coolantPoll inlet outlet flow => Sys2Proof.Machine.execCoolantPoll inlet outlet flow s
  | .capDerateTimer => Sys2Proof.Machine.execCapDerateTimer s
  | .flashWriteResume => Sys2Proof.Machine.execFlashWriteResume s
  | .chimeLoss port => Sys2Proof.Machine.execChimeLoss port s
  | .refclkLoss => Sys2Proof.Machine.execRefclkLoss s
  | .refclkHoldExpiry => Sys2Proof.Machine.execRefclkHoldExpiry s
  | .supplyDroop site stand pos mhz => Sys2Proof.Machine.execSupplyDroop site stand pos mhz s
  | .supplyRecovery site stand pos => Sys2Proof.Machine.execSupplyRecovery site stand pos s
  | .sustainedDroop site stand pos => Sys2Proof.Machine.execSustainedDroop site stand pos s
  | .voltageRiseStart => Sys2Proof.Machine.execVoltageRiseStart s
  | .frequencyStepVote site dom railOk staged => Sys2Proof.Machine.execFrequencyStepVote site dom railOk staged s
  | .frequencyStepDecision => Sys2Proof.Machine.execFrequencyStepDecision s
  | .stepDecisionMissing sites => Sys2Proof.Machine.execStepDecisionMissing sites s
  | .tbPpsEdge prevHigh => Sys2Proof.Machine.execTbPpsEdge prevHigh s
  | .tbTodFrame bytes => Sys2Proof.Machine.execTbTodFrame bytes s
  | .tbClkLoss => Sys2Proof.Machine.execTbClkLoss s
  | .tbPpsLoss => Sys2Proof.Machine.execTbPpsLoss s
  | .xtbRateCorrection => Sys2Proof.Machine.execXtbRateCorrection s
  | .holdoverAgeLimit => Sys2Proof.Machine.execHoldoverAgeLimit s
  | .roundBoundary => Sys2Proof.Machine.execRoundBoundary s
  | .intakeDescriptorRead => Sys2Proof.Machine.execIntakeDescriptorRead s
  | .calibrationWindowOpen => Sys2Proof.Machine.execCalibrationWindowOpen s
  | .calibrationWindowClose => Sys2Proof.Machine.execCalibrationWindowClose s
  | .dispatch => Sys2Proof.Machine.execDispatch s
  | .shareComplete batch share => Sys2Proof.Machine.execShareComplete batch share s
  | .stageDeadline => Sys2Proof.Machine.execStageDeadline s
  | .publicationWindowOpen => Sys2Proof.Machine.execPublicationWindowOpen s
  | .publicationDeadline => Sys2Proof.Machine.execPublicationDeadline s
  | .sessionOrphanTimer session => Sys2Proof.Machine.execSessionOrphanTimer session s
  | .orphanHoldExpiry session => Sys2Proof.Machine.execOrphanHoldExpiry session s
  | .reattachLockoutExpiry session => Sys2Proof.Machine.execReattachLockoutExpiry session s
  | .tallyRemoteAccess t rack op => Sys2Proof.Machine.execTallyRemoteAccess t rack op s
  | .remoteAccessComplete read => Sys2Proof.Machine.execRemoteAccessComplete read s
  | .remoteAccessTimeout t => Sys2Proof.Machine.execRemoteAccessTimeout t s
  | .transferDescriptorWrite t desc => Sys2Proof.Machine.execTransferDescriptorWrite t desc s
  | .bondBeatUncorrectable site group beat => Sys2Proof.Machine.execBondBeatUncorrectable site group beat s
  | .coreAgeingLower site stand pos => Sys2Proof.Machine.execCoreAgeingLower site stand pos s
  | .understoryReset site => Sys2Proof.Machine.execUnderstoryReset site s
  | .understoryReady site => Sys2Proof.Machine.execUnderstoryReady site s
  | .canopyReset site => Sys2Proof.Machine.execCanopyReset site s
  | .canopyReloadComplete site => Sys2Proof.Machine.execCanopyReloadComplete site s
  | .slotBoundary => Sys2Proof.Machine.execSlotBoundary s
  | .cellReceive port plane wrong astray => Sys2Proof.Machine.execCellReceive port plane wrong astray s
  | .bulkWrite port plane => Sys2Proof.Machine.execBulkWrite port plane s
  | .bulkReadData port plane => Sys2Proof.Machine.execBulkReadData port plane s
  | .control port plane => Sys2Proof.Machine.execControl port plane s
  | .multicast port plane => Sys2Proof.Machine.execMulticast port plane s
  | .load port read => Sys2Proof.Machine.execLoad port read s
  | .store port plane => Sys2Proof.Machine.execStore port plane s
  | .atomic port read => Sys2Proof.Machine.execAtomic port read s
  | .loadRsp port plane => Sys2Proof.Machine.execLoadRsp port plane s
  | .storeAck port plane => Sys2Proof.Machine.execStoreAck port plane s
  | .atomicRsp port plane => Sys2Proof.Machine.execAtomicRsp port plane s
  | .xferAck port plane => Sys2Proof.Machine.execXferAck port plane s
  | .partialTransferExpiry port src transfer => Sys2Proof.Machine.execPartialTransferExpiry port src transfer s
  | .planeSchedulerFail plane => Sys2Proof.Machine.execPlaneSchedulerFail plane s
  | .switchPortFail port plane => Sys2Proof.Machine.execSwitchPortFail port plane s
  | .combFailure wellhead => Sys2Proof.Machine.execCombFailure wellhead s
  | .combSwitchComplete wellhead => Sys2Proof.Machine.execCombSwitchComplete wellhead s
  | .tuningLoopUpdate ring inWindow step dTemp => Sys2Proof.Machine.execTuningLoopUpdate ring inWindow step dTemp s
  | .laneIdentityCheck ring identity => Sys2Proof.Machine.execLaneIdentityCheck ring identity s
  | .relockTimeout port plane => Sys2Proof.Machine.execRelockTimeout port plane s
  | .opticalMonitorSample port plane line sample => Sys2Proof.Machine.execOpticalMonitorSample port plane line sample s
  | .laserAgeingCheck => Sys2Proof.Machine.execLaserAgeingCheck s
  | .calibrationMeasurementComplete port plane tx1 tx2 rx1 rx2 temp => Sys2Proof.Machine.execCalibrationMeasurementComplete port plane tx1 tx2 rx1 rx2 temp s
  | .calibrationStoreWrite => Sys2Proof.Machine.execCalibrationStoreWrite s
  | .lineFillComplete stack line outcome => Sys2Proof.Machine.execLineFillComplete stack line outcome s
  | .lineUpdate stack line => Sys2Proof.Machine.execLineUpdate stack line s
  | .lineWriteback stack line => Sys2Proof.Machine.execLineWriteback stack line s
  | .mirrorCopyAck stack line => Sys2Proof.Machine.execMirrorCopyAck stack line s
  | .scrubRead stack line outcome => Sys2Proof.Machine.execScrubRead stack line outcome s
  | .rowTestComplete unit pass spareRow => Sys2Proof.Machine.execRowTestComplete unit pass spareRow s
  | .softPprComplete unit => Sys2Proof.Machine.execSoftPprComplete unit s
  | .channelTimeout stack line => Sys2Proof.Machine.execChannelTimeout stack line s
  | .parityAlert stack channel => Sys2Proof.Machine.execParityAlert stack channel s
  | .channelRetrainComplete stack channel pass => Sys2Proof.Machine.execChannelRetrainComplete stack channel pass s
  | .ieee1500Activity stack => Sys2Proof.Machine.execIeee1500Activity stack s
  | .stackTempRead stack report die => Sys2Proof.Machine.execStackTempRead stack report die s
  | .gatherReduceJobSubmit port plane => Sys2Proof.Machine.execGatherReduceJobSubmit port plane s
  | .gatherReduceJobComplete stack => Sys2Proof.Machine.execGatherReduceJobComplete stack s
  | .barrierWordLoad plane => Sys2Proof.Machine.execBarrierWordLoad plane s
  | .cisternReset stack => Sys2Proof.Machine.execCisternReset stack s
  | .frameTransmit port => Sys2Proof.Machine.execFrameTransmit port s
  | .marker port credit nextStart seq => Sys2Proof.Machine.execMarker port credit nextStart seq s
  | .frameUncorrectable port errors response => Sys2Proof.Machine.execFrameUncorrectable port errors response s
  | .spillwayLoad port f => Sys2Proof.Machine.execSpillwayLoad port f s
  | .spillwayStore port f => Sys2Proof.Machine.execSpillwayStore port f s
  | .spillwayAtomic port f => Sys2Proof.Machine.execSpillwayAtomic port f s
  | .spillwayBulkWrite port f => Sys2Proof.Machine.execSpillwayBulkWrite port f s
  | .spillwayBulkRead port f => Sys2Proof.Machine.execSpillwayBulkRead port f s
  | .spillwayResponse port f => Sys2Proof.Machine.execSpillwayResponse port f s
  | .transitForward port f => Sys2Proof.Machine.execTransitForward port f s
  | .spillwayTimeout gen unit => Sys2Proof.Machine.execSpillwayTimeout gen unit s
  | .staleFrameExpiry port => Sys2Proof.Machine.execStaleFrameExpiry port s
  | .hello port version node epoch reqCredits rspCredits required => Sys2Proof.Machine.execHello port version node epoch reqCredits rspCredits required s
  | .helloTimer port => Sys2Proof.Machine.execHelloTimer port s
  | .laneMap port map seq => Sys2Proof.Machine.execLaneMap port map seq s
  | .leave port => Sys2Proof.Machine.execLeave port s
  | .spdm port done ok => Sys2Proof.Machine.execSpdm port done ok s
  | .keySwitch port seq => Sys2Proof.Machine.execKeySwitch port seq s
  | .rekeyTimer port => Sys2Proof.Machine.execRekeyTimer port s
  | .portLossOfLight port byMarker light => Sys2Proof.Machine.execPortLossOfLight port byMarker light s
  | .aprEntry port => Sys2Proof.Machine.execAprEntry port s
  | .aprProbeLight port => Sys2Proof.Machine.execAprProbeLight port s
  | .portUp port => Sys2Proof.Machine.execPortUp port s
  | .trainingTimeout port => Sys2Proof.Machine.execTrainingTimeout port s
  | .spillwayCombFailure engine source => Sys2Proof.Machine.execSpillwayCombFailure engine source s
  | .barrierArriveSend => Sys2Proof.Machine.execBarrierArriveSend s
  | .barrierArriveDeadline => Sys2Proof.Machine.execBarrierArriveDeadline s
  | .barrierArrive port f => Sys2Proof.Machine.execBarrierArrive port f s
  | .barrierReleaseDeadline => Sys2Proof.Machine.execBarrierReleaseDeadline s
  | .barrierRelease port f withdrawn => Sys2Proof.Machine.execBarrierRelease port f withdrawn s
  | .barrierMissed => Sys2Proof.Machine.execBarrierMissed s
  | .barrierWithdraw port f => Sys2Proof.Machine.execBarrierWithdraw port f s
  | .barrierRejoin port f => Sys2Proof.Machine.execBarrierRejoin port f s
  | .faultReport unit kind => Sys2Proof.Machine.execFaultReport unit kind s
  | .recoveryStart => Sys2Proof.Machine.execRecoveryStart s
  | .targetedSelfTestComplete unit result => Sys2Proof.Machine.execTargetedSelfTestComplete unit result s
  | .recoveryTimeout => Sys2Proof.Machine.execRecoveryTimeout s
  | .stewardHeartbeatMissed port => Sys2Proof.Machine.execStewardHeartbeatMissed port s
  | .correctedErrorHour => Sys2Proof.Machine.execCorrectedErrorHour s
  | .coppicePreparationComplete unit => Sys2Proof.Machine.execCoppicePreparationComplete unit s
  | .rangerHandover cause => Sys2Proof.Machine.execRangerHandover cause s
  | .rangerWatchdogExpiry => Sys2Proof.Machine.execRangerWatchdogExpiry s
  | .rangerPeriodicSelfTest pass => Sys2Proof.Machine.execRangerPeriodicSelfTest pass s
  | .handoverComplete => Sys2Proof.Machine.execHandoverComplete s
  | .journalHeartbeatMissed => Sys2Proof.Machine.execJournalHeartbeatMissed s
  | .standbyResyncComplete => Sys2Proof.Machine.execStandbyResyncComplete s
  | .rangerRomSelfTestComplete rangerB pass => Sys2Proof.Machine.execRangerRomSelfTestComplete rangerB pass s
  | .handoffBlockWrite => Sys2Proof.Machine.execHandoffBlockWrite s
  | .liveActivationTimeout => Sys2Proof.Machine.execLiveActivationTimeout s
  | .fdmWrite => Sys2Proof.Machine.execFdmWrite s
  | .bringupStageComplete findings => Sys2Proof.Machine.execBringupStageComplete findings s
  | .bringupStageTimeout => Sys2Proof.Machine.execBringupStageTimeout s
  | .discoveryResponse position kind id1 id2 => Sys2Proof.Machine.execDiscoveryResponse position kind id1 id2 s
  | .stewardStartTimeout port => Sys2Proof.Machine.execStewardStartTimeout port s
  | .bypass => Sys2Proof.Machine.execBypass s
  | .idcode => Sys2Proof.Machine.execIdcode s
  | .samplePreload pins => Sys2Proof.Machine.execSamplePreload pins s
  | .extest => Sys2Proof.Machine.execExtest s
  | .clamp => Sys2Proof.Machine.execClamp s
  | .highz => Sys2Proof.Machine.execHighz s
  | .chainSelect bits => Sys2Proof.Machine.execChainSelect bits s
  | .portLoopback => Sys2Proof.Machine.execPortLoopback s
  | .bondLoopback => Sys2Proof.Machine.execBondLoopback s
  | .rangerDebug => Sys2Proof.Machine.execRangerDebug s
  | .trstAssert => Sys2Proof.Machine.execTrstAssert s
  | .refclkRestored => Sys2Proof.Machine.execRefclkRestored s
  | .tbClkRestored => Sys2Proof.Machine.execTbClkRestored s
  | .cisternResetComplete stack => Sys2Proof.Machine.execCisternResetComplete stack s
  | .discoveryTimeout position => Sys2Proof.Machine.execDiscoveryTimeout position s
  | .idleCodeword port credit => Sys2Proof.Machine.execIdleCodeword port credit s
  | .cdatTableAccess => Sys2Proof.Machine.execCdatTableAccess s

end Sys2Proof.Machine
end

