-- ==== Sys2Proof/Machine/Step.lean ====
section
/-!
DEFINITION. One step of the block: the command at the front of the queue; with an empty queue, one cycle of the master
count (log 25).
-/

namespace Sys2Proof.Machine

/-- Take the command at the front of the queue and run it with the rest. With nothing waiting, the master count advances by
one CD14 cycle (R531), and a restart that is due takes place (log 25). -/
def step (s : State) : Host.Outcome State Fault Refusal :=
  match s.pending with
  | [] => .next { s with dev := s.dev.idle }
  | c :: rest => exec c { s with pending := rest }

/-- The state with the command a word spells at the front of its queue: unchanged, for no word spells a command. -/
def State.withFetchWord (s : State) (nbits w : Nat) : State :=
  match decodeTableWord nbits w with
  | some c => { s with pending := c :: s.pending }
  | none => s

end Sys2Proof.Machine
end

