-- ==== Sys2Proof/Machine/Wire.lean ====
section
/-!
DEFINITION. What crosses a fibre, to the bit (10 R313, R317, R318): codewords and their symbols, lanes, levels and alignment bits, markers,
idles, and the codewords of a frame.
-/

namespace Sys2Proof.Machine

/-! ## Symbols (R317) -/

/-- The 36 symbols of a codeword (R317): 32 of its datum, whose bytes are in memory order, and 4 of its check bits. -/
def codeSymbols (bytes : List Byte) : List Nat :=
  let datum := leNat bytes
  (List.range 32).map (fun j => bitsOf datum (4 * j + 3) (4 * j)) ++
  (List.range 4).map fun i => bitsOf (Config.s144Check datum).toNat (4 * i + 3) (4 * i)

/-- The symbols that a data lane carries, in the order sent (R317): codewords are counted from c = 0 at a marker. -/
def laneSymbols (lane : Nat) (codewords : List (List Nat)) : List Nat :=
  (codewords.zipIdx.map fun w => ((w.1.zipIdx).filter fun s => symbolLane w.2 s.2 == lane).map (·.1)).flatten

/-- Level of a pair of bits (R317): Gray-coded, 0 the lowest. -/
def grayLevel (b : Nat) : Nat := if b = 0 then 0 else if b = 1 then 1 else if b = 3 then 2 else 3

/-- The two PAM4 symbols of a symbol, bits [3:2] first (R317). -/
def pam4 (s : Nat) : List Nat := [grayLevel (bitsOf s 3 2), grayLevel (bitsOf s 1 0)]

/-- A byte's bits, most significant first. -/
def msbFirst (b : Nat) : List Bool := (List.range 8).map fun i => bitOf b (7 - i)

/-- The alignment bits of a lane, which repeat (R317): 0xD4, then the lane number. -/
def alignBits (lane : Nat) : List Bool := msbFirst 0xD4 ++ msbFirst lane

/-- A pilot frame (R252, R313): the sync byte 0xD4, then the lane identity; on a fibre the identity is the line number. -/
def pilotFrame (identity : Nat) : List Bool := msbFirst 0xD4 ++ msbFirst identity

/-- Bits of a symbol, bits [3:2] first. -/
def symbolBits (s : Nat) : List Bool := (msbFirst s).drop 4

/-- The bits on a data lane's line from the first symbol of a marker on (R311, R317, R318): one alignment bit after every 16 codeword bits; the one
before the marker begins a sequence. -/
def lineBits (lane : Nat) (symbols : List Nat) : List Bool :=
  let bits := (symbols.map symbolBits).flatten
  ((List.range ((bits.length + 15) / 16)).map fun i => (bits.drop (16 * i)).take 16 ++ [(alignBits lane).getD ((i + 1) % 16) false]).flatten

/-! ## Codewords (R318) -/

/-- A marker codeword (R318). -/
def markerWord (request response nextStart seq : Nat) : List Byte :=
  leBytes 1 0xFE ++ leBytes 1 (request % 16 + 16 * (response % 16)) ++ leBytes 2 nextStart ++ leBytes 4 seq ++ zeros 8

/-- An idle codeword (R318). -/
def idleWord (request response : Nat) : List Byte := leBytes 1 0 ++ leBytes 1 (request % 16 + 16 * (response % 16)) ++ zeros 14

/-- The 32 bytes of a frame's header (10, frame header). -/
def frameHeader (f : Frame) : List Byte :=
  leBytes 1 f.kind ++ leBytes 1 (natOf f.enc + 2 * natOf f.poison + 4 * natOf f.posted + 8 * natOf f.last) ++ leBytes 2 f.payload.length ++
  leBytes 2 f.dst ++ leBytes 2 f.src ++ leBytes 8 f.address ++ leBytes 4 (f.gen * 2 ^ 24 + f.unit) ++ leBytes 1 f.hops ++ leBytes 1 f.credit ++
  leBytes 2 f.epoch ++ leBytes 1 (f.aop + 16 * f.aty) ++ leBytes 1 f.status ++ leBytes 2 f.size ++ leBytes 4 (if f.enc then f.counter else 0)

/-- Bytes in codewords, the last padded with zeros (R318). -/
def inWords (b : List Byte) : List (List Byte) :=
  (List.range ((b.length + 15) / 16)).map fun i => let w := (b.drop (16 * i)).take 16; w ++ zeros (16 - w.length)

/-- The codewords of a frame on a port's link (R318, R341): header, payload, and of an encrypted frame the ciphertext and the tag under the
port's key, counted since the start. -/
def frameWords (port key : Nat) (f : Frame) : List (List Byte) :=
  let n := f.payload.length
  let sealed := fun (from_ len : Nat) => (List.range len).map fun i => Config.cipherByte port key f.counter (from_ + i)
  inWords (frameHeader f) ++ inWords (if f.enc then sealed 0 n else f.payload) ++ if f.enc then [sealed n 16] else []

/-- The sequence of codewords of an interval between markers (R318): a marker is its codeword 0, and it has 1,024. -/
def interval (marker : List Byte) (rest : List (List Byte)) (credit : Nat × Nat) : List (List Byte) :=
  let filled := marker :: rest.take 1023
  filled ++ List.replicate (1024 - filled.length) (idleWord credit.1 credit.2)

end Sys2Proof.Machine
end

