-- ==== Sys2Proof/Safety.lean ====
section
/-!
DEFINITION. The terms in which claims speak of a run: the canonical form of the memories, and when a mailbox command is at
work.
-/

namespace Sys2Proof.Machine

/-- The canonical form of a sparse memory: addresses strictly rising, no entry of the value that an unlisted byte reads as. -/
def Memory.wf (m : List Host.Cell) : Bool := cellsWf m

/-- Device memory is in canonical form. -/
def State.memWf (s : State) : Bool := Memory.wf s.dev.mem.cells

/-- Host memory, as far as the device wrote it, is in canonical form. -/
def State.hostMemWf (s : State) : Bool := Memory.wf s.dev.hg.hostMem

/-- A channel runs a command of an opcode that has no outcome yet, in READY or SERVICE (R369, R375). -/
def State.atWork (s : State) (op ch : Nat) : Bool :=
  decide (ch < 256) && s.dev.runs op ch && (s.dev.hg.devState == .ready || s.dev.hg.devState == .service)

/-- The body of a channel's command. -/
def State.body (s : State) (ch : Nat) : List Byte := (s.dev.chan ch).cmdBody

/-- The session of a channel's command. -/
def State.session (s : State) (ch : Nat) : Nat := (s.dev.chan ch).session

/-- The outcome that a channel's command has. -/
def State.outcome (s : State) (ch : Nat) : Option CmdOutcome := (s.dev.chan ch).outcome

/-- A channel's command ended with a status and a body. -/
def State.ended (s : State) (ch status : Nat) (body : List Byte) : Prop := s.outcome ch = some { status, body, effect := 0 }

end Sys2Proof.Machine
end

