-- ==== Sys2Proof/Certificates/Slice0/Obligations.lean ====
section
/-!
DEFINITION. The statements for the provers. Each names the rules of the spec that it formalises.
-/

open Sys2Proof Sys2Proof.Machine

/-- A step takes the command at the front of the queue and is `exec` of it with the rest of the queue. -/
def Obligations.StepRunsFront : Prop :=
  ∀ (s : State) (c : Instr) (rest : List Instr), s.pending = c :: rest → step s = exec c { s with pending := rest }

/-- Every command completes: for every form, every operand and every state exec answers a next state with the same queue, but for COMMAND_START
while the host's Rantil version does not match and the command at the head of the mailbox queue is not DEV_QUERY, whose behaviour R19 calls
undefined: a fault. A command whose operands name nothing changes nothing (the model's choice, log 3). -/
def Obligations.EveryCommandCompletes : Prop :=
  ∀ (i : Instr) (s : State),
    (i ≠ .commandStart ∨ s.dev.versionMatches = true ∨ (∀ ch, s.dev.nextStart = some ch → (s.dev.chan ch).opcode = 0x0001) →
      ∃ t : State, exec i s = .next t ∧ t.pending = s.pending ∧ (i.wf = false → t = s)) ∧
    (∀ ch, s.dev.nextStart = some ch → (s.dev.chan ch).opcode ≠ 0x0001 → s.dev.versionMatches = false → exec .commandStart s = .fault .versionMismatch)

/-- With nothing waiting, the master count advances by 1 ns and the rate correction in force, in units of 2^-16 ns (R531): the increment, or in
HOLDOVER without TB_CLK the ratio last measured in LOCKED (R163); held in reset the device does nothing. The model's choice of a tick is log 25. -/
def Obligations.IdleAdvancesCount : Prop :=
  ∀ s : State, s.pending = [] → s.dev.fw.restartAt = none →
    let rate : Int := if s.dev.tb.st = .holdover ∧ s.dev.tb.clk = false then max (-65536) s.dev.tb.ratio else s.dev.tb.incr
    (s.dev.heldReset = true → step s = .next s) ∧
    (s.dev.heldReset = false → ∃ t : State, step s = .next t ∧ t.pending = [] ∧
      t = { s with dev := { s.dev with tb := t.dev.tb } } ∧ t.dev.tb.frac < 65536 ∧
      (0 ≤ 65536 + rate →
        ((t.dev.tb.ns * 65536 + t.dev.tb.frac : Nat) : Int) = (s.dev.tb.ns * 65536 + s.dev.tb.frac : Nat) + 65536 + rate))

/-- What the spec states for the state after PERST# (11 field tables, but for HG.DEVSTAT's RANGER and LIFECYCLE, 08, 09, 12, 16, 18); the memories have their canonical form there. -/
def Obligations.ResetState : Prop :=
  let s := State.reset
  s.dev.readHg 0x000 = 0x18000 ∧ s.dev.readHg 0x008 &&& 0x73DFF = 0x20000 ∧ (∀ off, off ≠ 0x000 → off ≠ 0x008 → s.dev.readHg off = 0) ∧ (∀ ch, s.dev.mbState ch = 0 ∧ s.dev.mbSeq ch = 0) ∧
  s.pending = [] ∧ s.dev.hg.devState = .bringup ∧ s.dev.hg.stage = 0 ∧ s.dev.hg.stageFail = false ∧ s.dev.hg.memActive = false ∧
  s.dev.hg.mbReady = false ∧ s.dev.hg.linkWidth = 0 ∧ s.dev.hg.errstat = 0 ∧ s.dev.hg.intstat = 0 ∧ s.dev.hg.intmask = 0 ∧
  s.dev.mb.queue = [] ∧ (∀ ch, (s.dev.chan ch).doneCount = 0 ∧ (s.dev.chan ch).lastSeq = 0) ∧ s.dev.ses.list = [] ∧
  s.dev.gr.list = [] ∧ s.dev.str.list = [] ∧ s.dev.mem.cells = [] ∧ s.dev.tb.ns = 0 ∧ s.dev.op.dark = true ∧ s.dev.ba.standing = [] ∧
  (∀ p, (s.dev.fport p).st = .dark) ∧ s.dev.lg.entries = [] ∧ s.dev.fw.handover = none ∧
  s.memWf = true ∧ s.hostMemWf = true

/-- MB_DOORBELL_WRITE (R366): a doorbell whose sequence number is the header's and not the last one's is accepted; on a busy channel it
sets ERR_BUSY, with another sequence number ERR_SEQ; without bit 32 it does nothing; later writes to the page do not change the command. -/
def Obligations.DoorbellWrite : Prop :=
  ∀ (s : State) (ch : Nat) (v : Word), ch < 256 → s.dev.mailboxOpen = true →
    let c := s.dev.chan ch
    let bad := leNat (cellsRead c.page 4 4) ≠ v.toNat % 2 ^ 32 ∨ v.toNat % 2 ^ 32 = c.lastSeq
    let busy := c.st = .queued ∨ c.st = .running
    (v.getLsbD 32 = false → exec (.mbDoorbellWrite ch v) s = .next s) ∧
    (v.getLsbD 32 = true → busy →
      exec (.mbDoorbellWrite ch v) s = .next { s with dev := s.dev.onChan ch fun c => { c with errBusy := true } }) ∧
    (v.getLsbD 32 = true → ¬busy → bad →
      exec (.mbDoorbellWrite ch v) s = .next { s with dev := s.dev.onChan ch fun c => { c with errSeq := true } }) ∧
    (v.getLsbD 32 = true → ¬busy → ¬bad → ∃ t : State, exec (.mbDoorbellWrite ch v) s = .next t ∧
      t = { s with dev := { s.dev with mb := t.dev.mb, ses := t.dev.ses, lg := t.dev.lg, hg := t.dev.hg } } ∧
      t.dev.mb.queue = s.dev.mb.queue ++ [ch] ∧
      t.dev.chan ch = { c with st := .queued, hdr := cellsRead c.page 0 64, body := cellsRead c.page 64 960, accepted := s.dev.tb.ns, outcome := none, journaled := false }) ∧
    ∀ off size, off / 0x1000 = ch → off % 0x1000 < 0x400 → ∃ t : State, exec (.registerWrite (.mailbox off size) v) s = .next t ∧
      t = { s with dev := { s.dev with mb := { s.dev.mb with chans := t.dev.mb.chans } } } ∧ t.dev.chan ch = { c with page := (t.dev.chan ch).page }

/-- COMMAND_START (R369, R370): with a Ranger that runs, fewer than 16 commands running and no version mismatch, the oldest queued
command RUNS, and the checks of R370 that come before the command's own rules may give it its outcome; COMMAND_COMPLETE (R367)
then writes the response, makes the channel DONE and counts it. The schedule of a ROUND_CONFIG begins with its response (R169); a TIMEBASE_STATUS
gives the count at the time of its response (R167). -/
def Obligations.CommandStartComplete : Prop :=
  (∀ (s : State) (ch : Nat) (rest : List Nat), s.dev.mb.queue = ch :: rest → s.dev.hg.mbReady = true → s.dev.fw.rangerUp = true →
    s.dev.fw.handover = none → s.dev.fw.live = none → s.dev.running < 16 → s.dev.versionMatches = true →
    ∃ t : State, exec .commandStart s = .next t ∧ t = { s with dev := { s.dev with mb := t.dev.mb } } ∧ t.dev.mb.queue = rest ∧
      (t.dev.chan ch).st = .running ∧ (opInfo (s.dev.chan ch).opcode = none → s.dev.fw.handover = none → t.ended ch stBadOpcode []) ∧
      (∀ other, other ≠ ch → t.dev.chan other = s.dev.chan other)) ∧
  (∀ (s : State) (ch : Nat) (o : CmdOutcome), ch < 256 → s.outcome ch = some o → (s.dev.chan ch).st = .running →
    s.dev.fw.handover = none → (s.dev.chan ch).opcode ≠ 0x0200 → (s.dev.chan ch).opcode ≠ 0x0506 → (s.dev.chan ch).opcode ≠ 0x0701 →
    (∀ n ∈ s.dev.rd.pending, n.ch ≠ ch) →
    let body := if (s.dev.chan ch).opcode = 0x0405 ∧ o.status = stOk then
      o.body.take 8 ++ leBytes 8 s.dev.tb.ns ++ leBytes 2 s.dev.tb.frac ++ o.body.drop 18 else o.body
    ∃ t : State, exec (.commandComplete ch) s = .next t ∧ t = { s with dev := { s.dev with mb := t.dev.mb, hg := t.dev.hg } } ∧
      (t.dev.chan ch).st = .done ∧ (t.dev.chan ch).lastSeq = (s.dev.chan ch).seq ∧
      (t.dev.chan ch).doneCount = ((s.dev.chan ch).doneCount + 1) % 2 ^ 32 ∧
      (t.dev.chan ch).rspHdr = responseHeader o.status (s.dev.chan ch).seq (s.dev.chan ch).accepted s.dev.tb.ns body.length o.effect ∧
      (t.dev.chan ch).rspBody.take body.length = body) ∧
  (∀ (s : State) (ch : Nat) (o : CmdOutcome) (n : NewRounds), ch < 256 → s.outcome ch = some o → (s.dev.chan ch).st = .running →
    s.dev.fw.handover = none → (s.dev.chan ch).opcode = 0x0200 → o.status = stAccepted → s.dev.rd.pending.find? (·.ch == ch) = some n →
    let first := n.epoch + ((s.dev.tb.ns - n.epoch) / n.period + 1) * n.period
    ∃ t : State, exec (.commandComplete ch) s = .next t ∧ t = { s with dev := { s.dev with mb := t.dev.mb, hg := t.dev.hg, rd := t.dev.rd } } ∧
      t.dev.rd = { s.dev.rd with period := n.period, epoch := n.epoch, timeout := n.timeout, active := false, next := first
                                 pending := s.dev.rd.pending.filter (·.ch != ch) } ∧
      (t.dev.chan ch).st = .done ∧ (t.dev.chan ch).rspBody.take 8 = leBytes 8 first)

/-- REGISTER_WRITE (R13, R350): HG.ERRSTAT and HG.INTSTAT clear by writing 1, HG.INTMASK keeps its six bits, reserved bits read 0; a
misaligned or ill-sized access sets BAD_ACCESS; and nothing arrives while the link is down. -/
def Obligations.RegisterWrite : Prop :=
  ∀ (s : State) (v : Word) (tgt : RegTarget),
    (s.dev.hg.linkWidth = 0 → exec (.registerWrite tgt v) s = .next s) ∧
    (s.dev.hg.linkWidth ≠ 0 →
      exec (.registerWrite (.control 0x28 8) v) s = .next { s with dev := { s.dev with hg.errstat := s.dev.hg.errstat &&& ~~~v } } ∧
      exec (.registerWrite (.control 0x30 8) v) s = .next { s with dev := { s.dev with hg.intstat := s.dev.hg.intstat &&& ~~~v } } ∧
      exec (.registerWrite (.control 0x38 8) v) s = .next { s with dev := { s.dev with hg.intmask := v &&& 0x3F } } ∧
      exec (.registerWrite (.config .cacheEnable) v) s = .next { s with dev := { s.dev with hg.cacheEn := v.getLsbD 0 } } ∧
      ∀ off size, off < 0x1000 → aligned48 off size = false → ∃ t : State, exec (.registerWrite (.control off size) v) s = .next t ∧
        t = { s with dev := { s.dev with hg := t.dev.hg } } ∧ t.dev.hg.errstat = s.dev.hg.errstat ||| 8)

/-- MSIX_UNMASK, LINK_UP, IDE_INTEGRITY_FAIL, IDE_KEY_EXCHANGE, CDAT_TABLE_ACCESS and SPDM_REQUEST (R352, R348, R357, R347, R482): what
each writes, and that nothing else changes. -/
def Obligations.HostPortEvents : Prop :=
  ∀ (s : State) (v w : Nat) (lopt : Bool),
    (v < 2048 → s.dev.hg.linkWidth ≠ 0 → s.dev.hg.msixEn = true → s.dev.hg.bme = true → s.dev.hg.msixFnMask = false →
      s.dev.hg.msixPending = [v] → exec (.msixUnmask v) s =
        .next { s with dev := { s.dev with hg.msixUnmasked := insertNew v s.dev.hg.msixUnmasked, hg.msixPending := [], hg.msixSent := v :: s.dev.hg.msixSent } }) ∧
    (s.dev.bu.perst = false → s.dev.th.heldInReset = false → s.dev.hg.msixPending = [] →
      exec (.linkUp 16 6 lopt) s = .next { s with dev := { s.dev with hg.linkWidth := 16, hg.linkRate := 6, hg.lopt := lopt } }) ∧
    (s.dev.bu.perst = false → s.dev.th.heldInReset = false → w = 8 ∨ w = 4 ∨ w = 2 ∨ w = 1 → ∃ t : State,
      exec (.linkUp w 6 lopt) s = .next t ∧ t = { s with dev := { s.dev with hg := t.dev.hg, lg := t.dev.lg } } ∧ t.dev.hg.linkWidth = w ∧
      t.dev.hg.errstat.getLsbD 5 = true) ∧
    (s.dev.hg.ide = 1 → ∃ t : State, exec .ideIntegrityFail s = .next t ∧ t = { s with dev := { s.dev with hg := t.dev.hg } } ∧
      t.dev.hg.ide = 2 ∧ t.dev.hg.errstat.getLsbD 2 = true) ∧
    (s.dev.hg.ide ≠ 1 → exec .ideIntegrityFail s = .next s) ∧
    (s.dev.hg.linkWidth ≠ 0 → s.dev.keyUsable = true → exec .ideKeyExchange s = .next { s with dev := { s.dev with hg.ide := 1 } }) ∧
    (s.dev.hg.linkWidth ≠ 0 → exec .cdatTableAccess s = .next { s with dev := { s.dev with hg.doeOut := { code := 2, error := false, data := s.dev.cdat } :: s.dev.hg.doeOut } }) ∧
    (s.dev.hg.linkWidth ≠ 0 → s.dev.keyUsable = false →
      exec (.spdmRequest (.challenge v)) s = .next { s with dev := { s.dev with hg.doeOut := { code := 0x83, error := true, data := [] } :: s.dev.hg.doeOut } }) ∧
    (s.dev.hg.linkWidth ≠ 0 → s.dev.keyUsable = true → ∃ t : State, exec (.spdmRequest (.getMeasurements 5)) s = .next t ∧
      t = { s with dev := { s.dev with free := t.dev.free, hg.doeOut := t.dev.hg.doeOut } } ∧
      ∃ sig, t.dev.hg.doeOut = { code := 0xE0, error := false, data := [5, s.dev.fw.fuseF, s.dev.fw.running.rollback, sig] } :: s.dev.hg.doeOut)

/-- The table of TAP instructions (R517), for each of the four lifecycle states: a permitted instruction becomes the current one with its effect, one
that is not permitted selects the bypass register; CHAIN_SELECT selects the dies that the scope covers, and
where the fault manager takes reports they are treated as isolated; TRST# returns to IDCODE; nothing else changes. -/
def Obligations.TapInstructions : Prop :=
  ∀ (s : State) (pins : Nat) (bits : Word),
    let life := s.dev.fw.lifecycle
    let scope := fun (k : Nat) => s.dev.fw.scope.testBit k
    let sel := fun (ir pins loop : Nat) (dbg : Bool) => Host.Outcome.next (φ := Fault) (ρ := Refusal)
      { s with dev := { s.dev with ts.ir := ir, ts.pinsHeld := pins, ts.jtagLoop := loop, ts.rangerDebug := dbg } }
    let no := sel 0xFF 0 0 false
    let group := fun (p : Nat) => if p = 55 then 3 else if isCompute p then 0 else if isMemory p then 1 else 2
    exec .bypass s = no ∧ exec .idcode s = sel 0x01 0 0 false ∧ exec .trstAssert s = sel 0x01 0 0 false ∧
    exec (.samplePreload pins) s = .next { s with dev := { s.dev with ts.ir := 0x02, ts.pinsHeld := 0, ts.jtagLoop := 0, ts.rangerDebug := false, ts.boundary := pins, ts.captured := pins } } ∧
    (life = 0 ∨ life = 2 → exec .extest s = sel 0x00 1 0 false ∧ exec .clamp s = sel 0x03 1 0 false ∧ exec .highz s = sel 0x04 2 0 false) ∧
    (life = 1 ∨ life = 3 → exec .extest s = (if s.dev.bu.perst then sel 0x00 1 0 false else no) ∧ exec .clamp s = no ∧ exec .highz s = no) ∧
    (life = 0 ∨ (life = 2 ∧ scope 4 = true) → exec .portLoopback s = sel 0x20 0 1 false ∧ exec .bondLoopback s = sel 0x21 0 2 false) ∧
    (life = 1 ∨ life = 3 ∨ (life = 2 ∧ scope 4 = false) → exec .portLoopback s = no ∧ exec .bondLoopback s = no) ∧
    (life = 0 ∨ (life = 2 ∧ scope 5 = true) → exec .rangerDebug s = sel 0x30 0 0 true) ∧
    (life = 1 ∨ life = 3 ∨ (life = 2 ∧ scope 5 = false) → exec .rangerDebug s = no) ∧
    (life = 0 ∨ (life = 2 ∧ (scope 0 = true ∨ scope 1 = true ∨ scope 2 = true ∨ scope 3 = true)) → ∃ t : State,
      exec (.chainSelect bits) s = .next t ∧
      t = { s with dev := { s.dev with ts := t.dev.ts, fa := t.dev.fa, sp := t.dev.sp, str := t.dev.str, gr := t.dev.gr, lg := t.dev.lg, hg := t.dev.hg
                                       th := t.dev.th, fw := t.dev.fw } } ∧
      (s.dev.faultsTaken = false → t = { s with dev := { s.dev with ts := t.dev.ts } }) ∧
      t.dev.ts.ir = 0x10 ∧
      ∀ p, t.dev.ts.chain.testBit p = (bits.getLsbD p && decide (p < 56) && (life == 0 || scope (group p)))) ∧
    (life = 1 ∨ life = 3 ∨ (life = 2 ∧ scope 0 = false ∧ scope 1 = false ∧ scope 2 = false ∧ scope 3 = false) → exec (.chainSelect bits) s = no)

/-- What a command's outcome is: its status, body and effect, which COMMAND_COMPLETE then writes; no other channel and no other part of
the device changes. -/
def Obligations.AnswerLeavesOutcome : Prop :=
  ∀ (d : Dev) (ch status effect : Nat) (body : List Byte),
    let e := d.answer ch status body effect
    e = { d with mb := e.mb } ∧ e.mb = { d.mb with chans := e.mb.chans } ∧
    (e.chan ch).outcome = some { status, body, effect } ∧
    e.chan ch = { d.chan ch with outcome := (e.chan ch).outcome, journaled := (e.chan ch).journaled } ∧
    ((e.chan ch).journaled = true → status = stOk ∨ status = stAccepted ∨ status = stDegraded) ∧
    ∀ other, other ≠ ch → e.chan other = d.chan other

/-- The queries that change nothing (R373, R374, R382, R481, R167, R425, R336, R275): each leaves OK with its body, and the bodies have the
sizes of chapter 12. -/
def Obligations.StatusQueries : Prop :=
  ∀ (s : State) (ch : Nat),
    let ok := fun (body : List Byte) => Host.Outcome.next (φ := Fault) (ρ := Refusal) { s with dev := s.dev.answer ch stOk body 0 }
    (s.atWork 0x0001 ch → exec (.devQuery ch) s = ok s.dev.queryBody ∧ s.dev.queryBody.length = 64) ∧
    (s.atWork 0x0002 ch → exec (.devState ch) s = ok s.dev.stateBody ∧ s.dev.stateBody.length = 32) ∧
    (s.atWork 0x0013 ch → exec (.hostKeepalive ch) s = ok (zeros 8 ++ leBytes 8 s.dev.tb.ns)) ∧
    (s.atWork 0x0505 ch → exec (.licenceQuery ch) s = ok (leBytes 4 s.dev.fw.licences.length ++ leBytes 4 s.dev.fw.licValid ++
      leBytes 8 s.dev.fw.features ++ leBytes 8 s.dev.fw.featNext)) ∧
    (s.atWork 0x0405 ch → exec (.timebaseStatus ch) s = ok s.dev.timebaseBody ∧ s.dev.timebaseBody.length = 64) ∧
    (s.atWork 0x0403 ch → exec (.thermalPolicyQuery ch) s = ok s.dev.thermalBody ∧ s.dev.thermalBody.length = 88) ∧
    (s.atWork 0x0305 ch → exec (.fabricQuery ch) s = ok s.dev.fabricBody ∧ s.dev.fabricBody.length = 64 + 8 * 64) ∧
    (s.atWork 0x0603 ch → u8 (s.body ch) 0 ≤ 3 → exec (.calibrationStatus ch) s = ok (s.dev.calBody (u8 (s.body ch) 0)))

/-- The reads that write a buffer (R433, R379, R488, R459, R154): a buffer that is legal and large enough takes the records; one that
is too small takes nothing, and the answer names the bytes needed. -/
def Obligations.BufferReads : Prop :=
  ∀ (s : State) (ch : Nat),
    let b := s.body ch
    let d := s.dev
    (s.atWork 0x0003 ch → u64 b 0 % 64 = 0 → u32 b 8 % 32 = 0 →
      let es := (d.bu.log.reverse.drop (u32 b 12)).take (u32 b 8 / 32)
      let reports := ((List.range 10).map d.stageEntry).flatten
      reports.length = 640 ∧
      let put := d.store (u64 b 0) (es.map BringLog.bytes).flatten
      let read := fun (d : Dev) (n : Nat) => d.answer ch stOk (reports ++ leBytes 4 n ++ leBytes 4 d.bu.log.length) 0
      (d.mem.ready = true → d.hbmRange (u64 b 0) (u32 b 8) = true → exec (.bringupLogRead ch) s = .next { s with dev := read put es.length }) ∧
      (d.mem.ready = false ∨ d.hbmRange (u64 b 0) (u32 b 8) = false → exec (.bringupLogRead ch) s = .next { s with dev := read d 0 })) ∧
    (s.atWork 0x0602 ch → d.bufferOk (u64 b 0) (u64 b 8) = true →
      let need := 64 + 32 * d.sp.fdm.length
      (u64 b 8 < need → exec (.defectMapRead ch) s = .next { s with dev := d.answer ch stNoResource (leBytes 4 need) 0 }) ∧
      (need ≤ u64 b 8 → exec (.defectMapRead ch) s = .next { s with dev := (d.store (u64 b 0) d.fdmBytes).answer ch stOk (leBytes 4 need) 0 } ∧
        d.fdmBytes.length = need)) ∧
    (s.atWork 0x0601 ch → d.bufferOk (u64 b 16) (32 * u32 b 8) = true → u32 b 12 = 0 → ∃ (es : List Event) (t : State),
      exec (.eventLogRead ch) s = .next t ∧ es.length ≤ u32 b 8 ∧ (∀ e ∈ es, e ∈ d.lg.entries ∧ u64 b 0 ≤ e.number) ∧
      t = { s with dev := { d with mb := t.dev.mb, mem := t.dev.mem, hg := t.dev.hg } } ∧
      (t.outcome ch).map (·.status) = some stOk) ∧
    (s.atWork 0x0600 ch → u16 b 0 = 2 → u16 b 2 = 0xFFFF → u32 b 4 = 0 → d.bufferOk (u64 b 8) (u64 b 16) = true →
      let need := 16 + 16 * d.ba.standing.length
      d.ba.standing.all (fun g => decide (g.plane < 4)) = true →
      (u64 b 16 < need → exec (.telemetryRead ch) s = .next { s with dev := d.answer ch stNoResource (leBytes 4 need ++ zeros 4) 0 }) ∧
      (need ≤ u64 b 16 → ∃ t : State, exec (.telemetryRead ch) s = .next t ∧
        t = { s with dev := { d with mb := t.dev.mb, mem := t.dev.mem, hg := t.dev.hg } } ∧
        t.ended ch stOk (leBytes 4 need ++ leBytes 4 d.ba.standing.length))) ∧
    (s.atWork 0x0103 ch → u32 b 4 = 0 → u64 b 8 = 0 ∨ d.bufferOk (u64 b 8) (u64 b 16) = true → ∀ g, d.graph? (u32 b 0) = some g →
      (u64 b 8 = 0 ∨ g.placed = none → exec (.graphQuery ch) s = .next { s with dev := d.answer ch stOk (d.summary g) 0 }) ∧
      (∀ p, g.placed = some p → u64 b 8 ≠ 0 →
        (u64 b 16 < p.reportBytes → exec (.graphQuery ch) s = .next { s with dev := d.answer ch stNoResource (d.summary g) 0 }) ∧
        (p.reportBytes ≤ u64 b 16 → exec (.graphQuery ch) s =
          .next { s with dev := (d.store (u64 b 8) (d.report g.handle p)).answer ch stOk (d.summary g) 0 })))

/-- SESSION_OPEN (R380, R381): a new session with the hold time asked for (0: 600 s), a new id and a token; and SESSION_CLOSE (R383): it
waits for the session's other commands and for what its result rings' consumed fields are read as (log 36); then the session, its graphs, rings and
regions are gone. -/
def Obligations.SessionOpenClose : Prop :=
  ∀ (s : State) (ch : Nat),
    (s.atWork 0x0010 ch → u32 (s.body ch) 16 = 0 ∨ (10 ≤ u32 (s.body ch) 16 ∧ u32 (s.body ch) 16 ≤ 3600) →
      s.dev.ses.list.length < 64 → s.dev.ses.nextId ≤ 0xFFFFFFFF → ∃ (t : State) (x : Session),
      exec (.sessionOpen ch) s = .next t ∧ t = { s with dev := { s.dev with mb := t.dev.mb, ses := t.dev.ses, free := t.dev.free } } ∧
      t.dev.ses.list = s.dev.ses.list ++ [x] ∧ x.id = s.dev.ses.nextId ∧ t.dev.ses.nextId = s.dev.ses.nextId + 1 ∧ x.token < 2 ^ 128 ∧
      x.hold = (if u32 (s.body ch) 16 = 0 then 600 else u32 (s.body ch) 16) ∧ x.orphaned = none ∧
      t.ended ch stOk (leBytes 4 x.id ++ zeros 4 ++ leBytes 16 x.token)) ∧
    (s.atWork 0x0011 ch →
      let id := s.session ch
      let ready := s.dev.prepareClose [id]
      let gone := fun (t : State) => (∀ x ∈ t.dev.ses.list, x.id ≠ id) ∧ (∀ g ∈ t.dev.gr.list, g.session ≠ id) ∧
        (∀ r ∈ t.dev.gr.regions, r.session ≠ id) ∧ (∀ r ∈ t.dev.str.intakes, r.session ≠ id) ∧ ∀ r ∈ t.dev.str.results, r.session ≠ id
      (s.dev.sessionBusy id (some ch) = true → exec (.sessionClose ch) s = .next { s with dev := s.dev.onSession id fun x => { x with closing := true } }) ∧
      (s.dev.sessionBusy id (some ch) = false → ready.2 = false → exec (.sessionClose ch) s = .next { s with dev := ready.1 }) ∧
      (s.dev.sessionBusy id (some ch) = false → ready.2 = true → ∃ (t : State) (written lost : Nat), exec (.sessionClose ch) s = .next t ∧
        t.pending = s.pending ∧ gone t ∧
        t.ended ch stOk (leBytes 4 (s.dev.str.list.filter (·.session == id)).length ++ leBytes 4 written ++ leBytes 4 lost)))

/-- SESSION_REATTACH with the token (R384), the ORPHANED instant (R382), the end of the hold time (R383) and of the reattach lock-out
(R384). -/
def Obligations.SessionTimers : Prop :=
  ∀ (s : State) (ch id : Nat) (x : Session), s.dev.session? id = some x →
    (s.atWork 0x0012 ch → s.session ch = 0 → u32 (s.body ch) 0 = id → u32 (s.body ch) 4 = 0 → x.closing = false → x.lockout = none →
      field (s.body ch) 8 16 = x.token → ∃ t : State, exec (.sessionReattach ch) s = .next t ∧ t.pending = s.pending ∧
      (t.dev.session? id).map (·.orphaned) = some none ∧ (t.outcome ch).map (·.status) = some stOk ∧
      t.dev.gr = s.dev.gr ∧ t.dev.str = s.dev.str) ∧
    (x.orphaned = none → x.closing = false → s.dev.fw.handover = none → ∃ t : State, exec (.sessionOrphanTimer id) s = .next t ∧
      t = { s with dev := { s.dev with tb := t.dev.tb, ses := t.dev.ses, lg := t.dev.lg, hg := t.dev.hg } } ∧
      t.dev.tb.ns = max s.dev.tb.ns (x.lastDoorbell + 5000000000) ∧ t.dev.session? id = some { x with orphaned := some t.dev.tb.ns }) ∧
    (∀ a, x.orphaned = some a → x.closing = false → s.dev.reattaching id = false → s.dev.sessionBusy id none = false →
      (s.dev.str.results.any fun r => r.session == id) = false → ∃ t : State,
      exec (.orphanHoldExpiry id) s = .next t ∧ t.pending = s.pending ∧ (∀ y ∈ t.dev.ses.list, y.id ≠ id) ∧
      (∀ g ∈ t.dev.gr.list, g.session ≠ id)) ∧
    (∀ a, x.lockout = some a → ∃ t : State, exec (.reattachLockoutExpiry id) s = .next t ∧
      t = { s with dev := { s.dev with tb := t.dev.tb, ses := t.dev.ses } } ∧ t.dev.tb.ns = max s.dev.tb.ns a ∧
      t.dev.session? id = some { x with lockout := none })

/-- Settings that a command keeps or schedules (R403, R409, R420, R289, R159, R169, R394, R335): what each writes, its status, and the
boundary its answer names. -/
def Obligations.SettingCommands : Prop :=
  ∀ (s : State) (ch : Nat),
    let b := s.body ch
    let d := s.dev
    (s.atWork 0x0400 ch → 12500 ≤ u32 b 0 → u32 b 0 ≤ 15000 → u32 b 0 % 100 = 0 → u8 b 4 = 0 →
      exec (.powerCapSet ch) s = .next
        ⟨Dev.answer ch stAccepted (leBytes 4 (d.derated (u32 b 0))) d.rd.next { d with pw.capNext := some (u32 b 0), pw.capSetRound := true }, s.pending⟩) ∧
    (s.atWork 0x0402 ch → u8 b 0 ≤ 1 → u8 b 1 ≤ 16 →
      exec (.trickleConfig ch) s = .next { s with dev := Dev.answer ch stAccepted [] d.rd.next { d with pw.trickleNext := some (u8 b 0 == 1, u8 b 1) } }) ∧
    (s.atWork 0x0406 ch → coolantOk b = true → d.flashOk = true → ∃ t : State, exec (.coolantConfig ch) s = .next t ∧
      t = { s with dev := { d with mb := t.dev.mb, th := t.dev.th, fw := t.dev.fw } } ∧ t.dev.th.minFlow = u16 b 4 ∧
      t.dev.th.dutyMin = u16 b 6 ∧ t.dev.th.dutyMax = u16 b 8 ∧ t.dev.th.rise = u16 b 10 ∧ t.dev.conf.coolant = b.take 16 ∧ t.ended ch stOk []) ∧
    (s.atWork 0x0301 ch → u8 b 0 ≤ 9 → d.flashOk = true → ∃ t : State, exec (.mirrorConfig ch) s = .next t ∧
      t = { s with dev := { d with mb := t.dev.mb, fw := t.dev.fw } } ∧ t.dev.conf.mirror = u8 b 0 ∧ t.dev.mem.mirror = d.mem.mirror ∧
      t.outcome ch = some { status := stAccepted, body := [], effect := atNextStart }) ∧
    (s.atWork 0x0404 ch → u8 b 0 = 1 → u8 b 1 ≤ 1 → u16 b 2 = 0 → u32 b 4 ≤ 10000 → d.flashOk = true → d.tb.st = .free →
      ∃ t : State, exec (.timebaseConfig ch) s = .next t ∧ t = { s with dev := { d with mb := t.dev.mb, fw := t.dev.fw, tb := t.dev.tb } } ∧
      t.dev.tb = { d.tb with freeRun := true, ppsDelay := u32 b 4 } ∧ t.dev.conf.tbMode = 1 ∧ t.ended ch stOk []) ∧
    (s.atWork 0x0200 ch → (∀ g ∈ d.gr.list, g.isPlaced = false) → 400 ≤ u32 b 0 → u32 b 0 ≤ 10000 → u32 b 0 % 100 = 0 → u64 b 8 ≤ d.tb.ns →
      2 ≤ u32 b 4 → u32 b 4 ≤ 1000 →
      exec (.roundConfig ch) s = .next
        ⟨Dev.answer ch stAccepted (zeros 8) 0 { d with rd.pending := d.rd.pending ++ [{ ch, period := u32 b 0 * 1000, epoch := u64 b 8, timeout := u32 b 4 * 1000 }] }, s.pending⟩) ∧
    (s.atWork 0x0401 ch → u8 b 0 = 9 → u8 b 1 = 0 → stepOk .cd9 (u16 b 2) = true → d.str.slack = false → d.ck.cd9 ≠ u16 b 2 → ∃ t : State,
      exec (.freqStepSet ch) s = .next t ∧ t = { s with dev := { d with mb := t.dev.mb, ck := t.dev.ck } } ∧
      t.dev.ck.req9 = some { mhz := u16 b 2, at_ := d.voteBoundary } ∧ t.dev.ck.cd9 = d.ck.cd9 ∧ t.dev.ck.cd10 = d.ck.cd10 ∧
      t.outcome ch = some { status := stAccepted, body := [], effect := d.voteBoundary }) ∧
    (s.atWork 0x0304 ch → d.sw.joined = true → u8 b 0 = 0 → u8 b 1 = 0 → d.tableFits b = true → ∀ es, d.tableEntries b = some es →
      exec (.fabricTableSet ch) s = .next { s with dev := Dev.answer ch stOk [] 0 { d with sw.table := setTable (u16 b 2) es d.sw.table } })

/-- GRAPH_LOAD (R109, R116): an image that validates becomes a graph of the session under a new handle; the first failure is answered with
its status and the four values of R150, and loads nothing. -/
def Obligations.GraphLoad : Prop :=
  ∀ (s : State) (ch : Nat), s.atWork 0x0100 ch → s.dev.graphTurn ch = true →
    let d := s.dev
    let a := u64 (s.body ch) 0
    let n := u64 (s.body ch) 8
    (d.rangePopulated a n = false ∨ d.mustSnoop a n = false) →
    (∀ img, d.validate a n = .ok img → ∃ t : State, exec (.graphLoad ch) s = .next t ∧
      t = { s with dev := { d with mb := t.dev.mb, gr := t.dev.gr } } ∧ t.dev.gr.nextHandle = d.gr.nextHandle + 1 ∧
      (∃ g, t.dev.gr.list = d.gr.list ++ [g] ∧ g.handle = d.gr.nextHandle ∧ g.session = s.session ch ∧ g.image = img ∧ g.placed = none) ∧
      t.ended ch stOk (leBytes 4 d.gr.nextHandle ++ noFail)) ∧
    (∀ f, d.validate a n = .error f →
      exec (.graphLoad ch) s = .next { s with dev := d.answer ch f.status (leBytes 4 none32 ++ f.bytes) 0 }) ∧
    (a % 64 ≠ 0 → d.validate a n = .error (.bare 0x01))

/-- GRAPH_UNLOAD (R110): a LOADED or PLACED graph is released, a BOUND one is not. GRAPH_PLACE (R151, R152): a placement that is found
waits for its boundary, with the next generation. -/
def Obligations.GraphUnloadPlace : Prop :=
  ∀ (s : State) (ch : Nat) (g : Graph), s.dev.graphTurn ch = true → s.dev.graphOf (s.session ch) (u32 (s.body ch) 0) = some g →
    (s.atWork 0x0101 ch → s.dev.graphState g ≠ 2 →
      exec (.graphUnload ch) s = .next { s with dev := Dev.answer ch stOk [] 0 { s.dev with gr.list := s.dev.gr.list.filter (·.handle != g.handle) } }) ∧
    (s.atWork 0x0101 ch → s.dev.graphState g = 2 → ∃ t : State, exec (.graphUnload ch) s = .next t ∧
      t = { s with dev := { s.dev with mb := t.dev.mb } } ∧ (t.outcome ch).map (·.status) = some stConflict) ∧
    (s.atWork 0x0102 ch → s.dev.graphState g ≠ 2 → g.installing = none → ∀ bind, bindingOf g.image (s.body ch) = some bind →
      g.image.weights = [] → s.dev.rackFail g = none → (s.dev.permitted bind).isEmpty = false → s.dev.decodeOk g bind = true →
      (∀ k < 16, (s.dev.readOnlyRanges (s.dev.placedWith g) k).length ≤ 256) → ∃ t : State, exec (.graphPlace ch) s = .next t ∧
      t = { s with dev := { s.dev with free := t.dev.free, gr := t.dev.gr, mb := t.dev.mb } } ∧
      ((s.dev.plan s.dev.free g bind).isSome = true → t.dev.mb = s.dev.mb ∧ ∃ p : Placement, p.binding = bind ∧
        p.generation = g.placed.elim 1 (·.generation + 1) ∧ ∀ x ∈ t.dev.gr.list, x.handle = g.handle → x.installing = some p) ∧
      (s.dev.plan s.dev.free g bind = none → t.dev.gr = s.dev.gr ∧ t.ended ch stNoResource (placeBody 0 0 (LoadFail.bytes (.bare 0x24)))))

/-- REGION_MAP and its unmap flag (R279), and DECODE_POOL_CONFIG (R202). -/
def Obligations.RegionsAndPools : Prop :=
  ∀ (s : State) (ch : Nat),
    let b := s.body ch
    let d := s.dev
    (s.atWork 0x0300 ch → u8 b 1 ≤ 1 → field b 2 6 = 0 → u64 b 24 = 0 → d.regionOk (u8 b 0) (u64 b 8) (u64 b 16) = true →
      d.gr.regions.length < 4096 →
      let r : Region := { handle := d.gr.nextRegion, session := s.session ch, stackLocal := u8 b 0 == 1, readOnly := bitOf (u8 b 1) 0, dpa := u64 b 8, length := u64 b 16 }
      exec (.regionMap ch) s = .next { s with dev := Dev.answer ch stOk (leBytes 8 r.handle) 0 { d with gr.regions := d.gr.regions ++ [r], gr.nextRegion := d.gr.nextRegion + 1 } }) ∧
    (s.atWork 0x0300 ch → u8 b 1 = 2 ∨ u8 b 1 = 3 → u8 b 0 ≤ 1 → field b 2 6 = 0 → ∀ r, d.regionOf (s.session ch) (u64 b 24) = some r →
      d.regionUser r = none →
      exec (.regionUnmap ch) s = .next { s with dev := Dev.answer ch stOk (leBytes 8 0) 0 { d with gr.regions := d.gr.regions.filter (·.handle != r.handle) } }) ∧
    (s.atWork 0x0300 ch → u8 b 1 = 0 → (u64 b 8 % 4096 ≠ 0 ∨ u64 b 16 % 4096 ≠ 0 ∨ u64 b 16 = 0) →
      exec (.regionMap ch) s = .next { s with dev := d.answer ch stBadParam [] 0 }) ∧
    (s.atWork 0x0207 ch → ∀ g y tpp, d.graphOf (s.session ch) (u32 b 0) = some g → (d.regionOf (s.session ch) (u64 b 16)).isSome = true →
      d.graphState g ≠ 2 → g.image.decls[u8 b 4]? = some y → y.kind = 1 → kvTokens g.image y.kvState = some tpp → u8 b 5 = 0 → u32 b 12 = 0 →
      1 ≤ u16 b 6 → u16 b 6 ≤ 256 → 1 ≤ u32 b 8 → u32 b 8 ≤ 32768 → ∃ t : State, exec (.decodePoolConfig ch) s = .next t ∧
      t = { s with dev := { d with mb := t.dev.mb, gr.list := t.dev.gr.list } } ∧
      t.ended ch stOk (leBytes 4 (u16 b 6 * ((u32 b 8 + tpp - 1) / tpp)) ++ leBytes 4 tpp))

/-- INTAKE_RING_CREATE and RESULT_RING_CREATE (R177, R178, R180): a new ring of the session with the next handle, its counts 0; a
misaligned control block is refused. -/
def Obligations.RingCreate : Prop :=
  ∀ (s : State) (ch : Nat),
    let b := s.body ch
    let d := s.dev
    (s.atWork 0x0203 ch → d.ringOk true b = true → d.str.intakes.length < 1024 → ∃ (t : State) (r : IntakeRing),
      exec (.intakeRingCreate ch) s = .next t ∧ t = { s with dev := { d with mb := t.dev.mb, str := t.dev.str, mem := t.dev.mem, hg := t.dev.hg } } ∧
      t.dev.str.intakes = d.str.intakes ++ [r] ∧ r.handle = d.str.nextRing ∧ r.session = s.session ch ∧ r.entries = u32 b 4 ∧ r.consumer = 0 ∧
      r.control = u64 b 8 ∧ r.array = u64 b 16 ∧ r.stream = none ∧ t.ended ch stOk (leBytes 4 r.handle)) ∧
    (s.atWork 0x0204 ch → d.ringOk false b = true → d.str.results.length < 256 → ∃ (t : State) (r : ResultRing),
      exec (.resultRingCreate ch) s = .next t ∧ t = { s with dev := { d with mb := t.dev.mb, str := t.dev.str, mem := t.dev.mem, hg := t.dev.hg } } ∧
      t.dev.str.results = d.str.results ++ [r] ∧ r.handle = d.str.nextRing ∧ r.session = s.session ch ∧ r.entries = u32 b 4 ∧ r.written = 0 ∧
      r.published = 0 ∧ r.consumed = 0 ∧ r.vector = u16 b 2 ∧ t.ended ch stOk (leBytes 4 r.handle)) ∧
    (s.atWork 0x0203 ch → u64 b 8 % 128 ≠ 0 → exec (.intakeRingCreate ch) s = .next { s with dev := d.answer ch stBadParam [] 0 }) ∧
    (s.atWork 0x0204 ch → 1 ≤ u16 b 2 → u16 b 2 ≤ 256 → exec (.resultRingCreate ch) s = .next { s with dev := d.answer ch stBadParam [] 0 })

/-- STREAM_CREATE (R176, R177), STREAM_PAUSE, STREAM_RESUME (R209, R376) and STREAM_DESTROY (R210). -/
def Obligations.StreamCommands : Prop :=
  ∀ (s : State) (ch : Nat),
    let b := s.body ch
    let d := s.dev
    (∀ g res r, s.atWork 0x0201 ch → d.graphOf (s.session ch) (u32 b 0) = some g → g.isPlaced = true →
      d.str.results.find? (fun r => r.handle == u32 b 8 && r.session == s.session ch) = some res → res.stream = none → u8 b 5 = 1 →
      u16 b 6 = 0xFFFF → d.str.intakes.find? (fun r => r.handle == u32 b 16 && r.session == s.session ch) = some r → r.stream = none →
      d.streamOk g b = true → d.str.list.length < 256 → ∃ (t : State) (x : Stream), exec (.streamCreate ch) s = .next t ∧
      t = { s with dev := { d with mb := t.dev.mb, str := t.dev.str } } ∧ t.dev.str.list = d.str.list ++ [x] ∧ x.id = d.freeStream ∧
      x.session = s.session ch ∧ x.graph = u32 b 0 ∧ x.decl = u8 b 4 ∧ x.result = u32 b 8 ∧ x.intakes = [u32 b 16] ∧ x.pausedNext = false ∧
      x.items = [] ∧ t.ended ch stOk (leBytes 2 d.freeStream ++ zeros 2)) ∧
    (∀ x, d.str.list.find? (fun st => st.id == u16 b 0 && st.session == s.session ch) = some x →
      (s.atWork 0x0205 ch → x.pausedNext = false → exec (.streamPause ch) s =
        .next { s with dev := (d.onStream (u16 b 0) fun st => { st with pausedNext := true }).answer ch stAccepted [] d.rd.next }) ∧
      (s.atWork 0x0205 ch → x.pausedNext = true → exec (.streamPause ch) s = .next { s with dev := d.answer ch stOk [] 0 }) ∧
      (s.atWork 0x0206 ch → x.pausedNext = true → exec (.streamResume ch) s =
        .next { s with dev := (d.onStream (u16 b 0) fun st => { st with pausedNext := false }).answer ch stAccepted [] d.rd.next }) ∧
      (s.atWork 0x0202 ch → x.pausedNext = true → exec (.streamDestroy ch) s =
        .next { s with dev := d.onStream (u16 b 0) fun st => { st with destroying := some ch } }) ∧
      (s.atWork 0x0202 ch → x.pausedNext = false → ∃ t : State, exec (.streamDestroy ch) s = .next t ∧
        t = { s with dev := { d with mb := t.dev.mb } } ∧ (t.outcome ch).map (·.status) = some stConflict))

/-- The update procedure of firmware and configuration (R470 to R475), as each step is accepted. -/
def Obligations.FirmwareUpdate : Prop :=
  ∀ (s : State) (ch : Nat),
    let b := s.body ch
    let d := s.dev
    (s.atWork 0x0500 ch → u8 b 0 = 0 → field b 1 3 = 0 → d.fw.update ≠ 2 → d.fw.activated = false → 4096 ≤ u32 b 4 → u32 b 4 ≤ 41943040 →
      d.flashOk = true → ∃ t : State, exec (.fwUpdateBegin ch) s = .next t ∧ t = { s with dev := { d with mb := t.dev.mb, fw := t.dev.fw } } ∧
      t.dev.fw.proc = some { target := 0, length := u32 b 4, version := u32 b 8, blocks := [] } ∧ t.dev.fw.update = 0 ∧
      t.dev.fw.fuseF = d.fw.fuseF ∧ t.ended ch stOk (leBytes 1 d.otherSlot ++ zeros 3 ++ leBytes 4 (blockCount (u32 b 4)))) ∧
    (∀ p bs, s.atWork 0x0501 ch → d.fw.proc = some p → p.target = 1 → u32 b 0 = 0 → p.length = 64 → p.blocks = [] → u64 b 8 % 64 = 0 →
      d.rangePopulated (u64 b 8) 65536 = true → d.mustSnoop (u64 b 8) 65536 = false → d.readBytes (u64 b 8) 65536 = some bs →
      d.flashOk = true →
      (crc32c bs = u32 b 4 → exec (.fwUpdateBlock ch true) s =
        .next { s with dev := Dev.answer ch stOk [] 0 { d with fw.proc := some { p with blocks := [(0, bs)] } } }) ∧
      (crc32c bs ≠ u32 b 4 → exec (.fwUpdateBlock ch true) s = .next { s with dev := d.answer ch stBadParam [] 0 })) ∧
    (∀ p, s.atWork 0x0502 ch → d.fw.proc = some p → p.target = 1 → p.length = 64 → (p.blocks.any (·.1 == 0)) = true →
      confOk (blockBytes 1 p.blocks) = true → allZero ((blockBytes 1 p.blocks).drop 64) = true → d.flashOk = true → ∃ t : State,
      exec (.fwUpdateCommit ch) s = .next t ∧ t = { s with dev := { d with mb := t.dev.mb, fw := t.dev.fw } } ∧ t.dev.fw.proc = none ∧
      t.dev.conf.cap = u32 (blockBytes 1 p.blocks) 0x18 ∧ t.ended ch stOk (zeros 12)) ∧
    (s.atWork 0x0502 ch → d.fw.proc = none → ∃ t : State, exec (.fwUpdateCommit ch) s = .next t ∧
      t = { s with dev := { d with mb := t.dev.mb } } ∧ (t.outcome ch).map (·.status) = some stConflict) ∧
    (s.atWork 0x0503 ch → u8 b 0 = 1 → d.fw.update = 1 → d.flashOk = true → ∃ t : State, exec (.fwActivate ch) s = .next t ∧
      t = { s with dev := { d with mb := t.dev.mb, fw := t.dev.fw } } ∧ t.dev.fw.activated = true ∧
      t.outcome ch = some { status := stAccepted, body := [], effect := atNextStart }) ∧
    (∀ img, s.atWork 0x0503 ch → u8 b 0 = 0 → d.fw.update = 1 → d.simplex = false → (d.slot d.otherSlot).image = some img →
      d.liveFlag img = true → d.flashOk = true → ∃ (t : State) (l : Live), exec (.fwActivateLive ch) s = .next t ∧ t.pending = s.pending ∧
      t.dev.fw.update = 2 ∧ t.dev.fw.live = some l ∧ l.started = d.tb.ns ∧ d.tb.ns + 5000000000 ≤ l.m ∧ t.dev.fw.standby = .booting ∧
      t.outcome ch = some { status := stAccepted, body := [], effect := l.m })

/-- LICENCE_INSTALL (R481), DEBUG_NONCE_REQUEST and DEBUG_UNLOCK (R484): a licence of this unit joins at the next boundary, a nonce replaces
the last one, and a token spends it whether it is valid or not. -/
def Obligations.LicencesAndTokens : Prop :=
  ∀ (s : State) (ch : Nat),
    let b := s.body ch
    let d := s.dev
    let tok := (b.take 136).drop 8
    (s.atWork 0x0504 ch → licenceBad (b.take 256) = false → u64 (b.take 256) 8 = d.fw.serial → d.fw.licences.contains (b.take 256) = false →
      d.fw.licences.length < 4096 → d.flashOk = true → exec (.licenceInstall ch) s =
        .next ⟨if Config.sigValid 1 (b.take 256) = true then
            Dev.answer ch stAccepted [] d.rd.next { d with fw.licences := d.fw.licences ++ [b.take 256], fw.licValid := d.fw.licValid + 1, fw.featNext := d.fw.featNext ||| u64 (b.take 256) 0x10 }
          else d.answer ch stAuthFail [] 0, s.pending⟩) ∧
    (s.atWork 0x0504 ch → licenceBad (b.take 256) = false → u64 (b.take 256) 8 ≠ d.fw.serial →
      exec (.licenceInstall ch) s = .next { s with dev := d.answer ch stAuthFail [] 0 }) ∧
    (s.atWork 0x0506 ch → d.hg.devState = .ready → u8 b 0 = 1 → allZero ((b.take 136).drop 1) = true → ∃ (t : State) (n : Nat), exec (.debugNonceRequest ch) s = .next t ∧
      t = { s with dev := { d with mb := t.dev.mb, free := t.dev.free, fw.nonce := some n } } ∧ n < 2 ^ 256 ∧ t.ended ch stOk (leBytes 32 n)) ∧
    (s.atWork 0x0506 ch → d.hg.devState = .ready → allZero (b.take 8) = true → u8 b 0 = 0 → u32 tok 0 = 0x4B474244 → u16 tok 4 = 1 → u8 tok 7 = 0 → u64 tok 56 = 0 →
      u8 tok 6 = 1 → d.fw.lifecycle = 1 →
      let valid := u64 tok 8 = d.fw.serial ∧ d.fw.nonce = some (field tok 16 32) ∧ Config.sigValid 2 (tok.take 128) = true
      ∃ t : State, exec (.debugUnlock ch) s = .next t ∧ t = { s with dev := { d with mb := t.dev.mb, fw := t.dev.fw } } ∧
        (valid → t.dev.fw = { d.fw with nonce := none, lifecycle := 2, debugLatch := true, scope := u64 tok 48 } ∧
          t.outcome ch = some { status := stAccepted, body := [], effect := atNextStart }) ∧
        (¬valid → t.dev.fw = { d.fw with nonce := none } ∧ t.ended ch stAuthFail []))

/-- CRUISER_RUN (R306), SELFTEST_RUN (R378), TEST_MODE_ENTER and TEST_MODE_EXIT (R376, R521). -/
def Obligations.TestCommands : Prop :=
  ∀ (s : State) (ch dur : Nat),
    let b := s.body ch
    let d := s.dev
    (s.atWork 0x0605 ch → u8 b 0 ≤ 16 → u8 b 1 ≤ 3 → u8 b 2 = 2 → field b 3 5 = 0 → 1 ≤ u64 b 16 → u64 b 16 ≤ 2 ^ 36 →
      d.scanRange (u8 b 0) (u64 b 8) (u64 b 16) = true → d.contextFree ch (u8 b 0) = true → d.rangePopulated (u64 b 8) (u64 b 16) = true →
      d.mustSnoop (u64 b 8) (u64 b 16) = false →
      let v := crcRun (u8 b 1) (crcInit (u8 b 1)) (d.scanBytes (u64 b 8) (u64 b 16))
      exec (.cruiserRun ch) s = .next ⟨Dev.answer ch stOk (leBytes 8 v ++ leBytes 8 (crcFinal (u8 b 1) v) ++ leBytes 8 d.tb.ns) 0 { d with free := d.free + 1 }, s.pending⟩) ∧
    (s.atWork 0x0604 ch → u8 b 8 = 0 →
      let mine := d.ts.runs.find? fun r => r.ch == some ch && decide ((d.chan ch).accepted ≤ r.since)
      let u := u64 b 0
      (mine = none → selfTestUnit u = true → d.testRefused u false = false → ∃ t : State, exec (.selftestRun ch .pass dur) s = .next t ∧ t.dev.tb = d.tb ∧
        t.dev.ts.runs = d.ts.runs ++ [{ ch := some ch, unit := u, since := d.tb.ns, degraded := d.sp.degraded, wasOut := d.unitOut u }] ∧
        (unitKind u = 5 → unitPlace u ∈ t.dev.sp.out ∨ d.inService (unitPlace u) = false) ∧ (unitKind u = 0x0B → (t.dev.stack (unitPlace u)).fenced = true) ∧
        (unitKind u ≠ 5 → unitKind u ≠ 0x0B → unitKind u ≠ 0x0E → heldUnit u ∈ t.dev.fa.testing)) ∧
      (∀ r, mine = some r → ∃ t : State, exec (.selftestRun ch .pass dur) s = .next t ∧
        t = { s with dev := { d with mb := t.dev.mb, tb := t.dev.tb, ts := t.dev.ts } } ∧ t.dev.tb.ns = max d.tb.ns (r.since + dur) ∧
        t.dev.ts.runs = d.ts.runs.filter (· != r) ++ [{ r with ch := none }] ∧
        t.ended ch stOk (leBytes 1 0 ++ leBytes 1 0 ++ zeros 2 ++ leBytes 4 (dur / 1000)))) ∧
    (s.atWork 0x0700 ch → d.hg.devState = .ready → u8 b 0 = 5 → (∀ x ∈ d.ses.list, x.id = s.session ch) → ∃ t : State, exec (.testModeEnter ch) s = .next t ∧
      t = { s with dev := { d with mb := t.dev.mb, hg := t.dev.hg, ts := t.dev.ts } } ∧ t.dev.hg.devState = .test ∧ t.dev.ts.selector = some 5 ∧
      t.dev.ts.entered = d.tb.ns ∧ t.ended ch stOk []) ∧
    (ch < 256 → d.runs 0x0701 ch = true → d.hg.devState = .test →
      exec (.testModeExit ch) s = .next ⟨Dev.answer ch stAccepted [] atNextStart { d with ts.selector := none }, s.pending⟩)

/-- Inputs of the timebase (R158, R160, R162, R163, R157, R166): what each event does to the timebase, and that a loss in LOCKED leads to
HOLDOVER with its cause. -/
def Obligations.TimebaseInputs : Prop :=
  ∀ (s : State) (prev : Nat) (bytes : List Byte),
    let d := s.dev
    (d.tb.st = .locked → ∃ t : State, exec .tbClkLoss s = .next t ∧ t = { s with dev := { d with tb := t.dev.tb, lg := t.dev.lg, hg := t.dev.hg } } ∧
      t.dev.tb.st = .holdover ∧ t.dev.tb.cause = 1 ∧ t.dev.tb.clk = false ∧ t.dev.tb.incr = 0 ∧
      t.dev.tb.holdSince = some (d.tb.holdSince.getD d.tb.ns) ∧ t.dev.hg.intstat.getLsbD 3 = true) ∧
    (d.tb.st = .free → exec .tbClkLoss s = .next { s with dev := { d with tb.clk := false } }) ∧
    exec .tbClkRestored s = .next { s with dev := { d with tb.clk := true } } ∧
    (∀ e, d.tb.st = .locked → d.tb.lastEdge = some e → ∃ t : State, exec .tbPpsLoss s = .next t ∧
      t = { s with dev := { d with tb := t.dev.tb, lg := t.dev.lg, hg := t.dev.hg } } ∧ t.dev.tb.st = .holdover ∧ t.dev.tb.cause = 2 ∧
      t.dev.tb.pps = false ∧ t.dev.tb.ns = max d.tb.ns (e + 1050000000)) ∧
    (d.fw.handover.isSome = true → ∃ t : State, exec (.tbPpsEdge prev) s = .next t ∧ t = { s with dev := { d with tb := t.dev.tb } } ∧
      t.dev.tb.st = d.tb.st ∧ t.dev.tb.lastEdge = some d.tb.ns ∧ t.dev.tb.offset = d.tb.offset ∧ t.dev.tb.incr = d.tb.incr ∧ t.dev.tb.ns = d.tb.ns) ∧
    (d.tb.st = .free → d.fw.handover = none → ∃ t : State, exec (.tbPpsEdge prev) s = .next t ∧ t = { s with dev := { d with tb := t.dev.tb } } ∧
      t.dev.tb.st = .free ∧ t.dev.tb.lastEdge = some d.tb.ns ∧ t.dev.tb.offset = d.edgeOffset ∧ t.dev.tb.frame = none ∧
      t.dev.tb.prevFrame = d.tb.frame ∧ t.dev.tb.ns = d.tb.ns ∧ t.dev.tb.incr = d.tb.incr) ∧
    (bytes.length = 16 → d.frameValid bytes = true → d.tb.frame = none → d.tb.freeRun = true → exec (.tbTodFrame bytes) s =
      .next { s with dev := { d with tb.frame := some { unlocked := u8 bytes 3 % 2 == 0, seconds := u64 bytes 4 }, tb.lastGood := u8 bytes 3 % 2 != 0 } }) ∧
    (bytes.length = 16 → d.frameValid bytes = false → exec (.tbTodFrame bytes) s = .next { s with dev := { d with tb.lastGood := false } }) ∧
    (∃ t : State, exec .xtbRateCorrection s = .next t ∧ t = { s with dev := { d with tb := t.dev.tb, free := t.dev.free } } ∧
      t.dev.tb.ns = max d.tb.ns (d.tb.lastRate + 10000) ∧ t.dev.tb.lastRate = t.dev.tb.ns ∧
      ∀ die, (t.dev.replica die - ((t.dev.tb.ns * 65536 + t.dev.tb.frac : Nat) : Int)).natAbs ≤ 4 * 65536) ∧
    (∀ h, d.tb.holdSince = some h → d.tbAxis = 1 → ∃ t : State, exec .holdoverAgeLimit s = .next t ∧
      t = { s with dev := { d with tb := t.dev.tb } } ∧ t.dev.tb.ns = max d.tb.ns (h + 10000000001) ∧ t.dev.noBarrier = true) ∧
    -(500000000 * 65536 : Int) < d.edgeOffset ∧ d.edgeOffset ≤ 500000000 * 65536 ∧
    (d.edgeOffset - (((d.tb.ns * 65536 + d.tb.frac : Nat) : Int) - ((d.tb.ppsDelay * 65536 : Nat) : Int))) % (65536000000000 : Int) = 0

/-- REFCLK_LOSS, REFCLK_RESTORED, REFCLK_HOLD_EXPIRY (R390): the loss is noted, a return within the hold undoes it, and its end enters
SAFE_HOLD with the cause REFCLK. -/
def Obligations.ReferenceClock : Prop :=
  ∀ s : State,
    (s.dev.ck.refLost = none → exec .refclkLoss s = .next { s with dev := { s.dev with ck.refLost := some s.dev.tb.ns } }) ∧
    exec .refclkRestored s = .next { s with dev := { s.dev with ck.refLost := none } } ∧
    (∀ r, s.dev.ck.refLost = some r → s.dev.hg.devState ≠ .safeHold → ∃ t : State, exec .refclkHoldExpiry s = .next t ∧ t.pending = s.pending ∧
      t.dev.hg.devState = .safeHold ∧ t.dev.fa.safeCause = 3 ∧ t.dev.th.alert = true ∧ t.dev.tb.ns = max s.dev.tb.ns (r + 1000000) ∧
      t.dev.mem = s.dev.mem ∧ t.dev.str = s.dev.str ∧ t.dev.gr = s.dev.gr) ∧
    (s.dev.ck.refLost = none → exec .refclkHoldExpiry s = .next s)

/-- Droop of a core region (R391, R392): its frequency follows the supply, it stops below 70 % of the ceiling, the droop becomes sustained
after 10 µs, and a recovery ends it. -/
def Obligations.Droops : Prop :=
  ∀ (s : State) (site stand pos mhz : Nat), isComputeSite site = true → stand < 133 → pos < 21 →
    let d := s.dev
    let top := d.ceiling site (posDomain pos)
    ((d.ck.droops.any (Droop.is site stand pos)) = false → mhz < top → ∃ t : State, exec (.supplyDroop site stand pos mhz) s = .next t ∧
      t = { s with dev := { d with ck := t.dev.ck } } ∧
      t.dev.ck.droops = d.ck.droops ++ [{ site, stand, pos, mhz, since := d.tb.ns, sustained := false }] ∧
      t.dev.oscillator site stand pos = (if mhz * 10 < top * 7 then 0 else mhz) ∧
      t.dev.ck.cd9 = d.ck.cd9 ∧ t.dev.ck.cd10 = d.ck.cd10) ∧
    (∀ x, d.ck.droops.find? (Droop.is site stand pos) = some x →
      (∃ t : State, exec (.supplyRecovery site stand pos) s = .next t ∧ t = { s with dev := { d with ck := t.dev.ck } } ∧
        t.dev.ck.droops = d.ck.droops.erase x) ∧
      (x.sustained = false → ∃ t : State, exec (.sustainedDroop site stand pos) s = .next t ∧
        t = { s with dev := { d with ck := t.dev.ck, tb := t.dev.tb } } ∧ t.dev.tb.ns = max d.tb.ns (x.since + 10000) ∧
        t.dev.ck.droops.find? (Droop.is site stand pos) = some { x with sustained := true })) ∧
    (d.ck.droops.find? (Droop.is site stand pos) = none → exec (.supplyRecovery site stand pos) s = .next s)

/-- The vote on a step-up (R396, R398): rails rise, a site's vote is sent and heard, the decision is COMMIT only when every voting site is ready,
and a site without the decision is named. -/
def Obligations.FrequencyVote : Prop :=
  ∀ (s : State) (site mhz : Nat), s.dev.rd.active = true →
    let d := s.dev
    (d.rd.done.contains .voltRise = false → d.votedStep .cd9 = some mhz → d.votedStep .cd10 = none → ∃ t : State,
      exec .voltageRiseStart s = .next t ∧ t = { s with dev := { d with tb := t.dev.tb, rd := t.dev.rd, ck := t.dev.ck } } ∧
      t.dev.ck.rails9 = some mhz ∧ t.dev.ck.rails10 = d.ck.rails10 ∧ t.dev.tb.ns = max d.tb.ns (d.rd.start + (d.rd.period - 50000))) ∧
    (isComputeSite site = true → d.rd.done.contains .decision = false → d.votedStep .cd9 = some mhz → d.voters.contains site = true →
      (d.ck.votes.any fun v => v.site == site && v.dom == .cd9) = false →
      d.tb.ns ≤ d.rd.start + d.rd.period - 4000 → ∃ t : State, exec (.frequencyStepVote site .cd9 true true) s = .next t ∧
      t = { s with dev := { d with tb := t.dev.tb, ba.out := t.dev.ba.out } } ∧ t.dev.tb.ns = max d.tb.ns (d.rd.start + d.rd.period - 5000) ∧
      ∀ p, (d.planes site d.activePort).head? = some p → ∃ q ∈ t.dev.ba.out, q.port = site ∧ q.plane = p ∧ q.cell.dst = d.activePort ∧
        q.cell.ctl = some (.vote .cd9 (d.voteCause site .cd9 true true))) ∧
    (∀ port plane w cause, port < 51 → plane < 4 → d.headKind port plane 5 = some w → w.2.2.ctl = some (.vote .cd9 cause) → port = d.activePort →
      d.rd.done.contains .decision = false → (d.ck.votes.any fun v => v.site == w.2.2.src && v.dom == .cd9) = false → d.fw.handover = none →
      d.fw.rangerUp = true → d.tb.ns ≤ d.rd.start + d.rd.period - 4000 → ∃ t : State, exec (.control port plane) s = .next t ∧
      t = { s with dev := { d with ba := t.dev.ba, ck := t.dev.ck } } ∧ t.dev.ck.votes = d.ck.votes ++ [{ site := w.2.2.src, dom := .cd9, cause }]) ∧
    (d.rd.done.contains .decision = false → d.votedStep .cd9 = some mhz → d.votedStep .cd10 = none → d.fw.rangerUp = true → d.fw.handover = none →
      ∃ t : State, exec .frequencyStepDecision s = .next t ∧
      t = { s with dev := { d with tb := t.dev.tb, rd := t.dev.rd, ck := t.dev.ck, lg := t.dev.lg, hg := t.dev.hg, ba.out := t.dev.ba.out } } ∧
      t.dev.ck.dec9 = some ((d.notReady .cd9).isEmpty) ∧ t.dev.ck.cd9 = d.ck.cd9 ∧ t.dev.ck.votes = [] ∧
      (∀ p, d.voters.contains site = true → (d.planes d.activePort site).head? = some p → ∃ q ∈ t.dev.ba.out, q.port = d.activePort ∧ q.plane = p ∧
        q.cell.dst = site ∧ q.cell.ctl = some (.decision .cd9 (d.notReady .cd9).isEmpty))) ∧
    (d.rd.done.contains .missing = false → d.ck.dec9 = some true → d.voters.contains site = true → isComputeSite site = true → ∃ t : State,
      exec (.stepDecisionMissing [site]) s = .next t ∧
      t = { s with dev := { d with tb := t.dev.tb, rd := t.dev.rd, ck := t.dev.ck, lg := t.dev.lg, hg := t.dev.hg } } ∧
      t.dev.ck.noDecision = d.voters.filter [site].contains ∧ site ∈ t.dev.ck.noDecision)

/-- The input (R401): below 40 V the device resets and stands until the input is good again; from 42 V on bring-up begins. -/
def Obligations.InputSupply : Prop :=
  ∀ (s : State) (dv : Nat),
    (dv < 400 → ∃ t : State, exec (.inputUndervoltage dv) s = .next t ∧ t.pending = s.pending ∧ t.dev.pw.volts = dv ∧ t.dev.pw.inputGood = false ∧
      t.dev.bu.running = false ∧ t.dev.hg.devState = .bringup ∧ t.dev.mem.cells = [] ∧ t.dev.fw.fuseF = s.dev.fw.fuseF ∧
      t.dev.lg.entries = s.dev.lg.entries) ∧
    (400 ≤ dv → exec (.inputUndervoltage dv) s = .next { s with dev := { s.dev with pw.volts := dv } }) ∧
    (420 ≤ dv → s.dev.pw.inputGood = false → s.dev.bu.perst = false → ∃ t : State, exec (.inputRestored dv) s = .next t ∧
      t = { s with dev := { s.dev with pw := t.dev.pw, bu := t.dev.bu, ts := t.dev.ts, lg := t.dev.lg, hg := t.dev.hg, tb.ns := 0, tb.frac := 0 } } ∧
      t.dev.pw.inputGood = true ∧ t.dev.bu.running = true ∧ t.dev.pw.volts = dv)

/-- Limiters and Trickle (R405, R406, R410): a reading joins the mean of the last 1 ms and one above 1.15 of the limit adds 2/16 of
skipping, up to 16/16; every 10 µs a mean above 0.98 adds a step, every 100 µs one below 0.95 takes one back; the ratio moves by 1/16. -/
def Obligations.PowerLimits : Prop :=
  ∀ (s : State) (site : Nat) (mw dv : Nat), isComputeSite site = true →
    let d := s.dev
    let l := d.limiter (some site)
    let frame := fun (t : State) => t = { s with dev := { d with pw := t.dev.pw, th := t.dev.th, lg := t.dev.lg, hg := t.dev.hg, tb := t.dev.tb } }
    (d.fw.handover = none → ∃ t : State, exec (.powerSample (some site) mw dv) s = .next t ∧ frame t ∧ t.dev.tb = d.tb ∧
      t.dev.limiter (some site) = { l with
        readings := (mw :: l.readings).take 1000
        skip := if d.limitOf (some site) * 115 < mw * 100 then min 16 (l.skip + 2) else l.skip }) ∧
    (d.fw.handover.isSome = true → exec (.limiterStep (some site)) s = .next s ∧ exec (.limiterRelease (some site)) s = .next s) ∧
    (d.fw.handover = none → l.mean * 100 ≤ d.limitOf (some site) * 98 ∨ (d.pw.trickleRatio = 0 ∧ l.skip < 12) → ∃ t : State,
      exec (.limiterStep (some site)) s = .next t ∧ frame t ∧ t.dev.tb.ns = max d.tb.ns (l.lastStep + 10000) ∧
      (t.dev.limiter (some site)).skip = if d.limitOf (some site) * 98 < l.mean * 100 then l.skip + 1 else l.skip) ∧
    (d.fw.handover = none → ∃ t : State, exec (.limiterRelease (some site)) s = .next t ∧ frame t ∧ t.dev.tb.ns = max d.tb.ns (l.lastUndo + 100000) ∧
      (l.mean * 100 < d.limitOf (some site) * 95 → 0 < l.skip →
        (t.dev.limiter (some site)).skip = l.skip - 1 ∧ (t.dev.limiter (some site)).trickleOff = l.trickleOff) ∧
      (d.limitOf (some site) * 95 ≤ l.mean * 100 → (t.dev.limiter (some site)).skip = l.skip)) ∧
    (d.trickleTarget ≠ d.pw.trickleRatio → d.hg.devState ≠ .safeHold → d.fw.handover = none → ∃ t : State,
      exec .trickleRatioStep s = .next t ∧ frame t ∧ t.dev.tb.ns = max d.tb.ns (d.pw.trickleStep + 100000) ∧
      t.dev.pw.trickleRatio = if d.trickleTarget < d.pw.trickleRatio then d.pw.trickleRatio - 1 else d.pw.trickleRatio + 1) ∧
    (let parts := [PowerPart.compute, .memory, .basin, .ioRing, .conversion]
     (d.pw.effCap = 15000 → parts.map d.share = [352000, 100000, 700000, 500000, 936000]) ∧
     (parts.map fun p => p.number * d.share p).sum ≤ d.pw.effCap * 1000 ∧ (∀ p, d.share p * 15000 ≤ d.pw.effCap * (p.watts * 1000)) ∧
     ∀ p, d.pw.effCap * (p.watts * 1000) < (d.share p + 1) * 15000)

/-- Thermal demands (R411, R413, R414): a Canopy value at its demand temperature starts skipping; the divider doubles after 1 ms and skipping
falls by 1/16 in 100 µs. -/
def Obligations.ThermalDemand : Prop :=
  ∀ (s : State) (site zone : Nat) (v : Int), isComputeSite site = true → zone < 8 →
    let d := s.dev
    let frame := fun (t : State) => t = { s with dev := { d with pw := t.dev.pw, th := t.dev.th, lg := t.dev.lg, hg := t.dev.hg, tb := t.dev.tb } }
    (d.th.sensors = [] → d.th.throttles = [] → d.th.tripped = none → d.fw.handover = none → 1000 ≤ v → v ≤ 1050 → ∃ t : State,
      exec (.sensorSample (0x100 + site) zone v) s = .next t ∧ frame t ∧ (t.dev.th.sensors.map (·.reading)) = [v] ∧
      (t.dev.th.throttles.map fun x => (x.site, x.zone, x.source, x.skip, x.div)) = [(site, zone, .canopy, 1, 1)] ∧ t.dev.pw.axis = 2) ∧
    (∀ x, d.th.throttles.find? (Throttle.is site zone .canopy) = some x →
      (d.fw.handover.isSome = true → exec (.throttleDividerTimer site zone .canopy) s = .next s ∧ exec (.throttleSkipDecay site zone .canopy) s = .next s) ∧
      (d.fw.handover = none → x.above = true → x.div < 4 → ∃ t : State, exec (.throttleDividerTimer site zone .canopy) s = .next t ∧ frame t ∧
        t.dev.tb.ns = max d.tb.ns (x.aboveSince + 1000000) ∧
        (t.dev.th.throttles.find? (Throttle.is site zone .canopy)).map (fun y => (y.skip, y.div)) = some (0, x.div * 2)) ∧
      (∀ b, d.fw.handover = none → x.below2 = some b → 0 < x.skip → ∃ t : State, exec (.throttleSkipDecay site zone .canopy) s = .next t ∧ frame t ∧
        t.dev.tb.ns = max d.tb.ns (b + 100000) ∧
        (t.dev.th.throttles.find? (Throttle.is site zone .canopy)).map (fun y => (y.skip, y.div)) = some (x.skip - 1, x.div))) ∧
    (∀ x ∈ d.th.throttles, x.site = site → x.zone = zone → d.zoneRate site zone ≤ (16 - x.skip) * 4 / x.div) ∧
    d.zoneRate site zone ≤ (16 - (d.limiter (some site)).skip) * 4 ∧ d.zoneRate site zone ≤ (16 - min 16 ((d.limiter none).skip + d.pw.ramp.length)) * 4 ∧
    (∀ r, (∀ x ∈ d.th.throttles, x.site = site → x.zone = zone → r ≤ (16 - x.skip) * 4 / x.div) → r ≤ (16 - (d.limiter (some site)).skip) * 4 →
      r ≤ (16 - min 16 ((d.limiter none).skip + d.pw.ramp.length)) * 4 → r ≤ d.zoneRate site zone) ∧
    (∀ cores : List Nat, (∀ c ∈ cores, d.shareRate cores ≤ d.coreRate c) ∧ (cores ≠ [] → ∃ c ∈ cores, d.shareRate cores = d.coreRate c))

/-- THERMAL_TRIP (R417, R418) and THERMAL_POLICY_RESTART (R419): one hot sample is noted, the second trips: compute and memory dies lose power,
device memory is lost, light goes dark, THERMTRIP# is asserted; the restart follows the cooling unless the policy is RECORD. -/
def Obligations.ThermalShutdown : Prop :=
  ∀ (s : State) (group : Nat) (r : List Int) (lim : Int), r.length = 3 → tripTemp group = some lim →
    let d := s.dev
    let hot := 2 ≤ (r.filter fun x => decide (lim < x)).length
    (hot → d.th.tripOver.contains group = false → d.th.tripped = none →
      ∃ t : State, exec (.thermalTrip group r) s = .next t ∧ t = { s with dev := { d with th := t.dev.th } } ∧ t.dev.th.tripOver = d.th.tripOver ++ [group] ∧
        t.dev.th.tripped = none ∧ t.dev.th.duty = d.th.duty ∧ t.dev.th.sensors = d.th.sensors ∧ t.dev.th.throttles = d.th.throttles) ∧
    (hot → d.th.tripOver.contains group = true → d.th.tripped = none → ∃ t : State, exec (.thermalTrip group r) s = .next t ∧ t.pending = s.pending ∧
      t.dev.pw.diesOff = true ∧ t.dev.op.dark = true ∧ t.dev.mem.cells = [] ∧ t.dev.th.thermtrip = true ∧ t.dev.th.tripped = some group ∧
      t.dev.th.tripRecord = r ∧ t.dev.th.duty = 1000 ∧ t.dev.hg.devState = .safeHold ∧ t.dev.th.trips = d.th.trips + 1 ∧ t.dev.gr = d.gr ∧
      t.dev.str = d.str) ∧
    (∀ g c, d.th.tripped = some g → d.th.coolSince = some c →
      (d.th.policy = 0 → ∃ t : State, exec .thermalPolicyRestart s = .next t ∧ t.pending = s.pending ∧ t.dev.hg.devState = .bringup ∧
        t.dev.th.thermtrip = false ∧ t.dev.th.tripped = none ∧ t.dev.th.trips = d.th.trips) ∧
      (d.th.policy = 1 → exec .thermalPolicyRestart s = .next s))

/-- COOLANT_POLL, CAP_DERATE_TIMER and FLASH_WRITE_RESUME (R420, R422, R424). -/
def Obligations.Cooling : Prop :=
  ∀ (s : State) (i o f : Nat),
    let d := s.dev
    (d.fw.handover = none → d.fw.rangerUp = true → d.hg.devState = .ready → d.th.coolFail = (0, 0, 0) → d.th.dutyMin ≤ d.th.dutyMax →
      ∃ t : State, exec (.coolantPoll (some i) (some o) (some f)) s = .next t ∧
      t = { s with dev := { d with th := t.dev.th, free := t.dev.free } } ∧ t.dev.th.inlet = sign16 i ∧ t.dev.th.outlet = sign16 o ∧
      t.dev.th.flow = f % 65536 ∧ d.th.dutyMin ≤ t.dev.th.duty ∧ t.dev.th.duty ≤ d.th.dutyMax) ∧
    (∀ c, d.th.derateClear = some c → ∃ t : State, exec .capDerateTimer s = .next t ∧
      t = { s with dev := { d with th := t.dev.th, tb := t.dev.tb } } ∧ t.dev.tb.ns = max d.tb.ns (c + 10000000000) ∧ t.dev.th.derate = none) ∧
    (∀ c, d.th.flashHold = true → d.th.flashOkSince = some c → d.lg.held = [] → d.th.tripped = none → ∃ t : State, exec .flashWriteResume s = .next t ∧
      t = { s with dev := { d with th := t.dev.th, tb := t.dev.tb, lg := t.dev.lg } } ∧ t.dev.th.flashHold = false ∧
      t.dev.tb.ns = max d.tb.ns (c + 10000000000)) ∧
    (∀ c e, d.th.flashHold = true → d.th.flashOkSince = some c → d.lg.held = [e] → d.th.tripped = none → d.flashOk = true → ∃ t : State,
      exec .flashWriteResume s = .next t ∧ t = { s with dev := { d with th := t.dev.th, tb := t.dev.tb, lg := t.dev.lg, hg := t.dev.hg } } ∧
      e ∈ t.dev.lg.entries ∧ t.dev.lg.held = [] ∧ t.dev.lg.dropped = 0)

/-- PERST_ASSERT, PERST_DEASSERT, HOT_RESET (R362, R358, R514): PERST# resets everything but what the flash, the fuses and the board keep; its
release begins bring-up; a hot reset clears the host-port state alone. -/
def Obligations.HostPortResets : Prop :=
  ∀ (s : State) (down : Bool),
    (∃ t : State, exec .perstAssert s = .next t ∧ t.pending = s.pending ∧ t.dev.bu.perst = true ∧ t.dev.bu.running = false ∧
      t.dev.hg.devState = .bringup ∧ t.dev.hg.stage = 0 ∧ t.dev.hg.errstat = 0 ∧ t.dev.mb.queue = [] ∧ t.dev.ses.list = [] ∧ t.dev.gr.list = [] ∧
      t.dev.gr.regions = [] ∧ t.dev.str.list = [] ∧ t.dev.str.intakes = [] ∧ t.dev.str.results = [] ∧ t.dev.mem.cells = [] ∧ t.dev.mem.stackList = [] ∧
      t.dev.mem.ready = false ∧
      t.dev.fw.fuseF = s.dev.fw.fuseF ∧ t.dev.fw.slotA = s.dev.fw.slotA ∧ t.dev.lg.entries = s.dev.lg.entries ∧ t.dev.hg.hostMem = s.dev.hg.hostMem) ∧
    (s.dev.bu.perst = true → s.dev.ts.ir ≠ 0 →
      exec .perstDeassert s =
        .next { s with dev := { s.dev with bu.perst := false, bu.running := s.dev.pw.inputGood, bu.stageStart := 0, tb.ns := 0, tb.frac := 0 } }) ∧
    (s.dev.bu.perst = false → exec .perstDeassert s = .next s) ∧
    (s.dev.hg.hostReads = [] → ∃ t : State, exec (.hotReset down) s = .next t ∧ t = { s with dev := { s.dev with hg := t.dev.hg } } ∧
      t.dev.hg.linkWidth = (if down then 0 else s.dev.hg.linkWidth) ∧ t.dev.hg.ide = 0 ∧ t.dev.hg.cacheEn = false ∧ t.dev.hg.memEn = false ∧
      t.dev.hg.bme = false ∧ t.dev.hg.msixEn = false ∧ t.dev.hg.snoopFilter = [] ∧ t.dev.hg.snoops = [] ∧ t.dev.hg.devCache = [] ∧
      t.dev.hg.devState = s.dev.hg.devState ∧ t.dev.hg.errstat = s.dev.hg.errstat ∧ t.dev.hg.intstat = s.dev.hg.intstat ∧
      t.dev.hg.hostMem = s.dev.hg.hostMem) ∧
    (∀ v : Word, s.dev.hg.linkWidth ≠ 0 →
      (v.toNat % 65536 = 0x5A3C → v.getLsbD 16 = true → ∃ t : State, exec (.hgDoorbellRestart v) s = .next t ∧ t.pending = s.pending ∧
        t.dev.hg.devState = .bringup ∧ t.dev.hg.errstat = 0 ∧ t.dev.mb.queue = [] ∧ t.dev.ses.list = [] ∧ t.dev.gr.list = [] ∧
        t.dev.str.list = [] ∧ t.dev.mem.cells = [] ∧ t.dev.fw.serial = s.dev.fw.serial ∧ t.dev.fw.fuseF = s.dev.fw.fuseF ∧
        t.dev.fw.slotA = s.dev.fw.slotA ∧ t.dev.fw.slotB = s.dev.fw.slotB ∧ t.dev.hg.hostMem = s.dev.hg.hostMem) ∧
      ((v.toNat % 65536 ≠ 0x5A3C ∨ v.getLsbD 16 = false) → ∃ t : State, exec (.hgDoorbellRestart v) s = .next t ∧
        t = { s with dev := { s.dev with hg := t.dev.hg } } ∧ t.dev.hg.errstat = s.dev.hg.errstat ||| 8))

/-- CXL_MEM_READ and CXL_MEM_WRITE (R353, R354, R355, R357): nothing without a link and a committed decoder; outside the memory, or before it is
active, poison and an error; else the line's 64 bytes, tracked in the snoop filter, or a line operation at the home. -/
def Obligations.HostMemoryAccess : Prop :=
  ∀ (s : State) (x : Nat) (data : List Byte), data.length = 64 →
    let d := s.dev
    let a := x / 64 * 64
    (d.cxlReady = false → exec (.cxlMemRead x) s = .next s ∧ exec (.cxlMemWrite x data false) s = .next s) ∧
    (d.cxlReady = true → d.hg.ide = 2 → exec (.cxlMemWrite x data false) s = .next s ∧ exec (.cxlMemRead x) s =
      .next { s with dev := { d with hg.cxlOut := { x := a, data := zeros 64, poisoned := true } :: d.hg.cxlOut } }) ∧
    (d.cxlReady = true → d.hg.ide ≠ 2 → d.cxlOut a = true → ∃ t : State, exec (.cxlMemRead x) s = .next t ∧
      t = { s with dev := { d with hg := t.dev.hg } } ∧ t.dev.hg.errstat.getLsbD 4 = true ∧
      t.dev.hg.cxlOut = { x := a, data := zeros 64, poisoned := true } :: d.hg.cxlOut) ∧
    (d.cxlReady = true → d.hg.ide ≠ 2 → d.cxlOut a = false → ∀ st o line, placeOf d.mBytes a = .hbm st o → d.hostLine a = some line →
      (d.firstOp st (o / 256) = none → d.firstOp (d.homeStack st o) (o / 256) = none → (d.stack st).resetting = false →
        d.hg.snoopFilter.length < 8388608 → ∀ bs, d.readBytes a 64 = some bs → exec (.cxlMemRead x) s =
          .next { s with dev := { d with hg.snoopFilter := d.hg.snoopFilter.filter (·.1 != line) ++ [(line, true)]
                                         hg.cxlOut := { x := a, data := bs, poisoned := false } :: d.hg.cxlOut } }) ∧
      (d.opRoom (d.homeStack st o) 1 = true → (d.stack (d.homeStack st o)).resetting = false → d.fencedLine (d.homeStack st o) o = false →
        ∃ t : State, exec (.cxlMemWrite x data false) s = .next t ∧ t = { s with dev := { d with hg := t.dev.hg, mem := t.dev.mem } } ∧
          t.dev.mem.cells = d.mem.cells ∧ t.dev.mem.poison = d.mem.poison ∧
          (t.dev.stack (d.homeStack st o)).ops = (d.stack (d.homeStack st o)).ops ++
            [{ stack := d.homeStack st o, line := o / 256, act := .store (o % 256) data, reply := .none }] ∧
          (∀ k, k ≠ d.homeStack st o → t.dev.stack k = d.stack k) ∧
          t.dev.hg.cxlOut = { x := a, data := [], poisoned := false } :: d.hg.cxlOut))

/-- BI_SNOOP_RESPONSE, BI_SNOOP_TIMEOUT, CXL_CACHE_READ_COMPLETE, CXL_CACHE_READ_TIMEOUT, HOST_SNOOP (R355, R356, R196, R199): what an
answered, an unanswered and an unsolicited snoop do to the filter and the cache; a read of consumed frees result slots. -/
def Obligations.HostSnoops : Prop :=
  ∀ (s : State) (line : Nat) (sn : Snoop) (r : HostRead) (q : ResultRing) (h v : Nat),
    let d := s.dev
    (d.hg.snoops.find? (·.line == line) = some sn → d.hg.hostReads = [] → ∃ t : State, exec (.biSnoopResponse line none) s = .next t ∧
      t = { s with dev := { d with hg := t.dev.hg } } ∧ t.dev.hg.snoops = d.hg.snoops.erase sn ∧
      t.dev.hg.snoopFilter = if sn.inv then d.hg.snoopFilter.filter (·.1 != line) else d.hg.snoopFilter.map fun e => if e.1 == line then (e.1, false) else e) ∧
    (d.hg.snoops.find? (·.line == line) = none → exec (.biSnoopResponse line none) s = .next s ∧ exec (.biSnoopTimeout line) s = .next s) ∧
    (d.hg.snoops.find? (·.line == line) = some sn → (∀ c ∈ d.mb.chans, c.st ≠ .running) → d.hg.hostReads = [] → ∃ t : State, exec (.biSnoopTimeout line) s = .next t ∧
      t = { s with dev := { d with hg := t.dev.hg, tb := t.dev.tb } } ∧ t.dev.tb.ns = max d.tb.ns (sn.sent + 1000000) ∧
      t.dev.hg.errstat.getLsbD 0 = true ∧ t.dev.hg.snoops = d.hg.snoops.erase sn ∧ t.dev.hg.snoopFilter = d.hg.snoopFilter.filter (·.1 != line)) ∧
    (exec (.hostSnoop line) s = .next { s with dev := { d with hg.devCache := d.hg.devCache.filter fun l =>
      !(decide (line / 64 * 64 ≤ l.1) && decide (l.1 < line + 1)) } }) ∧
    (d.hg.hostReads.find? (fun r => !r.dev && r.addr == line) = some r → r.purpose = .consumed h → d.hostOk = true →
      d.str.results.find? (·.handle == h) = some q → d.str.waiting = false →
      (r.len = 8 → q.host = true → q.consumed < v → v ≤ q.published → v < 2 ^ 64 → ∃ t : State, exec (.cxlCacheReadComplete line (leBytes 8 v)) s = .next t ∧
        t = { s with dev := { d with hg := t.dev.hg, str := t.dev.str } } ∧ t.dev.hg.hostReads = d.hg.hostReads.erase r ∧
        t.dev.hg.devCache = d.hg.devCache ∧ t.dev.str.results.find? (·.handle == h) = some { q with consumed := v }) ∧
      (∃ t : State, exec (.cxlCacheReadTimeout line) s = .next t ∧ t = { s with dev := { d with hg := t.dev.hg, tb := t.dev.tb, lg := t.dev.lg } } ∧
        t.dev.tb.ns = max d.tb.ns (r.issued + 100000) ∧ t.dev.hg.hostReads = d.hg.hostReads.erase r ∧ t.dev.hg.errstat.getLsbD 1 = true))

/-- ROUND_BOUNDARY (R168, R172): nothing while the device is held in reset; else the round that begins has the number, the start and the next
boundary of R168, and the count stands at its boundary; fuses and queue stay. -/
def Obligations.RoundBoundaries : Prop :=
  ∀ s : State,
    let d := s.dev
    (d.heldReset = true → exec .roundBoundary s = .next s) ∧
    (d.heldReset = false → ∃ t : State, exec .roundBoundary s = .next t ∧ t.pending = s.pending ∧
      t.dev.rd = { d.rd with number := (d.rd.next - d.rd.epoch) / d.rd.period, top := max d.rd.top ((d.rd.next - d.rd.epoch) / d.rd.period), start := d.rd.next, next := d.rd.next + d.rd.period
                             done := [], begun := true, active := true } ∧
      t.dev.tb.ns = max d.tb.ns d.rd.next ∧ t.dev.tb.st = d.tb.st ∧ t.dev.ses = d.ses ∧ t.dev.fw.fuseF = d.fw.fuseF ∧
      t.dev.mb.queue = d.mb.queue ∧ t.dev.th.policy = d.th.policy)

/-- The other points of a round (R172, R173, R187, R193, R194, R267, R268, R345): each takes place once, at its instant, and what each may change;
published becomes what has been written, and the barrier word of a module outside a barrier group says so. -/
def Obligations.RoundPoints : Prop :=
  ∀ s : State, s.dev.rd.active = true →
    let d := s.dev
    let at_ := fun (t : State) (p : RoundPoint) (offset : Nat) =>
      t.dev.rd = { d.rd with done := p :: d.rd.done, overruns := t.dev.rd.overruns } ∧ t.dev.tb.ns = max d.tb.ns (d.rd.start + offset)
    let serving := d.hg.devState = .ready ∨ d.hg.devState = .service
    (d.rd.done.contains .descRead = false → d.rd.done.contains .dispatch = false → ∃ t : State, exec .intakeDescriptorRead s = .next t ∧
      t = { s with dev := { d with rd.done := .descRead :: d.rd.done, str := t.dev.str, hg := t.dev.hg, mem := t.dev.mem, gr := t.dev.gr, lg := t.dev.lg } }) ∧
    (d.rd.done.contains .calOpen = false → ∃ t : State, exec .calibrationWindowOpen s = .next t ∧
      t = { s with dev := { d with rd := t.dev.rd, tb := t.dev.tb, op := t.dev.op, ba := t.dev.ba, sw := t.dev.sw } } ∧ at_ t .calOpen 2000 ∧
      t.dev.op.window = (d.op.window || !d.calPaused) ∧ (d.calPaused = true → t.dev.op = d.op ∧ t.dev.ba = d.ba ∧ t.dev.sw = d.sw)) ∧
    (d.rd.done.contains .calClose = false → ∃ t : State, exec .calibrationWindowClose s = .next t ∧
      t = { s with dev := { d with rd := t.dev.rd, tb := t.dev.tb, op := t.dev.op, ba := t.dev.ba, sw := t.dev.sw, cs := t.dev.cs, fa := t.dev.fa
                                   sp := t.dev.sp, bu := t.dev.bu, lg := t.dev.lg, hg := t.dev.hg } } ∧
      at_ t .calClose (d.rd.period - 60000) ∧ t.dev.op.window = false) ∧
    (d.rd.done.contains .dispatch = false → ∃ t : State, exec .dispatch s = .next t ∧
      t = { s with dev := { d with rd := t.dev.rd, tb := t.dev.tb, str := t.dev.str, pw := t.dev.pw, cs.sites := t.dev.cs.sites } } ∧ at_ t .dispatch 10000 ∧
      (¬serving → t.dev.str = d.str ∧ t.dev.pw = d.pw ∧ t.dev.cs = d.cs) ∧
      (serving → d.stoppedCores = [] → d.str.slack = false → (∀ k, (d.site k).phase = .running) →
        ∀ st ∈ d.str.list, ∀ x, d.frameOf st = some x → x.p.unplaced = [] → ∀ it ∈ st.items, it.stage = .ready → it.decode = none →
          ∃ st2 ∈ t.dev.str.list, st2.id = st.id ∧ ∃ it2 ∈ st2.items, it2.seq = it.seq ∧ it2.stage = .running 0 (x.stageSites 0) ∧
            it2.dispatched = d.rd.number)) ∧
    (d.rd.done.contains .stageDeadline = false → ∃ t : State, exec .stageDeadline s = .next t ∧
      t = { s with dev := { d with rd := t.dev.rd, tb := t.dev.tb, pw := t.dev.pw, lg := t.dev.lg, hg := t.dev.hg } } ∧
      at_ t .stageDeadline (d.rd.period - 40000) ∧ t.dev.rd.overruns = d.rd.overruns + d.overdue.length) ∧
    (d.rd.done.contains .window = false → d.rd.done.contains .stageDeadline = true → ∃ t : State, exec .publicationWindowOpen s = .next t ∧
      t = { s with dev := { d with rd := t.dev.rd, tb := t.dev.tb, str := t.dev.str, hg := t.dev.hg, mem := t.dev.mem, gr := t.dev.gr, lg := t.dev.lg } } ∧
      at_ t .window (d.rd.period - 40000) ∧ (¬serving → t.dev.str = d.str ∧ t.dev.mem = d.mem)) ∧
    (d.rd.done.contains .window = false → d.rd.done.contains .stageDeadline = false → ∃ t u : State, exec .stageDeadline s = .next t ∧
      exec .publicationWindowOpen t = .next u ∧ exec .publicationWindowOpen s = .next u) ∧
    (d.rd.done.contains .pubDeadline = false → ∃ t : State, exec .publicationDeadline s = .next t ∧
      t = { s with dev := { d with rd := t.dev.rd, tb := t.dev.tb, str := t.dev.str, hg := t.dev.hg, mem := t.dev.mem, gr := t.dev.gr, lg := t.dev.lg
                                   sw.word := t.dev.sw.word } } ∧
      at_ t .pubDeadline (d.rd.period - 10000) ∧ (d.sw.joined = false → t.dev.sw.word = (0, 0, 4, 0)) ∧
      (serving → d.str.waiting = false → (d.str.results.map (·.handle)).Nodup → ∀ r ∈ d.str.results, r.stream.isSome = true →
        d.str.touched.contains r.handle = true → t.dev.str.results.find? (·.handle == r.handle) =
          some { r with published := r.written, lastPublish := d.rd.start + d.rd.period - 10000 }))

/-- SHARE_COMPLETE (R172, R174, R175): a site's share of a batch is complete: no item of the batch waits for that site any more; while an earlier
share of the site is incomplete, or without such a batch, nothing happens. -/
def Obligations.ShareCompletion : Prop :=
  ∀ (s : State) (batch site corrected : Nat) (bad : List Nat) (st : Stream), (Instr.shareComplete batch ⟨site, corrected, bad⟩).wf = true →
    let d := s.dev
    let id := batch % 256
    let key := batch / 256
    (d.stream? id = none → exec (.shareComplete batch ⟨site, corrected, bad⟩) s = .next s) ∧
    (d.stream? id = some st → (∀ m ∈ st.items, m.inBatch key site = false) → exec (.shareComplete batch ⟨site, corrected, bad⟩) s = .next s) ∧
    (d.stream? id = some st → (∃ m ∈ st.items, m.inBatch key site = true) → (∀ x, d.frameOf st = some x → ∀ k, d.threadsFree x k = true) →
      (∀ it ∈ st.items, ∀ k l, it.stage = .running k l → l.Nodup) →
      (∀ o ∈ d.str.list, ∀ it ∈ o.items, ∀ k l, it.stage = .running k l → site ∈ l → ∀ m ∈ st.items, m.inBatch key site = true → m.dispatched ≤ it.dispatched) →
      ∃ t : State, exec (.shareComplete batch ⟨site, corrected, bad⟩) s = .next t ∧ t.pending = s.pending ∧
        (bad = [] → t = { s with dev := { d with str := t.dev.str, pw := t.dev.pw, mem := t.dev.mem, gr := t.dev.gr, hg := t.dev.hg, cs := t.dev.cs
                                                 ba := t.dev.ba, sw := t.dev.sw, fa := t.dev.fa, lg := t.dev.lg, free := t.dev.free } }) ∧
        ∀ st2, t.dev.stream? id = some st2 → ∀ it ∈ st2.items, ∀ k l, it.stage = .running k l → it.key = key → site ∉ l)

/-- TALLY_REMOTE_ACCESS, REMOTE_ACCESS_COMPLETE, REMOTE_ACCESS_TIMEOUT, TRANSFER_DESCRIPTOR_WRITE, BOND_BEAT_UNCORRECTABLE (R77, R79, R80, R96, R98,
R149, R298, R331, R336, R455): a thread that issues parks, its request on a bond group and at the source router; it becomes ready with a status and data,
POISON after an uncorrectable word or beat; a 33rd descriptor of a Stand waits. -/
def Obligations.ThreadAccesses : Prop :=
  ∀ (s : State) (t : Thread) (rack : Bool) (op : RemoteOp) (desc : XferDesc), t.wf = true → op.wf = true → desc.wf = true →
    let d := s.dev
    let group := if (opAddress op).isSome then d.chooseGroup t.site t.stand else none
    let parked : Parked := { t, op, rack, issued := d.tb.ns, tag := d.cs.nextTag, lost := 0, group }
    let cs1 := { d.cs with nextTag := (d.cs.nextTag + 1) % 2 ^ 32, parked := d.cs.parked ++ [parked], finished := d.cs.finished.filter (·.t != t) }
    let done := fun (status : Nat) (data : List Byte) => ({ t, status, data } : Finished) :: d.cs.finished.filter (·.t != t)
    (d.canIssue t = false ∨ opIssues t.stand op = false → exec (.tallyRemoteAccess t rack op) s = .next s) ∧
    (d.canIssue t = true → opIssues t.stand op = true → opAddress op = none →
      exec (.tallyRemoteAccess t rack op) s = .next { s with dev := { d with cs := cs1 } }) ∧
    (d.canIssue t = true → opIssues t.stand op = true → ∀ a port plane, opAddress op = some a → rack = false →
      d.accessPort op (a % 2 ^ 48) = some port → port ≠ t.site → d.cachedRead { t, op, rack := false, issued := 0, tag := d.cs.nextTag, lost := 0, group := none } = none →
      Rec.isJob { accessRec t d.cs.nextTag op with address := a % 2 ^ 48 } port = false → d.choosePlane t.site port = some plane →
      exec (.tallyRemoteAccess t rack op) s = .next { s with dev := { d with cs := cs1, ba.out := addRec d.tb.ns t.site plane 3 port { accessRec t d.cs.nextTag op with address := a % 2 ^ 48 } d.ba.out } }) ∧
    (d.canIssue t = true → opIssues t.stand op = true → ∀ a, opAddress op = some a → rack = true → a / 2 ^ 48 ≠ d.sw.node → d.rackOpen = false →
      ∃ u : State, exec (.tallyRemoteAccess t rack op) s = .next u ∧ u = { s with dev := { d with cs := u.dev.cs, fa := u.dev.fa } } ∧
        u.dev.cs.finished = done 1 [] ∧ u.dev.fa.timeouts = d.fa.timeouts + 1 ∧ u.dev.parkedOp t = none) ∧
    (∀ n bad, (d.site t.site).phase = .running → d.parkedOp t = none → d.cs.suspended.find? (·.thread == t) = none → d.cs.waiting.find? (·.1 == t) = none →
      exec (.remoteAccessComplete ⟨t, n, bad⟩) s = .next s) ∧
    (∀ n bad p, (d.site t.site).phase = .running → d.parkedOp t = some p → p.t = t →
      (p.op = .fence → d.fenceDone t p.rack = true → d.lostBy t p.rack = 0 → ∃ u : State, exec (.remoteAccessComplete ⟨t, n, bad⟩) s = .next u ∧
        u = { s with dev := { d with cs := u.dev.cs } } ∧ u.dev.cs.finished = done 0 []) ∧
      (∀ st off len bs, p.op = .standLoad st off len → d.readStand t.site (st * 0x200000 + off) len = some bs →
        (∀ q ∈ d.cs.parked.takeWhile (·.t != t), q.t.site = t.site → q.t.stand = t.stand → opStand q.op ≠ some st) →
        (bad = false → ∃ u : State, exec (.remoteAccessComplete ⟨t, n, bad⟩) s = .next u ∧ u = { s with dev := { d with cs := u.dev.cs, fa := u.dev.fa } } ∧
          u.dev.cs.finished = done 0 bs ∧ (n = 0 → u.dev.fa = d.fa)) ∧
        (bad = true → 1 ≤ len → ∃ u : State, exec (.remoteAccessComplete ⟨t, n, bad⟩) s = .next u ∧ u.pending = s.pending ∧
          u.dev.cs.finished = done 2 []))) ∧
    (∀ p, d.parkedOp t = some p → p.t = t → p.rack = false → (∀ x ∈ d.cs.transfers, x.t ≠ t) → (∀ j ∈ d.cs.jobs, j.2.1 ≠ t) → ∃ u : State,
      exec (.remoteAccessTimeout t) s = .next u ∧
      u = { s with dev := { d with cs := u.dev.cs, fa := u.dev.fa, tb := u.dev.tb } } ∧ u.dev.tb.ns = max d.tb.ns (p.issued + d.rd.timeout) ∧
      u.dev.cs.finished = done 1 [] ∧
      u.dev.fa.timeouts = d.fa.timeouts + if (opAddress p.op).isSome ∨ (opStand p.op).isSome then 1 else 0) ∧
    (d.canIssue t = true → 32 ≤ d.pendingOn t → exec (.transferDescriptorWrite t desc) s = .next { s with dev := { d with cs.waiting := d.cs.waiting ++ [(t, desc)] } }) ∧
    (d.canIssue t = true → d.pendingOn t < 32 → desc.length = 0 → exec (.transferDescriptorWrite t desc) s =
      .next { s with dev := { d with cs.nextTag := (d.cs.nextTag + 1) % 2 ^ 32, cs.ended := (d.cs.nextTag, 0) :: d.cs.ended } }) ∧
    (d.canIssue t = true → d.pendingOn t < 32 → 0 < desc.length → desc.rack = false → ∀ parts, d.partsOf desc = some parts →
      refusesCruiser desc false parts = false → ∃ u : State, exec (.transferDescriptorWrite t desc) s = .next u ∧
        u = { s with dev := { d with cs := u.dev.cs } } ∧ u.dev.cs.ended = d.cs.ended ∧
        ∃ x, u.dev.cs.transfers = d.cs.transfers ++ [x] ∧ x.tag = d.cs.nextTag ∧ x.t = t ∧ x.sent = 0 ∧ x.parts.length = parts.length) ∧
    (∀ group, group < 256 → d.fa.isolated = [] → d.fa.queue = [] → d.fa.now = none →
      (∃ u : State, exec (.bondBeatUncorrectable t.site group .other) s = .next u ∧
        u = { s with dev := { d with fa := u.dev.fa, lg := u.dev.lg, hg := u.dev.hg } } ∧
        u.dev.fa.queue = [{ unit := groupUnit t.site group, kind := .unit }] ∧ groupUnit t.site group ∈ u.dev.fa.testing) ∧
      (∀ p, d.parkedOp t = some p → p.t = t → p.group = some group → ∃ u : State, exec (.bondBeatUncorrectable t.site group (.access t)) s = .next u ∧
        u = { s with dev := { d with cs := u.dev.cs, fa := u.dev.fa, lg := u.dev.lg, hg := u.dev.hg } } ∧ u.dev.cs.finished = done 2 []) ∧
      (∀ x ∈ d.cs.transfers, x.t.site = t.site → x.group = some group → ∃ u : State, exec (.bondBeatUncorrectable t.site group (.transfer x.tag)) s = .next u ∧
        u = { s with dev := { d with cs := u.dev.cs, fa := u.dev.fa, lg := u.dev.lg, hg := u.dev.hg } } ∧ { x with status := max x.status 2 } ∈ u.dev.cs.transfers)) ∧
    (∀ stand g, d.chooseGroup t.site stand = some g → ∃ p, d.exitStand t.site stand = some p ∧ g ∈ d.activeGroups t.site p ∧
      (∀ h ∈ d.activeGroups t.site p, d.groupQueue t.site g ≤ d.groupQueue t.site h ∧ (d.groupQueue t.site h = d.groupQueue t.site g → g ≤ h)) ∧
      ∀ q, q < 133 → d.activeGroups t.site q ≠ [] → standDistance stand p < standDistance stand q ∨ (standDistance stand p = standDistance stand q ∧ p ≤ q)) ∧
    (∀ stand, stand < 133 → d.activeGroups t.site stand ≠ [] → d.exitStand t.site stand = some stand) ∧
    (∀ stand g, (d.site t.site).retired.contains g = true ∨ groupUnit t.site g ∈ d.fa.testing → g ∉ d.activeGroups t.site stand)

/-- CORE_AGEING_LOWER, UNDERSTORY_RESET, UNDERSTORY_READY, CANOPY_RESET, CANOPY_RELOAD_COMPLETE, CHIME_LOSS (R52, R84, R103, R104, R107, R389): a
lowering waits for the boundary; an Understory reset zeroes the site's scratch and keeps its setpoints; the reload ends with the contents of the placed
graphs in Stand memory, and the generators at their first states. -/
def Obligations.ComputeResets : Prop :=
  ∀ (s : State) (site stand pos : Nat), isComputeSite site = true → stand < 133 → pos < 21 →
    let d := s.dev
    let lo := scratchKey site 0
    let hi := scratchKey (site + 1) 0
    exec (.coreAgeingLower site stand pos) s = .next { s with dev := { d with cs.lowering := insertNew (site, stand, pos) d.cs.lowering } } ∧
    ((d.site site).phase = .usReset → exec (.understoryReset site) s = .next s ∧ exec (.canopyReset site) s = .next s) ∧
    ((d.site site).phase ≠ .usReset → ∃ t : State, exec (.understoryReset site) s = .next t ∧
      t = { s with dev := { d with cs := t.dev.cs, str := t.dev.str, ba := t.dev.ba, mem := t.dev.mem, ck.retained := t.dev.ck.retained } } ∧
      (t.dev.site site).phase = .usReset ∧ (site, .cd9, d.setpoint site .cd9) ∈ t.dev.ck.retained ∧ (site, .cd10, d.setpoint site .cd10) ∈ t.dev.ck.retained ∧
      (t.dev.site site).cache = [] ∧ t.dev.mem.cells = cellsClear d.mem.cells lo hi ∧ t.dev.mem.stackList = d.mem.stackList ∧
      (∀ x ∈ t.dev.cs.parked, x.t.site ≠ site) ∧ (∀ x ∈ t.dev.cs.transfers, x.t.site ≠ site)) ∧
    ((d.site site).phase = .usReset → d.fa.now = none → ∃ t : State, exec (.understoryReady site) s = .next t ∧
      t = { s with dev := { d with cs := t.dev.cs, ba := t.dev.ba, ck.retained := d.ck.retained.filter (·.1 != site) } } ∧
      t.dev.site site = { d.site site with phase := .reloading } ∧ t.dev.ba = { d.ba with out := t.dev.ba.out }) ∧
    ((d.site site).phase ≠ .usReset → exec (.understoryReady site) s = .next s) ∧
    ((d.site site).phase ≠ .usReset → (d.site site).phase ≠ .cpReset → ∃ t : State, exec (.canopyReset site) s = .next t ∧
      t = { s with dev := { d with cs := t.dev.cs, str := t.dev.str } } ∧ (t.dev.site site).phase = .cpReset ∧ (t.dev.site site).cache = (d.site site).cache ∧
      ∀ x ∈ t.dev.cs.parked, x.t.site ≠ site) ∧
    ((d.site site).phase = .reloading ∨ (d.site site).phase = .cpReset → ∃ t : State, exec (.canopyReloadComplete site) s = .next t ∧
      t = { s with dev := { d with cs := t.dev.cs } } ∧ (t.dev.site site).phase = .resuming ∧ (t.dev.site site).stand = d.placedContents site ∧
      (t.dev.site site).standPoison = [] ∧ t.dev.cs.sr = d.cs.sr.map fun e => if e.1 / 2500 + 8 = site then (e.1, e.2.1, srInit e.2.1 e.1) else e) ∧
    ((d.site site).phase ≠ .reloading → (d.site site).phase ≠ .cpReset → exec (.canopyReloadComplete site) s = .next s) ∧
    (d.faultsTaken = false → exec (.chimeLoss site) s = .next { s with dev := { d with ck.chimeLost := insertNew site d.ck.chimeLost } }) ∧
    (d.faultsTaken = true → d.fa.isolated = [] → d.fa.queue = [] → d.fa.now = none → exec (.chimeLoss site) s =
      .next { s with dev := { d with ck.chimeLost := insertNew site d.ck.chimeLost, fa.queue := [{ unit := siteUnit site, kind := .die }] } })

/-- SLOT_BOUNDARY, CELL_RECEIVE, PLANE_SCHEDULER_FAIL, SWITCH_PORT_FAIL, PARTIAL_TRANSFER_EXPIRY (R217, R218, R220, R221, R240, R242, R247, R457): a
slot lasts 28 ns; a cell that its receiver accepts enters the buffer, an uncorrectable one is discarded, a misdelivered one counted; a failed plane
leaves every mask. A source router takes the allowed plane with the shortest queue (R238), a pinned flow its one plane (R241). Which codewords are uncorrectable is log 108. -/
def Obligations.BasinSlots : Prop :=
  ∀ (s : State) (port plane : Nat), port < 55 → plane < 4 →
    let d := s.dev
    (d.ba.up = false → exec .slotBoundary s = .next s) ∧
    (d.ba.up = true → ∃ t : State, exec .slotBoundary s = .next t ∧ t.pending = s.pending ∧ t.dev.tb.ns = max d.tb.ns (d.ba.slotStart + 28) ∧
      t.dev.ba.slot = d.ba.slot + 1 ∧ t.dev.ba.slotStart = d.ba.slotStart + 28 ∧
      (d.ba.dueRetire = [] → d.op.due = [] → t = { s with dev := { d with tb := t.dev.tb, ba := t.dev.ba, op := t.dev.op, cs := t.dev.cs, mem := t.dev.mem, hg := t.dev.hg, lg := t.dev.lg } } ∧
        t.dev.ba.failed = d.ba.failed ∧ t.dev.ba.recv = d.ba.recv ∧ t.dev.ba.partials = d.ba.partials)) ∧
    (∀ wrong astray, d.ba.wire.find? (fun w => (w.1, w.2.1) == astray.getD (port, plane)) = none → exec (.cellReceive port plane wrong astray) s = .next s) ∧
    (∀ w wrong, (Instr.cellReceive port plane wrong none).wf = true → d.ba.wire.find? (fun w => (w.1, w.2.1) == (port, plane)) = some w →
      let errors := d.wrongSymbols w.2.2.src port plane wrong
      (w.2.2.accepts port plane = true → (∀ e ∈ errors, e ≤ 1) → ∃ t : State, exec (.cellReceive port plane wrong none) s = .next t ∧
        t = { s with dev := { d with ba := t.dev.ba, op := t.dev.op } } ∧ t.dev.ba.wire = d.ba.wire.erase w ∧ t.dev.ba.recv = d.ba.recv ++ [(port, plane, { w.2.2 with arrived := d.ba.slot })] ∧
        (t.dev.pport port plane).received = (d.pport port plane).received + 1 ∧
        (t.dev.pport port plane).corrected = (d.pport port plane).corrected + (errors.filter (· == 1)).length) ∧
      ((∃ e ∈ errors, 2 ≤ e) → (d.pport port plane).discRound ≠ 4 → ∃ t : State, exec (.cellReceive port plane wrong none) s = .next t ∧
        t = { s with dev := { d with ba := t.dev.ba, op := t.dev.op, lg := t.dev.lg, hg := t.dev.hg } } ∧ t.dev.ba.wire = d.ba.wire.erase w ∧
        t.dev.ba.recv = d.ba.recv ∧ (t.dev.pport port plane).discarded = (d.pport port plane).discarded + 1)) ∧
    (∀ w a, a ≠ (port, plane) → (Instr.cellReceive port plane [] (some a)).wf = true → d.ba.wire.find? (fun w => (w.1, w.2.1) == a) = some w →
      w.2.2.accepts port plane = false → (∀ e ∈ d.wrongSymbols w.2.2.src port plane [], e ≤ 1) → d.fa.isolated = [] → d.fa.queue = [] → d.fa.now = none →
      ∃ t : State, exec (.cellReceive port plane [] (some a)) s = .next t ∧
        t = { s with dev := { d with ba := t.dev.ba, op := t.dev.op, fa := t.dev.fa } } ∧ t.dev.ba.wire = d.ba.wire.erase w ∧ t.dev.ba.recv = d.ba.recv ∧
        (t.dev.pport port plane).misdelivered = (d.pport port plane).misdelivered + 1 ∧ switchUnit port plane 0 ∈ t.dev.fa.testing) ∧
    (d.ba.up = true → d.ba.failed.contains plane = false → ∃ t : State, exec (.planeSchedulerFail plane) s = .next t ∧
      t = { s with dev := { d with ba := t.dev.ba, lg := t.dev.lg, hg := t.dev.hg, sp := t.dev.sp, fa := t.dev.fa, th := t.dev.th, fw := t.dev.fw
                                   str := t.dev.str, gr := t.dev.gr } } ∧
      t.dev.ba.failed = d.ba.failed ++ [plane] ∧ t.dev.sp.degraded = true ∧ (∀ m ∈ t.dev.ba.matches_, m.plane ≠ plane) ∧
      (∀ q ∈ t.dev.ba.out, q.plane ≠ plane) ∧ ∀ a b, plane ∉ t.dev.planes a b) ∧
    (d.ba.up = false ∨ d.ba.failed.contains plane = true → exec (.planeSchedulerFail plane) s = .next s) ∧
    (d.ba.up = true → (d.pport port plane).retired = false → ∃ t : State, exec (.switchPortFail port plane) s = .next t ∧
      t = { s with dev := { d with ba := t.dev.ba, sp := t.dev.sp, bu := t.dev.bu, lg := t.dev.lg, hg := t.dev.hg } } ∧ t.dev.givesCells port plane = false ∧
      t.dev.takesCells port plane = false) ∧
    (∀ src transfer p, src < 55 → d.ba.partials.find? (fun p => p.port == port && p.src == src && p.transfer == transfer) = some p →
      (p.got < p.total → ∃ t : State, exec (.partialTransferExpiry port src transfer) s = .next t ∧
        t = { s with dev := { d with tb := t.dev.tb, ba.partials := d.ba.partials.erase p } } ∧ t.dev.tb.ns = max d.tb.ns p.expires) ∧
      (p.total ≤ p.got → exec (.partialTransferExpiry port src transfer) s = .next s)) ∧
    (∀ src dst,
      (∀ p, p < 4 → (d.planeMask src dst).testBit p = (d.planes src dst).contains p) ∧ (55 ≤ dst → d.planeMask src dst = 0) ∧
      (pinnedFlow src dst = true → (d.planes src dst).length ≤ 1) ∧
      (pinnedFlow src dst = false → dst < 55 → ∀ p, p ∈ d.planes src dst ↔ p < 4 ∧ d.portPlane src p = true ∧ d.portPlane dst p = true) ∧
      (∀ p, d.choosePlane src dst = some p → p ∈ d.planes src dst ∧ ∀ q ∈ d.planes src dst, d.queued src p ≤ d.queued src q ∧
        (d.queued src q = d.queued src p → p ≤ q)) ∧ (d.choosePlane src dst = none → d.planes src dst = []))

/-- LOAD, STORE, ATOMIC, BARRIER_WORD_LOAD, GATHER_REDUCE_JOB_SUBMIT (R281, R292, R293, R294, R300, R345): a record that its home can accept leaves the
buffer and joins the line-op queue in arrival order; a store of lines that the host may hold sends BISnpInv and waits (R355); the barrier word is answered by the Headgate; a job page queues a job. -/
def Obligations.BasinRequests : Prop :=
  ∀ (s : State) (port plane n : Nat) (bad : Bool) (r : Rec), port < 51 → plane < 4 →
    let d := s.dev
    (d.headRec port plane 3 = none → exec (.load port ⟨plane, n, bad⟩) s = .next s ∧ exec (.store port plane) s = .next s ∧
      exec (.atomic port ⟨plane, n, bad⟩) s = .next s ∧
      exec (.gatherReduceJobSubmit port plane) s = .next s) ∧
    (d.headRec port plane 3 = some (r, false) → d.rspRoomTo port r.port = true →
      (∀ st o, d.hbmAt port r.address = some (st, o) →
        let h := d.homeStack st o
        let taken := fun (t : State) (k : Nat) (act : LineAct) =>
          t = { s with dev := { d with ba.recv := t.dev.ba.recv, mem := t.dev.mem, hg := t.dev.hg } } ∧ t.dev.mem.cells = d.mem.cells ∧
          t.dev.mem.poison = d.mem.poison ∧ (∀ x, x ≠ k → t.dev.stack x = d.stack x) ∧
          t.dev.stack k = { d.stack k with ops := (d.stack k).ops ++ [{ stack := k, line := o / 256, act, reply := .record port plane r }] }
        (r.op = 1 → d.mustFetch port r.address r.size = false → r.isBarrier = false → d.hg.snoopLost = [] → r.unit ≠ engineUnit →
          d.opRoom st 1 = true → d.fencedLine st o = false → (d.stack st).resetting = false → d.inBuf st (o / 256) = false →
          ∃ t : State, exec (.load port ⟨plane, n, bad⟩) s = .next t ∧ taken t st (.read (o % 256) r.size)) ∧
        (r.op = 2 → r.isJob port = false → d.readOnly h o r.size = false → d.tracked false (r.address % 2 ^ 48) r.size ≠ [] →
          exec (.store port plane) s = .next { s with dev := each (d.tracked false (r.address % 2 ^ 48) r.size) (Dev.sendSnoop true) d }) ∧
        (r.op = 2 → r.isJob port = false → d.hg.snoopLost = [] → d.tracked false (r.address % 2 ^ 48) r.size = [] → d.opRoom h 1 = true → d.fencedLine h o = false → (d.stack h).resetting = false →
          d.readOnly h o r.size = false → ∃ t : State, exec (.store port plane) s = .next t ∧ taken t h (.store (o % 256) r.data)) ∧
        (∀ op ty, r.op = 3 → d.hg.snoopLost = [] → d.tracked false (r.address % 2 ^ 48) r.size = [] → AtomicOp.ofCode r.aop = some op → AtomicTy.ofCode r.aty = some ty → d.opRoom h 1 = true → d.fencedLine h o = false →
          (d.stack h).resetting = false → d.readOnly h o ty.bytes = false → ∃ t : State, exec (.atomic port ⟨plane, n, bad⟩) s = .next t ∧
          taken t h (.atomic op ty (r.address % 256) (field r.data 0 ty.bytes) (field r.data ty.bytes ty.bytes) (r.unit == engineUnit)))) ∧
      (∀ k, r.isJob port = true → jobStack r.address = some k → (d.stack k).jobs.length < 256 ∨ d.opRoom k 1 = true → (d.stack k).resetting = false → (d.stack k).fenced = false →
        ∃ t : State, exec (.gatherReduceJobSubmit port plane) s = .next t ∧ t = { s with dev := { d with ba := t.dev.ba, mem := t.dev.mem } } ∧
          t.dev.stack k = { d.stack k with jobs := (d.stack k).jobs ++ [{ desc := r.data, reply := .record port plane r }] } ∧
          (256 ≤ (d.stack k).jobs.length → t.dev.ba.out = d.ba.out))) ∧
    (d.headRec 48 plane 3 = some (r, false) → d.rspRoomTo 48 r.port = true → r.isBarrier = true → ∀ q, d.choosePlane 48 r.port = some q →
      ∃ t : State, exec (.barrierWordLoad plane) s = .next t ∧ t = { s with dev := { d with ba := t.dev.ba } } ∧
        t.dev.ba.out = addRec d.tb.ns 48 q 4 r.port (r.response 0 d.barrierWord) d.ba.out)

/-- LOAD_RSP, STORE_ACK, ATOMIC_RSP, XFER_ACK, BULK_WRITE, BULK_READ_DATA, CONTROL, MULTICAST (R79, R80, R220, R234, R236, R437): a response makes its thread
ready; the acknowledgement of a transfer's last part completes it; cells leave the receive buffer as they are taken. -/
def Obligations.BasinResponses : Prop :=
  ∀ (s : State) (port plane : Nat) (r : Rec) (w : Nat × Nat × BCell), port < 51 → plane < 4 →
    let d := s.dev
    (d.headRec port plane 4 = none → exec (.loadRsp port plane) s = .next s ∧ exec (.storeAck port plane) s = .next s ∧
      exec (.atomicRsp port plane) s = .next s ∧ exec (.xferAck port plane) s = .next s) ∧
    (d.headRec port plane 4 = some (r, false) → r.port < 51 → d.cs.jobs = [] →
      (∀ p, d.parkedOp (codeThread r.port r.unit) = some p → p.tag = r.tag → r.unit ≠ engineUnit → r.unit ≠ cacheUnit →
        let ready := fun (t : State) => t = { s with dev := { d with ba.recv := t.dev.ba.recv, cs := t.dev.cs } } ∧
          t.dev.cs.finished = { t := codeThread r.port r.unit, status := r.status, data := r.data } :: d.cs.finished.filter (·.t != codeThread r.port r.unit) ∧
          t.dev.parkedOp (codeThread r.port r.unit) = none
        (r.op = 0x81 → ∃ t : State, exec (.loadRsp port plane) s = .next t ∧ ready t) ∧
        (r.op = 0x82 → ∃ t : State, exec (.storeAck port plane) s = .next t ∧ ready t) ∧
        (r.op = 0x83 → ∃ t : State, exec (.atomicRsp port plane) s = .next t ∧ ready t)) ∧
      (∀ x part, r.op = 0x84 → d.cs.transfers.find? (fun x => x.parts.any (·.tag == r.tag)) = some x → x.parts = [part] → part.tag = r.tag →
        x.desc.length ≤ x.sent → x.timedOut = false → ∃ t : State, exec (.xferAck port plane) s = .next t ∧
        t = { s with dev := { d with ba.recv := t.dev.ba.recv, cs := t.dev.cs } } ∧ t.dev.cs.transfers = d.cs.transfers.filter (·.tag != x.tag) ∧
        t.dev.cs.ended = (x.tag, max x.status r.status) :: d.cs.ended)) ∧
    (d.headKind port plane 1 = some w → d.hg.snoopFilter = [] → d.hg.snoopLost = [] → d.bulkRoom port w.2.2.address w.2.2.length = true → d.rspRoomTo port w.2.2.src = true → ∃ t : State,
      exec (.bulkWrite port plane) s = .next t ∧ t = { s with dev := { d with ba := t.dev.ba, mem := t.dev.mem, hg := t.dev.hg, lg := t.dev.lg } } ∧
      t.dev.ba.recv = d.ba.recv.erase w) ∧
    (d.headKind port plane 2 = some w → ∃ t : State, exec (.bulkReadData port plane) s = .next t ∧
      t = { s with dev := { d with ba := t.dev.ba, mem := t.dev.mem, hg := t.dev.hg, cs := t.dev.cs, free := t.dev.free } } ∧ t.dev.ba.recv = d.ba.recv.erase w) ∧
    (∀ m, d.headKind port plane 5 = some w → w.2.2.ctl = some m → (∀ dom c, m ≠ .vote dom c) → ∃ t : State, exec (.control port plane) s = .next t ∧
      t = { s with dev := { d with ba := t.dev.ba, bu := t.dev.bu } } ∧ t.dev.ba.recv = d.ba.recv.erase w ∧ t.dev.ba.ctlIn = (port, m) :: d.ba.ctlIn ∧
      t.dev.bu.stewards = if m = .running then insertNew w.2.2.src d.bu.stewards else d.bu.stewards) ∧
    (d.headKind port plane 6 = some w → exec (.multicast port plane) s =
      .next { s with dev := { d with ba.recv := d.ba.recv.erase w, ba.ctlIn := (port, .data w.2.2.payload) :: d.ba.ctlIn } }) ∧
    (d.headKind port plane 1 = none → exec (.bulkWrite port plane) s = .next s) ∧ (d.headKind port plane 2 = none → exec (.bulkReadData port plane) s = .next s) ∧
    (d.headKind port plane 5 = none → exec (.control port plane) s = .next s) ∧ (d.headKind port plane 6 = none → exec (.multicast port plane) s = .next s)

/-- LINE_FILL_COMPLETE, LINE_UPDATE, LINE_WRITEBACK, MIRROR_COPY_ACK, SCRUB_READ (R285, R290, R293): a line enters the buffer as the stack holds it;
a store changes its bytes there alone; 1 µs after its last operation it is written back; the odd copy becomes the even one's bytes. -/
def Obligations.LineOperations : Prop :=
  ∀ (s : State) (stack line : Nat), stack < 16 → line < 312500000 →
    let d := s.dev
    let st := d.stack stack
    let mem := fun (t : State) => t = { s with dev := { d with mem := t.dev.mem } } ∧ t.dev.mem.poison = d.mem.poison ∧
      ∀ k, k ≠ stack → t.dev.stack k = d.stack k
    (d.firstOp stack line = none → exec (.lineFillComplete stack line .clean) s = .next s) ∧
    (∀ o, d.firstOp stack line = some o → (∀ off n, o.act ≠ .read off n) → d.inBuf stack line = false → d.lineServed stack line = true →
      d.linePoison stack line = false → st.buf.length < 512 → ∃ t : State, exec (.lineFillComplete stack line .clean) s = .next t ∧ mem t ∧
        t.dev.mem.cells = d.mem.cells ∧
        t.dev.stack stack = { st with buf := st.buf ++ [{ stack, line, data := d.lineData stack line, touched := d.tb.ns }] }) ∧
    (d.inBuf stack line = false → exec (.lineUpdate stack line) s = .next s) ∧
    (∀ off data, d.inBuf stack line = true → d.lineServed stack line = true → d.partner stack (line * 256) = none →
      st.ops.filter (·.line == line) = [{ stack, line, act := .store off data, reply := .none }] →
      ∃ t : State, exec (.lineUpdate stack line) s = .next t ∧ mem t ∧ t.dev.mem.cells = d.mem.cells ∧
        (t.dev.stack stack).ops = st.ops.filter (·.line != line) ∧
        (t.dev.stack stack).buf = st.buf.map fun b => if b.line == line then { b with data := patch (d.lineData stack line) off data, touched := d.tb.ns } else b) ∧
    (∀ b, st.buf.find? (·.line == line) = some b → d.firstOp stack line = none → d.lineServed stack line = true → ∃ t : State,
      exec (.lineWriteback stack line) s = .next t ∧ t = { s with dev := { d with mem := t.dev.mem, tb := t.dev.tb } } ∧
      t.dev.tb.ns = max d.tb.ns (b.touched + 1000) ∧ t.dev.mem.cells = cellsWrite d.mem.cells (hbmKey stack (line * 256)) b.data ∧
      t.dev.stack stack = { st with buf := st.buf.filter (·.line != line) }) ∧
    (st.buf.find? (·.line == line) = none → exec (.lineWriteback stack line) s = .next s) ∧
    (st.copies.filter (·.1 == line) = [] → exec (.mirrorCopyAck stack line) s = .next s) ∧
    (∀ p, d.partner stack (line * 256) = some p → st.copies = [(line, .none, 0, [])] → d.fencedLine p (line * 256) = false → (d.stack p).resetting = false →
      ∃ t : State, exec (.mirrorCopyAck stack line) s = .next t ∧ t = { s with dev := { d with mem := t.dev.mem } } ∧
        t.dev.mem.cells = cellsWrite d.mem.cells (hbmKey p (line * 256)) (d.lineData stack line) ∧ (t.dev.stack stack).copies = []) ∧
    (d.inBuf stack line = false → d.lineServed stack line = true → d.mem.ready = true → line * 256 < stackBytes → d.linePoison stack line = false →
      exec (.scrubRead stack line .clean) s = .next s ∧
      ∃ t : State, exec (.scrubRead stack line .corrected) s = .next t ∧ t = { s with dev := { d with mem := t.dev.mem, fa := t.dev.fa } } ∧
        t.dev.mem.cells = d.mem.cells ∧ t.dev.stack stack = { st with corrected := st.corrected + 1 })

/-- The memory's own faults and resets (R285, R287, R300, R302, R303, R304, R309): tests and repairs of rows, counts that fence a channel, the fence by
IEEE 1500 activity, the control temperature, completed jobs, and a Cistern reset that leaves the stack zero. -/
def Obligations.MemoryFaults : Prop :=
  ∀ (s : State) (stack channel line unit : Nat) (report : Int) (die : List Int), stack < 16 → channel < 16 → line < 312500000 → die.length = 4 →
    let d := s.dev
    let st := d.stack stack
    let lo := hbmKey stack 0
    let hi := hbmKey (stack + 1) 0
    ((d.stack (unitPlace unit)).repairing.contains unit = true → exec (.softPprComplete unit) s =
      .next { s with dev := d.onStack (unitPlace unit) fun x => { x with repairing := x.repairing.filter (· != unit) } }) ∧
    ((d.stack (unitPlace unit)).repairing.contains unit = false → exec (.softPprComplete unit) s = .next s) ∧
    ((d.stack (unitPlace unit)).testing.contains unit = false → exec (.rowTestComplete unit true true) s = .next s) ∧
    ((d.stack (unitPlace unit)).testing.contains unit = true → ∃ t : State, exec (.rowTestComplete unit false false) s = .next t ∧
      t = { s with dev := { d with mem := t.dev.mem, sp := t.dev.sp, lg := t.dev.lg, hg := t.dev.hg } } ∧ unit ∈ t.dev.sp.failed ∧
      t.dev.mem.cells = d.mem.cells ∧ (t.dev.stack (unitPlace unit)).testing = (d.stack (unitPlace unit)).testing.filter (· != unit)) ∧
    ((d.stack (unitPlace unit)).testing.contains unit = true → d.fa.transients = [] → ∃ t : State, exec (.rowTestComplete unit true true) s = .next t ∧
      t = { s with dev := { d with mem := t.dev.mem, sp := t.dev.sp, bu := t.dev.bu, lg := t.dev.lg, hg := t.dev.hg, fa := t.dev.fa } } ∧
      t.dev.fa.transients = [(unit, d.tb.ns)] ∧ t.dev.fa.resume = insertNew unit d.fa.resume) ∧
    (d.firstOp stack line = none → exec (.channelTimeout stack line) s = .next s) ∧
    (∀ o, d.firstOp stack line = some o → d.inBuf stack line = false → d.lineServed stack line = true → d.bufRoom stack line = true →
      countOf (pseudoChannel line / 2) st.timeouts < 2 → ∃ t : State, exec (.channelTimeout stack line) s = .next t ∧
      t = { s with dev := { d with mem := t.dev.mem, ba := t.dev.ba } } ∧
      (t.dev.stack stack).timeouts = bump (pseudoChannel line / 2) 1 st.timeouts ∧ (t.dev.stack stack).channels = st.channels) ∧
    (st.resetting = false → st.fenced = false →
      (countOf channel st.parity < 3 → exec (.parityAlert stack channel) s = .next { s with dev := d.onStack stack fun x => { x with parity := bump channel 1 x.parity } }) ∧
      (countOf channel st.parity = 3 → ∃ t : State, exec (.parityAlert stack channel) s = .next t ∧
        t = { s with dev := { d with mem := t.dev.mem, ba := t.dev.ba, lg := t.dev.lg, hg := t.dev.hg, sp := t.dev.sp, bu := t.dev.bu, fa := t.dev.fa
                                     th := t.dev.th, fw := t.dev.fw } } ∧
        t.dev.mem.cells = d.mem.cells ∧ (t.dev.stack stack).channels.any (·.channel == channel) = true)) ∧
    (st.hotFence = none → st.channels = [{ channel, retrain := true, returns := false }] → d.fa.transients = [] →
      d.sp.failed.contains (channelUnit stack channel) = false → ∃ t : State, exec (.channelRetrainComplete stack channel true) s = .next t ∧
      t = { s with dev := { d with mem := t.dev.mem, sp := t.dev.sp, bu := t.dev.bu, lg := t.dev.lg, hg := t.dev.hg, fa := t.dev.fa } } ∧
      (t.dev.stack stack).channels = [{ channel, retrain := false, returns := true }]) ∧
    (st.hotFence = none → st.channels = [] → ∀ p, exec (.channelRetrainComplete stack channel p) s = .next s) ∧
    (st.fenced = true → exec (.ieee1500Activity stack) s = .next s) ∧
    (st.fenced = false → ∃ t : State, exec (.ieee1500Activity stack) s = .next t ∧
      t = { s with dev := { d with mem := t.dev.mem, ba := t.dev.ba, lg := t.dev.lg, hg := t.dev.hg, sp := t.dev.sp, bu := t.dev.bu, fa := t.dev.fa
                                   th := t.dev.th, fw := t.dev.fw } } ∧
      (t.dev.stack stack).fenced = true ∧ t.dev.sp.degraded = true ∧ t.dev.mem.cells = d.mem.cells ∧ ∀ o, t.dev.fencedLine stack o = true) ∧
    ((report - median die).natAbs ≤ 120 → report ≤ 1050 → median die ≤ 1050 → ∃ t : State, exec (.stackTempRead stack report die) s = .next t ∧
      t = { s with dev := { d with mem := t.dev.mem, th := t.dev.th, pw := t.dev.pw, lg := t.dev.lg, hg := t.dev.hg } } ∧ t.dev.mem.cells = d.mem.cells ∧
      (t.dev.stack stack).ctlTemp = max report (median die) ∧ (t.dev.stack stack).fenced = st.fenced ∧
      ((t.dev.stack stack).refresh2 = if 850 < max report (median die) then true else if max report (median die) < 820 then false else st.refresh2)) ∧
    (st.jobs = [] ∨ st.resetting = true → exec (.gatherReduceJobComplete stack) s = .next s) ∧
    (∀ j rest, st.jobs = j :: rest → st.resetting = false → ∃ t : State, exec (.gatherReduceJobComplete stack) s = .next t ∧
      t = { s with dev := { d with mem := t.dev.mem, ba := t.dev.ba, hg := t.dev.hg } } ∧ (t.dev.stack stack).jobs = rest ∧
      (j.ok = false → t.dev.mem.cells = d.mem.cells)) ∧
    (st.resetting = true → exec (.cisternReset stack) s = .next s) ∧
    (st.resetting = false → ∃ t : State, exec (.cisternReset stack) s = .next t ∧ t = { s with dev := { d with mem := t.dev.mem, ba := t.dev.ba } } ∧
      t.dev.mem.cells = cellsClear d.mem.cells lo hi ∧ (∀ k, k ≠ stack → t.dev.stack k = d.stack k) ∧ (t.dev.stack stack).resetting = true ∧
      (t.dev.stack stack).ops = [] ∧ (t.dev.stack stack).buf = [] ∧ (t.dev.stack stack).jobs = [] ∧ (t.dev.stack stack).keys = st.keys + 1) ∧
    (st.resetting = true → d.fa.now = none → ∃ t : State, exec (.cisternResetComplete stack) s = .next t ∧ t = { s with dev := { d with mem := t.dev.mem } } ∧
      (t.dev.stack stack).resetting = false) ∧
    (st.resetting = false → exec (.cisternResetComplete stack) s = .next s)

/-- Lasers, tuning and calibration (R250, R251, R253 to R256, R259, R260, R264, R269 to R271, R273): the hot spare takes over a failed comb; a ring's
code moves by at most 4 and the feedforward; an identity check locks a ring; two agreeing measurements are accepted. -/
def Obligations.OpticsAtWork : Prop :=
  ∀ (s : State) (w port plane line : Nat) (id : RingId) (step dT : Int) (sample : PathSample), w < 8 → port < 55 → plane < 4 → line < 18 →
    id.wf = true → sample.levels.length = 10 → sample.src < 55 →
    let d := s.dev
    let o := d.optic port plane
    let steered := (d.ring id).rest + d.feedforward id dT
    (d.op.dark = true → exec (.combFailure w) s = .next s ∧ exec .laserAgeingCheck s = .next s) ∧
    (d.lit id.port = false → exec (.tuningLoopUpdate id true step dT) s = .next s ∧ exec (.laneIdentityCheck id none) s = .next s) ∧
    (d.fw.handover.isSome = true → exec (.tuningLoopUpdate id true step dT) s = .next s ∧ exec .laserAgeingCheck s = .next s ∧
      exec (.opticalMonitorSample port plane line sample) s = .next s ∧ exec .calibrationStoreWrite s = .next s) ∧
    (d.op.dark = false → (d.well w).switching = none → ∃ t : State, exec (.combFailure w) s = .next t ∧ t.pending = s.pending ∧
      ∀ m ∈ t.dev.ba.matches_, m.plane = w % 4 → m.src ∉ fedPorts w) ∧
    (d.op.dark = false → (d.well w).switching = none → (∀ m ∈ d.ba.matches_, m.plane = w % 4 → m.src ∉ fedPorts w) → ∃ t : State, exec (.combFailure w) s = .next t ∧
      t = { s with dev := { d with op := t.dev.op, ba := t.dev.ba, sp := t.dev.sp, bu := t.dev.bu, lg := t.dev.lg, hg := t.dev.hg } } ∧
      ((d.well w).spareUsed = false → (t.dev.well w).switching = some d.tb.ns ∧ (t.dev.well w).spareUsed = true ∧
        ∀ p ∈ fedPorts w, t.dev.givesCells p (w % 4) = false) ∧
      ((d.well w).spareUsed = true → (t.dev.well w).switching = none ∧ ∀ p ∈ fedPorts w, (d.pport p (w % 4)).retired = false →
        (t.dev.pport p (w % 4)).retiring = true)) ∧
    ((d.well w).switching = none → exec (.combSwitchComplete w) s = .next s) ∧
    (∀ t0, (d.well w).switching = some t0 → ∃ t : State, exec (.combSwitchComplete w) s = .next t ∧
      t = { s with dev := { d with op := t.dev.op, ba := t.dev.ba, tb := t.dev.tb } } ∧
      t.dev.tb.ns = (if (d.well w).scheduled then max d.tb.ns (t0 + 20000) else d.tb.ns) ∧ t.dev.well w = { d.well w with
        switching := none, source := 1 - (d.well w).source, bias := (d.well w).spareBias, spareBias := (d.well w).bias }) ∧
    (d.lit id.port = true → d.fw.handover = none → ∃ t : State, exec (.tuningLoopUpdate id true step dT) s = .next t ∧
      t = { s with dev := { d with op := t.dev.op } } ∧ t.dev.ring id = { d.ring id with
        code := clampCode id.idx ((d.ring id).code + (max (-4) (min 4 step) + nearestInt steered 2000)), rest := steered - 2000 * nearestInt steered 2000, out := 0 }) ∧
    (∀ v, d.lit id.port = true → d.wantedIdentity id = some v → (d.ring id).locked = true → (d.optic id.port id.plane).relockSince = none →
      ∃ t : State, exec (.laneIdentityCheck id (some v)) s = .next t ∧ t = { s with dev := { d with op := t.dev.op } } ∧
        t.dev.ring id = { d.ring id with locked := true, checked := true, sweeps := 0, out := 0 }) ∧
    (∀ v, d.lit id.port = true → d.wantedIdentity id = some v → (d.ring id).sweeps = 0 → ∃ t : State, exec (.laneIdentityCheck id (some (v + 1))) s = .next t ∧
      t = { s with dev := { d with op := t.dev.op, ba := t.dev.ba, lg := t.dev.lg, hg := t.dev.hg } } ∧
      t.dev.ring id = { d.ring id with locked := false, checked := false, sweeps := 1, rest := 0
                                       code := clampCode id.idx (nearestInt (setPoint200 (d.ring id).sets none (d.portTemp id.port)) 200) }) ∧
    (o.relockSince = none → exec (.relockTimeout port plane) s = .next s) ∧
    (∀ t0, o.relockSince = some t0 → (d.pport port plane).retired = false → ∃ t : State, exec (.relockTimeout port plane) s = .next t ∧
      t = { s with dev := { d with op := t.dev.op, ba := t.dev.ba, tb := t.dev.tb } } ∧ t.dev.tb.ns = max d.tb.ns (t0 + 1000000) ∧
      (t.dev.pport port plane).retiring = true ∧ (t.dev.optic port plane).relockSince = none) ∧
    (d.fw.handover = none → ∃ t : State, exec (.opticalMonitorSample port plane line sample) s = .next t ∧ t = { s with dev := { d with op := t.dev.op } } ∧
      valueOf line (t.dev.optic port plane).monitors = some sample.levels ∧ (t.dev.optic port plane).expected = o.expected ∧
      (o.sums = [] → d.countsLine port plane line .rx = true → d.countsLine sample.src plane line .tx = true →
        (t.dev.optic port plane).sums = [((sample.src, line), (sample.levels[9]?).getD 0, 1)])) ∧
    (d.op.dark = false → d.fw.handover = none → ∃ t : State, exec .laserAgeingCheck s = .next t ∧
      t = { s with dev := { d with op := t.dev.op, sw := t.dev.sw, ba := t.dev.ba, sp := t.dev.sp, bu := t.dev.bu, tb := t.dev.tb, lg := t.dev.lg
                                   hg := t.dev.hg } } ∧
      t.dev.tb.ns = max d.tb.ns (d.op.lastAgeing + 1000000000) ∧ t.dev.op.lastAgeing = t.dev.tb.ns) ∧
    (∀ a b c e temp, (∀ pos, o.cal = some pos → d.measures port plane pos = false) → exec (.calibrationMeasurementComplete port plane a b c e temp) s = .next s) ∧
    (∀ a b c e temp pos, o.cal = some pos → d.measures port plane pos = true → ∃ t : State, exec (.calibrationMeasurementComplete port plane a b c e temp) s = .next t ∧
      ((agree a b && agree c e) = true → t = { s with dev := { d with op := t.dev.op, ba := t.dev.ba } } ∧ (t.dev.optic port plane).cal = none ∧
        (t.dev.optic port plane).accepted = (o.accepted + 1) % 65536 ∧ (t.dev.optic port plane).lastCal = d.tb.ns) ∧
      ((agree a b && agree c e) = false → countOf pos o.disagree < 2 → t = { s with dev := { d with op := t.dev.op, ba := t.dev.ba } } ∧
        (t.dev.optic port plane).cal = none ∧ (t.dev.optic port plane).disagreed = (o.disagreed + 1) % 65536 ∧
        (t.dev.optic port plane).disagree = bump pos 1 o.disagree)) ∧
    (d.fw.handover = none → ∃ t : State, exec .calibrationStoreWrite s = .next t ∧ t = { s with dev := { d with op := t.dev.op, tb := t.dev.tb } } ∧
      t.dev.tb.ns = max d.tb.ns (d.op.lastWrite + 3600000000000) ∧ t.dev.op.lastWrite = t.dev.tb.ns ∧
      (d.op.dirty = true → d.flashOk = true → t.dev.op.dirty = false ∧ t.dev.op.stored = d.op.rings.map fun r => (r.id, r.sets)) ∧
      (d.flashOk = false → t.dev.op.stored = d.op.stored ∧ t.dev.op.dirty = d.op.dirty))

/-- What crosses a link (R217, R313, R317, R318): the 36 symbols of a codeword and the lane each rides, Gray-coded levels, one alignment bit after
every 16 codeword bits; a frame's codewords, a marker and its interval; a data lane whose ring is out of lock makes every codeword uncorrectable. -/
def Obligations.LinkCodewords : Prop :=
  (∀ bytes : List Byte, bytes.length = 16 → (codeSymbols bytes).length = 36 ∧ (∀ j, j < 32 → (codeSymbols bytes)[j]? = some (leNat bytes / 16 ^ j % 16)) ∧
    ∀ i, i < 4 → (codeSymbols bytes)[32 + i]? = some ((Config.s144Check (leNat bytes)).toNat / 16 ^ i % 16)) ∧
  (∀ (lane : Nat) (ws : List (List Nat)), lane < 16 → (∀ w ∈ ws, w.length = 36) →
    (ws.length = 1024 → (laneSymbols lane ws).length = 2304) ∧
    ∀ c j x, (ws[c]?).bind (·[j]?) = some x → (j + c) % 16 = lane → x ∈ laneSymbols lane ws) ∧
  (∀ a b, a < 16 → b < 16 → pam4 a = pam4 b → a = b) ∧ [0, 1, 3, 2].map grayLevel = [0, 1, 2, 3] ∧
  (∀ lane syms i, lane < 16 → 4 * (i + 1) ≤ syms.length → (lineBits lane syms)[17 * i + 16]? = (alignBits lane)[(i + 1) % 16]? ∧
    ∀ k, k < 16 → (lineBits lane syms)[17 * i + k]? = ((syms.map symbolBits).flatten)[16 * i + k]?) ∧
  (∀ port key f, (frameWords port key f).length = 2 + (f.payload.length + 15) / 16 + (if f.enc then 1 else 0) ∧ (∀ w ∈ frameWords port key f, w.length = 16) ∧
    (f.enc = false → (frameWords port key f).flatten.take (32 + f.payload.length) = frameHeader f ++ f.payload)) ∧
  (∀ rq rs start seq (rest : List (List Byte)) (credit : Nat × Nat),
    let m := markerWord rq rs start seq
    m.length = 16 ∧ m.head? = some 0xFE ∧ u16 m 2 = start % 65536 ∧ u32 m 4 = seq % 2 ^ 32 ∧ (interval m rest credit).length = 1024 ∧
    (interval m rest credit).head? = some m) ∧
  (∀ id : RingId, 64 ≤ id.port → id.idx < 18 → ∀ d : Dev, d.wantedIdentity id = some id.idx ∧ pilotFrame id.idx = msbFirst 0xD4 ++ msbFirst id.idx) ∧
  (∀ (d : Dev) (src dst plane l : Nat) (wrong : List (Nat × Nat)), l < 16 → d.laneLive src dst plane l = false →
    (d.wrongSymbols src dst plane wrong).length = 258 ∧ ∀ e ∈ d.wrongSymbols src dst plane wrong, 2 ≤ e) ∧
  (∀ (d : Dev) (port c l : Nat) (wrong : List Nat), l < 16 → (d.fport port).faultLane ≠ l → (d.fport port).calLane ≠ l → (d.fport port).calNow ≠ some l →
    (d.ring { port := 64 + port, plane := 0, side := .rx, idx := l }).locked = false → 2 ≤ d.fibreWrong port c wrong)

/-- FABRIC_JOIN and FABRIC_LEAVE (R332, R336): a join without the licence changes nothing but the answer; with it the node, epoch, group and route
table are those of the body; a leave with nothing outstanding darkens the ports and turns the fabric off. -/
def Obligations.FabricMembership : Prop :=
  ∀ (s : State) (ch : Nat),
    let d := s.dev
    let b := s.body ch
    (s.atWork 0x0302 ch = true → d.sw.joined = true → ∃ t : State, exec (.fabricJoin ch) s = .next t ∧ t = { s with dev := { d with mb := t.dev.mb } } ∧
      ∃ body, t.ended ch stConflict body) ∧
    (s.atWork 0x0302 ch = true → d.sw.joined = false → d.noBarrier = false → joinFits b = true → u8 b 13 ≠ 2 →
      (bitOf d.fw.features 0 = false → ∃ t : State, exec (.fabricJoin ch) s = .next t ∧ t = { s with dev := { d with mb := t.dev.mb } } ∧
        t.ended ch stNotLicensed []) ∧
      (bitOf d.fw.features 0 = true → ∃ t : State, exec (.fabricJoin ch) s = .next t ∧
        t = { s with dev := { d with sw := t.dev.sw, mb := t.dev.mb, lg := t.dev.lg, hg := t.dev.hg, fa := t.dev.fa, cs := t.dev.cs, ba := t.dev.ba } } ∧
        t.ended ch stOk [] ∧ t.dev.sw.joined = true ∧ t.dev.sw.node = u16 b 0 ∧ t.dev.sw.epoch = u32 b 4 ∧ t.dev.sw.role = u8 b 13 ∧
        t.dev.sw.group = u16 b 14 ∧ t.dev.sw.root = u16 b 16 ∧ t.dev.sw.table = [] ∧
        t.dev.sw.timeout = (if u32 b 8 = 0 then 1000 else u32 b 8) ∧ t.dev.sw.maxHops = (if u8 b 12 = 0 then 8 else u8 b 12))) ∧
    (s.atWork 0x0303 ch = true → d.sw.joined = true → d.sw.leaving = none →
      (d.sw.ops = [] → ∃ t : State, exec (.fabricLeave ch) s = .next t ∧ t = { s with dev := { d with sw := t.dev.sw, mb := t.dev.mb, lg := t.dev.lg, hg := t.dev.hg } } ∧
        t.ended ch stOk (leBytes 4 0) ∧ t.dev.sw.joined = false ∧ t.dev.fabricAxis = 0 ∧ ∀ p, p < 8 → (t.dev.fport p).st = .dark) ∧
      (d.sw.ops ≠ [] → ∃ t : State, exec (.fabricLeave ch) s = .next t ∧
        t = { s with dev := { d with sw.leaving := some (ch, 0), sw.mgmt := t.dev.sw.mgmt } } ∧
        ∀ p, p < 8 → (d.fport p).st = .up → (p, .leave) ∈ t.dev.sw.mgmt))

/-- Frames that arrive (R319, R320, R325, R331, R337): nothing while the port is not UP; a request of another node goes on to its home over the Basin,
a response ends its operation or is late, a frame for another node is queued toward it with one hop less, one that does not fit is discarded. -/
def Obligations.SpillwayArrivals : Prop :=
  ∀ (s : State) (port : Nat) (f : Frame), port < 8 → f.wf = true → s.dev.sw.deliver = [] →
    let d := s.dev
    let p := d.fport port
    let requests := [(1, Instr.spillwayLoad port f), (2, .spillwayStore port f), (3, .spillwayAtomic port f), (4, .spillwayBulkWrite port f), (5, .spillwayBulkRead port f)]
    let sound := p.st = .up ∧ p.skipping = false ∧ p.authentic f = true ∧ epochOk d.sw.epoch f.epoch = true
    let own := f.dst = d.sw.node ∧ d.hg.devState ≠ .safeHold
    (p.st ≠ .up → (∀ c ∈ requests, exec c.2 s = .next s) ∧ exec (.spillwayResponse port f) s = .next s ∧ exec (.transitForward port f) s = .next s) ∧
    (sound → own → frameFits f = true → f.poison = false → ∀ home, d.frameHome f = some home → d.homeRoom (engineOf port) home = true →
      ∀ c ∈ requests, c.1 = f.kind → ∃ t : State, exec c.2 s = .next t ∧ t = { s with dev := { d with sw := t.dev.sw, ba := t.dev.ba, cs := t.dev.cs } } ∧
        t.dev.sw.inbound = d.sw.inbound ++ [{ tag := d.cs.nextTag, fibre := port, frame := f }] ∧
        (t.dev.fport port).framesRx = p.framesRx + 1 ∧ (t.dev.fport port).reqUsed = p.reqUsed ∧ (t.dev.fport port).reqFree = p.reqFree + 1) ∧
    (sound → own → frameFits f = false → p.discRound ≠ 4 → ∀ c ∈ requests, c.1 = f.kind → ∃ t : State, exec c.2 s = .next t ∧
      t = { s with dev := { d with sw := t.dev.sw } } ∧ (t.dev.fport port).discarded = p.discarded + 1 ∧ t.dev.sw.inbound = d.sw.inbound) ∧
    (sound → own → frameFits f = true → f.kind ∈ [0x81, 0x82, 0x83, 0x84, 0x85] →
      (d.opOf f = none → ∃ t : State, exec (.spillwayResponse port f) s = .next t ∧ t = { s with dev := { d with sw := t.dev.sw } } ∧
        t.dev.sw.lateRsp = d.sw.lateRsp + 1 ∧ t.dev.sw.ops = d.sw.ops) ∧
      (∀ o, d.opOf f = some o → o.left.isSome = true → o.ask.op + 0x80 = f.kind → o.ask.op < 4 → d.sw.leaving = none → ∃ t : State,
        exec (.spillwayResponse port f) s = .next t ∧ t = { s with dev := { d with sw := t.dev.sw, ba := t.dev.ba } } ∧
        t.dev.sw.ops = d.sw.ops.erase o ∧ t.dev.sw.lateRsp = d.sw.lateRsp)) ∧
    (sound → f.dst ≠ d.sw.node → frameFits f = true →
      (f.hops = 0 → ∃ t : State, exec (.transitForward port f) s = .next t ∧ t = { s with dev := { d with sw := t.dev.sw } } ∧
        t.dev.sw.hopDiscard = d.sw.hopDiscard + 1) ∧
      (∀ q, 0 < f.hops → d.route f.dst = some q → engineOf q = engineOf port → ∃ t : State, exec (.transitForward port f) s = .next t ∧
        t = { s with dev := { d with sw := t.dev.sw } } ∧ (t.dev.fport q).queue = (d.fport q).queue ++
          [{ frame := { f with hops := f.hops - 1, enc := false, counter := 0, credit := 0 }, since := d.tb.ns, from_ := some port }]))

/-- FRAME_TRANSMIT, IDLE_CODEWORD, MARKER, FRAME_UNCORRECTABLE, SPILLWAY_TIMEOUT, STALE_FRAME_EXPIRY (R318, R319, R324, R330, R331, R338): a frame leaves on
a credit; codewords return credits; a bad header discards to the next marker; timeouts end operations; no frame older than 10 ms stays. -/
def Obligations.SpillwaySending : Prop :=
  ∀ (s : State) (port c seq gen unit : Nat), port < 8 → s.dev.sw.deliver = [] →
    let d := s.dev
    let p := d.fport port
    let sw := fun (t : State) => t = { s with dev := { d with sw := t.dev.sw } }
    let ready := fun (x : TxFrame) => decide (0 < (if isRsp x.frame then p.rspCredit else p.reqCredit))
    let crossing := fun (d : Dev) => (d.ba.out.map (·.cell) ++ d.ba.recv.map (·.2.2)).filterMap (BCell.heldFor port)
    (p.queue.find? ready = none → exec (.frameTransmit port) s = .next s) ∧
    (∀ x, p.queue.find? ready = some x → p.st = .up → ∃ t : State, exec (.frameTransmit port) s = .next t ∧ sw t ∧
      (t.dev.fport port).queue = p.queue.erase x ∧ (t.dev.fport port).framesTx = p.framesTx + 1 ∧
      (t.dev.fport port).reqCredit + (t.dev.fport port).rspCredit + 1 = p.reqCredit + p.rspCredit ∧
      ∃ g, t.dev.sw.sent = (port, g) :: d.sw.sent ∧ g.kind = x.frame.kind ∧ g.dst = x.frame.dst ∧ g.payload = x.frame.payload ∧ g.enc = p.enc) ∧
    (p.st = .up → p.skipping = false → ∃ t : State, exec (.idleCodeword port c) s = .next t ∧ sw t ∧
      t.dev.fport port = { p with reqCredit := p.reqCredit + c % 16, rspCredit := p.rspCredit + c / 16 % 16 }) ∧
    (p.st ≠ .up → exec (.idleCodeword port c) s = .next s) ∧
    (p.st ≠ .up → p.st ≠ .training → exec (.marker port c 0xFFFF seq) s = .next s) ∧
    (p.st = .up → p.laneMap = none → p.keySwitch = none → p.txSwitch = none → ∃ t : State, exec (.marker port c 0 seq) s = .next t ∧ sw t ∧
      t.dev.fport port = { p with marker := some seq, skipping := false, reqCredit := p.reqCredit + c % 16, rspCredit := p.rspCredit + c / 16 % 16 }) ∧
    (∀ index k wrong response, index < 259 → k < 1024 → (∀ j ∈ wrong, j < 36) → p.st = .up → p.skipping = false →
      (d.fibreWrong port k wrong = 0 → exec (.frameUncorrectable port ⟨index, k, wrong⟩ response) s = .next s) ∧
      (d.fibreWrong port k wrong = 1 → ∃ t : State, exec (.frameUncorrectable port ⟨index, k, wrong⟩ response) s = .next t ∧ sw t ∧
        t.dev.fport port = { p with corrected := p.corrected + 1 }) ∧
      (2 ≤ d.fibreWrong port k wrong → p.discRound ≠ 4 → ∃ t : State, exec (.frameUncorrectable port ⟨index, k, wrong⟩ response) s = .next t ∧
        t = { s with dev := { d with sw := t.dev.sw, lg := t.dev.lg, hg := t.dev.hg } } ∧ (t.dev.fport port).skipping = decide (index < 2) ∧
        (t.dev.fport port).discarded = p.discarded + 1)) ∧
    (p.skipping = true → ∀ index k wrong response, exec (.frameUncorrectable port ⟨index, k, wrong⟩ response) s = .next s) ∧
    (d.sw.ops = [] → exec (.spillwayTimeout gen unit) s = .next s) ∧
    (∀ o left, d.sw.ops = [o] → o.gen = gen → o.unit = unit → o.left = some left → d.sw.leaving = none → ∃ t : State,
      exec (.spillwayTimeout gen unit) s = .next t ∧ t = { s with dev := { d with sw := t.dev.sw, tb := t.dev.tb, cs := t.dev.cs, fa := t.dev.fa, ba := t.dev.ba } } ∧
      t.dev.sw.ops = [] ∧ t.dev.tb.ns = max d.tb.ns (left + d.sw.timeout * 1000)) ∧
    (p.queue = [] → crossing d = [] → exec (.staleFrameExpiry port) s = .next s) ∧
    (p.queue ≠ [] ∨ crossing d ≠ [] → ∃ t : State, exec (.staleFrameExpiry port) s = .next t ∧
      t = { s with dev := { d with sw := t.dev.sw, tb := t.dev.tb, ba.out := t.dev.ba.out, ba.recv := t.dev.ba.recv } } ∧
      (∀ x ∈ (t.dev.fport port).queue, x ∈ p.queue ∧ t.dev.tb.ns < x.since + 10000000) ∧ (∀ since ∈ crossing t.dev, t.dev.tb.ns < since + 10000000) ∧
      t.dev.sw.staleDiscard + (t.dev.fport port).queue.length + (crossing t.dev).length = d.sw.staleDiscard + p.queue.length + (crossing d).length)

/-- Link management (R312, R314, R316, R321 to R323, R341, R342): each message, timer and change of light, the state it leads to and its cause; nothing in a
state in which the spec gives it no effect. -/
def Obligations.LinkManagement : Prop :=
  ∀ (s : State) (port node epoch rq rs seq : Nat) (map : List Nat), port < 8 → map.length = 18 →
    let d := s.dev
    let p := d.fport port
    let sw := fun (t : State) => t = { s with dev := { d with sw := t.dev.sw } }
    let link := fun (t : State) => t = { s with dev := { d with sw := t.dev.sw, lg := t.dev.lg, hg := t.dev.hg, cs := t.dev.cs, fa := t.dev.fa, ba := t.dev.ba } }
    let live := p.st = .up ∨ p.st = .training
    (p.st = .training → d.epochAccepted epoch = true → ∃ t : State, exec (.hello port 1 node epoch rq rs (bitOf d.sw.encMask port)) s = .next t ∧ sw t ∧
      t.dev.fport port = { p with partner := node % 65536, partnerEpoch := epoch % 2 ^ 32, helloIn := true, reqCredit := rq, rspCredit := rs }) ∧
    (live → d.epochAccepted epoch = false → p.lost = false → ∃ t : State, exec (.hello port 1 node epoch rq rs false) s = .next t ∧ link t ∧
      (t.dev.fport port).st = .training ∧ (t.dev.fport port).cause = 5) ∧
    (p.st ≠ .up → exec (.helloTimer port) s = .next s ∧ exec (.laneMap port map seq) s = .next s ∧ exec (.keySwitch port seq) s = .next s ∧
      exec (.rekeyTimer port) s = .next s) ∧
    (p.st = .up → ∃ t : State, exec (.helloTimer port) s = .next t ∧ t = { s with dev := { d with sw := t.dev.sw, tb := t.dev.tb } } ∧
      t.dev.sw.mgmt = (port, .hello 1 d.sw.node d.sw.epoch 48 16 (bitOf d.sw.encMask port)) :: d.sw.mgmt) ∧
    (p.st = .up → p.laneMap = none → mapOk map = true → ∃ t : State, exec (.laneMap port map seq) s = .next t ∧ sw t ∧
      t.dev.fport port = { p with laneMap := some (map, seq, true), calMap := false } ∧ t.dev.sw.mgmt = (port, .laneMap map seq) :: d.sw.mgmt) ∧
    (live → p.lost = false → (∃ t : State, exec (.leave port) s = .next t ∧ link t ∧ (t.dev.fport port).cause = 3 ∧ (t.dev.fport port).st = .training) ∧
      (∃ t : State, exec (.portLossOfLight port true true) s = .next t ∧ link t ∧ (t.dev.fport port).cause = 2 ∧ (t.dev.fport port).st = .training)) ∧
    (live → ∃ t : State, exec (.portLossOfLight port false false) s = .next t ∧ link t ∧ (t.dev.fport port).cause = 1 ∧ (t.dev.fport port).st = .down) ∧
    (¬live → exec (.leave port) s = .next s ∧ exec (.portLossOfLight port false false) s = .next s ∧ exec (.spdm port true true) s = .next s) ∧
    (p.st = .training → bitOf d.sw.encMask port = true → d.keyUsable = true → ∃ t : State, exec (.spdm port true true) s = .next t ∧ sw t ∧
      t.dev.fport port = { p with keyed := true }) ∧
    (p.st = .up → p.enc = true → ∃ t : State, exec (.keySwitch port seq) s = .next t ∧ sw t ∧ t.dev.fport port = { p with keySwitch := some seq }) ∧
    (p.st = .up → p.enc = true → ∃ t : State, exec (.rekeyTimer port) s = .next t ∧ t = { s with dev := { d with sw := t.dev.sw, tb := t.dev.tb } } ∧
      t.dev.sw.mgmt = (port, .spdm) :: d.sw.mgmt ∧ (2 ^ 31 ≤ p.txCounter → t.dev.tb = d.tb)) ∧
    (live → p.lost = false → ∃ t : State, exec (.aprEntry port) s = .next t ∧ link t ∧ (t.dev.fport port).st = .probing) ∧
    (p.st = .probing → ∃ t : State, exec (.aprProbeLight port) s = .next t ∧
      t = { s with dev := { d with sw := t.dev.sw, op := t.dev.op, lg := t.dev.lg, hg := t.dev.hg } } ∧
      (∀ side i, i < 18 → (t.dev.ring { port := 64 + port, plane := 0, side, idx := i }).locked = false) ∧
      (t.dev.fport port).st = .training ∧ (t.dev.fport port).trainSince = some d.tb.ns ∧ (port, d.helloOf port) ∈ t.dev.sw.mgmt) ∧
    (p.st ≠ .probing → exec (.aprProbeLight port) s = .next s) ∧
    (p.st = .training → p.helloIn = true → p.marker ≠ none → d.linesReady port = true → bitOf d.sw.encMask port = false ∨ p.keyed = true → ∃ t : State, exec (.portUp port) s = .next t ∧
      t = { s with dev := { d with sw := t.dev.sw, lg := t.dev.lg, hg := t.dev.hg } } ∧ (t.dev.fport port).st = .up ∧
      (t.dev.fport port).enc = bitOf d.sw.encMask port) ∧
    (p.helloIn = false ∨ p.marker = none ∨ d.linesReady port = false → exec (.portUp port) s = .next s) ∧
    (∀ t0, p.st = .training → p.trainSince = some t0 → ∃ t : State, exec (.trainingTimeout port) s = .next t ∧
      t = { s with dev := { d with sw := t.dev.sw, lg := t.dev.lg, hg := t.dev.hg, tb := t.dev.tb } } ∧ (t.dev.fport port).st = .probing ∧
      t.dev.tb.ns = max d.tb.ns (t0 + 500000000)) ∧
    (∀ engine source, engine < 4 → source < 3 → (d.comb engine source).failed = false → ∃ t : State, exec (.spillwayCombFailure engine source) s = .next t ∧
      t = { s with dev := { d with sw := t.dev.sw, lg := t.dev.lg, hg := t.dev.hg, cs := t.dev.cs, fa := t.dev.fa, ba := t.dev.ba, sp := t.dev.sp, bu := t.dev.bu } } ∧
      (t.dev.comb engine source).failed = true)

/-- Rack barriers (R343, R344, R345): a member's arrival is queued to its root; the root counts arrivals and releases; a member takes its release, or
misses it; a withdrawal of the root suspends its members, and a rejoin waits for the boundary. -/
def Obligations.RackBarriers : Prop :=
  ∀ (s : State) (port : Nat) (f : Frame) (w : Nat), port < 8 → f.wf = true →
    let d := s.dev
    let p := d.fport port
    let sw := fun (t : State) => t = { s with dev := { d with sw := t.dev.sw } }
    let swBa := fun (t : State) => t = { s with dev := { d with sw := t.dev.sw, ba := t.dev.ba } }
    let timed := fun (t : State) (q : RoundPoint) (offset : Nat) =>
      t = { s with dev := { d with sw := t.dev.sw, ba := t.dev.ba, tb := t.dev.tb, rd.done := q :: d.rd.done } } ∧ t.dev.tb.ns = max d.tb.ns (d.rd.start + offset)
    let comes := fun (kind : Nat) => f.kind = kind ∧ p.st = .up ∧ p.skipping = false ∧ p.authentic f = true ∧ frameFits f = true ∧
      epochOk d.sw.epoch f.epoch = true ∧ f.dst = d.sw.node ∧ d.hg.devState ≠ .safeHold
    (d.rd.active = false → exec .barrierArriveSend s = .next s ∧ exec .barrierArriveDeadline s = .next s ∧ exec .barrierReleaseDeadline s = .next s ∧
      exec .barrierMissed s = .next s) ∧
    let within := fun (offset : Nat) => (d.reach (d.rd.start + offset)).inBarrier = true
    (∀ q, d.rd.active = true → d.sw.arrived = false → d.sw.role = 1 → d.route d.sw.root = some q →
      (d.coveredOps = false → d.inBarrier = true → (d.reach (d.rd.start + d.rd.period - 40000)).inBarrier = true → ∃ t : State, exec .barrierArriveSend s = .next t ∧ t = { s with dev := { d with sw := t.dev.sw, tb := t.dev.tb } } ∧
        t.dev.sw.arrived = true ∧ t.dev.tb.ns = max d.tb.ns (d.rd.start + d.rd.period - 40000) ∧
        ∃ x, (t.dev.fport q).queue = (d.fport q).queue ++ [x] ∧ x.frame.kind = 0x10 ∧ x.frame.dst = d.sw.root ∧
          x.frame.payload = barrierRecord d.rd.number d.sw.group false 0) ∧
      (d.rd.done.contains .arriveDeadline = false → within (d.rd.period - 25000) → ∃ t : State, exec .barrierArriveDeadline s = .next t ∧ timed t .arriveDeadline (d.rd.period - 25000) ∧
        t.dev.sw.arrived = true ∧ ∃ x, (t.dev.fport q).queue = (d.fport q).queue ++ [x] ∧ x.frame.payload = barrierRecord d.rd.number d.sw.group true 0)) ∧
    (comes 0x10 → d.sw.role = 2 → d.inBarrier = true → d.ofRound f true = true → d.sw.released = false → d.expectedNodes.contains f.src = true →
      d.sw.arrivals.any (·.1 == f.src) = false → (∃ n ∈ d.expectedNodes, n ≠ f.src ∧ d.sw.arrivals.any (·.1 == n) = false) →
      ∃ t : State, exec (.barrierArrive port f) s = .next t ∧ sw t ∧ t.dev.sw.arrivals = d.sw.arrivals ++ [(f.src, bitOf (u16 f.payload 10) 0)] ∧
        t.dev.sw.released = false) ∧
    (d.rd.active = true → d.rd.done.contains .releaseDeadline = false → d.sw.role = 2 → within (d.rd.period - 15000) → d.sw.released = false → ∃ t : State,
      exec .barrierReleaseDeadline s = .next t ∧ timed t .releaseDeadline (d.rd.period - 15000) ∧ t.dev.sw.released = true ∧
      ∃ bad, t.dev.sw.outcome = some (d.rd.number, d.sw.arrivals.length, bad, d.sw.withdrawn.length) ∧ (bad = 0 ↔
        (∀ n ∈ d.expectedNodes, d.sw.arrivals.any (·.1 == n) = true) ∧ d.sw.arrivals.any (·.2) = false)) ∧
    (comes 0x11 → d.sw.role = 1 → d.inBarrier = true → f.src = d.sw.root → d.ofRound f true = true → d.sw.outcome = none → ∃ t : State,
      exec (.barrierRelease port f w) s = .next t ∧ swBa t ∧
      t.dev.sw.outcome = some (d.rd.number, u32 f.payload 12, u16 f.payload 10 % 2, w % 65536)) ∧
    (d.rd.active = true → d.rd.done.contains .barrierMissed = false → d.sw.role = 1 → within (d.rd.period - 10000) → d.sw.outcome = none → ∃ t : State,
      exec .barrierMissed s = .next t ∧ timed t .barrierMissed (d.rd.period - 10000) ∧ t.dev.sw.outcome = some (d.rd.number, 0, 2, 0)) ∧
    (comes 0x12 → d.sw.role = 1 → f.src = d.sw.root → d.ofRound f false = true → ∃ t : State, exec (.barrierWithdraw port f) s = .next t ∧ sw t ∧
      t.dev.sw.rootOut = true ∧ t.dev.sw.rejoins = []) ∧
    (comes 0x13 → d.sw.role = 1 → f.src = d.sw.root → d.ofRound f false = true → ∃ t : State, exec (.barrierRejoin port f) s = .next t ∧ sw t ∧
      t.dev.sw.rejoins = insertNew f.src d.sw.rejoins)

/-- Faults and recoveries (R449, R459, R490, R492, R494, R496, R498, R500): a report joins the queue; the oldest one's unit is tested or its die reset; a
pass is a transient; 100 ms end a recovery and isolate the site; prepared substitutes wait for a boundary; the map is written to both copies. -/
def Obligations.FaultRecovery : Prop :=
  ∀ (s : State) (unit port : Nat), port < 55 →
    let d := s.dev
    let quiet := d.faultsTaken = true ∧ d.fa.isolated = [] ∧ d.fa.queue = [] ∧ d.fa.now = none
    (d.faultsTaken = false → ∀ k, exec (.faultReport unit k) s = .next s ∧ exec .recoveryStart s = .next s ∧ exec (.stewardHeartbeatMissed port) s = .next s) ∧
    (quiet → unitKind unit ≠ 0x0E →
      (∃ t : State, exec (.faultReport unit .unit) s = .next t ∧
        t = { s with dev := { d with fa := t.dev.fa, lg := t.dev.lg, hg := t.dev.hg, ba := t.dev.ba, str := t.dev.str } } ∧
        t.dev.fa.queue = [{ unit, kind := .unit }] ∧ (testable unit = true → unit ∈ t.dev.fa.testing)) ∧
      exec (.faultReport unit .die) s = .next { s with dev := { d with fa.queue := [{ unit, kind := .die }] } } ∧
      ∃ t : State, exec (.faultReport unit .headgate) s = .next t ∧ t.pending = s.pending ∧ t.dev.hg.devState = .safeHold ∧ t.dev.fa.safeCause = 4 ∧
        t.dev.mem = d.mem) ∧
    (quiet → isCompute port = true → d.inReset port = false →
      exec (.stewardHeartbeatMissed port) s = .next { s with dev := { d with fa.queue := [{ unit := dieUnit port, kind := .die }] } }) ∧
    (d.fa.queue = [] → d.fa.isolated = [] → exec .recoveryStart s = .next s) ∧
    (∀ r rest, d.faultsTaken = true → d.fa.now = none → d.fw.handover = none → d.fa.queue = r :: rest →
      (r.kind = .unit → testable r.unit = true → ∃ t : State, exec .recoveryStart s = .next t ∧
        t = { s with dev := { d with fa := t.dev.fa, ba := t.dev.ba, str := t.dev.str } } ∧ t.dev.fa.queue = rest ∧
        t.dev.fa.now = some { report := r, started := d.tb.ns, retest := false } ∧ r.unit ∈ t.dev.fa.testing) ∧
      (r.kind = .die → isCompute (unitPort r.unit) = true → d.fa.resets = [] → ∃ t : State, exec .recoveryStart s = .next t ∧
        t = { s with dev := { d with fa := t.dev.fa, cs := t.dev.cs, str := t.dev.str, ba := t.dev.ba, mem := t.dev.mem, ck := t.dev.ck } } ∧ t.dev.fa.queue = rest ∧
        (t.dev.site (unitPort r.unit)).phase = .usReset)) ∧
    (d.fa.now = none → exec (.targetedSelfTestComplete unit .pass) s = .next s ∧ exec .recoveryTimeout s = .next s) ∧
    (∀ r, d.fa.now = some r → r.report.unit = unit → r.retest = false → d.fa.testing = [unit] → d.testHeld unit = false → d.fa.transients = [] → ∃ t : State,
      exec (.targetedSelfTestComplete unit .pass) s = .next t ∧
      t = { s with dev := { d with fa := t.dev.fa, ba := t.dev.ba, sp := t.dev.sp, bu := t.dev.bu, lg := t.dev.lg, hg := t.dev.hg } } ∧
      t.dev.fa.now = none ∧ t.dev.fa.testing = [] ∧ t.dev.fa.transients = [(unit, d.tb.ns)] ∧ unit ∈ t.dev.fa.resume) ∧
    (∀ r, d.fa.now = some r → ∃ t : State, exec .recoveryTimeout s = .next t ∧
      t = { s with dev := { d with fa := t.dev.fa, tb := t.dev.tb, lg := t.dev.lg, hg := t.dev.hg, sp := t.dev.sp, str := t.dev.str, gr := t.dev.gr } } ∧
      t.dev.tb.ns = max d.tb.ns (r.started + 100000000) ∧ t.dev.fa.now = none ∧ t.dev.fa.isolated.any (·.1 == unitPort r.report.unit) = true) ∧
    ((∀ c ∈ d.fa.counts, c.hour ≤ 1024) → ∃ t : State, exec .correctedErrorHour s = .next t ∧
      t = { s with dev := { d with fa := t.dev.fa, lg := t.dev.lg, hg := t.dev.hg } } ∧ t.dev.fa.counts = d.fa.counts.map (fun c => { c with hour := 0 })) ∧
    (d.sp.substs.any (fun x => x.unit == unit && x.ready.isNone) = false → exec (.coppicePreparationComplete unit) s = .next s) ∧
    (d.sp.substs.any (fun x => x.unit == unit && x.ready.isNone) = true → d.fa.now = none → exec (.coppicePreparationComplete unit) s =
      .next { s with dev := { d with sp.substs := d.sp.substs.map fun x => if x.unit == unit then { x with ready := some d.tb.ns } else x } }) ∧
    (d.sp.held = none → exec .fdmWrite s = .next s) ∧
    (∀ h, d.sp.held = some h → d.flashOk = true → d.fw.rangerUp = true → d.fw.handover = none → ∃ t : State, exec .fdmWrite s = .next t ∧
      t = { s with dev := { d with sp := t.dev.sp } } ∧ t.dev.sp.held = none ∧ t.dev.sp.copies = (true, true) ∧ t.dev.sp.fdm = d.sp.fdm ∧
      t.dev.sp.flash.entries = d.sp.fdm ∧ t.dev.sp.flash.gen = t.dev.sp.fdmGen ∧ d.sp.fdmGen < t.dev.sp.fdmGen)

/-- The Ranger duplex (R385, R474 to R478): a handover passes the token to a current standby, without one the device enters SAFE_HOLD; the standby goes
stale, resyncs, is tested; a live activation blocks 40 µs before its boundary or is abandoned after 10 s. -/
def Obligations.RangerDuplex : Prop :=
  ∀ s : State,
    let d := s.dev
    let fw := fun (t : State) => t = { s with dev := { d with fw := t.dev.fw, lg := t.dev.lg, hg := t.dev.hg } }
    let causes := [(Instr.rangerHandover .lockstep, 1), (.rangerHandover .sram, 2), (.rangerHandover .watchdog, 3), (.rangerHandover .periodic, 4),
      (.rangerWatchdogExpiry, 3), (.rangerPeriodicSelfTest false, 4)]
    exec (.rangerPeriodicSelfTest true) s = .next s ∧
    (d.hg.devState ≠ .bringup → d.fw.rangerUp = false → ∀ c ∈ causes, exec c.1 s = .next s) ∧
    (d.hg.devState ≠ .bringup → d.fw.rangerUp = true →
      (d.fw.standby = .current → d.fw.live = none → ∀ c ∈ causes, ∃ t : State, exec c.1 s = .next t ∧ fw t ∧ t.dev.fw.rangerB = !d.fw.rangerB ∧
        t.dev.fw.handover = some d.tb.ns ∧ t.dev.fw.handoverCause = c.2 ∧ t.dev.fw.standby = .selfTest ∧ t.dev.hg.devState = d.hg.devState) ∧
      (d.fw.standby ≠ .current → d.hg.devState ≠ .safeHold → ∀ c ∈ causes, ∃ t : State, exec c.1 s = .next t ∧ t.pending = s.pending ∧
        t.dev.hg.devState = .safeHold ∧ t.dev.fa.safeCause = 1 ∧ t.dev.fw.rangerUp = false ∧ t.dev.hg.mbReady = false ∧ t.dev.mem = d.mem)) ∧
    (d.fw.handover = none → exec .handoverComplete s = .next s) ∧
    (∀ t0, d.fw.handover = some t0 → d.fw.handoverCause = 5 → d.hg.devState ≠ .bringup → d.mb.chans = [] → ∃ t : State, exec .handoverComplete s = .next t ∧
      t = { s with dev := { d with fw.handover := none, gr := t.dev.gr, sw.leaving := none, ses := t.dev.ses
                                   pw.limiters := t.dev.pw.limiters, th.sensors := t.dev.th.sensors, th.throttles := t.dev.th.throttles } } ∧
      (∀ x ∈ t.dev.th.throttles, x.last = none) ∧ (∀ x ∈ t.dev.th.sensors, x.stale = true) ∧
      t.dev.ses.list = d.ses.list.map (fun x => { x with lastDoorbell := x.lastDoorbell + (d.tb.ns - t0) }) ∧ ∀ g ∈ t.dev.gr.list, g.installing = none) ∧
    (d.fw.standby ≠ .current → exec .journalHeartbeatMissed s = .next s) ∧
    (d.fw.standby = .current → d.fw.rangerUp = true → d.fw.live = none → ∃ t : State, exec .journalHeartbeatMissed s = .next t ∧ fw t ∧
      t.dev.fw.standby = .stale ∧ t.dev.simplex = true) ∧
    (d.fw.standby ≠ .stale → d.fw.standby ≠ .booting → exec .standbyResyncComplete s = .next s) ∧
    (d.fw.standby = .stale ∨ d.fw.standby = .booting → d.fw.rangerUp = true → d.fw.live = none → ∃ t : State, exec .standbyResyncComplete s = .next t ∧ fw t ∧
      t.dev.fw.standby = .current ∧ t.dev.simplex = false) ∧
    (d.fw.standby ≠ .selfTest → ∀ b p, exec (.rangerRomSelfTestComplete b p) s = .next s) ∧
    (d.fw.standby = .selfTest → d.fw.rangerUp = true → d.fa.transients = [] → d.sp.failed = [] →
      let w := fun (t : State) => t = { s with dev := { d with fw := t.dev.fw, lg := t.dev.lg, hg := t.dev.hg, fa := t.dev.fa, sp := t.dev.sp, bu := t.dev.bu } }
      (∃ t : State, exec (.rangerRomSelfTestComplete (!d.fw.rangerB) true) s = .next t ∧ w t ∧ t.dev.fw.standby = .booting) ∧
      (∃ t : State, exec (.rangerRomSelfTestComplete (!d.fw.rangerB) false) s = .next t ∧ w t ∧ t.dev.fw.standby = .bad)) ∧
    (d.fw.live = none → exec .handoffBlockWrite s = .next s ∧ exec .liveActivationTimeout s = .next s) ∧
    (∀ l, d.fw.live = some l → l.ready = true → l.passed = false → l.m ≤ d.rd.next → l.block = false → ∃ t : State, exec .handoffBlockWrite s = .next t ∧
      t = { s with dev := { d with fw.live := some { l with block := true }, ck := t.dev.ck, tb := t.dev.tb } } ∧
      t.dev.tb.ns = max d.tb.ns (d.rd.next - 40000) ∧ (∀ r, t.dev.ck.req9 = some r → d.rd.next < r.at_ ∨ d.rd.period = 0)) ∧
    (∀ l, d.fw.live = some l → l.ready = false → ∃ t : State, exec .liveActivationTimeout s = .next t ∧
      t = { s with dev := { d with fw := t.dev.fw, lg := t.dev.lg, hg := t.dev.hg, tb := t.dev.tb } } ∧ t.dev.fw.live = none ∧ t.dev.fw.update = 1 ∧
      t.dev.fw.running = d.fw.running ∧ t.dev.tb.ns = max d.tb.ns (l.started + 10000000000))

/-- Bring-up (R427, R428, R432, R435 to R437, R443, R444, R393): a stage without a failure is followed by the next one, S9 by READY or DEBUG; a failure or
the maximum duration ends bring-up with STAGE_FAIL; positions answer, or are excluded. -/
def Obligations.BringUp : Prop :=
  ∀ (s : State) (f : StageFindings) (p kind id1 id2 : Nat),
    let d := s.dev
    let bu := fun (t : State) => t = { s with dev := { d with bu := t.dev.bu } }
    let failed := fun (t : State) => t.pending = s.pending ∧ t.dev.hg.stageFail = true ∧ t.dev.hg.devState = .bringup ∧ t.dev.bu.running = false ∧
      t.dev.pw.diesOff = true ∧ t.dev.op.dark = true ∧ t.dev.mem.cells = [] ∧ t.dev.hg.memActive = false ∧ t.dev.th.duty = 1000 ∧
      t.dev.hg.stage = d.hg.stage ∧ t.dev.fw.fuseF = d.fw.fuseF
    (d.bringing = false → exec (.bringupStageComplete f) s = .next s ∧ exec .bringupStageTimeout s = .next s) ∧
    (d.bringing = true → d.hg.stage = 0 → f.rails = 0 → f.fuseOk = true → f.romA = true → f.romB = true → ∃ t : State,
      exec (.bringupStageComplete f) s = .next t ∧
      t = { s with dev := { d with hg := t.dev.hg, bu := t.dev.bu, ts := t.dev.ts, th := t.dev.th, fw := t.dev.fw, sp := t.dev.sp } } ∧ t.dev.hg.stage = 1 ∧
      t.dev.hg.devState = .bringup ∧ t.dev.hg.stageLog.length = d.hg.stageLog.length + 1 ∧ t.dev.bu.stageStart = d.tb.ns ∧
      t.dev.fw.rangerB = false ∧ t.dev.fw.standby = .current ∧ t.dev.ts.i3cAddr = 0x40 + d.ts.i3ca) ∧
    (d.bringing = true → d.hg.stage = 0 → f.fuseOk = false → ∃ t : State, exec (.bringupStageComplete f) s = .next t ∧ failed t) ∧
    (d.bringing = true → d.hg.stage = 9 → d.minimumOk = true → ∃ t : State, exec (.bringupStageComplete f) s = .next t ∧ t.pending = s.pending ∧
      t.dev.hg.devState = (if d.fw.lifecycle = 2 then .debug else .ready) ∧ t.dev.ck.cd9 = 1950 ∧ t.dev.ck.cd10 = 1950 ∧ t.dev.pw.trickleOn = true ∧
      t.dev.pw.trickleLevel = 12 ∧ t.dev.bu.running = false ∧ t.dev.fw.features = d.fw.featNext ∧ t.dev.mem = d.mem ∧ t.dev.tb = d.tb ∧ t.dev.str = d.str) ∧
    (d.bringing = true → d.hg.stage ≠ 9 → ∃ t : State, exec .bringupStageTimeout s = .next t ∧ failed t ∧
      t.dev.tb.ns = max d.tb.ns (d.bu.stageStart + d.stageMax)) ∧
    (d.hg.devState ≠ .bringup ∨ d.hg.stage ≠ 3 → exec (.discoveryResponse p kind id1 id2) s = .next s ∧ exec (.discoveryTimeout p) s = .next s) ∧
    (d.hg.devState = .bringup → d.hg.stage = 3 → d.bu.running = true → positions.contains p = true → d.bu.replied.contains p = false →
      d.bu.excluded.contains p = false →
      (d.manifestEntry p = (kind, id1, id2) → exec (.discoveryResponse p kind id1 id2) s =
        .next { s with dev := { d with bu.replied := d.bu.replied ++ [p], bu.answered := d.bu.answered ++ [p] } }) ∧
      (d.manifestEntry p ≠ (kind, id1, id2) → isCompute p = true → ∃ t : State, exec (.discoveryResponse p kind id1 id2) s = .next t ∧ bu t ∧
        t.dev.bu.excluded = d.bu.excluded ++ [p] ∧ t.dev.bu.replied = d.bu.replied ++ [p] ∧ t.dev.bu.answered = d.bu.answered) ∧
      (isCompute p = true → ∃ t : State, exec (.discoveryTimeout p) s = .next t ∧ t = { s with dev := { d with bu := t.dev.bu, tb := t.dev.tb } } ∧
        t.dev.bu.excluded = d.bu.excluded ++ [p] ∧ t.dev.tb.ns = max d.tb.ns (d.bu.stageStart + 10000000))) ∧
    (p < 55 → d.hg.stage ≠ 4 → exec (.stewardStartTimeout p) s = .next s) ∧
    (d.hg.devState = .bringup → d.hg.stage = 4 → d.bu.running = true → d.bu.stewards.contains p = false → d.bu.excluded.contains p = false → isCompute p = true →
      ∃ t : State, exec (.stewardStartTimeout p) s = .next t ∧ t = { s with dev := { d with bu := t.dev.bu, tb := t.dev.tb } } ∧
        t.dev.bu.excluded = d.bu.excluded ++ [p] ∧ t.dev.tb.ns = max d.tb.ns (d.bu.stageStart + 1000000000))

/-- A store of bytes within one 256-byte line that the device can read is what it reads there afterwards, in both views, mirrored or not, in the line
buffer or in the stack, and in scratch (R276, R286, R290, R293). -/
def Obligations.StoreReads : Prop :=
  ∀ (d : Dev) (a i : Nat) (data : List Byte) (b : Byte), Memory.wf d.mem.cells = true → (∀ k ∈ d.mem.stackList, ∀ x ∈ k.buf, x.data.length = 256) →
    a % 256 + data.length ≤ 256 → (∀ j, j < data.length → d.readByte (a + j) ≠ none) → data[i]? = some b → (d.store a data).readByte (a + i) = some b

/-- The frame of a store within one line: a byte that is no stored byte, nor the mirror copy of one, reads as before, poison included
(R276, R286, R290, R293, R304). -/
def Obligations.StoreFrame : Prop :=
  ∀ (d : Dev) (a x : Nat) (data : List Byte), Memory.wf d.mem.cells = true → (∀ k ∈ d.mem.stackList, ∀ y ∈ k.buf, y.data.length = 256) →
    a % 256 + data.length ≤ 256 → (∀ i, i < data.length → placeOf d.mBytes x ≠ placeOf d.mBytes (a + i)) →
    (∀ i s o p, i < data.length → placeOf d.mBytes (a + i) = .hbm s o → d.partner s o = some p → placeOf d.mBytes x ≠ .hbm p o) →
    (d.store a data).readByte x = d.readByte x

/-- Device memory keeps its canonical form at every step, whatever command is at the front of the queue: addresses strictly rising, no entry of zero. -/
def Obligations.MemoryFormKept : Prop :=
  ∀ (s t : State), s.memWf = true → step s = .next t → t.memWf = true

/-- No step of the block, restarts and trips among them, lowers the count of blown anti-rollback fuses (R469, R473, R475). -/
def Obligations.FusesOnlyAdvance : Prop :=
  ∀ (s t : State), step s = .next t → s.dev.fw.fuseF ≤ t.dev.fw.fuseF

/-- An atomic at its home (R65, R294, R297): integer adds wrap, minima and maxima compare as their type, a compare-and-swap stores when the compared value
matches; only the bytes of the atomic change in the line. -/
def Obligations.AtomicArithmetic : Prop :=
  ∀ (s : State) (stack line off x y : Nat) (op : AtomicOp) (ty : AtomicTy) (posted : Bool), stack < 16 → line < 312500000 → ty ≠ .fp32 →
    let d := s.dev
    let st := d.stack stack
    let w := 8 * ty.bytes
    let old := field (d.lineData stack line) off ty.bytes
    let signed := fun (v : Nat) => (BitVec.ofNat w v).toInt
    let isSigned := ty = .int32 ∨ ty = .int64
    d.inBuf stack line = true → d.lineServed stack line = true → d.partner stack (line * 256) = none →
    st.ops.filter (·.line == line) = [{ stack, line, act := .atomic op ty off x y posted, reply := .none }] →
    ∃ (t : State) (new : Nat), exec (.lineUpdate stack line) s = .next t ∧ t = { s with dev := { d with mem := t.dev.mem } } ∧
      t.dev.mem.cells = d.mem.cells ∧ (t.dev.stack stack).ops = st.ops.filter (·.line != line) ∧
      (t.dev.stack stack).buf =
        st.buf.map (fun b => if b.line == line then { b with data := patch (d.lineData stack line) off (leBytes ty.bytes new), touched := d.tb.ns } else b) ∧
      (op = .add → new = (old + x) % 2 ^ w) ∧ (op = .cas → new = if old = y then x % 2 ^ w else old) ∧
      (op = .min → isSigned → new = if signed x < signed old then x % 2 ^ w else old) ∧
      (op = .max → isSigned → new = if signed old < signed x then x % 2 ^ w else old) ∧
      (op = .min → ¬isSigned → new = min old (x % 2 ^ w)) ∧ (op = .max → ¬isSigned → new = max old (x % 2 ^ w))
end

