-- ==== Sys2Proof/Laws/Cells.lean ====
section
/-!
SUPPORT. The laws of sparse memories: every operation keeps the canonical form, a read after a write gives what was written,
and a write leaves every other byte alone.
-/

-- Proofs one after another: the package as one text then needs less memory.
set_option Elab.async false

namespace Sys2Proof.Machine

/-- The canonical form, entry by entry: the head's byte is not zero, its address lies below all others. -/
theorem cellsWf_cons (k : Nat) (b : Byte) (m : List Host.Cell) :
    cellsWf ((k, b) :: m) = true ↔ b ≠ 0 ∧ (∀ c ∈ m, k < c.1) ∧ cellsWf m = true := by
  induction m generalizing k b with
  | nil => simp [cellsWf]
  | cons c m ih =>
    obtain ⟨k', b'⟩ := c
    simp only [cellsWf, Bool.and_eq_true, bne_iff_ne, ne_eq, decide_eq_true_eq, List.mem_cons, forall_eq_or_imp]
    constructor
    · rintro ⟨⟨hb, hk⟩, hm⟩
      exact ⟨hb, ⟨hk, fun c hc => Nat.lt_trans hk (((ih k' b').1 hm).2.1 c hc)⟩, hm⟩
    · rintro ⟨hb, ⟨hk, -⟩, hm⟩
      exact ⟨⟨hb, hk⟩, hm⟩

/-- Addresses after a write of one byte: old ones, or the one written. -/
theorem mem_cellSet (m : List Host.Cell) (a : Nat) (b : Byte) (c : Host.Cell) (h : c ∈ cellSet m a b) : c ∈ m ∨ c = (a, b) := by
  induction m with
  | nil =>
    simp only [cellSet] at h
    split at h
    · simp at h
    · exact .inr (by simpa using h)
  | cons d m ih =>
    obtain ⟨k, x⟩ := d
    simp only [cellSet] at h
    split at h
    · split at h
      · exact .inl h
      · rcases List.mem_cons.1 h with h | h
        · exact .inr h
        · exact .inl h
    · split at h
      · split at h
        · exact .inl (List.mem_cons_of_mem _ h)
        · rcases List.mem_cons.1 h with h | h
          · exact .inr h
          · exact .inl (List.mem_cons_of_mem _ h)
      · rcases List.mem_cons.1 h with h | h
        · exact .inl (h ▸ List.mem_cons_self)
        · rcases ih h with h | h
          · exact .inl (List.mem_cons_of_mem _ h)
          · exact .inr h

/-- A write of one byte keeps the canonical form. -/
theorem cellSet_wf (m : List Host.Cell) (a : Nat) (b : Byte) (h : cellsWf m = true) : cellsWf (cellSet m a b) = true := by
  induction m with
  | nil =>
    simp only [cellSet]
    split
    · rfl
    · simpa [cellsWf] using ‹_›
  | cons d m ih =>
    obtain ⟨k, x⟩ := d
    have hw := (cellsWf_cons k x m).1 h
    simp only [cellSet]
    split
    · split
      · exact h
      · refine (cellsWf_cons a b _).2 ⟨‹_›, ?_, h⟩
        intro c hc
        rcases List.mem_cons.1 hc with hc | hc
        · rw [hc]; exact ‹a < k›
        · exact Nat.lt_trans ‹a < k› (hw.2.1 c hc)
    · split
      · split
        · exact hw.2.2
        · refine (cellsWf_cons a b _).2 ⟨‹_›, ?_, hw.2.2⟩
          intro c hc
          have : a = k := ‹_›
          rw [this]; exact hw.2.1 c hc
      · refine (cellsWf_cons k x _).2 ⟨hw.1, ?_, ih hw.2.2⟩
        intro c hc
        rcases mem_cellSet m a b c hc with hc | hc
        · exact hw.2.1 c hc
        · rw [hc]; simp only; omega

/-- A write of bytes keeps the canonical form. -/
theorem cellsWrite_wf (m : List Host.Cell) (a : Nat) (bs : List Byte) (h : cellsWf m = true) : cellsWf (cellsWrite m a bs) = true := by
  induction bs generalizing m a with
  | nil => exact h
  | cons b bs ih => exact ih _ _ (cellSet_wf m a b h)

/-- Taking entries out keeps the canonical form. -/
theorem filter_wf (m : List Host.Cell) (p : Host.Cell → Bool) (h : cellsWf m = true) : cellsWf (m.filter p) = true := by
  induction m with
  | nil => rfl
  | cons d m ih =>
    obtain ⟨k, x⟩ := d
    have hw := (cellsWf_cons k x m).1 h
    simp only [List.filter]
    split
    · exact (cellsWf_cons k x _).2 ⟨hw.1, fun c hc => hw.2.1 c (List.mem_filter.1 hc).1, ih hw.2.2⟩
    · exact ih hw.2.2

/-- Zeroing a range keeps the canonical form. -/
theorem cellsClear_wf (m : List Host.Cell) (lo hi : Nat) (h : cellsWf m = true) : cellsWf (cellsClear m lo hi) = true :=
  filter_wf m _ h

/-- A byte below every listed address reads 0. -/
theorem cellGet_absent (m : List Host.Cell) (a : Nat) (h : ∀ c ∈ m, a ≠ c.1) : cellGet m a = 0 := by
  induction m with
  | nil => rfl
  | cons d m ih =>
    obtain ⟨k, x⟩ := d
    have hk : k ≠ a := fun e => h (k, x) List.mem_cons_self e.symm
    simp only [cellGet, if_neg hk]
    exact ih fun c hc => h c (List.mem_cons_of_mem _ hc)

/-- A read after a write of one byte: the byte written at its address, the old byte elsewhere. -/
theorem cellGet_cellSet (m : List Host.Cell) (a x : Nat) (b : Byte) (h : cellsWf m = true) :
    cellGet (cellSet m a b) x = if x = a then b else cellGet m x := by
  induction m with
  | nil =>
    simp only [cellSet]
    split
    · simp_all [cellGet]
    · simp only [cellGet]
      split <;> split <;> simp_all
  | cons d m ih =>
    obtain ⟨k, y⟩ := d
    have hw := (cellsWf_cons k y m).1 h
    simp only [cellSet]
    split
    · rename_i hak
      have hx : x = a → cellGet ((k, y) :: m) x = 0 := fun e => cellGet_absent _ x (by
        intro c hc
        rcases List.mem_cons.1 hc with hc | hc
        · rw [hc]; simp only; omega
        · have := hw.2.1 c hc; omega)
      split
      · split
        · rename_i hb hxa; rw [hx hxa, hb]
        · rfl
      · simp only [cellGet]
        by_cases hxa : x = a
        · simp [hxa]
        · simp only [if_neg (Ne.symm hxa), if_neg hxa]
    · split
      · rename_i hak
        have hx : x = a → cellGet m x = 0 := fun e => cellGet_absent _ x (by
          intro c hc
          have := hw.2.1 c hc
          omega)
        split
        · rename_i hb
          by_cases hxa : x = a
          · rw [if_pos hxa, hx hxa, hb]
          · rw [if_neg hxa]
            simp only [cellGet]
            rw [if_neg (by omega)]
        · by_cases hxa : x = a
          · simp [cellGet, hxa]
          · rw [if_neg hxa]
            simp only [cellGet]
            rw [if_neg (Ne.symm hxa), if_neg (by omega)]
      · simp only [cellGet]
        by_cases hkx : k = x
        · rw [if_pos hkx, if_pos hkx, if_neg (by omega)]
        · rw [if_neg hkx, if_neg hkx]
          exact ih hw.2.2

/-- A read after a write of bytes: the byte written in the range, the old byte elsewhere. -/
theorem cellGet_cellsWrite (m : List Host.Cell) (a x : Nat) (bs : List Byte) (h : cellsWf m = true) :
    cellGet (cellsWrite m a bs) x = if a ≤ x then (bs[x - a]?).getD (cellGet m x) else cellGet m x := by
  induction bs generalizing m a with
  | nil => simp [cellsWrite]
  | cons b bs ih =>
    simp only [cellsWrite]
    rw [ih _ _ (cellSet_wf m a b h), cellGet_cellSet m a x b h]
    by_cases h1 : a + 1 ≤ x
    · have e : x - a = (x - (a + 1)) + 1 := by omega
      rw [if_pos h1, if_pos (show a ≤ x by omega), if_neg (show x ≠ a by omega), e, List.getElem?_cons_succ]
    · rw [if_neg h1]
      by_cases h2 : x = a
      · subst h2; simp
      · rw [if_neg h2, if_neg (show ¬ a ≤ x by omega)]

/-- Reading gives as many bytes as asked. -/
@[simp] theorem length_cellsRead (m : List Host.Cell) (a n : Nat) : (cellsRead m a n).length = n := by
  induction n generalizing a with
  | zero => rfl
  | succ n ih => simp [cellsRead, ih]

end Sys2Proof.Machine
end

