-- ==== Sys2Proof/Laws/Crc.lean ====
section
/-!
SUPPORT. Laws of the CRC.
-/

-- Proofs one after another: the package as one text then needs less memory.
set_option Elab.async false

namespace Sys2Proof.Machine

/-- A CRC over two parts runs over the second from where the first left it. -/
theorem crcRun_append (code v : Nat) (x y : List Byte) : crcRun code v (x ++ y) = crcRun code (crcRun code v x) y := by
  match code with
  | 0 => exact List.foldl_append
  | 1 => exact List.foldl_append
  | 2 => exact List.foldl_append
  | _ + 3 => exact List.foldl_append

/-- A byte keeps a reflected register of 32 bits within 32 bits. -/
theorem crcRefByte_lt (poly v : Nat) (b : Byte) (hp : poly < 2 ^ 32) (hv : v < 2 ^ 32) : crcRefByte poly v b < 2 ^ 32 := by
  have step : ∀ v, v < 2 ^ 32 → crcRefStep poly v < 2 ^ 32 := by
    intro v hv
    unfold crcRefStep
    split
    · exact Nat.xor_lt_two_pow (by omega) hp
    · omega
  have all : ∀ (l : List Nat) v, v < 2 ^ 32 → l.foldl (fun v _ => crcRefStep poly v) v < 2 ^ 32 := by
    intro l
    induction l with
    | nil => intro v hv; exact hv
    | cons x l ih => intro v hv; exact ih _ (step v hv)
  exact all _ _ (Nat.xor_lt_two_pow hv (by have := b.isLt; omega))

/-- A CRC-32C has 32 bits. -/
theorem crc32c_lt (bs : List Byte) : crc32c bs < 2 ^ 32 := by
  have all : ∀ (l : List Byte) v, v < 2 ^ 32 → l.foldl (crcRefByte 0x82F63B78) v < 2 ^ 32 := by
    intro l
    induction l with
    | nil => intro v hv; exact hv
    | cons x l ih => intro v hv; exact ih _ (crcRefByte_lt _ _ _ (by decide) hv)
  exact Nat.xor_lt_two_pow (all bs _ (by decide)) (by decide)

end Sys2Proof.Machine
end

