-- ==== Sys2Proof/Laws/Graphs.lean ====
section
/-!
SUPPORT. Laws of loading a graph.
-/

-- Proofs one after another: the package as one text then needs less memory.
set_option Elab.async false

namespace Sys2Proof.Machine

/-- A range that can be read and whose bytes pass every check validates to the image of those bytes. -/
theorem validate_ok (d : Dev) (a n : Nat) (b : List Byte) (h1 : a % 64 = 0) (h2 : d.rangePopulated a n = true) (h3 : d.readBytes a n = some b)
    (h4 : checkImage d.fw.running.arborMinor d.fw.features b = none) (h5 : d.gr.list.length < 64)
    (h6 : d.constantBytes + (imageOf b).constants.length ≤ 0x40000000) : d.validate a n = .ok (imageOf b) := by
  have h7 : ¬(64 ≤ d.gr.list.length ∨ 0x40000000 < d.constantBytes + (imageOf b).constants.length) := by omega
  simp [Dev.validate, Dev.fetchImage, h1, h2, h3, h4]
  omega

/-- An address that is not a multiple of 64 fails at once (R109). -/
theorem validate_misaligned (d : Dev) (a n : Nat) (h : a % 64 ≠ 0) : d.validate a n = .error (.bare 0x01) := by
  simp [Dev.validate, Dev.fetchImage, h]

end Sys2Proof.Machine
end

