-- ==== Sys2Proof/Laws/Lists.lean ====
section
/-!
SUPPORT. What the list operations of the state do: records kept by key, and updates of them.
-/

-- Proofs one after another: the package as one text then needs less memory.
set_option Elab.async false

namespace Sys2Proof.Machine

/-- An updated record is what a later look-up of its key finds. -/
theorem lookup_upsert {α : Type} (p : α → Bool) (fresh : α) (f : α → α) (hf : p (f fresh) = true)
    (hp : ∀ a, p a = true → p (f a) = true) (l : List α) : lookup p fresh (upsert p fresh f l) = f (lookup p fresh l) := by
  induction l with
  | nil => simp [lookup, upsert, hf]
  | cons a l ih =>
    by_cases h : p a = true
    · simp [lookup, upsert, h, hp a h]
    · simp only [Bool.not_eq_true] at h
      simpa [lookup, upsert, h] using ih

/-- An update of one key leaves the look-up of another alone. -/
theorem lookup_upsert_other {α : Type} (p q : α → Bool) (fresh fresh' : α) (f : α → α) (hn : q (f fresh) = false)
    (hf : ∀ a, p a = true → q a = false ∧ q (f a) = false) (l : List α) : lookup q fresh' (upsert p fresh f l) = lookup q fresh' l := by
  induction l with
  | nil => simp [lookup, upsert, hn]
  | cons a l ih =>
    by_cases h : p a = true
    · simp [lookup, upsert, h, (hf a h).1, (hf a h).2]
    · simp only [Bool.not_eq_true] at h
      by_cases hq : q a = true
      · simp [lookup, upsert, h, hq]
      · simp only [Bool.not_eq_true] at hq
        simpa [lookup, upsert, h, hq] using ih

/-- `mapIf` keeps the length. -/
@[simp] theorem length_mapIf {α : Type} (p : α → Bool) (f : α → α) (l : List α) : (mapIf p f l).length = l.length := by
  simp [mapIf]

/-- What `mapIf` makes of the first record with a key. -/
theorem find?_mapIf {α : Type} (p : α → Bool) (f : α → α) (hp : ∀ a, p a = true → p (f a) = true) (l : List α) :
    (mapIf p f l).find? p = (l.find? p).map f := by
  induction l with
  | nil => rfl
  | cons a l ih =>
    by_cases h : p a = true
    · simp [mapIf, h, hp a h]
    · simp only [Bool.not_eq_true] at h
      simpa [mapIf, h] using ih

/-- Folding over an empty list changes nothing. -/
@[simp] theorem each_nil {α β : Type} (f : α → β → β) (b : β) : each [] f b = b := rfl

/-- Folding takes the entries in order. -/
@[simp] theorem each_cons {α β : Type} (a : α) (l : List α) (f : α → β → β) (b : β) : each (a :: l) f b = each l f (f a b) := rfl

/-- What every update keeps, a fold of updates keeps. -/
theorem each_keeps {α β : Type} (P : β → Prop) (f : α → β → β) (hf : ∀ a b, P b → P (f a b)) (l : List α) (b : β) (h : P b) :
    P (each l f b) := by
  induction l generalizing b with
  | nil => exact h
  | cons a l ih => exact ih _ (hf a b h)

/-- What every update keeps, an update under a condition keeps. -/
theorem onlyIf_keeps {β : Type} (P : β → Prop) (c : Bool) (f : β → β) (hf : ∀ b, P b → P (f b)) (b : β) (h : P b) : P (onlyIf c f b) := by
  cases c
  · exact h
  · exact hf b h

/-- An update under a condition that does not hold changes nothing. -/
@[simp] theorem onlyIf_false {β : Type} (f : β → β) (b : β) : onlyIf false f b = b := rfl

/-- An update under a condition that holds is the update. -/
@[simp] theorem onlyIf_true {β : Type} (f : β → β) (b : β) : onlyIf true f b = f b := rfl

end Sys2Proof.Machine
end

