-- ==== Sys2Proof/Laws/Mailbox.lean ====
section
/-!
SUPPORT. What the operations of the mailbox do: updates of one channel, the outcome of a command, and when a command's own
effect runs.
-/

-- Proofs one after another: the package as one text then needs less memory.
set_option Elab.async false

namespace Sys2Proof.Machine

/-- An update of a channel that keeps its number is what a look at the channel finds. -/
theorem chan_onChan (d : Dev) (ch : Nat) (f : Channel → Channel) (h : ∀ c, (f c).ch = c.ch) :
    (d.onChan ch f).chan ch = f (d.chan ch) := by
  refine lookup_upsert _ _ f ?_ ?_ _ <;> simp [h, Channel.fresh]

/-- An update of a channel leaves the others alone. -/
theorem chan_onChan_other (d : Dev) (ch other : Nat) (f : Channel → Channel) (h : ∀ c, (f c).ch = c.ch) (ho : other ≠ ch) :
    (d.onChan ch f).chan other = d.chan other := by
  refine lookup_upsert_other _ _ _ _ f ?_ ?_ _ <;> simp [h, Channel.fresh] <;> omega

/-- A command's effect runs when its channel is at work in READY or SERVICE. -/
theorem onCommand_atWork {s : State} {op ch : Nat} (h : s.atWork op ch = true) (f : Nat → List Byte → Dev → Dev) :
    s.dev.onCommand op ch f = f (s.session ch) (s.body ch) s.dev := by
  simp only [State.atWork, Bool.and_eq_true, Bool.or_eq_true, beq_iff_eq, decide_eq_true_eq] at h
  obtain ⟨⟨-, hr⟩, hs⟩ := h
  have : ¬ (s.dev.hg.devState = .safeHold) := by rcases hs with hs | hs <;> simp [hs]
  simp [Dev.onCommand, hr, this, State.session, State.body]

/-- A channel at work exists. -/
theorem atWork_lt {s : State} {op ch : Nat} (h : s.atWork op ch = true) : ch < 256 := by
  simp only [State.atWork, Bool.and_eq_true, decide_eq_true_eq] at h
  exact h.1.1

/-- A mailbox command answers a next state: the queue stays, and its effect runs. -/
theorem run_atWork {s : State} {op ch : Nat} {i : Instr} {f : Nat → List Byte → Dev → Dev} (h : s.atWork op ch = true)
    (hi : i.wf = decide (ch < 256)) :
    s.run i (fun d => d.onCommand op ch f) = .next { s with dev := f (s.session ch) (s.body ch) s.dev } := by
  simp [State.run, hi, atWork_lt h, onCommand_atWork h]

/-- A command that is not at work changes nothing. -/
theorem onCommand_idle {d : Dev} {op ch : Nat} (h : d.runs op ch = false) (f : Nat → List Byte → Dev → Dev) : d.onCommand op ch f = d := by
  simp [Dev.onCommand, h]

end Sys2Proof.Machine
end

