-- ==== Sys2Proof/Laws/Memory.lean ====
section
/-!
SUPPORT. Laws of the device's reads and writes.
-/

-- Proofs one after another: the package as one text then needs less memory.
set_option Elab.async false

namespace Sys2Proof.Machine

/-- Reading a range is reading its two parts. -/
theorem readBytes_add (d : Dev) (a m n : Nat) (x y : List Byte) (hx : d.readBytes a m = some x) (hy : d.readBytes (a + m) n = some y) :
    d.readBytes a (m + n) = some (x ++ y) := by
  induction m generalizing a x with
  | zero =>
    cases hx
    simpa using hy
  | succ k ih =>
    rw [Nat.succ_add]
    simp only [Dev.readBytes] at hx ⊢
    cases h1 : d.readByte a with
    | none => simp [h1] at hx
    | some b =>
      cases h2 : d.readBytes (a + 1) k with
      | none => simp [h1, h2] at hx
      | some bs =>
        simp only [h1, h2, Option.some.injEq] at hx
        have := ih (a + 1) bs h2 (by rw [← hy]; congr 1; omega)
        rw [this, ← hx]
        rfl

/-- A range of which every byte can be read can be read. -/
theorem readBytes_isSome (d : Dev) (a n : Nat) (h : ∀ i < n, (d.readByte (a + i)).isSome = true) : ∃ bs, d.readBytes a n = some bs := by
  induction n generalizing a with
  | zero => exact ⟨[], rfl⟩
  | succ k ih =>
    obtain ⟨b, hb⟩ := Option.isSome_iff_exists.mp (h 0 (by omega))
    obtain ⟨bs, hbs⟩ := ih (a + 1) (fun i hi => by have := h (i + 1) (by omega); rwa [show a + 1 + i = a + (i + 1) by omega])
    exact ⟨b :: bs, by simp_all [Dev.readBytes]⟩

/-- Where nothing is fenced and nothing poisoned, every byte of the interleaved view can be read (R276). -/
theorem readByte_plain (d : Dev) (a : Nat) (hs : d.mem.stackList = []) (hp : d.mem.poison = []) (hm : d.mem.mirror = 0)
    (hd : d.pw.diesOff = false) (ha : a < hbmBytes) : (d.readByte a).isSome = true := by
  have hb : a < 0x100000000000 := Nat.lt_trans ha (by decide)
  have place : placeOf d.mBytes a = .hbm (mapInterleaved a 0).1 (mapInterleaved a 0).2 := by
    simp [placeOf, Dev.mBytes, hm, hb, ha]
  have good : ∀ s o, d.goodCopy s o = some s := by
    intro s o
    simp [Dev.goodCopy, Dev.fencedLine, Dev.linePoison, Dev.stack, hs, hp, lookup, Stack.fresh]
  unfold Dev.readByte
  rw [place, hd]
  simp only [good]
  rfl

/-- The mirrored size rests on the memories alone. -/
theorem mBytes_mem (d e : Dev) (hm : d.mem = e.mem) : d.mBytes = e.mBytes := by
  unfold Dev.mBytes
  rw [hm]

/-- The copy that serves a read rests on the memories alone. -/
theorem goodCopy_mem (d e : Dev) (hm : d.mem = e.mem) : d.goodCopy = e.goodCopy := by
  have f : d.fencedLine = e.fencedLine := by funext s o; unfold Dev.fencedLine Dev.stack; rw [hm]
  have p : d.linePoison = e.linePoison := by funext s o; unfold Dev.linePoison; rw [hm]
  have q : d.partner = e.partner := by funext s o; unfold Dev.partner; rw [mBytes_mem d e hm]
  funext s o
  unfold Dev.goodCopy
  rw [f, p, q]

/-- The bytes of a line rest on the memories alone. -/
theorem lineData_mem (d e : Dev) (hm : d.mem = e.mem) : d.lineData = e.lineData := by
  have k : d.stack = e.stack := by funext s; unfold Dev.stack; rw [hm]
  funext s o
  unfold Dev.lineData
  rw [k, hm]

/-- What a byte reads as rests on the memories, the sites and their power alone. -/
theorem readByte_mem (d e : Dev) (hm : d.mem = e.mem) (hc : d.cs = e.cs) (hp : d.pw.diesOff = e.pw.diesOff) (a : Nat) : d.readByte a = e.readByte a := by
  have k : d.scratchOk = e.scratchOk := by funext s o; unfold Dev.scratchOk Dev.site; rw [hc]
  unfold Dev.readByte
  rw [goodCopy_mem d e hm, lineData_mem d e hm, mBytes_mem d e hm, k, hm, hp]

/-- What a range reads as rests on the memories, the sites and their power alone. -/
theorem readBytes_mem (d e : Dev) (hm : d.mem = e.mem) (hc : d.cs = e.cs) (hp : d.pw.diesOff = e.pw.diesOff) (a n : Nat) : d.readBytes a n = e.readBytes a n := by
  induction n generalizing a with
  | zero => rfl
  | succ k ih => simp only [Dev.readBytes, readByte_mem d e hm hc hp, ih]

end Sys2Proof.Machine
end

