-- ==== Sys2Proof/Laws/State.lean ====
section
/-!
SUPPORT. Updates of one record of the state: each leaves every other part of the device as it is, and a look-up finds what was put.
-/

-- Proofs one after another: the package as one text then needs less memory.
set_option Elab.async false

namespace Sys2Proof.Machine

/-! ## `Dev.onPort` -/

/-- `onPort` leaves `free`. -/
@[simp] theorem onPort_free (d : Dev) (port plane : Nat) (f : PlanePort → PlanePort) : (d.onPort port plane f).free = d.free := rfl
/-- `onPort` leaves `hg`. -/
@[simp] theorem onPort_hg (d : Dev) (port plane : Nat) (f : PlanePort → PlanePort) : (d.onPort port plane f).hg = d.hg := rfl
/-- `onPort` leaves `mb`. -/
@[simp] theorem onPort_mb (d : Dev) (port plane : Nat) (f : PlanePort → PlanePort) : (d.onPort port plane f).mb = d.mb := rfl
/-- `onPort` leaves `ses`. -/
@[simp] theorem onPort_ses (d : Dev) (port plane : Nat) (f : PlanePort → PlanePort) : (d.onPort port plane f).ses = d.ses := rfl
/-- `onPort` leaves `gr`. -/
@[simp] theorem onPort_gr (d : Dev) (port plane : Nat) (f : PlanePort → PlanePort) : (d.onPort port plane f).gr = d.gr := rfl
/-- `onPort` leaves `str`. -/
@[simp] theorem onPort_str (d : Dev) (port plane : Nat) (f : PlanePort → PlanePort) : (d.onPort port plane f).str = d.str := rfl
/-- `onPort` leaves `tb`. -/
@[simp] theorem onPort_tb (d : Dev) (port plane : Nat) (f : PlanePort → PlanePort) : (d.onPort port plane f).tb = d.tb := rfl
/-- `onPort` leaves `rd`. -/
@[simp] theorem onPort_rd (d : Dev) (port plane : Nat) (f : PlanePort → PlanePort) : (d.onPort port plane f).rd = d.rd := rfl
/-- `onPort` leaves `ck`. -/
@[simp] theorem onPort_ck (d : Dev) (port plane : Nat) (f : PlanePort → PlanePort) : (d.onPort port plane f).ck = d.ck := rfl
/-- `onPort` leaves `pw`. -/
@[simp] theorem onPort_pw (d : Dev) (port plane : Nat) (f : PlanePort → PlanePort) : (d.onPort port plane f).pw = d.pw := rfl
/-- `onPort` leaves `th`. -/
@[simp] theorem onPort_th (d : Dev) (port plane : Nat) (f : PlanePort → PlanePort) : (d.onPort port plane f).th = d.th := rfl
/-- `onPort` leaves `op`. -/
@[simp] theorem onPort_op (d : Dev) (port plane : Nat) (f : PlanePort → PlanePort) : (d.onPort port plane f).op = d.op := rfl
/-- `onPort` leaves `mem`. -/
@[simp] theorem onPort_mem (d : Dev) (port plane : Nat) (f : PlanePort → PlanePort) : (d.onPort port plane f).mem = d.mem := rfl
/-- `onPort` leaves `cs`. -/
@[simp] theorem onPort_cs (d : Dev) (port plane : Nat) (f : PlanePort → PlanePort) : (d.onPort port plane f).cs = d.cs := rfl
/-- `onPort` leaves `sw`. -/
@[simp] theorem onPort_sw (d : Dev) (port plane : Nat) (f : PlanePort → PlanePort) : (d.onPort port plane f).sw = d.sw := rfl
/-- `onPort` leaves `bu`. -/
@[simp] theorem onPort_bu (d : Dev) (port plane : Nat) (f : PlanePort → PlanePort) : (d.onPort port plane f).bu = d.bu := rfl
/-- `onPort` leaves `sp`. -/
@[simp] theorem onPort_sp (d : Dev) (port plane : Nat) (f : PlanePort → PlanePort) : (d.onPort port plane f).sp = d.sp := rfl
/-- `onPort` leaves `fw`. -/
@[simp] theorem onPort_fw (d : Dev) (port plane : Nat) (f : PlanePort → PlanePort) : (d.onPort port plane f).fw = d.fw := rfl
/-- `onPort` leaves `lg`. -/
@[simp] theorem onPort_lg (d : Dev) (port plane : Nat) (f : PlanePort → PlanePort) : (d.onPort port plane f).lg = d.lg := rfl
/-- `onPort` leaves `fa`. -/
@[simp] theorem onPort_fa (d : Dev) (port plane : Nat) (f : PlanePort → PlanePort) : (d.onPort port plane f).fa = d.fa := rfl
/-- `onPort` leaves `ts`. -/
@[simp] theorem onPort_ts (d : Dev) (port plane : Nat) (f : PlanePort → PlanePort) : (d.onPort port plane f).ts = d.ts := rfl

/-! ## `Dev.onOptic` -/

/-- `onOptic` leaves `free`. -/
@[simp] theorem onOptic_free (d : Dev) (port plane : Nat) (f : OptPort → OptPort) : (d.onOptic port plane f).free = d.free := rfl
/-- `onOptic` leaves `hg`. -/
@[simp] theorem onOptic_hg (d : Dev) (port plane : Nat) (f : OptPort → OptPort) : (d.onOptic port plane f).hg = d.hg := rfl
/-- `onOptic` leaves `mb`. -/
@[simp] theorem onOptic_mb (d : Dev) (port plane : Nat) (f : OptPort → OptPort) : (d.onOptic port plane f).mb = d.mb := rfl
/-- `onOptic` leaves `ses`. -/
@[simp] theorem onOptic_ses (d : Dev) (port plane : Nat) (f : OptPort → OptPort) : (d.onOptic port plane f).ses = d.ses := rfl
/-- `onOptic` leaves `gr`. -/
@[simp] theorem onOptic_gr (d : Dev) (port plane : Nat) (f : OptPort → OptPort) : (d.onOptic port plane f).gr = d.gr := rfl
/-- `onOptic` leaves `str`. -/
@[simp] theorem onOptic_str (d : Dev) (port plane : Nat) (f : OptPort → OptPort) : (d.onOptic port plane f).str = d.str := rfl
/-- `onOptic` leaves `tb`. -/
@[simp] theorem onOptic_tb (d : Dev) (port plane : Nat) (f : OptPort → OptPort) : (d.onOptic port plane f).tb = d.tb := rfl
/-- `onOptic` leaves `rd`. -/
@[simp] theorem onOptic_rd (d : Dev) (port plane : Nat) (f : OptPort → OptPort) : (d.onOptic port plane f).rd = d.rd := rfl
/-- `onOptic` leaves `ck`. -/
@[simp] theorem onOptic_ck (d : Dev) (port plane : Nat) (f : OptPort → OptPort) : (d.onOptic port plane f).ck = d.ck := rfl
/-- `onOptic` leaves `pw`. -/
@[simp] theorem onOptic_pw (d : Dev) (port plane : Nat) (f : OptPort → OptPort) : (d.onOptic port plane f).pw = d.pw := rfl
/-- `onOptic` leaves `th`. -/
@[simp] theorem onOptic_th (d : Dev) (port plane : Nat) (f : OptPort → OptPort) : (d.onOptic port plane f).th = d.th := rfl
/-- `onOptic` leaves `ba`. -/
@[simp] theorem onOptic_ba (d : Dev) (port plane : Nat) (f : OptPort → OptPort) : (d.onOptic port plane f).ba = d.ba := rfl
/-- `onOptic` leaves `mem`. -/
@[simp] theorem onOptic_mem (d : Dev) (port plane : Nat) (f : OptPort → OptPort) : (d.onOptic port plane f).mem = d.mem := rfl
/-- `onOptic` leaves `cs`. -/
@[simp] theorem onOptic_cs (d : Dev) (port plane : Nat) (f : OptPort → OptPort) : (d.onOptic port plane f).cs = d.cs := rfl
/-- `onOptic` leaves `sw`. -/
@[simp] theorem onOptic_sw (d : Dev) (port plane : Nat) (f : OptPort → OptPort) : (d.onOptic port plane f).sw = d.sw := rfl
/-- `onOptic` leaves `bu`. -/
@[simp] theorem onOptic_bu (d : Dev) (port plane : Nat) (f : OptPort → OptPort) : (d.onOptic port plane f).bu = d.bu := rfl
/-- `onOptic` leaves `sp`. -/
@[simp] theorem onOptic_sp (d : Dev) (port plane : Nat) (f : OptPort → OptPort) : (d.onOptic port plane f).sp = d.sp := rfl
/-- `onOptic` leaves `fw`. -/
@[simp] theorem onOptic_fw (d : Dev) (port plane : Nat) (f : OptPort → OptPort) : (d.onOptic port plane f).fw = d.fw := rfl
/-- `onOptic` leaves `lg`. -/
@[simp] theorem onOptic_lg (d : Dev) (port plane : Nat) (f : OptPort → OptPort) : (d.onOptic port plane f).lg = d.lg := rfl
/-- `onOptic` leaves `fa`. -/
@[simp] theorem onOptic_fa (d : Dev) (port plane : Nat) (f : OptPort → OptPort) : (d.onOptic port plane f).fa = d.fa := rfl
/-- `onOptic` leaves `ts`. -/
@[simp] theorem onOptic_ts (d : Dev) (port plane : Nat) (f : OptPort → OptPort) : (d.onOptic port plane f).ts = d.ts := rfl

/-! ## `Dev.onRing` -/

/-- `onRing` leaves `free`. -/
@[simp] theorem onRing_free (d : Dev) (id : RingId) (f : Ring → Ring) : (d.onRing id f).free = d.free := rfl
/-- `onRing` leaves `hg`. -/
@[simp] theorem onRing_hg (d : Dev) (id : RingId) (f : Ring → Ring) : (d.onRing id f).hg = d.hg := rfl
/-- `onRing` leaves `mb`. -/
@[simp] theorem onRing_mb (d : Dev) (id : RingId) (f : Ring → Ring) : (d.onRing id f).mb = d.mb := rfl
/-- `onRing` leaves `ses`. -/
@[simp] theorem onRing_ses (d : Dev) (id : RingId) (f : Ring → Ring) : (d.onRing id f).ses = d.ses := rfl
/-- `onRing` leaves `gr`. -/
@[simp] theorem onRing_gr (d : Dev) (id : RingId) (f : Ring → Ring) : (d.onRing id f).gr = d.gr := rfl
/-- `onRing` leaves `str`. -/
@[simp] theorem onRing_str (d : Dev) (id : RingId) (f : Ring → Ring) : (d.onRing id f).str = d.str := rfl
/-- `onRing` leaves `tb`. -/
@[simp] theorem onRing_tb (d : Dev) (id : RingId) (f : Ring → Ring) : (d.onRing id f).tb = d.tb := rfl
/-- `onRing` leaves `rd`. -/
@[simp] theorem onRing_rd (d : Dev) (id : RingId) (f : Ring → Ring) : (d.onRing id f).rd = d.rd := rfl
/-- `onRing` leaves `ck`. -/
@[simp] theorem onRing_ck (d : Dev) (id : RingId) (f : Ring → Ring) : (d.onRing id f).ck = d.ck := rfl
/-- `onRing` leaves `pw`. -/
@[simp] theorem onRing_pw (d : Dev) (id : RingId) (f : Ring → Ring) : (d.onRing id f).pw = d.pw := rfl
/-- `onRing` leaves `th`. -/
@[simp] theorem onRing_th (d : Dev) (id : RingId) (f : Ring → Ring) : (d.onRing id f).th = d.th := rfl
/-- `onRing` leaves `ba`. -/
@[simp] theorem onRing_ba (d : Dev) (id : RingId) (f : Ring → Ring) : (d.onRing id f).ba = d.ba := rfl
/-- `onRing` leaves `mem`. -/
@[simp] theorem onRing_mem (d : Dev) (id : RingId) (f : Ring → Ring) : (d.onRing id f).mem = d.mem := rfl
/-- `onRing` leaves `cs`. -/
@[simp] theorem onRing_cs (d : Dev) (id : RingId) (f : Ring → Ring) : (d.onRing id f).cs = d.cs := rfl
/-- `onRing` leaves `sw`. -/
@[simp] theorem onRing_sw (d : Dev) (id : RingId) (f : Ring → Ring) : (d.onRing id f).sw = d.sw := rfl
/-- `onRing` leaves `bu`. -/
@[simp] theorem onRing_bu (d : Dev) (id : RingId) (f : Ring → Ring) : (d.onRing id f).bu = d.bu := rfl
/-- `onRing` leaves `sp`. -/
@[simp] theorem onRing_sp (d : Dev) (id : RingId) (f : Ring → Ring) : (d.onRing id f).sp = d.sp := rfl
/-- `onRing` leaves `fw`. -/
@[simp] theorem onRing_fw (d : Dev) (id : RingId) (f : Ring → Ring) : (d.onRing id f).fw = d.fw := rfl
/-- `onRing` leaves `lg`. -/
@[simp] theorem onRing_lg (d : Dev) (id : RingId) (f : Ring → Ring) : (d.onRing id f).lg = d.lg := rfl
/-- `onRing` leaves `fa`. -/
@[simp] theorem onRing_fa (d : Dev) (id : RingId) (f : Ring → Ring) : (d.onRing id f).fa = d.fa := rfl
/-- `onRing` leaves `ts`. -/
@[simp] theorem onRing_ts (d : Dev) (id : RingId) (f : Ring → Ring) : (d.onRing id f).ts = d.ts := rfl

/-! ## `Dev.onWell` -/

/-- `onWell` leaves `free`. -/
@[simp] theorem onWell_free (d : Dev) (w : Nat) (f : Wellhead → Wellhead) : (d.onWell w f).free = d.free := rfl
/-- `onWell` leaves `hg`. -/
@[simp] theorem onWell_hg (d : Dev) (w : Nat) (f : Wellhead → Wellhead) : (d.onWell w f).hg = d.hg := rfl
/-- `onWell` leaves `mb`. -/
@[simp] theorem onWell_mb (d : Dev) (w : Nat) (f : Wellhead → Wellhead) : (d.onWell w f).mb = d.mb := rfl
/-- `onWell` leaves `ses`. -/
@[simp] theorem onWell_ses (d : Dev) (w : Nat) (f : Wellhead → Wellhead) : (d.onWell w f).ses = d.ses := rfl
/-- `onWell` leaves `gr`. -/
@[simp] theorem onWell_gr (d : Dev) (w : Nat) (f : Wellhead → Wellhead) : (d.onWell w f).gr = d.gr := rfl
/-- `onWell` leaves `str`. -/
@[simp] theorem onWell_str (d : Dev) (w : Nat) (f : Wellhead → Wellhead) : (d.onWell w f).str = d.str := rfl
/-- `onWell` leaves `tb`. -/
@[simp] theorem onWell_tb (d : Dev) (w : Nat) (f : Wellhead → Wellhead) : (d.onWell w f).tb = d.tb := rfl
/-- `onWell` leaves `rd`. -/
@[simp] theorem onWell_rd (d : Dev) (w : Nat) (f : Wellhead → Wellhead) : (d.onWell w f).rd = d.rd := rfl
/-- `onWell` leaves `ck`. -/
@[simp] theorem onWell_ck (d : Dev) (w : Nat) (f : Wellhead → Wellhead) : (d.onWell w f).ck = d.ck := rfl
/-- `onWell` leaves `pw`. -/
@[simp] theorem onWell_pw (d : Dev) (w : Nat) (f : Wellhead → Wellhead) : (d.onWell w f).pw = d.pw := rfl
/-- `onWell` leaves `th`. -/
@[simp] theorem onWell_th (d : Dev) (w : Nat) (f : Wellhead → Wellhead) : (d.onWell w f).th = d.th := rfl
/-- `onWell` leaves `ba`. -/
@[simp] theorem onWell_ba (d : Dev) (w : Nat) (f : Wellhead → Wellhead) : (d.onWell w f).ba = d.ba := rfl
/-- `onWell` leaves `mem`. -/
@[simp] theorem onWell_mem (d : Dev) (w : Nat) (f : Wellhead → Wellhead) : (d.onWell w f).mem = d.mem := rfl
/-- `onWell` leaves `cs`. -/
@[simp] theorem onWell_cs (d : Dev) (w : Nat) (f : Wellhead → Wellhead) : (d.onWell w f).cs = d.cs := rfl
/-- `onWell` leaves `sw`. -/
@[simp] theorem onWell_sw (d : Dev) (w : Nat) (f : Wellhead → Wellhead) : (d.onWell w f).sw = d.sw := rfl
/-- `onWell` leaves `bu`. -/
@[simp] theorem onWell_bu (d : Dev) (w : Nat) (f : Wellhead → Wellhead) : (d.onWell w f).bu = d.bu := rfl
/-- `onWell` leaves `sp`. -/
@[simp] theorem onWell_sp (d : Dev) (w : Nat) (f : Wellhead → Wellhead) : (d.onWell w f).sp = d.sp := rfl
/-- `onWell` leaves `fw`. -/
@[simp] theorem onWell_fw (d : Dev) (w : Nat) (f : Wellhead → Wellhead) : (d.onWell w f).fw = d.fw := rfl
/-- `onWell` leaves `lg`. -/
@[simp] theorem onWell_lg (d : Dev) (w : Nat) (f : Wellhead → Wellhead) : (d.onWell w f).lg = d.lg := rfl
/-- `onWell` leaves `fa`. -/
@[simp] theorem onWell_fa (d : Dev) (w : Nat) (f : Wellhead → Wellhead) : (d.onWell w f).fa = d.fa := rfl
/-- `onWell` leaves `ts`. -/
@[simp] theorem onWell_ts (d : Dev) (w : Nat) (f : Wellhead → Wellhead) : (d.onWell w f).ts = d.ts := rfl

/-! ## `Dev.onStack` -/

/-- `onStack` leaves `free`. -/
@[simp] theorem onStack_free (d : Dev) (k : Nat) (f : Stack → Stack) : (d.onStack k f).free = d.free := rfl
/-- `onStack` leaves `hg`. -/
@[simp] theorem onStack_hg (d : Dev) (k : Nat) (f : Stack → Stack) : (d.onStack k f).hg = d.hg := rfl
/-- `onStack` leaves `mb`. -/
@[simp] theorem onStack_mb (d : Dev) (k : Nat) (f : Stack → Stack) : (d.onStack k f).mb = d.mb := rfl
/-- `onStack` leaves `ses`. -/
@[simp] theorem onStack_ses (d : Dev) (k : Nat) (f : Stack → Stack) : (d.onStack k f).ses = d.ses := rfl
/-- `onStack` leaves `gr`. -/
@[simp] theorem onStack_gr (d : Dev) (k : Nat) (f : Stack → Stack) : (d.onStack k f).gr = d.gr := rfl
/-- `onStack` leaves `str`. -/
@[simp] theorem onStack_str (d : Dev) (k : Nat) (f : Stack → Stack) : (d.onStack k f).str = d.str := rfl
/-- `onStack` leaves `tb`. -/
@[simp] theorem onStack_tb (d : Dev) (k : Nat) (f : Stack → Stack) : (d.onStack k f).tb = d.tb := rfl
/-- `onStack` leaves `rd`. -/
@[simp] theorem onStack_rd (d : Dev) (k : Nat) (f : Stack → Stack) : (d.onStack k f).rd = d.rd := rfl
/-- `onStack` leaves `ck`. -/
@[simp] theorem onStack_ck (d : Dev) (k : Nat) (f : Stack → Stack) : (d.onStack k f).ck = d.ck := rfl
/-- `onStack` leaves `pw`. -/
@[simp] theorem onStack_pw (d : Dev) (k : Nat) (f : Stack → Stack) : (d.onStack k f).pw = d.pw := rfl
/-- `onStack` leaves `th`. -/
@[simp] theorem onStack_th (d : Dev) (k : Nat) (f : Stack → Stack) : (d.onStack k f).th = d.th := rfl
/-- `onStack` leaves `ba`. -/
@[simp] theorem onStack_ba (d : Dev) (k : Nat) (f : Stack → Stack) : (d.onStack k f).ba = d.ba := rfl
/-- `onStack` leaves `op`. -/
@[simp] theorem onStack_op (d : Dev) (k : Nat) (f : Stack → Stack) : (d.onStack k f).op = d.op := rfl
/-- `onStack` leaves `cs`. -/
@[simp] theorem onStack_cs (d : Dev) (k : Nat) (f : Stack → Stack) : (d.onStack k f).cs = d.cs := rfl
/-- `onStack` leaves `sw`. -/
@[simp] theorem onStack_sw (d : Dev) (k : Nat) (f : Stack → Stack) : (d.onStack k f).sw = d.sw := rfl
/-- `onStack` leaves `bu`. -/
@[simp] theorem onStack_bu (d : Dev) (k : Nat) (f : Stack → Stack) : (d.onStack k f).bu = d.bu := rfl
/-- `onStack` leaves `sp`. -/
@[simp] theorem onStack_sp (d : Dev) (k : Nat) (f : Stack → Stack) : (d.onStack k f).sp = d.sp := rfl
/-- `onStack` leaves `fw`. -/
@[simp] theorem onStack_fw (d : Dev) (k : Nat) (f : Stack → Stack) : (d.onStack k f).fw = d.fw := rfl
/-- `onStack` leaves `lg`. -/
@[simp] theorem onStack_lg (d : Dev) (k : Nat) (f : Stack → Stack) : (d.onStack k f).lg = d.lg := rfl
/-- `onStack` leaves `fa`. -/
@[simp] theorem onStack_fa (d : Dev) (k : Nat) (f : Stack → Stack) : (d.onStack k f).fa = d.fa := rfl
/-- `onStack` leaves `ts`. -/
@[simp] theorem onStack_ts (d : Dev) (k : Nat) (f : Stack → Stack) : (d.onStack k f).ts = d.ts := rfl
/-- `onStack` leaves the bytes. -/
@[simp] theorem onStack_cells (d : Dev) (k : Nat) (f : Stack → Stack) : (d.onStack k f).mem.cells = d.mem.cells := rfl
/-- `onStack` leaves the poison. -/
@[simp] theorem onStack_poison (d : Dev) (k : Nat) (f : Stack → Stack) : (d.onStack k f).mem.poison = d.mem.poison := rfl

/-! ## `Dev.onSite` -/

/-- `onSite` leaves `free`. -/
@[simp] theorem onSite_free (d : Dev) (k : Nat) (f : Site → Site) : (d.onSite k f).free = d.free := rfl
/-- `onSite` leaves `hg`. -/
@[simp] theorem onSite_hg (d : Dev) (k : Nat) (f : Site → Site) : (d.onSite k f).hg = d.hg := rfl
/-- `onSite` leaves `mb`. -/
@[simp] theorem onSite_mb (d : Dev) (k : Nat) (f : Site → Site) : (d.onSite k f).mb = d.mb := rfl
/-- `onSite` leaves `ses`. -/
@[simp] theorem onSite_ses (d : Dev) (k : Nat) (f : Site → Site) : (d.onSite k f).ses = d.ses := rfl
/-- `onSite` leaves `gr`. -/
@[simp] theorem onSite_gr (d : Dev) (k : Nat) (f : Site → Site) : (d.onSite k f).gr = d.gr := rfl
/-- `onSite` leaves `str`. -/
@[simp] theorem onSite_str (d : Dev) (k : Nat) (f : Site → Site) : (d.onSite k f).str = d.str := rfl
/-- `onSite` leaves `tb`. -/
@[simp] theorem onSite_tb (d : Dev) (k : Nat) (f : Site → Site) : (d.onSite k f).tb = d.tb := rfl
/-- `onSite` leaves `rd`. -/
@[simp] theorem onSite_rd (d : Dev) (k : Nat) (f : Site → Site) : (d.onSite k f).rd = d.rd := rfl
/-- `onSite` leaves `ck`. -/
@[simp] theorem onSite_ck (d : Dev) (k : Nat) (f : Site → Site) : (d.onSite k f).ck = d.ck := rfl
/-- `onSite` leaves `pw`. -/
@[simp] theorem onSite_pw (d : Dev) (k : Nat) (f : Site → Site) : (d.onSite k f).pw = d.pw := rfl
/-- `onSite` leaves `th`. -/
@[simp] theorem onSite_th (d : Dev) (k : Nat) (f : Site → Site) : (d.onSite k f).th = d.th := rfl
/-- `onSite` leaves `ba`. -/
@[simp] theorem onSite_ba (d : Dev) (k : Nat) (f : Site → Site) : (d.onSite k f).ba = d.ba := rfl
/-- `onSite` leaves `op`. -/
@[simp] theorem onSite_op (d : Dev) (k : Nat) (f : Site → Site) : (d.onSite k f).op = d.op := rfl
/-- `onSite` leaves `mem`. -/
@[simp] theorem onSite_mem (d : Dev) (k : Nat) (f : Site → Site) : (d.onSite k f).mem = d.mem := rfl
/-- `onSite` leaves `sw`. -/
@[simp] theorem onSite_sw (d : Dev) (k : Nat) (f : Site → Site) : (d.onSite k f).sw = d.sw := rfl
/-- `onSite` leaves `bu`. -/
@[simp] theorem onSite_bu (d : Dev) (k : Nat) (f : Site → Site) : (d.onSite k f).bu = d.bu := rfl
/-- `onSite` leaves `sp`. -/
@[simp] theorem onSite_sp (d : Dev) (k : Nat) (f : Site → Site) : (d.onSite k f).sp = d.sp := rfl
/-- `onSite` leaves `fw`. -/
@[simp] theorem onSite_fw (d : Dev) (k : Nat) (f : Site → Site) : (d.onSite k f).fw = d.fw := rfl
/-- `onSite` leaves `lg`. -/
@[simp] theorem onSite_lg (d : Dev) (k : Nat) (f : Site → Site) : (d.onSite k f).lg = d.lg := rfl
/-- `onSite` leaves `fa`. -/
@[simp] theorem onSite_fa (d : Dev) (k : Nat) (f : Site → Site) : (d.onSite k f).fa = d.fa := rfl
/-- `onSite` leaves `ts`. -/
@[simp] theorem onSite_ts (d : Dev) (k : Nat) (f : Site → Site) : (d.onSite k f).ts = d.ts := rfl

/-! ## `Dev.onFport` -/

/-- `onFport` leaves `free`. -/
@[simp] theorem onFport_free (d : Dev) (p : Nat) (f : FPort → FPort) : (d.onFport p f).free = d.free := rfl
/-- `onFport` leaves `hg`. -/
@[simp] theorem onFport_hg (d : Dev) (p : Nat) (f : FPort → FPort) : (d.onFport p f).hg = d.hg := rfl
/-- `onFport` leaves `mb`. -/
@[simp] theorem onFport_mb (d : Dev) (p : Nat) (f : FPort → FPort) : (d.onFport p f).mb = d.mb := rfl
/-- `onFport` leaves `ses`. -/
@[simp] theorem onFport_ses (d : Dev) (p : Nat) (f : FPort → FPort) : (d.onFport p f).ses = d.ses := rfl
/-- `onFport` leaves `gr`. -/
@[simp] theorem onFport_gr (d : Dev) (p : Nat) (f : FPort → FPort) : (d.onFport p f).gr = d.gr := rfl
/-- `onFport` leaves `str`. -/
@[simp] theorem onFport_str (d : Dev) (p : Nat) (f : FPort → FPort) : (d.onFport p f).str = d.str := rfl
/-- `onFport` leaves `tb`. -/
@[simp] theorem onFport_tb (d : Dev) (p : Nat) (f : FPort → FPort) : (d.onFport p f).tb = d.tb := rfl
/-- `onFport` leaves `rd`. -/
@[simp] theorem onFport_rd (d : Dev) (p : Nat) (f : FPort → FPort) : (d.onFport p f).rd = d.rd := rfl
/-- `onFport` leaves `ck`. -/
@[simp] theorem onFport_ck (d : Dev) (p : Nat) (f : FPort → FPort) : (d.onFport p f).ck = d.ck := rfl
/-- `onFport` leaves `pw`. -/
@[simp] theorem onFport_pw (d : Dev) (p : Nat) (f : FPort → FPort) : (d.onFport p f).pw = d.pw := rfl
/-- `onFport` leaves `th`. -/
@[simp] theorem onFport_th (d : Dev) (p : Nat) (f : FPort → FPort) : (d.onFport p f).th = d.th := rfl
/-- `onFport` leaves `ba`. -/
@[simp] theorem onFport_ba (d : Dev) (p : Nat) (f : FPort → FPort) : (d.onFport p f).ba = d.ba := rfl
/-- `onFport` leaves `op`. -/
@[simp] theorem onFport_op (d : Dev) (p : Nat) (f : FPort → FPort) : (d.onFport p f).op = d.op := rfl
/-- `onFport` leaves `mem`. -/
@[simp] theorem onFport_mem (d : Dev) (p : Nat) (f : FPort → FPort) : (d.onFport p f).mem = d.mem := rfl
/-- `onFport` leaves `cs`. -/
@[simp] theorem onFport_cs (d : Dev) (p : Nat) (f : FPort → FPort) : (d.onFport p f).cs = d.cs := rfl
/-- `onFport` leaves `bu`. -/
@[simp] theorem onFport_bu (d : Dev) (p : Nat) (f : FPort → FPort) : (d.onFport p f).bu = d.bu := rfl
/-- `onFport` leaves `sp`. -/
@[simp] theorem onFport_sp (d : Dev) (p : Nat) (f : FPort → FPort) : (d.onFport p f).sp = d.sp := rfl
/-- `onFport` leaves `fw`. -/
@[simp] theorem onFport_fw (d : Dev) (p : Nat) (f : FPort → FPort) : (d.onFport p f).fw = d.fw := rfl
/-- `onFport` leaves `lg`. -/
@[simp] theorem onFport_lg (d : Dev) (p : Nat) (f : FPort → FPort) : (d.onFport p f).lg = d.lg := rfl
/-- `onFport` leaves `fa`. -/
@[simp] theorem onFport_fa (d : Dev) (p : Nat) (f : FPort → FPort) : (d.onFport p f).fa = d.fa := rfl
/-- `onFport` leaves `ts`. -/
@[simp] theorem onFport_ts (d : Dev) (p : Nat) (f : FPort → FPort) : (d.onFport p f).ts = d.ts := rfl

/-! ## `Dev.onChan` -/

/-- `onChan` leaves `free`. -/
@[simp] theorem onChan_free (d : Dev) (ch : Nat) (f : Channel → Channel) : (d.onChan ch f).free = d.free := rfl
/-- `onChan` leaves `hg`. -/
@[simp] theorem onChan_hg (d : Dev) (ch : Nat) (f : Channel → Channel) : (d.onChan ch f).hg = d.hg := rfl
/-- `onChan` leaves `ses`. -/
@[simp] theorem onChan_ses (d : Dev) (ch : Nat) (f : Channel → Channel) : (d.onChan ch f).ses = d.ses := rfl
/-- `onChan` leaves `gr`. -/
@[simp] theorem onChan_gr (d : Dev) (ch : Nat) (f : Channel → Channel) : (d.onChan ch f).gr = d.gr := rfl
/-- `onChan` leaves `str`. -/
@[simp] theorem onChan_str (d : Dev) (ch : Nat) (f : Channel → Channel) : (d.onChan ch f).str = d.str := rfl
/-- `onChan` leaves `tb`. -/
@[simp] theorem onChan_tb (d : Dev) (ch : Nat) (f : Channel → Channel) : (d.onChan ch f).tb = d.tb := rfl
/-- `onChan` leaves `rd`. -/
@[simp] theorem onChan_rd (d : Dev) (ch : Nat) (f : Channel → Channel) : (d.onChan ch f).rd = d.rd := rfl
/-- `onChan` leaves `ck`. -/
@[simp] theorem onChan_ck (d : Dev) (ch : Nat) (f : Channel → Channel) : (d.onChan ch f).ck = d.ck := rfl
/-- `onChan` leaves `pw`. -/
@[simp] theorem onChan_pw (d : Dev) (ch : Nat) (f : Channel → Channel) : (d.onChan ch f).pw = d.pw := rfl
/-- `onChan` leaves `th`. -/
@[simp] theorem onChan_th (d : Dev) (ch : Nat) (f : Channel → Channel) : (d.onChan ch f).th = d.th := rfl
/-- `onChan` leaves `ba`. -/
@[simp] theorem onChan_ba (d : Dev) (ch : Nat) (f : Channel → Channel) : (d.onChan ch f).ba = d.ba := rfl
/-- `onChan` leaves `op`. -/
@[simp] theorem onChan_op (d : Dev) (ch : Nat) (f : Channel → Channel) : (d.onChan ch f).op = d.op := rfl
/-- `onChan` leaves `mem`. -/
@[simp] theorem onChan_mem (d : Dev) (ch : Nat) (f : Channel → Channel) : (d.onChan ch f).mem = d.mem := rfl
/-- `onChan` leaves `cs`. -/
@[simp] theorem onChan_cs (d : Dev) (ch : Nat) (f : Channel → Channel) : (d.onChan ch f).cs = d.cs := rfl
/-- `onChan` leaves `sw`. -/
@[simp] theorem onChan_sw (d : Dev) (ch : Nat) (f : Channel → Channel) : (d.onChan ch f).sw = d.sw := rfl
/-- `onChan` leaves `bu`. -/
@[simp] theorem onChan_bu (d : Dev) (ch : Nat) (f : Channel → Channel) : (d.onChan ch f).bu = d.bu := rfl
/-- `onChan` leaves `sp`. -/
@[simp] theorem onChan_sp (d : Dev) (ch : Nat) (f : Channel → Channel) : (d.onChan ch f).sp = d.sp := rfl
/-- `onChan` leaves `fw`. -/
@[simp] theorem onChan_fw (d : Dev) (ch : Nat) (f : Channel → Channel) : (d.onChan ch f).fw = d.fw := rfl
/-- `onChan` leaves `lg`. -/
@[simp] theorem onChan_lg (d : Dev) (ch : Nat) (f : Channel → Channel) : (d.onChan ch f).lg = d.lg := rfl
/-- `onChan` leaves `fa`. -/
@[simp] theorem onChan_fa (d : Dev) (ch : Nat) (f : Channel → Channel) : (d.onChan ch f).fa = d.fa := rfl
/-- `onChan` leaves `ts`. -/
@[simp] theorem onChan_ts (d : Dev) (ch : Nat) (f : Channel → Channel) : (d.onChan ch f).ts = d.ts := rfl

/-! ## `Dev.onSession` -/

/-- `onSession` leaves `free`. -/
@[simp] theorem onSession_free (d : Dev) (id : Nat) (f : Session → Session) : (d.onSession id f).free = d.free := rfl
/-- `onSession` leaves `hg`. -/
@[simp] theorem onSession_hg (d : Dev) (id : Nat) (f : Session → Session) : (d.onSession id f).hg = d.hg := rfl
/-- `onSession` leaves `mb`. -/
@[simp] theorem onSession_mb (d : Dev) (id : Nat) (f : Session → Session) : (d.onSession id f).mb = d.mb := rfl
/-- `onSession` leaves `gr`. -/
@[simp] theorem onSession_gr (d : Dev) (id : Nat) (f : Session → Session) : (d.onSession id f).gr = d.gr := rfl
/-- `onSession` leaves `str`. -/
@[simp] theorem onSession_str (d : Dev) (id : Nat) (f : Session → Session) : (d.onSession id f).str = d.str := rfl
/-- `onSession` leaves `tb`. -/
@[simp] theorem onSession_tb (d : Dev) (id : Nat) (f : Session → Session) : (d.onSession id f).tb = d.tb := rfl
/-- `onSession` leaves `rd`. -/
@[simp] theorem onSession_rd (d : Dev) (id : Nat) (f : Session → Session) : (d.onSession id f).rd = d.rd := rfl
/-- `onSession` leaves `ck`. -/
@[simp] theorem onSession_ck (d : Dev) (id : Nat) (f : Session → Session) : (d.onSession id f).ck = d.ck := rfl
/-- `onSession` leaves `pw`. -/
@[simp] theorem onSession_pw (d : Dev) (id : Nat) (f : Session → Session) : (d.onSession id f).pw = d.pw := rfl
/-- `onSession` leaves `th`. -/
@[simp] theorem onSession_th (d : Dev) (id : Nat) (f : Session → Session) : (d.onSession id f).th = d.th := rfl
/-- `onSession` leaves `ba`. -/
@[simp] theorem onSession_ba (d : Dev) (id : Nat) (f : Session → Session) : (d.onSession id f).ba = d.ba := rfl
/-- `onSession` leaves `op`. -/
@[simp] theorem onSession_op (d : Dev) (id : Nat) (f : Session → Session) : (d.onSession id f).op = d.op := rfl
/-- `onSession` leaves `mem`. -/
@[simp] theorem onSession_mem (d : Dev) (id : Nat) (f : Session → Session) : (d.onSession id f).mem = d.mem := rfl
/-- `onSession` leaves `cs`. -/
@[simp] theorem onSession_cs (d : Dev) (id : Nat) (f : Session → Session) : (d.onSession id f).cs = d.cs := rfl
/-- `onSession` leaves `sw`. -/
@[simp] theorem onSession_sw (d : Dev) (id : Nat) (f : Session → Session) : (d.onSession id f).sw = d.sw := rfl
/-- `onSession` leaves `bu`. -/
@[simp] theorem onSession_bu (d : Dev) (id : Nat) (f : Session → Session) : (d.onSession id f).bu = d.bu := rfl
/-- `onSession` leaves `sp`. -/
@[simp] theorem onSession_sp (d : Dev) (id : Nat) (f : Session → Session) : (d.onSession id f).sp = d.sp := rfl
/-- `onSession` leaves `fw`. -/
@[simp] theorem onSession_fw (d : Dev) (id : Nat) (f : Session → Session) : (d.onSession id f).fw = d.fw := rfl
/-- `onSession` leaves `lg`. -/
@[simp] theorem onSession_lg (d : Dev) (id : Nat) (f : Session → Session) : (d.onSession id f).lg = d.lg := rfl
/-- `onSession` leaves `fa`. -/
@[simp] theorem onSession_fa (d : Dev) (id : Nat) (f : Session → Session) : (d.onSession id f).fa = d.fa := rfl
/-- `onSession` leaves `ts`. -/
@[simp] theorem onSession_ts (d : Dev) (id : Nat) (f : Session → Session) : (d.onSession id f).ts = d.ts := rfl

/-! ## `Dev.onGraph` -/

/-- `onGraph` leaves `free`. -/
@[simp] theorem onGraph_free (d : Dev) (k : Nat) (f : Graph → Graph) : (d.onGraph k f).free = d.free := rfl
/-- `onGraph` leaves `hg`. -/
@[simp] theorem onGraph_hg (d : Dev) (k : Nat) (f : Graph → Graph) : (d.onGraph k f).hg = d.hg := rfl
/-- `onGraph` leaves `mb`. -/
@[simp] theorem onGraph_mb (d : Dev) (k : Nat) (f : Graph → Graph) : (d.onGraph k f).mb = d.mb := rfl
/-- `onGraph` leaves `ses`. -/
@[simp] theorem onGraph_ses (d : Dev) (k : Nat) (f : Graph → Graph) : (d.onGraph k f).ses = d.ses := rfl
/-- `onGraph` leaves `str`. -/
@[simp] theorem onGraph_str (d : Dev) (k : Nat) (f : Graph → Graph) : (d.onGraph k f).str = d.str := rfl
/-- `onGraph` leaves `tb`. -/
@[simp] theorem onGraph_tb (d : Dev) (k : Nat) (f : Graph → Graph) : (d.onGraph k f).tb = d.tb := rfl
/-- `onGraph` leaves `rd`. -/
@[simp] theorem onGraph_rd (d : Dev) (k : Nat) (f : Graph → Graph) : (d.onGraph k f).rd = d.rd := rfl
/-- `onGraph` leaves `ck`. -/
@[simp] theorem onGraph_ck (d : Dev) (k : Nat) (f : Graph → Graph) : (d.onGraph k f).ck = d.ck := rfl
/-- `onGraph` leaves `pw`. -/
@[simp] theorem onGraph_pw (d : Dev) (k : Nat) (f : Graph → Graph) : (d.onGraph k f).pw = d.pw := rfl
/-- `onGraph` leaves `th`. -/
@[simp] theorem onGraph_th (d : Dev) (k : Nat) (f : Graph → Graph) : (d.onGraph k f).th = d.th := rfl
/-- `onGraph` leaves `ba`. -/
@[simp] theorem onGraph_ba (d : Dev) (k : Nat) (f : Graph → Graph) : (d.onGraph k f).ba = d.ba := rfl
/-- `onGraph` leaves `op`. -/
@[simp] theorem onGraph_op (d : Dev) (k : Nat) (f : Graph → Graph) : (d.onGraph k f).op = d.op := rfl
/-- `onGraph` leaves `mem`. -/
@[simp] theorem onGraph_mem (d : Dev) (k : Nat) (f : Graph → Graph) : (d.onGraph k f).mem = d.mem := rfl
/-- `onGraph` leaves `cs`. -/
@[simp] theorem onGraph_cs (d : Dev) (k : Nat) (f : Graph → Graph) : (d.onGraph k f).cs = d.cs := rfl
/-- `onGraph` leaves `sw`. -/
@[simp] theorem onGraph_sw (d : Dev) (k : Nat) (f : Graph → Graph) : (d.onGraph k f).sw = d.sw := rfl
/-- `onGraph` leaves `bu`. -/
@[simp] theorem onGraph_bu (d : Dev) (k : Nat) (f : Graph → Graph) : (d.onGraph k f).bu = d.bu := rfl
/-- `onGraph` leaves `sp`. -/
@[simp] theorem onGraph_sp (d : Dev) (k : Nat) (f : Graph → Graph) : (d.onGraph k f).sp = d.sp := rfl
/-- `onGraph` leaves `fw`. -/
@[simp] theorem onGraph_fw (d : Dev) (k : Nat) (f : Graph → Graph) : (d.onGraph k f).fw = d.fw := rfl
/-- `onGraph` leaves `lg`. -/
@[simp] theorem onGraph_lg (d : Dev) (k : Nat) (f : Graph → Graph) : (d.onGraph k f).lg = d.lg := rfl
/-- `onGraph` leaves `fa`. -/
@[simp] theorem onGraph_fa (d : Dev) (k : Nat) (f : Graph → Graph) : (d.onGraph k f).fa = d.fa := rfl
/-- `onGraph` leaves `ts`. -/
@[simp] theorem onGraph_ts (d : Dev) (k : Nat) (f : Graph → Graph) : (d.onGraph k f).ts = d.ts := rfl

/-! ## `Dev.onStream` -/

/-- `onStream` leaves `free`. -/
@[simp] theorem onStream_free (d : Dev) (id : Nat) (f : Stream → Stream) : (d.onStream id f).free = d.free := rfl
/-- `onStream` leaves `hg`. -/
@[simp] theorem onStream_hg (d : Dev) (id : Nat) (f : Stream → Stream) : (d.onStream id f).hg = d.hg := rfl
/-- `onStream` leaves `mb`. -/
@[simp] theorem onStream_mb (d : Dev) (id : Nat) (f : Stream → Stream) : (d.onStream id f).mb = d.mb := rfl
/-- `onStream` leaves `ses`. -/
@[simp] theorem onStream_ses (d : Dev) (id : Nat) (f : Stream → Stream) : (d.onStream id f).ses = d.ses := rfl
/-- `onStream` leaves `gr`. -/
@[simp] theorem onStream_gr (d : Dev) (id : Nat) (f : Stream → Stream) : (d.onStream id f).gr = d.gr := rfl
/-- `onStream` leaves `tb`. -/
@[simp] theorem onStream_tb (d : Dev) (id : Nat) (f : Stream → Stream) : (d.onStream id f).tb = d.tb := rfl
/-- `onStream` leaves `rd`. -/
@[simp] theorem onStream_rd (d : Dev) (id : Nat) (f : Stream → Stream) : (d.onStream id f).rd = d.rd := rfl
/-- `onStream` leaves `ck`. -/
@[simp] theorem onStream_ck (d : Dev) (id : Nat) (f : Stream → Stream) : (d.onStream id f).ck = d.ck := rfl
/-- `onStream` leaves `pw`. -/
@[simp] theorem onStream_pw (d : Dev) (id : Nat) (f : Stream → Stream) : (d.onStream id f).pw = d.pw := rfl
/-- `onStream` leaves `th`. -/
@[simp] theorem onStream_th (d : Dev) (id : Nat) (f : Stream → Stream) : (d.onStream id f).th = d.th := rfl
/-- `onStream` leaves `ba`. -/
@[simp] theorem onStream_ba (d : Dev) (id : Nat) (f : Stream → Stream) : (d.onStream id f).ba = d.ba := rfl
/-- `onStream` leaves `op`. -/
@[simp] theorem onStream_op (d : Dev) (id : Nat) (f : Stream → Stream) : (d.onStream id f).op = d.op := rfl
/-- `onStream` leaves `mem`. -/
@[simp] theorem onStream_mem (d : Dev) (id : Nat) (f : Stream → Stream) : (d.onStream id f).mem = d.mem := rfl
/-- `onStream` leaves `cs`. -/
@[simp] theorem onStream_cs (d : Dev) (id : Nat) (f : Stream → Stream) : (d.onStream id f).cs = d.cs := rfl
/-- `onStream` leaves `sw`. -/
@[simp] theorem onStream_sw (d : Dev) (id : Nat) (f : Stream → Stream) : (d.onStream id f).sw = d.sw := rfl
/-- `onStream` leaves `bu`. -/
@[simp] theorem onStream_bu (d : Dev) (id : Nat) (f : Stream → Stream) : (d.onStream id f).bu = d.bu := rfl
/-- `onStream` leaves `sp`. -/
@[simp] theorem onStream_sp (d : Dev) (id : Nat) (f : Stream → Stream) : (d.onStream id f).sp = d.sp := rfl
/-- `onStream` leaves `fw`. -/
@[simp] theorem onStream_fw (d : Dev) (id : Nat) (f : Stream → Stream) : (d.onStream id f).fw = d.fw := rfl
/-- `onStream` leaves `lg`. -/
@[simp] theorem onStream_lg (d : Dev) (id : Nat) (f : Stream → Stream) : (d.onStream id f).lg = d.lg := rfl
/-- `onStream` leaves `fa`. -/
@[simp] theorem onStream_fa (d : Dev) (id : Nat) (f : Stream → Stream) : (d.onStream id f).fa = d.fa := rfl
/-- `onStream` leaves `ts`. -/
@[simp] theorem onStream_ts (d : Dev) (id : Nat) (f : Stream → Stream) : (d.onStream id f).ts = d.ts := rfl

/-! ## `Dev.onIntake` -/

/-- `onIntake` leaves `free`. -/
@[simp] theorem onIntake_free (d : Dev) (k : Nat) (f : IntakeRing → IntakeRing) : (d.onIntake k f).free = d.free := rfl
/-- `onIntake` leaves `hg`. -/
@[simp] theorem onIntake_hg (d : Dev) (k : Nat) (f : IntakeRing → IntakeRing) : (d.onIntake k f).hg = d.hg := rfl
/-- `onIntake` leaves `mb`. -/
@[simp] theorem onIntake_mb (d : Dev) (k : Nat) (f : IntakeRing → IntakeRing) : (d.onIntake k f).mb = d.mb := rfl
/-- `onIntake` leaves `ses`. -/
@[simp] theorem onIntake_ses (d : Dev) (k : Nat) (f : IntakeRing → IntakeRing) : (d.onIntake k f).ses = d.ses := rfl
/-- `onIntake` leaves `gr`. -/
@[simp] theorem onIntake_gr (d : Dev) (k : Nat) (f : IntakeRing → IntakeRing) : (d.onIntake k f).gr = d.gr := rfl
/-- `onIntake` leaves `tb`. -/
@[simp] theorem onIntake_tb (d : Dev) (k : Nat) (f : IntakeRing → IntakeRing) : (d.onIntake k f).tb = d.tb := rfl
/-- `onIntake` leaves `rd`. -/
@[simp] theorem onIntake_rd (d : Dev) (k : Nat) (f : IntakeRing → IntakeRing) : (d.onIntake k f).rd = d.rd := rfl
/-- `onIntake` leaves `ck`. -/
@[simp] theorem onIntake_ck (d : Dev) (k : Nat) (f : IntakeRing → IntakeRing) : (d.onIntake k f).ck = d.ck := rfl
/-- `onIntake` leaves `pw`. -/
@[simp] theorem onIntake_pw (d : Dev) (k : Nat) (f : IntakeRing → IntakeRing) : (d.onIntake k f).pw = d.pw := rfl
/-- `onIntake` leaves `th`. -/
@[simp] theorem onIntake_th (d : Dev) (k : Nat) (f : IntakeRing → IntakeRing) : (d.onIntake k f).th = d.th := rfl
/-- `onIntake` leaves `ba`. -/
@[simp] theorem onIntake_ba (d : Dev) (k : Nat) (f : IntakeRing → IntakeRing) : (d.onIntake k f).ba = d.ba := rfl
/-- `onIntake` leaves `op`. -/
@[simp] theorem onIntake_op (d : Dev) (k : Nat) (f : IntakeRing → IntakeRing) : (d.onIntake k f).op = d.op := rfl
/-- `onIntake` leaves `mem`. -/
@[simp] theorem onIntake_mem (d : Dev) (k : Nat) (f : IntakeRing → IntakeRing) : (d.onIntake k f).mem = d.mem := rfl
/-- `onIntake` leaves `cs`. -/
@[simp] theorem onIntake_cs (d : Dev) (k : Nat) (f : IntakeRing → IntakeRing) : (d.onIntake k f).cs = d.cs := rfl
/-- `onIntake` leaves `sw`. -/
@[simp] theorem onIntake_sw (d : Dev) (k : Nat) (f : IntakeRing → IntakeRing) : (d.onIntake k f).sw = d.sw := rfl
/-- `onIntake` leaves `bu`. -/
@[simp] theorem onIntake_bu (d : Dev) (k : Nat) (f : IntakeRing → IntakeRing) : (d.onIntake k f).bu = d.bu := rfl
/-- `onIntake` leaves `sp`. -/
@[simp] theorem onIntake_sp (d : Dev) (k : Nat) (f : IntakeRing → IntakeRing) : (d.onIntake k f).sp = d.sp := rfl
/-- `onIntake` leaves `fw`. -/
@[simp] theorem onIntake_fw (d : Dev) (k : Nat) (f : IntakeRing → IntakeRing) : (d.onIntake k f).fw = d.fw := rfl
/-- `onIntake` leaves `lg`. -/
@[simp] theorem onIntake_lg (d : Dev) (k : Nat) (f : IntakeRing → IntakeRing) : (d.onIntake k f).lg = d.lg := rfl
/-- `onIntake` leaves `fa`. -/
@[simp] theorem onIntake_fa (d : Dev) (k : Nat) (f : IntakeRing → IntakeRing) : (d.onIntake k f).fa = d.fa := rfl
/-- `onIntake` leaves `ts`. -/
@[simp] theorem onIntake_ts (d : Dev) (k : Nat) (f : IntakeRing → IntakeRing) : (d.onIntake k f).ts = d.ts := rfl

/-! ## `Dev.onResult` -/

/-- `onResult` leaves `free`. -/
@[simp] theorem onResult_free (d : Dev) (k : Nat) (f : ResultRing → ResultRing) : (d.onResult k f).free = d.free := rfl
/-- `onResult` leaves `hg`. -/
@[simp] theorem onResult_hg (d : Dev) (k : Nat) (f : ResultRing → ResultRing) : (d.onResult k f).hg = d.hg := rfl
/-- `onResult` leaves `mb`. -/
@[simp] theorem onResult_mb (d : Dev) (k : Nat) (f : ResultRing → ResultRing) : (d.onResult k f).mb = d.mb := rfl
/-- `onResult` leaves `ses`. -/
@[simp] theorem onResult_ses (d : Dev) (k : Nat) (f : ResultRing → ResultRing) : (d.onResult k f).ses = d.ses := rfl
/-- `onResult` leaves `gr`. -/
@[simp] theorem onResult_gr (d : Dev) (k : Nat) (f : ResultRing → ResultRing) : (d.onResult k f).gr = d.gr := rfl
/-- `onResult` leaves `tb`. -/
@[simp] theorem onResult_tb (d : Dev) (k : Nat) (f : ResultRing → ResultRing) : (d.onResult k f).tb = d.tb := rfl
/-- `onResult` leaves `rd`. -/
@[simp] theorem onResult_rd (d : Dev) (k : Nat) (f : ResultRing → ResultRing) : (d.onResult k f).rd = d.rd := rfl
/-- `onResult` leaves `ck`. -/
@[simp] theorem onResult_ck (d : Dev) (k : Nat) (f : ResultRing → ResultRing) : (d.onResult k f).ck = d.ck := rfl
/-- `onResult` leaves `pw`. -/
@[simp] theorem onResult_pw (d : Dev) (k : Nat) (f : ResultRing → ResultRing) : (d.onResult k f).pw = d.pw := rfl
/-- `onResult` leaves `th`. -/
@[simp] theorem onResult_th (d : Dev) (k : Nat) (f : ResultRing → ResultRing) : (d.onResult k f).th = d.th := rfl
/-- `onResult` leaves `ba`. -/
@[simp] theorem onResult_ba (d : Dev) (k : Nat) (f : ResultRing → ResultRing) : (d.onResult k f).ba = d.ba := rfl
/-- `onResult` leaves `op`. -/
@[simp] theorem onResult_op (d : Dev) (k : Nat) (f : ResultRing → ResultRing) : (d.onResult k f).op = d.op := rfl
/-- `onResult` leaves `mem`. -/
@[simp] theorem onResult_mem (d : Dev) (k : Nat) (f : ResultRing → ResultRing) : (d.onResult k f).mem = d.mem := rfl
/-- `onResult` leaves `cs`. -/
@[simp] theorem onResult_cs (d : Dev) (k : Nat) (f : ResultRing → ResultRing) : (d.onResult k f).cs = d.cs := rfl
/-- `onResult` leaves `sw`. -/
@[simp] theorem onResult_sw (d : Dev) (k : Nat) (f : ResultRing → ResultRing) : (d.onResult k f).sw = d.sw := rfl
/-- `onResult` leaves `bu`. -/
@[simp] theorem onResult_bu (d : Dev) (k : Nat) (f : ResultRing → ResultRing) : (d.onResult k f).bu = d.bu := rfl
/-- `onResult` leaves `sp`. -/
@[simp] theorem onResult_sp (d : Dev) (k : Nat) (f : ResultRing → ResultRing) : (d.onResult k f).sp = d.sp := rfl
/-- `onResult` leaves `fw`. -/
@[simp] theorem onResult_fw (d : Dev) (k : Nat) (f : ResultRing → ResultRing) : (d.onResult k f).fw = d.fw := rfl
/-- `onResult` leaves `lg`. -/
@[simp] theorem onResult_lg (d : Dev) (k : Nat) (f : ResultRing → ResultRing) : (d.onResult k f).lg = d.lg := rfl
/-- `onResult` leaves `fa`. -/
@[simp] theorem onResult_fa (d : Dev) (k : Nat) (f : ResultRing → ResultRing) : (d.onResult k f).fa = d.fa := rfl
/-- `onResult` leaves `ts`. -/
@[simp] theorem onResult_ts (d : Dev) (k : Nat) (f : ResultRing → ResultRing) : (d.onResult k f).ts = d.ts := rfl

/-! ## Look-ups -/

/-- The record that `onStack` updated. -/
theorem stack_onStack (d : Dev) (k : Nat) (f : Stack → Stack) (h : ∀ x, (f x).stack = x.stack) : (d.onStack k f).stack k = f (d.stack k) := by
  refine lookup_upsert _ _ f ?_ ?_ _ <;> simp [h, Stack.fresh]
/-- `onStack` leaves the other records. -/
theorem stack_onStack_other (d : Dev) (k : Nat) (f : Stack → Stack) (j : Nat) (h : ∀ x, (f x).stack = x.stack) (hj : j ≠ k) : (d.onStack k f).stack j = d.stack j := by
  refine lookup_upsert_other _ _ _ _ f ?_ ?_ _ <;> simp [h, Stack.fresh] <;> omega

/-- The record that `onSite` updated. -/
theorem site_onSite (d : Dev) (k : Nat) (f : Site → Site) (h : ∀ x, (f x).site = x.site) : (d.onSite k f).site k = f (d.site k) := by
  refine lookup_upsert _ _ f ?_ ?_ _ <;> simp [h, Site.fresh]
/-- `onSite` leaves the other records. -/
theorem site_onSite_other (d : Dev) (k : Nat) (f : Site → Site) (j : Nat) (h : ∀ x, (f x).site = x.site) (hj : j ≠ k) : (d.onSite k f).site j = d.site j := by
  refine lookup_upsert_other _ _ _ _ f ?_ ?_ _ <;> simp [h, Site.fresh] <;> omega

/-- The record that `onFport` updated. -/
theorem fport_onFport (d : Dev) (k : Nat) (f : FPort → FPort) (h : ∀ x, (f x).port = x.port) : (d.onFport k f).fport k = f (d.fport k) := by
  refine lookup_upsert _ _ f ?_ ?_ _ <;> simp [h, FPort.fresh]
/-- `onFport` leaves the other records. -/
theorem fport_onFport_other (d : Dev) (k : Nat) (f : FPort → FPort) (j : Nat) (h : ∀ x, (f x).port = x.port) (hj : j ≠ k) : (d.onFport k f).fport j = d.fport j := by
  refine lookup_upsert_other _ _ _ _ f ?_ ?_ _ <;> simp [h, FPort.fresh] <;> omega

/-- The record that `onWell` updated. -/
theorem well_onWell (d : Dev) (k : Nat) (f : Wellhead → Wellhead) (h : ∀ x, (f x).w = x.w) : (d.onWell k f).well k = f (d.well k) := by
  refine lookup_upsert _ _ f ?_ ?_ _ <;> simp [h, Wellhead.fresh]
/-- `onWell` leaves the other records. -/
theorem well_onWell_other (d : Dev) (k : Nat) (f : Wellhead → Wellhead) (j : Nat) (h : ∀ x, (f x).w = x.w) (hj : j ≠ k) : (d.onWell k f).well j = d.well j := by
  refine lookup_upsert_other _ _ _ _ f ?_ ?_ _ <;> simp [h, Wellhead.fresh] <;> omega

/-- The record that `onPort` updated. -/
theorem pport_onPort (d : Dev) (port plane : Nat) (f : PlanePort → PlanePort) (h : ∀ x, (f x).port = x.port ∧ (f x).plane = x.plane) :
    (d.onPort port plane f).pport port plane = f (d.pport port plane) := by
  refine lookup_upsert _ _ f ?_ ?_ _ <;> simp [h, PlanePort.fresh]
/-- `onPort` leaves the other records. -/
theorem pport_onPort_other (d : Dev) (port plane a b : Nat) (f : PlanePort → PlanePort) (h : ∀ x, (f x).port = x.port ∧ (f x).plane = x.plane)
    (hj : a ≠ port ∨ b ≠ plane) : (d.onPort port plane f).pport a b = d.pport a b := by
  refine lookup_upsert_other _ _ _ _ f ?_ ?_ _ <;> simp [h, PlanePort.fresh] <;> omega

/-- The record that `onOptic` updated. -/
theorem optic_onOptic (d : Dev) (port plane : Nat) (f : OptPort → OptPort) (h : ∀ x, (f x).port = x.port ∧ (f x).plane = x.plane) :
    (d.onOptic port plane f).optic port plane = f (d.optic port plane) := by
  refine lookup_upsert _ _ f ?_ ?_ _ <;> simp [h, OptPort.fresh]
/-- `onOptic` leaves the other records. -/
theorem optic_onOptic_other (d : Dev) (port plane a b : Nat) (f : OptPort → OptPort) (h : ∀ x, (f x).port = x.port ∧ (f x).plane = x.plane)
    (hj : a ≠ port ∨ b ≠ plane) : (d.onOptic port plane f).optic a b = d.optic a b := by
  refine lookup_upsert_other _ _ _ _ f ?_ ?_ _ <;> simp [h, OptPort.fresh] <;> omega

/-- The record that `onRing` updated. -/
theorem ring_onRing (d : Dev) (id : RingId) (f : Ring → Ring) (h : ∀ x, (f x).id = x.id) : (d.onRing id f).ring id = f (d.ring id) := by
  refine lookup_upsert _ _ f ?_ ?_ _ <;> simp [h, Ring.fresh]

end Sys2Proof.Machine
end

