-- ==== Sys2Proof/Laws/Ops.lean ====
section
/-!
SUPPORT. What each shared operation can do to the device: everything else stays as it is.
-/

-- Proofs one after another: the package as one text then needs less memory.
set_option Elab.async false

namespace Sys2Proof.Machine

/-- `run` answers a next state with the queue as it was: a command stops only where its meaning says so. -/
theorem run_next (s : State) (i : Instr) (f : Dev → Dev) : s.run i f = .next { s with dev := if i.wf then f s.dev else s.dev } := rfl

/-- `reach` moves the count alone, to the later of the two instants. -/
theorem reach_frame (d : Dev) (t : Nat) : d.reach t = { d with tb := (d.reach t).tb } ∧ (d.reach t).tb.ns = max d.tb.ns t := by
  unfold Dev.reach
  split
  · exact ⟨rfl, by show t = _; omega⟩
  · exact ⟨rfl, by omega⟩

/-- `tick` moves the count alone. -/
theorem tick_frame (d : Dev) : d.tick = { d with tb := d.tick.tb } := rfl

/-- `sendMsix` changes the host port's messages alone. -/
theorem sendMsix_frame (d : Dev) (v : Nat) : d.sendMsix v = { d with hg := (d.sendMsix v).hg } := by
  unfold Dev.sendMsix
  split <;> rfl

/-- `raiseInt` changes the host port alone. -/
theorem raiseInt_frame (d : Dev) (bit : Nat) : d.raiseInt bit = { d with hg := (d.raiseInt bit).hg } := by
  unfold Dev.raiseInt
  split
  · rfl
  · dsimp only
    split
    · rw [sendMsix_frame]
    · rfl

/-- `setErr` changes the host port alone. -/
theorem setErr_frame (d : Dev) (bit : Nat) : d.setErr bit = { d with hg := (d.setErr bit).hg } := by
  unfold Dev.setErr
  split
  · rfl
  · rw [raiseInt_frame]

/-- `setState` changes the host port alone. -/
theorem setState_frame (d : Dev) (st : DevState) : d.setState st = { d with hg := (d.setState st).hg } := by
  unfold Dev.setState
  split
  · rfl
  · rw [raiseInt_frame]

/-- `log` changes the event log and the host port alone. -/
theorem log_frame (d : Dev) (u o c v : Nat) : d.log u o c v = { d with lg := (d.log u o c v).lg, hg := (d.log u o c v).hg } := by
  unfold Dev.log
  dsimp only
  split
  · rw [raiseInt_frame]
  · split <;> rfl

/-- `notice` changes the event log and the host port alone. -/
theorem notice_frame (d : Dev) (u v : Nat) : d.notice u v = { d with lg := (d.notice u v).lg, hg := (d.notice u v).hg } := log_frame d u 0 0x07FF v

/-- `fdm` changes the map and its mark in the stage's report alone. -/
theorem fdm_frame (d : Dev) (u t s v : Nat) : d.fdm u t s v = { d with sp := (d.fdm u t s v).sp, bu := (d.fdm u t s v).bu } := by
  unfold Dev.fdm
  dsimp only
  split
  · rfl
  · split
    · rfl
    · split <;> rfl

/-- `setStandby` changes the standby, the event log and the host port alone. -/
theorem setStandby_frame (d : Dev) (st : Standby) :
    d.setStandby st = { d with fw := { d.fw with standby := st }, lg := (d.setStandby st).lg, hg := (d.setStandby st).hg } := by
  unfold Dev.setStandby
  dsimp only
  split
  · rfl
  · rw [log_frame]

/-- `throttleClock` keeps the sites' times alone. -/
theorem throttleClock_frame (d : Dev) : d.throttleClock = { d with th := d.throttleClock.th } := rfl

/-- `powerAxis` changes the power and thermal parts, the event log and the host port alone. -/
theorem powerAxis_frame (d : Dev) :
    d.powerAxis = { d with th := d.powerAxis.th, pw := d.powerAxis.pw, lg := d.powerAxis.lg, hg := d.powerAxis.hg } := by
  have key : ∀ (a : Nat) (e : Dev),
      let r := if a = e.pw.axis then e
        else
          let x := ({ e with pw.axis := a, th.alert := decide (a = 2) || e.hg.devState == DevState.safeHold } : Dev).log 0 0 0x0502 a
          if a = 0 then x else x.raiseInt 4
      r = { e with th := r.th, pw := r.pw, lg := r.lg, hg := r.hg } := by
    intro a e
    dsimp only
    split
    · rfl
    · split
      · rw [log_frame]
      · rw [raiseInt_frame, log_frame]
  exact key _ d.throttleClock

/-- `siteOut` changes spares, streams and graphs alone. -/
theorem siteOut_frame (d : Dev) (site : Nat) :
    d.siteOut site = { d with sp := (d.siteOut site).sp, str := (d.siteOut site).str, gr := (d.siteOut site).gr } := rfl

/-- `safeHold` changes the state, its cause and its requests, and ends an activation; memories, work and links stand. -/
theorem safeHold_frame (d : Dev) (cause : Nat) :
    d.safeHold cause = { d with hg := (d.safeHold cause).hg, lg := (d.safeHold cause).lg, fa := (d.safeHold cause).fa, th := (d.safeHold cause).th
                                fw := (d.safeHold cause).fw } := by
  unfold Dev.safeHold
  split
  · rfl
  · dsimp only
    rw [log_frame, setState_frame]

/-- `checkMinimum` does what `safeHold` does, or nothing. -/
theorem checkMinimum_frame (d : Dev) :
    d.checkMinimum = { d with hg := d.checkMinimum.hg, lg := d.checkMinimum.lg, fa := d.checkMinimum.fa, th := d.checkMinimum.th, fw := d.checkMinimum.fw } := by
  unfold Dev.checkMinimum
  split
  · exact safeHold_frame d 6
  · rfl

/-- `isolate` changes the faults, spares, streams, graphs, the event log and the host port; what `checkMinimum` changes besides, when the
minimum configuration is lost by it. -/
theorem isolate_frame (d : Dev) (port unit : Nat) :
    d.isolate port unit = { d with fa := (d.isolate port unit).fa, sp := (d.isolate port unit).sp, str := (d.isolate port unit).str
                                   gr := (d.isolate port unit).gr, lg := (d.isolate port unit).lg, hg := (d.isolate port unit).hg
                                   th := (d.isolate port unit).th, fw := (d.isolate port unit).fw } := by
  unfold Dev.isolate
  dsimp only
  split
  · rfl
  · split
    · rw [checkMinimum_frame, siteOut_frame, log_frame]
    · split
      · rw [log_frame]; rfl
      · rw [log_frame]

/-- A point of the round that is to come takes place at its instant, once. -/
theorem onPoint_next (d : Dev) (p : RoundPoint) (offset : Nat) (f : Dev → Dev) (ha : d.rd.active = true) (hp : d.rd.done.contains p = false) :
    d.onPoint p offset f = f { d.reach (d.rd.start + offset) with rd.done := p :: d.rd.done } := by
  unfold Dev.onPoint Dev.atPoint
  have hr : (d.reach (d.rd.start + offset)).rd = d.rd := by rw [(reach_frame d _).1]
  rw [ha, hp]
  show f { d.reach (d.rd.start + offset) with rd.done := p :: (d.reach (d.rd.start + offset)).rd.done } = _
  rw [hr]

/-- A point of the round that is not to come does nothing. -/
theorem onPoint_past (d : Dev) (p : RoundPoint) (offset : Nat) (f : Dev → Dev) (h : d.rd.active = false ∨ d.rd.done.contains p = true) :
    d.onPoint p offset f = d := by
  unfold Dev.onPoint Dev.atPoint
  rcases h with h | h <;> simp only [h] <;> simp

/-- A restart keeps the fuses. -/
@[simp] theorem restarted_fuseF (d : Dev) (keepLatch badEnd : Bool) : (d.restarted keepLatch badEnd).fw.fuseF = d.fw.fuseF := rfl

/-- A restart leaves no memory listed. -/
@[simp] theorem restarted_cells (d : Dev) (keepLatch badEnd : Bool) : (d.restarted keepLatch badEnd).mem.cells = [] := rfl

end Sys2Proof.Machine
end

