-- ==== Sys2Proof/Laws/Writes.lean ====
section
/-!
SUPPORT. Every operation that writes device memory, host memory or Stand memory keeps its canonical form.
-/

-- Proofs one after another: the package as one text then needs less memory.
set_option Elab.async false

namespace Sys2Proof.Machine

/-- Device memory of a device is in canonical form. -/
def Dev.formed (d : Dev) : Prop := Memory.wf d.mem.cells = true

/-- A write of bytes keeps the form. -/
theorem write_formed (d : Dev) (a : Nat) (bs : List Byte) (h : d.formed) : Memory.wf (cellsWrite d.mem.cells a bs) = true := cellsWrite_wf _ a bs h

/-- A part of a line, in the buffer or in the stack (R293). -/
theorem pokeLine_formed (d : Dev) (stack line off : Nat) (data : List Byte) (h : d.formed) : (d.pokeLine stack line off data).formed := by
  unfold Dev.pokeLine
  dsimp only
  split
  · exact h
  · exact write_formed d _ _ h

/-- A store at one copy (R286). -/
theorem storeCopy_formed (d : Dev) (stack off : Nat) (data : List Byte) (h : d.formed) : (d.storeCopy stack off data).formed := by
  unfold Dev.storeCopy
  dsimp only
  split
  · exact pokeLine_formed _ _ _ _ _ h
  · split
    · exact h
    · exact pokeLine_formed _ _ _ _ _ h

/-- A choice between two devices of the form. -/
theorem ite_formed (c : Bool) (d e : Dev) (hd : d.formed) (he : e.formed) : (if c = true then d else e).formed := by
  cases c
  · exact he
  · exact hd

/-- A store at both copies (R290). -/
theorem storeLine_formed (d : Dev) (stack off : Nat) (data : List Byte) (h : d.formed) : (d.storeLine stack off data).formed := by
  unfold Dev.storeLine
  generalize d.partner stack off = p
  cases p with
  | none => exact ite_formed _ _ _ h (storeCopy_formed _ _ _ _ h)
  | some p =>
    have h1 := ite_formed (d.fencedLine stack off) d (d.storeCopy stack off data) h (storeCopy_formed _ _ _ _ h)
    exact ite_formed _ _ _ h1 (storeCopy_formed _ _ _ _ h1)

/-- A store of any length. -/
theorem storeFuel_formed (fuel a : Nat) (data : List Byte) (d : Dev) (h : d.formed) : (d.storeFuel fuel a data).formed := by
  induction fuel generalizing a data d with
  | zero => exact h
  | succ n ih =>
    unfold Dev.storeFuel
    split
    · exact h
    · refine ih _ _ _ ?_
      split
      · exact storeLine_formed _ _ _ _ h
      · dsimp only
        split
        · exact write_formed d _ _ h
        · exact h
      · exact h

/-- Snoops leave the memories. -/
theorem takeLines_mem (d : Dev) (a n : Nat) : (d.takeLines a n).mem = d.mem := by
  unfold Dev.takeLines
  dsimp only
  refine each_keeps (fun (e : Dev) => e.mem = d.mem) _ ?_ _ _ rfl
  intro l e he
  unfold Dev.sendSnoop
  split <;> exact he

/-- A device store. -/
theorem store_formed (d : Dev) (a : Nat) (data : List Byte) (h : d.formed) : (d.store a data).formed := by
  unfold Dev.store
  split
  · exact h
  refine storeFuel_formed _ _ _ _ ?_
  unfold Dev.formed
  rw [takeLines_mem]
  exact h

/-- A store into host memory leaves device memory, and keeps the form of both. -/
theorem storeHost_formed (d : Dev) (a : Nat) (data : List Byte) :
    (d.storeHost a data).mem = d.mem ∧ (Memory.wf d.hg.hostMem = true → Memory.wf (d.storeHost a data).hg.hostMem = true) :=
  ⟨rfl, fun h => cellsWrite_wf _ a data h⟩

/-- A store into a ring's memory. -/
theorem storeRing_formed (d : Dev) (host : Bool) (a : Nat) (data : List Byte) (h : d.formed) : (d.storeRing host a data).formed := by
  unfold Dev.storeRing
  split
  · split
    · exact h
    · exact h
  · exact store_formed d a data h

/-- Poisoning and clearing poison leave the bytes. -/
@[simp] theorem poisonLine_cells (d : Dev) (stack line : Nat) : (d.poisonLine stack line).mem.cells = d.mem.cells := rfl

/-- Clearing poison leaves the bytes. -/
@[simp] theorem unpoison_cells (d : Dev) (stack line : Nat) : (d.unpoison stack line).mem.cells = d.mem.cells := rfl

end Sys2Proof.Machine
end

