-- ==== Sys2Proof/Tests/States.lean ====
section
/-!
SUPPORT. Small states for the tests: a device in READY, and a device whose channel 0 runs a mailbox command.
-/

-- Proofs one after another: the package as one text then needs less memory.
set_option Elab.async false

namespace Sys2Proof.Tests

open Sys2Proof Sys2Proof.Machine

/-- Bytes of a body: each pair is a width in bytes and a value. -/
def pack : List (Nat × Nat) → List Byte
  | [] => []
  | (n, v) :: rest => leBytes n v ++ pack rest

/-- A device in READY, one round of 400 µs begun at 0, 1 µs past the boundary. -/
def live : Dev :=
  { Dev.reset with
      hg := { HostPort.reset with
              devState := .ready, stage := 9, memActive := true, mbReady := true, xtbShown := true, linkWidth := 16
              linkRate := 6, memEn := true, bme := true, msixEn := true }
      fw := { Firmware.reset with rangerUp := true }
      tb.ns := 1000
      rd := { Dev.reset.rd with active := true, begun := true, next := 400000 }
      bu.running := false
      ba.up := true
      op.dark := false
      mem.ready := true }

/-- A state with nothing waiting. -/
def at_ (d : Dev) : State := { dev := d, pending := [] }

/-- The header of a mailbox command. -/
def cmdHeader (op flags seq session length : Nat) : List Byte :=
  pack [(2, op), (2, flags), (4, seq), (4, session), (2, length), (2, 0)] ++ zeros 48

/-- Channel 0 runs a command. -/
def busy (op session : Nat) (body : List Byte) : Channel :=
  { Channel.fresh 0 with st := .running, hdr := cmdHeader op 0 7 session body.length, body := body ++ zeros (960 - body.length) }

/-- A device whose channel 0 runs a command. -/
def cmd (d : Dev) (op session : Nat) (body : List Byte) : State :=
  at_ { d with mb.chans := [busy op session body] }

/-- Session 1. -/
def session1 : Session :=
  { id := 1, name := [], token := 77, hold := 600, lastDoorbell := 0, orphaned := none, closing := false, closeRead := false, authFails := [], lockout := none }

/-- The live device with session 1 open. -/
def open1 : Dev := { live with ses := { list := [session1], nextId := 2 } }

/-- The smallest Arbor image, as one number of 424 bytes: header, a table of three sections, and one node (0x11) that copies the
payload tensor (INT8, 64 by 1 item) to the result tensor, the two tensors, one declaration, CRCs and trailer (R112 to R125). -/
def tinyImage : List Byte := leBytes 424
  0x444e45414a1753ce0000000000000000000000000000010000000040ffff0001ffff000000010000000000000000000000000000000000000000000000000040000000000000000000000000000000000000000000000000000000010000004000000000000502060000000000000000000000000000000000000000000000400000000000000000000000000000000000000000000000000000000100000040000000000003020600000000000000000000000000000000000000000000000000000000000000000000000000000000000000000000000000000000000100000000010100100011000000000000000000000000000000000000000000000000000000000000000000000000fb4588a9000000000000002000000000000001800000000100010005000000001b06291600000000000000800000000000000100000000020001000200000000bd420e16000000000000001000000000000000c0000000010001000100000000000000000000000000000000000000000000000000000000000000000000000000000000000000400000000300000000000001a80000000152425241

end Sys2Proof.Tests
end

