-- ==== Sys2Proof/Tests/WitnessBasin.lean ====
section
/-!
SUPPORT. Witnesses for the hypotheses of the statements about the compute stacks and the Basin.
-/

-- Proofs one after another: the package as one text then needs less memory.
set_option Elab.async false

namespace Sys2Proof.Tests

open Sys2Proof Sys2Proof.Machine

/-- The last thread of the last core that issues, at the last site. -/
def thread39 : Thread := { site := 39, stand := 132, pos := 20, thread := 7 }

/-- A transfer of its Stand memory to or from the package. -/
def desc39 (length : Nat) : XferDesc := { isRead := false, local_ := 0x1000000000000, remote := 0x100000000000, length, rack := false, scatterAdd := none, cruiser := .none }

/-- An access of it that waits. -/
def parked39 (op : RemoteOp) : Parked := { t := thread39, op, rack := false, issued := 500, tag := 1, lost := 0, group := some 132 }

/-- A device in which the thread waits for an access. -/
def parkedAt (op : RemoteOp) : State := at_ { live with cs := { live.cs with parked := [parked39 op], nextTag := 2 } }

/-- A device with pending transfers of the thread's Stand. -/
def transfers (n : Nat) : State :=
  let one : Transfer := { tag := 9, t := thread39, rack := false, desc := desc39 64, issued := 0, sent := 0, parts := [], status := 0, timedOut := false, group := some 132 }
  at_ { live with cs := { live.cs with transfers := List.replicate n one } }

/-- ThreadAccesses: a thread that cannot issue, one that waits for no address, one that asks a stack, one that asks another node, parked
ones, a full Stand, descriptors of 0 and of 1 byte, an access and a transfer beneath the last bond group. -/
theorem witness_ThreadAccesses :
    (thread39.wf = true ∧ RemoteOp.fence.wf = true ∧ (desc39 0).wf = true) ∧ opIssues thread39.stand (.load 1 4) = false ∧
    ((at_ live).dev.canIssue thread39 = true ∧ opIssues thread39.stand .fence = true ∧ opAddress .fence = none) ∧
    (opIssues thread39.stand (.load 0x100000000000 256) = true ∧ opAddress (.load 0x100000000000 256) = some 0x100000000000 ∧
      (at_ live).dev.accessPort (.load 0x100000000000 256) (0x100000000000 % 2 ^ 48) = some 0 ∧ 0 ≠ thread39.site ∧
      (at_ live).dev.cachedRead { t := thread39, op := .load 0x100000000000 256, rack := false, issued := 0, tag := 1, lost := 0, group := none } = none ∧
      Rec.isJob { accessRec thread39 1 (.load 0x100000000000 256) with address := 0x100000000000 % 2 ^ 48 } 0 = false ∧ (at_ live).dev.choosePlane 39 0 = some 0) ∧
    (opIssues thread39.stand (.load (5 * 2 ^ 48) 256) = true ∧ opAddress (.load (5 * 2 ^ 48) 256) = some (5 * 2 ^ 48) ∧
      5 * 2 ^ 48 / 2 ^ 48 ≠ (at_ live).dev.sw.node ∧ (at_ live).dev.rackOpen = false) ∧
    (((at_ live).dev.site 39).phase = .running ∧ (at_ live).dev.parkedOp thread39 = none ∧ (at_ live).dev.cs.waiting.find? (·.1 == thread39) = none) ∧
    (at_ live).dev.cs.suspended.find? (·.thread == thread39) = none ∧
    ((parkedAt .fence).dev.parkedOp thread39 = some (parked39 .fence) ∧ (parked39 .fence).t = thread39 ∧ (parked39 .fence).rack = false ∧ ((parkedAt .fence).dev.site 39).phase = .running ∧
      (parkedAt .fence).dev.fenceDone thread39 false = true ∧ (parkedAt .fence).dev.lostBy thread39 false = 0) ∧
    ((parkedAt (.standLoad 0 0x1FFF00 256)).dev.parkedOp thread39 = some (parked39 (.standLoad 0 0x1FFF00 256)) ∧
      ((parkedAt (.standLoad 0 0x1FFF00 256)).dev.readStand 39 0x1FFF00 256).isSome = true ∧
      (parkedAt (.standLoad 0 0x1FFF00 256)).dev.cs.parked.takeWhile (·.t != thread39) = []) ∧
    (parkedAt (.load 0 64)).dev.parkedOp thread39 = some (parked39 (.load 0 64)) ∧
    ((transfers 32).dev.canIssue thread39 = true ∧ (transfers 32).dev.pendingOn thread39 = 32) ∧
    ((transfers 31).dev.canIssue thread39 = true ∧ (transfers 31).dev.pendingOn thread39 = 31 ∧ (desc39 0).length = 0) ∧
    ((desc39 1).length = 1 ∧ (desc39 1).rack = false ∧ ((transfers 31).dev.partsOf (desc39 1)).isSome = true ∧
      ((transfers 31).dev.partsOf (desc39 1)).any (refusesCruiser (desc39 1) false) = false) ∧
    ((at_ live).dev.fa.isolated = [] ∧ (at_ live).dev.fa.queue = [] ∧ (at_ live).dev.fa.now = none ∧ 255 < 256 ∧
      (parkedAt .fence).dev.cs.transfers = [] ∧ (parkedAt .fence).dev.cs.jobs = [] ∧ (parked39 .fence).group = some 132 ∧
      ∀ x ∈ (transfers 32).dev.cs.transfers, x.t.site = thread39.site ∧ x.group = some 132) ∧
    (((at_ live).dev.chooseGroup 39 132).isSome = true ∧ (at_ live).dev.activeGroups 39 132 ≠ [] ∧
      ({ Site.fresh 39 with retired := [132] } : Site).retired.contains 132 = true) := by
  decide +kernel

/-- Site 39 in a phase. -/
def phase39 (phase : SitePhase) : State := at_ { live with cs := { live.cs with sites := [{ Site.fresh 39 with phase }] } }

/-- ComputeResets: each phase, and a report that is taken or not. -/
theorem witness_ComputeResets :
    isComputeSite 39 = true ∧ ((phase39 .usReset).dev.site 39).phase = .usReset ∧ (phase39 .usReset).dev.fa.now = none ∧
    ((at_ live).dev.site 39).phase ≠ .usReset ∧ ((at_ live).dev.site 39).phase ≠ .cpReset ∧ ((phase39 .reloading).dev.site 39).phase = .reloading ∧
    ((phase39 .cpReset).dev.site 39).phase = .cpReset ∧ ((at_ live).dev.site 39).phase ≠ .reloading ∧
    State.reset.dev.faultsTaken = false ∧ (at_ live).dev.faultsTaken = true ∧ (at_ live).dev.fa.isolated = [] ∧ (at_ live).dev.fa.queue = [] ∧
    (at_ live).dev.fa.now = none := by decide

/-- A cell for a port and a plane. -/
def cell (kind src dst plane : Nat) (recs : List Rec) (payload : List Byte) (ctl : Option CtlMsg) : BCell :=
  { BCell.blank kind src dst with plane, recs, payload, length := payload.length, last := true, ctl }

/-- A device with a cell on the wire to the last router port. -/
def onWire : State := at_ { live with ba := { live.ba with wire := [(54, 3, cell 1 39 54 3 [] [] none)] } }


/-- A transfer of which a part has arrived. -/
def partial54 (got : Nat) : Partial := { port := 54, src := 39, transfer := 7, got, total := 256, expires := 5000, poison := false, held := [], base := 0, check := none }

/-- A device that holds it. -/
def partly (got : Nat) : State := at_ { live with ba := { live.ba with partials := [partial54 got] } }

/-- BasinSlots: the Basin down and up, a cell on the wire and none, one and two wrong symbols in its last codeword, a cell led astray, a plane in
service and failed, a partial transfer. -/
theorem witness_BasinSlots :
    State.reset.dev.ba.up = false ∧ (at_ live).dev.ba.up = true ∧ (at_ live).dev.ba.wire.find? (fun w => w.1 == 54 && w.2.1 == 3) = none ∧
    (onWire.dev.ba.wire.find? (fun w => w.1 == 54 && w.2.1 == 3) = some (54, 3, cell 1 39 54 3 [] [] none) ∧ (cell 1 39 54 3 [] [] none).accepts 54 3 = true ∧
      (onWire.dev.pport 54 3).discRound ≠ 4 ∧ onWire.dev.ba.dueRetire = []) ∧
    ((Instr.cellReceive 54 3 [(257, 35)] none).wf = true ∧ onWire.dev.wrongSymbols 39 54 3 [(257, 35)] = [1] ∧
      (Instr.cellReceive 54 3 [(257, 34), (257, 35)] none).wf = true ∧ onWire.dev.wrongSymbols 39 54 3 [(257, 34), (257, 35)] = [2]) ∧
    ((Instr.cellReceive 53 3 [] (some (54, 3))).wf = true ∧ (cell 1 39 54 3 [] [] none).accepts 53 3 = false ∧ onWire.dev.wrongSymbols 39 53 3 [] = [] ∧
      onWire.dev.fa.isolated = [] ∧ onWire.dev.fa.queue = [] ∧ onWire.dev.fa.now = none) ∧ (at_ live).dev.ba.failed.contains 3 = false ∧
    ({ live with ba := { live.ba with failed := [3] } } : Dev).ba.failed.contains 3 = true ∧ ((at_ live).dev.pport 54 3).retired = false ∧
    (∀ n ∈ [255, 256], (partly n).dev.ba.partials.find? (fun p => p.port == 54 && p.src == 39 && p.transfer == 7) = some (partial54 n)) ∧
    (partial54 255).got < (partial54 255).total ∧ (partial54 256).total ≤ (partial54 256).got ∧
    pinnedFlow 39 54 = false ∧ (at_ live).dev.choosePlane 39 54 = some 0 ∧ pinnedFlow 54 54 = true ∧
    ({ live with ba := { live.ba with failed := [0, 1, 2, 3] } } : Dev).choosePlane 39 54 = none := by
  decide +kernel

/-- A request record of thread `thread39`. -/
def request (op aop aty size address : Nat) (data : List Byte) : Rec :=
  { op, aop, aty, size, status := 0, address, port := 39, unit := threadCode thread39, tag := 1, data, fromHost := false }

/-- A device whose port has a cell with a record. -/
def arrived (port plane kind : Nat) (r : Rec) : State :=
  at_ { live with ba := { live.ba with recv := [(port, plane, cell kind r.port port plane [r] [] none)] } }

/-- BasinRequests: no record, a load, a store and an atomic of the last line of stack 15, a job, the barrier word. -/
theorem witness_BasinRequests :
    (at_ live).dev.headRec 47 3 3 = none ∧
    (let r := request 1 0 0 256 0x11F2A05F1F00 []
     (arrived 47 3 3 r).dev.headRec 47 3 3 = some (r, false) ∧ (arrived 47 3 3 r).dev.rspRoomTo 47 39 = true ∧
       (arrived 47 3 3 r).dev.hbmAt 47 r.address = some (15, 79999999744) ∧ (arrived 47 3 3 r).dev.homeStack 15 79999999744 = 15 ∧
       (arrived 47 3 3 r).dev.mustFetch 47 r.address r.size = false ∧ r.isBarrier = false ∧ (arrived 47 3 3 r).dev.hg.snoopLost = [] ∧ r.unit ≠ engineUnit ∧
       (arrived 47 3 3 r).dev.opRoom 15 1 = true ∧ (arrived 47 3 3 r).dev.fencedLine 15 79999999744 = false ∧
       ((arrived 47 3 3 r).dev.stack 15).resetting = false ∧ (arrived 47 3 3 r).dev.inBuf 15 (79999999744 / 256) = false) ∧
    (let r := request 2 0 0 256 0x11F2A05F1F00 (zeros 256)
     (arrived 47 3 3 r).dev.headRec 47 3 3 = some (r, false) ∧ r.isJob 47 = false ∧ (arrived 47 3 3 r).dev.readOnly 15 79999999744 r.size = false) ∧
    (let r := request 3 0 1 8 0x11F2A05F1F00 (leBytes 8 1)
     (arrived 47 3 3 r).dev.headRec 47 3 3 = some (r, false) ∧ AtomicOp.ofCode r.aop = some .add ∧ AtomicTy.ofCode r.aty = some .int64 ∧
       (arrived 47 3 3 r).dev.readOnly 15 79999999744 8 = false) ∧
    (let r := request 2 0 0 64 0x30000001F000 (zeros 64)
     (arrived 47 3 3 r).dev.headRec 47 3 3 = some (r, false) ∧ r.isJob 47 = true ∧ jobStack r.address = some 15 ∧
       ((arrived 47 3 3 r).dev.stack 15).jobs.length < 256 ∧ ((arrived 47 3 3 r).dev.stack 15).fenced = false) ∧
    (let r := request 1 0 0 16 barrierDpa []
     (arrived 48 3 3 r).dev.headRec 48 3 3 = some (r, false) ∧ (arrived 48 3 3 r).dev.rspRoomTo 48 r.port = true ∧ r.isBarrier = true ∧
       (arrived 48 3 3 r).dev.choosePlane 48 r.port = some 0) := by
  dsimp only
  decide +kernel

/-- A response to thread `thread39` or its engine. -/
def answer (op : Nat) : Rec := { request op 0 0 0 0 [] with port := 39 }

/-- A transfer whose last part is not acknowledged yet. -/
def transfer39 : Transfer :=
  { tag := 1, t := thread39, rack := false, desc := desc39 64, issued := 0, sent := 64, parts := [{ tag := 1, port := 0, total := 64, got := 0, done := false }]
    status := 0, timedOut := false, group := none }

/-- A device in which a response has arrived at site 39. -/
def answered (op : Nat) : State :=
  at_ { live with ba := { live.ba with recv := [(39, 3, cell 4 0 39 3 [answer op] [] none)] }
                  cs := { live.cs with parked := [parked39 (.load 0 64)], transfers := [transfer39], nextTag := 2 } }

/-- A device with a cell of a kind at a stack's port. -/
def received (kind : Nat) (ctl : Option CtlMsg) : State :=
  at_ { live with ba := { live.ba with recv := [(47, 3, { cell kind 39 47 3 [] (zeros 64) ctl with address := 0x11F2A05F1F00, total := 64 })] } }

/-- BasinResponses: no cell; each response; each cell. -/
theorem witness_BasinResponses :
    (at_ live).dev.headRec 39 3 4 = none ∧
    (∀ op ∈ [0x81, 0x82, 0x83], (answered op).dev.headRec 39 3 4 = some (answer op, false) ∧ (answer op).port < 51 ∧ (answered op).dev.cs.jobs = [] ∧
      (answered op).dev.parkedOp (codeThread 39 (answer op).unit) = some (parked39 (.load 0 64)) ∧ (parked39 (.load 0 64)).tag = (answer op).tag ∧
      (answer op).unit ≠ engineUnit ∧ (answer op).unit ≠ cacheUnit ∧ (answer op).op = op) ∧
    ((answered 0x84).dev.headRec 39 3 4 = some (answer 0x84, false) ∧
      (answered 0x84).dev.cs.transfers.find? (fun x => x.parts.any (·.tag == (answer 0x84).tag)) = some transfer39 ∧
      transfer39.parts.map (·.tag) = [(answer 0x84).tag] ∧ transfer39.desc.length ≤ transfer39.sent ∧ transfer39.timedOut = false) ∧
    ((received 1 none).dev.hg.snoopFilter = [] ∧ (received 1 none).dev.hg.snoopLost = [] ∧ ((received 1 none).dev.headKind 47 3 1).isSome = true ∧ (received 1 none).dev.bulkRoom 47 0x11F2A05F1F00 64 = true ∧
      (received 1 none).dev.rspRoomTo 47 39 = true) ∧
    ((received 2 none).dev.headKind 47 3 2).isSome = true ∧ ((received 5 (some .running)).dev.headKind 47 3 5).isSome = true ∧
    ((received 6 none).dev.headKind 47 3 6).isSome = true ∧ (at_ live).dev.headKind 47 3 1 = none ∧ (at_ live).dev.headKind 47 3 2 = none ∧
    (at_ live).dev.headKind 47 3 5 = none ∧ (at_ live).dev.headKind 47 3 6 = none := by
  decide +kernel

/-- The vote of site 39 on a step of CD9, at the active Ranger's port. -/
def voteCell : State :=
  at_ { live with ba := { live.ba with recv := [(49, 3, { cell 5 39 49 3 [] [] (some (.vote .cd9 0)) with last := true })] } }

/-- FrequencyVote: a site's vote has come to the active Ranger. -/
theorem witness_FrequencyVote_heard :
    let w := ((voteCell.dev.headKind 49 3 5).map fun w => (w.1, w.2.2.ctl))
    voteCell.dev.rd.active = true ∧ w = some (49, some (.vote .cd9 0)) ∧ voteCell.dev.activePort = 49 ∧ voteCell.dev.rd.done.contains .decision = false ∧
    voteCell.dev.ck.votes = [] ∧ voteCell.dev.fw.handover = none ∧ voteCell.dev.fw.rangerUp = true ∧
    voteCell.dev.tb.ns ≤ voteCell.dev.rd.start + voteCell.dev.rd.period - 4000 := by
  decide +kernel

end Sys2Proof.Tests
end

