-- ==== Sys2Proof/Tests/WitnessMemory.lean ====
section
/-!
SUPPORT. Witnesses for the hypotheses of the statements about the memory sites and the optics.
-/

-- Proofs one after another: the package as one text then needs less memory.
set_option Elab.async false

namespace Sys2Proof.Tests

open Sys2Proof Sys2Proof.Machine

/-- The last line of a stack. -/
def lastLine : Nat := 312499999

/-- A device whose last stack is as given. -/
def stack15 (f : Stack → Stack) : State := at_ { live with mem := { live.mem with stackList := [f (Stack.fresh 15)] } }

/-- An operation on its last line. -/
def op15 (act : LineAct) : LineOp := { stack := 15, line := lastLine, act, reply := .none }

/-- Its last line in the line buffer. -/
def buf15 : BufLine := { stack := 15, line := lastLine, data := zeros 256, touched := 900 }

/-- A stack with an operation that waits. -/
def asked (act : LineAct) : State := stack15 fun s => { s with ops := [op15 act] }

/-- A stack with its last line in the buffer, and operations. -/
def buffered (acts : List LineAct) : State := stack15 fun s => { s with ops := acts.map op15, buf := [buf15] }

/-- Memory mirrored, with a copy of line 0 of stack 14 to be written at stack 15. -/
def mirrored : State :=
  at_ { live with mem := { live.mem with mirror := 1, stackList := [{ Stack.fresh 14 with copies := [(0, .none, 0, [])] }] } }

/-- LineOperations: no operation; a store that waits for a fill, for an update; a line to write back; a mirror copy; a scrub. -/
theorem witness_LineOperations :
    ((at_ live).dev.firstOp 15 lastLine = none ∧ (at_ live).dev.inBuf 15 lastLine = false ∧ (at_ live).dev.lineServed 15 lastLine = true ∧
      ((at_ live).dev.stack 15).buf.find? (·.line == lastLine) = none ∧ ((at_ live).dev.stack 15).copies.filter (·.1 == lastLine) = [] ∧
      (at_ live).dev.mem.ready = true ∧ lastLine * 256 < stackBytes ∧ (at_ live).dev.linePoison 15 lastLine = false) ∧
    (let s := asked (.store 0 (zeros 256))
     s.dev.firstOp 15 lastLine = some (op15 (.store 0 (zeros 256))) ∧ s.dev.inBuf 15 lastLine = false ∧
      s.dev.lineServed 15 lastLine = true ∧ s.dev.linePoison 15 lastLine = false ∧ (s.dev.stack 15).buf.length < 512) ∧
    (let s := buffered [.store 255 [1]]
     s.dev.inBuf 15 lastLine = true ∧ s.dev.lineServed 15 lastLine = true ∧ s.dev.partner 15 (lastLine * 256) = none ∧
      (s.dev.stack 15).ops.filter (·.line == lastLine) = [op15 (.store 255 [1])]) ∧
    (((buffered []).dev.stack 15).buf.find? (·.line == lastLine) = some buf15 ∧ (buffered []).dev.firstOp 15 lastLine = none ∧
      (buffered []).dev.lineServed 15 lastLine = true) ∧
    (mirrored.dev.partner 14 0 = some 15 ∧ (mirrored.dev.stack 14).copies = [(0, .none, 0, [])] ∧ mirrored.dev.fencedLine 15 0 = false ∧
      (mirrored.dev.stack 15).resetting = false) := by
  dsimp only
  decide +kernel

/-- A row of the last stack, as an identifier. -/
def row15 : Nat := unitId 0x09 15 31 255 0xFFFF 0xFFFF

/-- A stack with that row under repair and under test. -/
def rowWork : State := stack15 fun s => { s with repairing := [row15], testing := [row15] }

/-- A Gather-reduce job that its fields make invalid. -/
def badJob : GrJob := { desc := zeros 64, reply := .none }

/-- A stack with a read that waits, and counts of its channel. -/
def counting (n : Nat) : State := stack15 fun s => { s with ops := [op15 (.read 0 64)], timeouts := [(pseudoChannel lastLine / 2, n)], parity := [(15, n)] }

/-- MemoryFaults: rows under repair and under test; a read whose data does not come; 3 and 2 alerts; a fenced channel; a fenced stack and none;
temperatures at 120 below the median and at the limit; jobs; resets. -/
theorem witness_MemoryFaults :
    ((rowWork.dev.stack (unitPlace row15)).repairing.contains row15 = true ∧ (rowWork.dev.stack (unitPlace row15)).testing.contains row15 = true ∧
      rowWork.dev.fa.transients = []) ∧
    (((at_ live).dev.stack (unitPlace row15)).repairing.contains row15 = false ∧ ((at_ live).dev.stack (unitPlace row15)).testing.contains row15 = false ∧
      (at_ live).dev.firstOp 15 lastLine = none) ∧
    ((counting 1).dev.firstOp 15 lastLine = some (op15 (.read 0 64)) ∧ (counting 1).dev.inBuf 15 lastLine = false ∧
      (counting 1).dev.lineServed 15 lastLine = true ∧ (counting 1).dev.bufRoom 15 lastLine = true ∧
      countOf (pseudoChannel lastLine / 2) ((counting 1).dev.stack 15).timeouts < 2) ∧
    (∀ n ∈ [2, 3], ((counting n).dev.stack 15).resetting = false ∧ ((counting n).dev.stack 15).fenced = false ∧ countOf 15 ((counting n).dev.stack 15).parity = n) ∧
    (let s := stack15 fun s => { s with channels := [{ channel := 15, retrain := true, returns := false }] }
     (s.dev.stack 15).hotFence = none ∧ (s.dev.stack 15).channels = [{ channel := 15, retrain := true, returns := false }] ∧ s.dev.fa.transients = [] ∧
      s.dev.sp.failed.contains (channelUnit 15 15) = false) ∧
    (((at_ live).dev.stack 15).hotFence = none ∧ ((at_ live).dev.stack 15).channels = []) ∧
    ((stack15 fun s => { s with fenced := true }).dev.stack 15).fenced = true ∧ ((at_ live).dev.stack 15).fenced = false ∧
    ((1050 - median [1050, 1050, 1050, 1050]).natAbs ≤ 120 ∧ median [1050, 1050, 1050, 1050] ≤ 1050 ∧
      (700 - median [820, 820, 820, 820]).natAbs ≤ 120 ∧ median [820, 820, 820, 820] ≤ 1050) ∧
    (((at_ live).dev.stack 15).jobs = [] ∧ ((at_ live).dev.stack 15).resetting = false) ∧
    (((stack15 fun s => { s with jobs := [badJob] }).dev.stack 15).jobs = [badJob] ∧
      ((stack15 fun s => { s with jobs := [badJob] }).dev.stack 15).resetting = false ∧ badJob.ok = false) ∧
    (((stack15 fun s => { s with resetting := true }).dev.stack 15).resetting = true ∧ (stack15 fun s => { s with resetting := true }).dev.fa.now = none) := by
  dsimp only
  decide +kernel

/-- The last receive ring of the last plane port that carries a lane of its own. -/
def ring54 : RingId := { port := 54, plane := 3, side := .rx, idx := 15 }

/-- A measurement. -/
def meas (heater : Nat) : RingMeas := { heater, biases := [1000, 800, 100, 200] }

/-- A device whose last plane port's optics are as given. -/
def optics54 (f : OptPort → OptPort) : State := at_ { live with op := { live.op with ports := [f (OptPort.fresh 54 3)] } }

/-- A device whose last Wellhead is as given. -/
def well7 (f : Wellhead → Wellhead) : State := at_ { live with op := { live.op with wells := [f (Wellhead.fresh 7)] } }

/-- OpticsAtWork: dark and lit, the spare free, used and being switched to, an identity read and one not read, a port that waits to relock,
a calibration whose measurements agree and one whose do not, with 0 and 1 disagreements before. -/
theorem witness_OpticsAtWork :
    (ring54.wf = true ∧ State.reset.dev.op.dark = true ∧ (at_ live).dev.op.dark = false) ∧
    (((at_ live).dev.well 7).switching = none ∧ ((at_ live).dev.well 7).spareUsed = false) ∧
    (((well7 fun w => { w with spareUsed := true }).dev.well 7).switching = none ∧ ((well7 fun w => { w with spareUsed := true }).dev.well 7).spareUsed = true) ∧
    ((well7 fun w => { w with switching := some 900 }).dev.well 7).switching = some 900 ∧
    ((at_ live).dev.wantedIdentity ring54 = some 239 ∧ ((at_ live).dev.ring ring54).locked = true ∧ ((at_ live).dev.optic 54 3).relockSince = none ∧
      ((at_ live).dev.ring ring54).sweeps = 0) ∧
    (((optics54 fun o => { o with relockSince := some 500 }).dev.optic 54 3).relockSince = some 500 ∧
      ((optics54 fun o => { o with relockSince := some 500 }).dev.pport 54 3).retired = false) ∧
    ((at_ live).dev.fw.handover = none ∧ ((at_ live).dev.optic 54 3).cal = none) ∧
    (∀ n ∈ [0, 1], ((optics54 fun o => { o with cal := some 17, disagree := [(17, n)] }).dev.optic 54 3).cal = some 17 ∧
      countOf 17 ((optics54 fun o => { o with cal := some 17, disagree := [(17, n)] }).dev.optic 54 3).disagree = n) ∧
    (agree (meas 2048) (meas 2050) = true ∧ agree (meas 2048) (meas 2051) = false) ∧
    ({ at_ live with dev.op.dirty := true } : State).dev.op.dirty = true ∧ (at_ live).dev.flashOk = true ∧
    ({ at_ live with dev.th := { live.th with flashIf := -1 } } : State).dev.flashOk = false := by
  decide +kernel

/-- Mirrored memory with line 0 in a line buffer of stack 0. -/
def twice : Dev :=
  { live with mem := { live.mem with mirror := 1, stackList := [{ Stack.fresh 0 with buf := [{ stack := 0, line := 0, data := zeros 256, touched := 900 }] }] } }

/-- StoreReads: the last byte of a mirrored line that is in the line buffer. -/
theorem witness_StoreReads :
    Memory.wf twice.mem.cells = true ∧ (∀ k ∈ twice.mem.stackList, ∀ x ∈ k.buf, x.data.length = 256) ∧ 255 % 256 + [7#8].length ≤ 256 ∧
    (∀ j, j < [7#8].length → twice.readByte (255 + j) ≠ none) ∧ [7#8][0]? = some 7 := by decide +kernel

/-- StoreFrame: the byte before it. -/
theorem witness_StoreFrame :
    (∀ i, i < [7#8].length → placeOf twice.mBytes 254 ≠ placeOf twice.mBytes (255 + i)) ∧
    (∀ i s o p, i < [7#8].length → placeOf twice.mBytes (255 + i) = .hbm s o → twice.partner s o = some p → placeOf twice.mBytes 254 ≠ .hbm p o) := by
  refine ⟨by decide +kernel, ?_⟩
  intro i s o p hi h _ h2
  have hi0 : i = 0 := by simp at hi; omega
  subst hi0
  have e1 : placeOf twice.mBytes (255 + 0) = .hbm 0 255 := by decide +kernel
  have e2 : placeOf twice.mBytes 254 = .hbm 0 254 := by decide +kernel
  rw [e1] at h
  rw [e2] at h2
  injection h with _ ho
  injection h2 with _ ho2
  omega

/-- MemoryFormKept, FusesOnlyAdvance: a write-back at the front of the queue. -/
theorem witness_MemoryFormKept :
    let s : State := { buffered [] with pending := [.lineWriteback 15 lastLine] }
    s.memWf = true ∧ ∃ t, step s = .next t := ⟨by decide +kernel, _, rfl⟩

/-- AtomicArithmetic: a compare-and-swap and a minimum of 64 bits at the end of the last line. -/
theorem witness_AtomicArithmetic :
    ∀ op ∈ [AtomicOp.add, .min, .max, .cas], ∀ ty ∈ [AtomicTy.int32, .int64, .uint32, .uint64],
      let s := buffered [.atomic op ty (256 - ty.bytes) 0x80000000 0 false]
      s.dev.inBuf 15 lastLine = true ∧ s.dev.lineServed 15 lastLine = true ∧ s.dev.partner 15 (lastLine * 256) = none ∧ ty ≠ .fp32 ∧
      (s.dev.stack 15).ops.filter (·.line == lastLine) = [op15 (.atomic op ty (256 - ty.bytes) 0x80000000 0 false)] := by
  decide +kernel

end Sys2Proof.Tests
end

