-- ==== Sys2Proof/Tests/Slice0.lean ====
section
/-!
SUPPORT. Tests: ill-formed commands are refused, the state after reset, and numbers that the spec works out in its examples.
-/

-- Proofs one after another: the package as one text then needs less memory.
set_option Elab.async false

namespace Sys2Proof.Tests

open Sys2Proof Sys2Proof.Machine

/-! ## Well-formedness -/

/-- A thread that does not exist. -/
def noThread : Thread := { site := 39, stand := 132, pos := 20, thread := 8 }

/-- A frame whose hop count does not fit. -/
def longFrame : Frame :=
  { kind := 1, enc := false, poison := false, posted := false, last := true, dst := 7, src := 8, address := 0, gen := 0, unit := 0, hops := 32
    credit := 0, epoch := 0, aop := 0, aty := 0, status := 0, size := 8, counter := 0, tagOk := true, payload := [] }

/-- Each check of the host's, the power and the timebase commands refuses. -/
theorem test_ill_formed_commands :
    [Instr.mbDoorbellWrite 256 0, .devQuery 256, .linkUp 3 6 false, .linkUp 16 16 false, .cxlMemWrite 0 [] false, .biSnoopResponse 0 (some []), .msixUnmask 2048,
      .powerSample (some 7) 0 0, .limiterStep (some 40), .throttleDividerTimer 40 0 .canopy, .throttleSkipDecay 39 8 .canopy, .thermalTrip 0 [0, 0], .chimeLoss 55,
      .chimeLoss 0x88, .supplyDroop 39 133 0 0, .sustainedDroop 39 0 21, .frequencyStepVote 7 .cd9 true true, .stepDecisionMissing [8, 40],
      .tbTodFrame [0], .shareComplete 0 ⟨40, 0, []⟩].all (fun i => !i.wf) = true := by decide

/-- Each check of the fabrics', the memories' and the optics' commands refuses. -/
theorem test_ill_formed_events :
    [Instr.remoteAccessComplete ⟨noThread, 0, false⟩, .tallyRemoteAccess { noThread with thread := 7 } false (.load (2 ^ 64) 8),
      .transferDescriptorWrite { noThread with thread := 7 }
        { isRead := false, local_ := 0, remote := 0, length := 2 ^ 32, rack := false, scatterAdd := none, cruiser := .none },
      .bondBeatUncorrectable 39 256 .other, .coreAgeingLower 39 133 0, .understoryReset 7, .cellReceive 55 0 [] none, .cellReceive 0 0 [(258, 0)] none, .load 0 ⟨4, 0, false⟩, .partialTransferExpiry 0 55 0,
      .planeSchedulerFail 4, .combFailure 8, .tuningLoopUpdate { port := 0, plane := 0, side := .tx, idx := 18 } true 0 0,
      .laneIdentityCheck { port := 0, plane := 0, side := .rx, idx := 20 } none, .opticalMonitorSample 0 0 18 { src := 0, levels := List.replicate 10 0 },
      .opticalMonitorSample 0 0 17 { src := 0, levels := [] }, .lineUpdate 16 0, .lineUpdate 15 312500000, .parityAlert 0 16, .stackTempRead 0 0 [0], .barrierWordLoad 4,
      .frameTransmit 8, .spillwayLoad 0 longFrame, .laneMap 0 [0] 0, .spillwayCombFailure 4 0, .spillwayCombFailure 3 3,
      .stewardHeartbeatMissed 55].all (fun i => !i.wf) = true := by decide

/-- An ill-formed command names nothing and changes nothing (log 3). -/
theorem test_ill_formed_runs : exec (.understoryReset 7) State.reset = .next State.reset := rfl

/-- No word spells a command: the table gives no bits. -/
theorem test_no_words : decodeTableWord 32 0 = none ∧ State.reset.withFetchWord 32 0 = State.reset := ⟨rfl, rfl⟩

/-! ## Reset (11, field tables) -/

/-- Both memories have their canonical form. -/
theorem test_reset_memory : State.reset.memWf = true ∧ State.reset.hostMemWf = true := by decide

/-- The device is in BRINGUP, stage S0, and nothing waits. -/
theorem test_reset_stage : State.reset.dev.hg.devState = .bringup ∧ State.reset.dev.hg.stage = 0 ∧ core.reset.pending = [] := by decide

/-! ## The spec's examples -/

/-- 00: the window of SITE[17]. -/
theorem test_window : scratchKey 17 0 = 0x200440000000 ∧ placeOf 0 0x20047FFFFFFF = .scratch 17 0x3FFFFFFF := by decide

/-- 09: one address, without mirroring and with one unit. -/
theorem test_mapping :
    placeOf 0 0x12345678 = .hbm 1 0x01234678 ∧ hbmKey 1 0x01234678 = 0x102001234678 ∧ pseudoChannel 0x12346 = 22 ∧
    mapInterleaved 0x12345678 mirrorUnit = (10, 0x02468678) := by decide

/-- 11: the decoder's size. -/
theorem test_decoder : decoderSize 0 = 0x012A10000000 ∧ decoderSize (2 * mirrorUnit) = 1142729736192 := by decide

/-- 03: a slow Mill core at the nominal step. -/
theorem test_swallow : swallowK 1950 1800 = 5 := by decide

/-- 16: line 0xC0C25 with group 37 retired, at slice 3 and set 0x00C. -/
theorem test_slice : nominalSlice 0xC0C25 = 37 ∧ sliceOf [37] 0xC0C25 = 3 ∧ setOf 0xC0C25 = 0x00C ∧ groupsOf 37 = [37, 170] := by decide +kernel

/-- The digits "123456789". -/
def digits : List Byte := [0x31, 0x32, 0x33, 0x34, 0x35, 0x36, 0x37, 0x38, 0x39]

/-- 09: the check values of the Cruiser polynomials. -/
theorem test_cruiser :
    crcFinal 0 (crcRun 0 (crcInit 0) digits) = 0xE3069283 ∧ crcFinal 1 (crcRun 1 (crcInit 1) digits) = 0xCBF43926 ∧
    crcFinal 2 (crcRun 2 (crcInit 2) digits) = 0x6C40DF5F0B497347 ∧ crcFinal 3 (crcRun 3 (crcInit 3) digits) = 0x29B1 := by decide +kernel

/-- An L4 operand. -/
def tensorL4 : Tensor := { format := 0x0A, rank := 2, cls := 0, flags := 0, source := 0, dims := [16, 1], offset := 0, size := 0 }

/-- The 16 elements of a row, with its scales. -/
def rowL4 (scale tile : Nat) (codes : List Nat) : List Elem := codes.map fun code => { code, scale, tile }

/-- 02: one L4 block through the Mill leaves 3/128 in the accumulator. -/
theorem test_l4_block :
    ladderSlice tensorL4 tensorL4 (rowL4 0x74 0x3C23D70A [2, 1, 0xC, 5, 0, 3, 7, 0xA, 6, 9, 4, 2, 0xD, 1, 2, 0xF])
      ((rowL4 0x7A 0x3F000000 [4, 2, 3, 0xA, 6, 4, 1, 5, 2, 4, 0xA, 1, 0xC, 7, 2, 2]).zipIdx.map fun e => (e.2, e.1)) 0 16 0 = 0x3CC00000 := by decide +kernel

/-- Sets of a ring with the heater codes of 45 °C and 65 °C. -/
def sets583 : List TempSet :=
  [{ heater := 4000, biases := [1840] }, { heater := 3100, biases := [1840] }, { heater := 2380, biases := [1840] }, { heater := 1700, biases := [1840] },
    { heater := 1000, biases := [1840] }]

/-- 08: a heater result at 58.3 °C is accepted. -/
theorem test_heater :
    agree { heater := 2618, biases := [1840] } { heater := 2619, biases := [1872] } = true ∧
    (accept sets583 { heater := 2618, biases := [1840] } { heater := 2619, biases := [1872] } 583).map (·.heater) = [4000, 3097, 2377, 1700, 1000] ∧
    nearestInt (setPoint200 (accept sets583 { heater := 2618, biases := [1840] } { heater := 2619, biases := [1872] } 583) none 583) 200 = 2618 := by
  decide +kernel

/-- The next state of an outcome. -/
def nextOf : Result → Option State
  | .next t => some t
  | _ => none

/-- 10: a RACK fence after two lost operations completes with code 3 and count 2. -/
theorem test_fence_status :
    (nextOf (exec (.remoteAccessComplete ⟨thread39, 0, false⟩)
      (at_ { live with cs := { live.cs with parked := [{ parked39 .fence with rack := true }], lost := [(thread39, true, 2)], nextTag := 2 } }))).map
      (fun t => t.dev.cs.finished.map (·.status)) = some [0x203] := by decide +kernel

/-- 10, R317: level order 00, 01, 11, 10, and alignment bits 0xD4 and the lane number; R318: a marker's 16 bytes, and a full interval; the frame
header's 32 bytes; R313: a pilot frame's line number. -/
theorem test_wire :
    [0, 1, 3, 2].map grayLevel = [0, 1, 2, 3] ∧ pam4 0b1101 = [2, 1] ∧
    alignBits 5 = [true, true, false, true, false, true, false, false, false, false, false, false, false, true, false, true] ∧ pilotFrame 5 = alignBits 5 ∧
    markerWord 3 2 0xFFFF 0x12345678 = [0xFE, 0x23, 0xFF, 0xFF, 0x78, 0x56, 0x34, 0x12, 0, 0, 0, 0, 0, 0, 0, 0] ∧
    (frameHeader longFrame).length = 32 ∧ (frameWords 0 0 longFrame).length = 2 ∧ (interval (markerWord 0 0 1 0) [] (0, 0)).length = 1024 ∧
    (lineBits 5 (List.replicate 4 0)).length = 17 ∧ laneSymbols 1 [List.range 36, List.range 36] = [1, 17, 33, 0, 16, 32] := by
  decide +kernel

/-- 09: the folds of that example. -/
theorem test_fold : fold 0x1234 % 16 = 4 ∧ fold 0x2468 % 8 = 0 := by decide

end Sys2Proof.Tests
end

