-- ==== Sys2Proof/Tests/WitnessCommands.lean ====
section
/-!
SUPPORT. Witnesses for the hypotheses of the statements about the mailbox commands: for each clause a state that meets its
hypotheses, at a boundary value where a range has one.
-/

-- Proofs one after another: the package as one text then needs less memory.
set_option Elab.async false

namespace Sys2Proof.Tests

open Sys2Proof Sys2Proof.Machine

/-- A graph that holds the small image. -/
def tinyGraph (placed : Option Placement) : Graph :=
  { handle := 1, session := 1, image := imageOf tinyImage, placed, installing := none, stale := false, pools := [], stateMem := [] }

/-- A placement of the small image on site 8. -/
def tinyPlaced : Placement :=
  { binding := { seed := 0, margin := 8, siteMask := 256, items := [1] }, generation := 1, installed := 0, nodes := []
    sites := [(8, 1, 0, 0)], stages := 1, limiting := 0, unplaced := [], pools := [], choice := 0, kv := [], flows := [] }

/-- A GRAPH_QUERY of the small graph whose buffer has n bytes. -/
def graphAsk (placed : Option Placement) (a n : Nat) : State :=
  cmd { open1 with gr := { live.gr with list := [tinyGraph placed] } } 0x0103 1 (pack [(4, 1), (4, 0), (8, a), (8, n)])

/-- BufferReads: a graph queried without a buffer, one that is not placed, and a placed one whose buffer is too small or large enough. -/
theorem witness_BufferReads_graph :
    (graphAsk none 0 0).atWork 0x0103 0 = true ∧ u64 ((graphAsk none 0 0).body 0) 8 = 0 ∧ ((graphAsk none 0 0).dev.graph? 1).isSome = true ∧
    ∀ n ∈ [320204, 320205], (graphAsk (some tinyPlaced) 64 n).atWork 0x0103 0 = true ∧ u32 ((graphAsk (some tinyPlaced) 64 n).body 0) 4 = 0 ∧
      (graphAsk (some tinyPlaced) 64 n).dev.bufferOk (u64 ((graphAsk (some tinyPlaced) 64 n).body 0) 8) (u64 ((graphAsk (some tinyPlaced) 64 n).body 0) 16) = true ∧
      ((graphAsk (some tinyPlaced) 64 n).dev.graph? 1).isSome = true ∧ u64 ((graphAsk (some tinyPlaced) 64 n).body 0) 16 = n ∧
      tinyPlaced.reportBytes = 320205 := by
  decide +kernel

/-- Result ring 2. -/
def result2 : ResultRing :=
  { handle := 2, session := 1, host := false, control := 256, array := 0x2000000, entries := 64, vector := 0xFFFF, consumed := 0, written := 0
    published := 0, lastPublish := 0, badConsumed := [], stream := none }

/-- A result ring of session 1 in host memory whose consumed count the device has not read. -/
def closing1 : ResultRing := { result2 with host := true, stream := some 0 }

/-- A session opens with the longest hold time; one closes. -/
theorem witness_SessionOpenClose :
    (let s := cmd live 0x0010 0 (pack [(16, 0), (4, 3600)])
     s.atWork 0x0010 0 = true ∧ 10 ≤ u32 (s.body 0) 16 ∧ u32 (s.body 0) 16 ≤ 3600 ∧ s.dev.ses.list.length < 64 ∧ s.dev.ses.nextId ≤ 0xFFFFFFFF) ∧
    (let s := cmd open1 0x0011 1 []
     s.atWork 0x0011 0 = true ∧ s.dev.sessionBusy (s.session 0) (some 0) = false ∧ (s.dev.prepareClose [s.session 0]).2 = true) ∧
    (let s := at_ { open1 with mb.chans := [busy 0x0011 1 [], { busy 0x0001 1 [] with ch := 1 }] }
     s.atWork 0x0011 0 = true ∧ s.dev.sessionBusy (s.session 0) (some 0) = true) ∧
    (let s := cmd { open1 with str := { live.str with results := [closing1] } } 0x0011 1 []
     s.atWork 0x0011 0 = true ∧ s.dev.sessionBusy (s.session 0) (some 0) = false ∧ (s.dev.prepareClose [s.session 0]).2 = false) := by
  dsimp only
  decide +kernel

/-- The live device with one session. -/
def oneSession (x : Session) : Dev := { live with ses := { list := [x], nextId := 2 } }

/-- The session of `session1`, ORPHANED or locked out. -/
def orphan1 : Session := { session1 with orphaned := some 900 }
/-- The session of `session1`, locked out until 5 µs. -/
def locked1 : Session := { session1 with lockout := some 5000 }

/-- A reattachment of session 1 with its token. -/
def reattach : State := cmd (oneSession orphan1) 0x0012 0 (pack [(4, 1), (4, 0), (16, 77)])

/-- Reattaching, the ORPHANED instant, the end of the hold time and of a lock-out. -/
theorem witness_SessionTimers :
    (reattach.dev.session? 1 = some orphan1 ∧ reattach.atWork 0x0012 0 = true ∧ reattach.session 0 = 0 ∧ u32 (reattach.body 0) 0 = 1 ∧
      u32 (reattach.body 0) 4 = 0 ∧ orphan1.closing = false ∧ orphan1.lockout = none ∧ field (reattach.body 0) 8 16 = orphan1.token) ∧
    ((at_ open1).dev.session? 1 = some session1 ∧ session1.orphaned = none ∧ session1.closing = false ∧ (at_ open1).dev.fw.handover = none) ∧
    ((at_ (oneSession orphan1)).dev.session? 1 = some orphan1 ∧ orphan1.orphaned = some 900 ∧ (at_ (oneSession orphan1)).dev.reattaching 1 = false ∧
      (at_ (oneSession orphan1)).dev.sessionBusy 1 none = false ∧ ((oneSession orphan1).str.results.any fun r => r.session == 1) = false) ∧
    ((oneSession locked1).session? 1 = some locked1 ∧ locked1.lockout = some 5000) := by
  decide +kernel

/-- A POWER_CAP_SET of the lowest cap. -/
def capSet : State := cmd live 0x0400 0 (pack [(4, 12500), (4, 0)])
/-- A TRICKLE_CONFIG of the highest level. -/
def trickleSet : State := cmd live 0x0402 0 (pack [(1, 1), (1, 16), (6, 0)])
/-- A COOLANT_CONFIG at its limits. -/
def coolantSet : State := cmd live 0x0406 0 (pack [(1, 0x30), (1, 0x31), (1, 0x32), (1, 0), (2, 600), (2, 0), (2, 1000), (2, 150), (4, 0)])
/-- A MIRROR_CONFIG of the largest mirror. -/
def mirrorSet : State := cmd live 0x0301 0 (pack [(1, 9), (7, 0)])
/-- A TIMEBASE_CONFIG of the longest delay. -/
def timebaseSet : State := cmd live 0x0404 0 (pack [(1, 1), (1, 1), (2, 0), (4, 10000)])
/-- A ROUND_CONFIG of the longest period and timeout. -/
def roundSet : State := cmd live 0x0200 0 (pack [(4, 10000), (4, 1000), (8, 1000)])
/-- A FREQ_STEP_SET of the highest CD9 step. -/
def stepSet : State := cmd live 0x0401 0 (pack [(1, 9), (1, 0), (2, 2200), (4, 0)])
/-- A FABRIC_TABLE_SET of the last entry. -/
def tableSet : State :=
  cmd { live with sw := { live.sw with joined := true } } 0x0304 0 (pack [(1, 0), (1, 0), (2, 0xFFFF), (4, 1), (4, 0), (4, 0), (2, 0xFFF)])

/-- Every setting at a limit of its range. -/
theorem witness_SettingCommands :
    (capSet.atWork 0x0400 0 = true ∧ u32 (capSet.body 0) 0 = 12500 ∧ u8 (capSet.body 0) 4 = 0) ∧
    (trickleSet.atWork 0x0402 0 = true ∧ u8 (trickleSet.body 0) 0 = 1 ∧ u8 (trickleSet.body 0) 1 = 16) ∧
    (coolantSet.atWork 0x0406 0 = true ∧ coolantOk (coolantSet.body 0) = true ∧ coolantSet.dev.flashOk = true) ∧
    (mirrorSet.atWork 0x0301 0 = true ∧ u8 (mirrorSet.body 0) 0 = 9 ∧ mirrorSet.dev.flashOk = true) ∧
    (timebaseSet.atWork 0x0404 0 = true ∧ u8 (timebaseSet.body 0) 0 = 1 ∧ u8 (timebaseSet.body 0) 1 = 1 ∧ u16 (timebaseSet.body 0) 2 = 0 ∧
      u32 (timebaseSet.body 0) 4 = 10000 ∧ timebaseSet.dev.flashOk = true ∧ timebaseSet.dev.tb.st = .free) ∧
    (roundSet.atWork 0x0200 0 = true ∧ (∀ g ∈ roundSet.dev.gr.list, g.isPlaced = false) ∧ u32 (roundSet.body 0) 0 = 10000 ∧
      u64 (roundSet.body 0) 8 ≤ roundSet.dev.tb.ns ∧ u32 (roundSet.body 0) 4 = 1000) ∧
    (stepSet.atWork 0x0401 0 = true ∧ u8 (stepSet.body 0) 0 = 9 ∧ u8 (stepSet.body 0) 1 = 0 ∧ stepOk .cd9 (u16 (stepSet.body 0) 2) = true ∧
      stepSet.dev.str.slack = false ∧ stepSet.dev.ck.cd9 ≠ u16 (stepSet.body 0) 2) ∧
    (tableSet.atWork 0x0304 0 = true ∧ tableSet.dev.sw.joined = true ∧ u8 (tableSet.body 0) 0 = 0 ∧ u8 (tableSet.body 0) 1 = 0 ∧
      tableSet.dev.tableFits (tableSet.body 0) = true ∧ tableSet.dev.tableEntries (tableSet.body 0) = some [0xFFF]) := by
  decide +kernel

/-- Device memory that holds the small image at byte 64 of stack 0. -/
def tinyMemory : List Host.Cell := (tinyImage.zipIdx (hbmKey 0 64)).filterMap fun p => if p.1 = 0 then none else some (p.2, p.1)

/-- A GRAPH_LOAD of some bytes of stack 0, which holds the small image at byte 64. -/
def graphLoads (a n : Nat) : State :=
  cmd { open1 with mem := { live.mem with cells := tinyMemory } } 0x0100 1 (pack [(8, 0x100000000000 + a), (8, n)])

/-- The device reads the small image where it stands, in four pieces. -/
theorem tiny_read : (graphLoads 64 424).dev.readBytes 0x100000000040 424 = some tinyImage := by
  have h := readBytes_add _ 0x100000000040 106 318 _ _
    (by decide +kernel : (graphLoads 64 424).dev.readBytes 0x100000000040 106 = some (tinyImage.take 106))
    (readBytes_add _ (0x100000000040 + 106) 106 212 _ _
      (by decide +kernel : (graphLoads 64 424).dev.readBytes (0x100000000040 + 106) 106 = some ((tinyImage.drop 106).take 106))
      (readBytes_add _ (0x100000000040 + 106 + 106) 106 106 _ _
        (by decide +kernel : (graphLoads 64 424).dev.readBytes (0x100000000040 + 106 + 106) 106 = some ((tinyImage.drop 212).take 106))
        (by decide +kernel : (graphLoads 64 424).dev.readBytes (0x100000000040 + 106 + 106 + 106) 106 = some (tinyImage.drop 318))))
  have e1 := List.take_append_drop 106 (tinyImage.drop 212)
  have e2 := List.take_append_drop 106 (tinyImage.drop 106)
  have e3 := List.take_append_drop 106 tinyImage
  rw [List.drop_drop] at e1 e2
  rw [e1, e2, e3] at h
  exact h

/-- The CRC of the small image, in four pieces. -/
theorem tiny_crc : crc32c (tinyImage.take 416) = 1243042766 := by
  have e : tinyImage.take 416 = tinyImage.take 104 ++ ((tinyImage.drop 104).take 104 ++ ((tinyImage.drop 208).take 104 ++ (tinyImage.drop 312).take 104)) := by
    rw [show 416 = 104 + (104 + (104 + 104)) from rfl, List.take_add, List.take_add, List.take_add, List.drop_drop, List.drop_drop]
  have h1 : crcRun 0 (crcInit 0) (tinyImage.take 104) = 45333623 := by decide +kernel
  have h2 : crcRun 0 45333623 ((tinyImage.drop 104).take 104) = 2946632700 := by decide +kernel
  have h3 : crcRun 0 2946632700 ((tinyImage.drop 208).take 104) = 1707913722 := by decide +kernel
  have h4 : crcRun 0 1707913722 ((tinyImage.drop 312).take 104) = 3051924529 := by decide +kernel
  rw [crc32c, e, crcRun_append, crcRun_append, crcRun_append, h1, h2, h3, h4]
  rfl

/-- The frame of the small image is in order. -/
theorem tiny_frame : checkFrame 0 tinyImage = none := by
  have n : tinyImage.length = 424 := by decide +kernel
  have m : u32 tinyImage 0 = 0x52425241 ∧ u64 tinyImage 8 = 424 ∧ u16 tinyImage 4 = 1 ∧ u16 tinyImage 6 = 0 ∧ u32 tinyImage 420 = 0x444E4541 ∧
      u32 tinyImage 416 = 1243042766 := by decide +kernel
  simp [checkFrame, n, m, tiny_crc]

/-- No check finds a fault in the small image. -/
theorem tiny_checks : checkImage 0 0 tinyImage = none := by
  have a : checkFrame 0 tinyImage = none := tiny_frame
  have b : checkTable tinyImage = none := by decide +kernel
  have c : checkCrcs tinyImage = none := by decide +kernel
  have e : firstFail (contentFails 0 tinyImage) = none := by decide +kernel
  rw [checkImage, a, b, c, e]
  rfl

/-- The device validates the small image. -/
theorem tiny_valid : (graphLoads 64 424).dev.validate 0x100000000040 424 = .ok (imageOf tinyImage) :=
  validate_ok _ _ _ _ (by decide) (by decide +kernel) tiny_read tiny_checks (by decide +kernel) (by decide +kernel)

/-- GraphLoad: the image that validates, no bytes at all, and a misaligned address. -/
theorem witness_GraphLoad :
    (∀ p ∈ [(64, 424), (64, 0), (1, 424)], (graphLoads p.1 p.2).atWork 0x0100 0 = true ∧ (graphLoads p.1 p.2).dev.graphTurn 0 = true ∧
      u64 ((graphLoads p.1 p.2).body 0) 0 = 0x100000000000 + p.1 ∧ u64 ((graphLoads p.1 p.2).body 0) 8 = p.2 ∧ (graphLoads p.1 p.2).dev.mustSnoop (0x100000000000 + p.1) p.2 = false) ∧
    (graphLoads 64 424).dev.validate 0x100000000040 424 = .ok (imageOf tinyImage) ∧
    ((graphLoads 64 0).dev.validate 0x100000000040 0).toOption.isSome = false ∧ 0x100000000001 % 64 ≠ 0 :=
  ⟨by decide +kernel, tiny_valid, by decide +kernel, by decide⟩

/-- A command on graph 1 of session 1. -/
def graphCmd (op : Nat) (placed : Option Placement) (streams : List Stream) : State :=
  cmd { open1 with gr := { live.gr with list := [tinyGraph placed], nextHandle := 2 }, str := { live.str with list := streams } } op 1 (pack [(4, 1), (36, 0)])

/-- A stream of graph 1. -/
def stream0 (paused : Bool) : Stream :=
  { id := 0, session := 1, graph := 1, decl := 0, result := 2, intakes := [1], feeder := none, paused, pausedNext := paused, stalled := false
    lastStart := none, nextSeq := 0, items := [], held := [], entering := [], slots := [], destroying := none }

/-- GraphUnloadPlace: a loaded graph, a bound one, and a placement whose checks all hold. -/
theorem witness_GraphUnloadPlace :
    (let s := graphCmd 0x0101 none []
     s.dev.graphTurn 0 = true ∧ s.dev.graphOf (s.session 0) (u32 (s.body 0) 0) = some (tinyGraph none) ∧ s.atWork 0x0101 0 = true ∧
       s.dev.graphState (tinyGraph none) ≠ 2) ∧
    (let s := graphCmd 0x0101 (some tinyPlaced) [stream0 false]
     s.dev.graphTurn 0 = true ∧ s.dev.graphOf (s.session 0) (u32 (s.body 0) 0) = some (tinyGraph (some tinyPlaced)) ∧ s.atWork 0x0101 0 = true ∧
       s.dev.graphState (tinyGraph (some tinyPlaced)) = 2) ∧
    (let s := graphCmd 0x0102 none []
     let bind : Binding := { seed := 0, margin := 0, siteMask := computeSites.foldl (fun m s => m ||| 2 ^ s) 0, items := [1] }
     s.atWork 0x0102 0 = true ∧ s.dev.graphTurn 0 = true ∧ s.dev.graphState (tinyGraph none) ≠ 2 ∧ (tinyGraph none).installing = none ∧
       bindingOf (tinyGraph none).image (s.body 0) = some bind ∧ (tinyGraph none).image.weights = [] ∧ s.dev.rackFail (tinyGraph none) = none ∧
       (s.dev.permitted bind).isEmpty = false ∧ s.dev.decodeOk (tinyGraph none) bind = true ∧
       ∀ k < 16, (s.dev.readOnlyRanges (s.dev.placedWith (tinyGraph none)) k).length ≤ 256) := by
  dsimp only
  decide +kernel

/-- Region 1 of session 1: the first 4 KiB. -/
def region1 : Region := { handle := 1, session := 1, stackLocal := false, readOnly := false, dpa := 0, length := 4096 }

/-- A graph whose declaration 0 decodes: 8 KV heads of 128 FP16 elements, 16 tokens a page. -/
def decodeGraph : Graph :=
  { tinyGraph none with image :=
      { imageOf [] with
        decls := [{ kind := 1, maxItems := 1, payload := 0, param := 0xFFFF, result := 0, kvState := 3, resultBytes := 64, drafts := 0, rounds := 1, decodeStreams := 1 }]
        tensors := [tensorOf [], tensorOf [], tensorOf [], { tensorOf [] with format := 2, cls := 6 }]
        nodes := [{ opcode := 9, inputs := [0, 1, 2, 3, 0], outputs := [0], flags := 0, attrs := pack [(4, 0), (2, 8), (2, 8), (2, 128), (2, 0)], at_ := 0 }] } }

/-- A REGION_MAP with flags, a base and a handle. -/
def mapCmd (flags dpa handle : Nat) : State :=
  cmd { open1 with gr := { live.gr with regions := [region1], nextRegion := 2 } } 0x0300 1 (pack [(1, 0), (1, flags), (6, 0), (8, dpa), (8, 4096), (8, handle)])

/-- A DECODE_POOL_CONFIG of the most layers and the longest context. -/
def poolCmd : State :=
  cmd { open1 with gr := { live.gr with list := [decodeGraph], nextHandle := 2, regions := [region1], nextRegion := 2 } } 0x0207 1
    (pack [(4, 1), (1, 0), (1, 0), (2, 256), (4, 32768), (4, 0), (8, 1)])

/-- A region is mapped, unmapped, or refused; a pool. -/
theorem witness_RegionsAndPools :
    (let s := mapCmd 1 (hbmBytes - 4096) 0
     s.atWork 0x0300 0 = true ∧ u8 (s.body 0) 1 = 1 ∧ field (s.body 0) 2 6 = 0 ∧ u64 (s.body 0) 24 = 0 ∧
       s.dev.regionOk (u8 (s.body 0) 0) (u64 (s.body 0) 8) (u64 (s.body 0) 16) = true ∧ s.dev.gr.regions.length < 4096) ∧
    (let s := mapCmd 2 0 1
     s.atWork 0x0300 0 = true ∧ u8 (s.body 0) 1 = 2 ∧ u8 (s.body 0) 0 ≤ 1 ∧ field (s.body 0) 2 6 = 0 ∧
       s.dev.regionOf (s.session 0) (u64 (s.body 0) 24) = some region1 ∧ s.dev.regionUser region1 = none) ∧
    (let s := mapCmd 0 2048 0
     s.atWork 0x0300 0 = true ∧ u8 (s.body 0) 1 = 0 ∧ u64 (s.body 0) 8 % 4096 ≠ 0) ∧
    (poolCmd.atWork 0x0207 0 = true ∧ poolCmd.dev.graphOf (poolCmd.session 0) (u32 (poolCmd.body 0) 0) = some decodeGraph ∧
      (poolCmd.dev.regionOf (poolCmd.session 0) (u64 (poolCmd.body 0) 16)).isSome = true ∧ poolCmd.dev.graphState decodeGraph ≠ 2 ∧
      (decodeGraph.image.decls[u8 (poolCmd.body 0) 4]?).map (·.kind) = some 1 ∧ kvTokens decodeGraph.image 3 = some 16 ∧
      u8 (poolCmd.body 0) 5 = 0 ∧ u32 (poolCmd.body 0) 12 = 0 ∧ u16 (poolCmd.body 0) 6 = 256 ∧ u32 (poolCmd.body 0) 8 = 32768) := by
  dsimp only
  decide +kernel

/-- A ring's command: location, vector, entries, control block, array. -/
def ringCmd (op vector control : Nat) : State :=
  cmd open1 op 1 (pack [(1, 0), (1, 0), (2, vector), (4, 65536), (8, control), (8, 0x1000000)])

/-- Rings that fit, a misaligned control block, a reserved vector. -/
theorem witness_RingCreate :
    (let s := ringCmd 0x0203 0xFFFF 128
     s.atWork 0x0203 0 = true ∧ s.dev.ringOk true (s.body 0) = true ∧ s.dev.str.intakes.length < 1024) ∧
    (let s := ringCmd 0x0204 2047 128
     s.atWork 0x0204 0 = true ∧ s.dev.ringOk false (s.body 0) = true ∧ s.dev.str.results.length < 256) ∧
    (let s := ringCmd 0x0203 0xFFFF 64
     s.atWork 0x0203 0 = true ∧ u64 (s.body 0) 8 % 128 ≠ 0) ∧
    (let s := ringCmd 0x0204 256 128
     s.atWork 0x0204 0 = true ∧ 1 ≤ u16 (s.body 0) 2 ∧ u16 (s.body 0) 2 ≤ 256) := by
  dsimp only
  decide +kernel

/-- Intake ring 1. -/
def intake1 : IntakeRing :=
  { handle := 1, session := 1, host := false, control := 128, array := 0x1000000, entries := 64, consumer := 0, producer := 0, lastCutoff := 0
    fault := 0, rejected := 0, stream := none }

/-- A device with a placed graph, the two rings and some streams. -/
def streaming (streams : List Stream) : Dev :=
  { open1 with gr := { live.gr with list := [tinyGraph (some tinyPlaced)], nextHandle := 2 }
               str := { live.str with list := streams, intakes := [intake1], results := [result2], nextRing := 3 } }

/-- A STREAM_CREATE on the two rings. -/
def createCmd : State :=
  cmd (streaming []) 0x0201 1 (pack [(4, 1), (1, 0), (1, 1), (2, 0xFFFF), (4, 2), (4, 0), (4, 1), (28, 0)])

/-- Streams are created, paused, resumed, destroyed. -/
theorem witness_StreamCommands :
    (createCmd.atWork 0x0201 0 = true ∧ createCmd.dev.graphOf (createCmd.session 0) (u32 (createCmd.body 0) 0) = some (tinyGraph (some tinyPlaced)) ∧
      (tinyGraph (some tinyPlaced)).isPlaced = true ∧
      createCmd.dev.str.results.find? (fun r => r.handle == u32 (createCmd.body 0) 8 && r.session == createCmd.session 0) = some result2 ∧
      result2.stream = none ∧ u8 (createCmd.body 0) 5 = 1 ∧ u16 (createCmd.body 0) 6 = 0xFFFF ∧
      createCmd.dev.str.intakes.find? (fun r => r.handle == u32 (createCmd.body 0) 16 && r.session == createCmd.session 0) = some intake1 ∧
      intake1.stream = none ∧ createCmd.dev.streamOk (tinyGraph (some tinyPlaced)) (createCmd.body 0) = true ∧ createCmd.dev.str.list.length < 256) ∧
    (∀ p ∈ [false, true], ∀ op ∈ [0x0205, 0x0206, 0x0202], let s := cmd (streaming [stream0 p]) op 1 (pack [(2, 0), (6, 0)])
      s.dev.str.list.find? (fun st => st.id == u16 (s.body 0) 0 && st.session == s.session 0) = some (stream0 p) ∧ s.atWork op 0 = true ∧
        (stream0 p).pausedNext = p) := by
  dsimp only
  decide +kernel

end Sys2Proof.Tests
end

