-- ==== Sys2Proof/Tests/WitnessControl.lean ====
section
/-!
SUPPORT. Witnesses for the hypotheses of the statements about the timebase, the clocks, power and cooling.
-/

-- Proofs one after another: the package as one text then needs less memory.
set_option Elab.async false

namespace Sys2Proof.Tests

open Sys2Proof Sys2Proof.Machine

/-- A timebase in a state, with its last edge at 100 µs and its count at 200 ms. -/
def timed (st : TbState) : State :=
  at_ { live with tb := { live.tb with ns := 200000000, st, lastEdge := some 100000, holdSince := if st = .holdover then some 50000 else none, freeRun := true } }

/-- A valid time-of-day frame: sync, version 1, locked, second 5, CRC. -/
def todFrame (crc : Nat) : List Byte := pack [(2, 0x4254), (1, 1), (1, 1), (8, 5), (2, 0), (2, crc)]

/-- TimebaseInputs: the timebase locked, free, in holdover; a frame that is valid and one that is not. -/
theorem witness_TimebaseInputs :
    (timed .locked).dev.tb.st = .locked ∧ (timed .locked).dev.tb.lastEdge = some 100000 ∧ (timed .free).dev.tb.st = .free ∧
    (timed .holdover).dev.tb.holdSince = some 50000 ∧ (timed .holdover).dev.tbAxis = 1 ∧
    (todFrame 28893).length = 16 ∧ (timed .free).dev.frameValid (todFrame 28893) = true ∧ (timed .free).dev.tb.frame = none ∧
    (timed .free).dev.tb.freeRun = true ∧ (todFrame 28892).length = 16 ∧ (timed .free).dev.frameValid (todFrame 28892) = false := by
  decide +kernel

/-- REFCLK lost at 500 ns, or not. -/
def refclk (lost : Option Nat) : State := at_ { live with ck := { live.ck with refLost := lost } }

/-- ReferenceClock: with and without a loss. -/
theorem witness_ReferenceClock :
    (refclk none).dev.ck.refLost = none ∧ (refclk (some 500)).dev.ck.refLost = some 500 ∧ (refclk (some 500)).dev.hg.devState ≠ .safeHold := by decide

/-- A droop of the last core region of a site. -/
def droop39 : Droop := { site := 39, stand := 132, pos := 20, mhz := 0, since := 500, sustained := false }

/-- A device with that droop, or none. -/
def drooping (l : List Droop) : State := at_ { live with ck := { live.ck with droops := l } }

/-- Droops: a droop begins below the ceiling; one is in progress; none is. -/
theorem witness_Droops :
    isComputeSite 39 = true ∧ 132 < 133 ∧ 20 < 21 ∧ ((drooping []).dev.ck.droops.any (Droop.is 39 132 20)) = false ∧
    1364 < (drooping []).dev.ceiling 39 (posDomain 20) ∧ (drooping [droop39]).dev.ck.droops.find? (Droop.is 39 132 20) = some droop39 ∧
    droop39.sustained = false ∧ (drooping []).dev.ck.droops.find? (Droop.is 39 132 20) = none := by decide

/-- A CD9 request voted in the round in progress, and what has been done. -/
def voting (done : List RoundPoint) (dec : Option Bool) (ns : Nat) : State :=
  at_ { live with ck := { live.ck with req9 := some { mhz := 2200, at_ := 400000 }, rails9 := some 2200, dec9 := dec }
                  rd := { live.rd with done }, tb := { live.tb with ns } }

/-- FrequencyVote: the rails rise, a site votes at the last instant, the decision is sent, a decision is missing. -/
theorem witness_FrequencyVote :
    (voting [] none 1000).dev.rd.active = true ∧ (voting [] none 1000).dev.rd.done.contains .voltRise = false ∧
    (voting [] none 1000).dev.votedStep .cd9 = some 2200 ∧ (voting [] none 1000).dev.votedStep .cd10 = none ∧
    isComputeSite 39 = true ∧ (voting [] none 396000).dev.voters.contains 39 = true ∧
    ((voting [] none 396000).dev.ck.votes.any fun v => v.site == 39 && v.dom == .cd9) = false ∧ (voting [] none 396000).dev.fw.handover = none ∧
    (voting [] none 396000).dev.fw.rangerUp = true ∧ (voting [] none 396000).dev.tb.ns ≤ live.rd.start + live.rd.period - 4000 ∧
    (voting [] none 396000).dev.rd.done.contains .decision = false ∧ (voting [] none 396000).dev.votedStep .cd9 = some 2200 ∧
    (voting [.decision] (some true) 396000).dev.rd.done.contains .missing = false ∧ (voting [.decision] (some true) 396000).dev.ck.dec9 = some true ∧
    (voting [.decision] (some true) 396000).dev.voters.contains 39 = true := by
  decide +kernel

/-- A device whose input is low. -/
def dimmed : State := at_ { live with pw := { live.pw with inputGood := false } }

/-- InputSupply: below 40 V, at 40 V, at 42 V. -/
theorem witness_InputSupply :
    399 < 400 ∧ 400 ≤ 400 ∧ 420 ≤ 420 ∧ dimmed.dev.pw.inputGood = false ∧ dimmed.dev.bu.perst = false := by decide

/-- A limiter of site 39 with readings and skipping, and the Trickle asked to rise. -/
def limited (readings : List Nat) (skip : Nat) : State :=
  at_ { live with pw := { live.pw with limiters := [{ site := some 39, readings, skip, trickleOff := 0, lastStep := 0, lastUndo := 0 }]
                                       trickleOn := true, trickleLevel := 16 } }

/-- PowerLimits: a sample, a step, a release, a move of the ratio. -/
theorem witness_PowerLimits :
    isComputeSite 39 = true ∧ (limited [400000] 3).dev.fw.handover = none ∧ (limited [] 0).dev.pw.effCap = 15000 ∧
    ({ live with fw := { live.fw with handover := some 1000 } } : Dev).fw.handover.isSome = true ∧
    ((limited [352000] 3).dev.pw.trickleRatio = 0 ∧ ((limited [352000] 3).dev.limiter (some 39)).skip < 12) ∧
    ((limited [1] 3).dev.limiter (some 39)).mean * 100 ≤ (limited [1] 3).dev.limitOf (some 39) * 98 ∧
    ((limited [1] 3).dev.limiter (some 39)).mean * 100 < (limited [1] 3).dev.limitOf (some 39) * 95 ∧ 0 < ((limited [1] 3).dev.limiter (some 39)).skip ∧
    (limited [352000] 3).dev.limitOf (some 39) * 95 ≤ ((limited [352000] 3).dev.limiter (some 39)).mean * 100 ∧
    (limited [] 0).dev.trickleTarget ≠ (limited [] 0).dev.pw.trickleRatio ∧ (limited [] 0).dev.hg.devState ≠ .safeHold := by
  decide +kernel

/-- A zone of site 39 in demand. -/
def demand (above : Bool) (div skip : Nat) (below2 : Option Nat) : Throttle :=
  { site := 39, zone := 7, source := .canopy, skip, div, last := some 1000, above, aboveSince := 500, below2, below5 := none }

/-- A device with that demand. -/
def demanding (x : Throttle) : State := at_ { live with th := { live.th with throttles := [x] } }

/-- ThermalDemand: the first demand, a divider's timer, a decay. -/
theorem witness_ThermalDemand :
    isComputeSite 39 = true ∧ 7 < 8 ∧ (at_ live).dev.th.sensors = [] ∧ (at_ live).dev.th.throttles = [] ∧ (at_ live).dev.th.tripped = none ∧
    (at_ live).dev.fw.handover = none ∧ (1000 : Int) ≤ 1050 ∧
    ({ live with fw := { live.fw with handover := some 1000 } } : Dev).fw.handover.isSome = true ∧
    (demanding (demand true 2 0 none)).dev.th.throttles.find? (Throttle.is 39 7 .canopy) = some (demand true 2 0 none) ∧ (demand true 2 0 none).above = true ∧
    (demand true 2 0 none).div < 4 ∧
    (demanding (demand false 1 1 (some 600))).dev.th.throttles.find? (Throttle.is 39 7 .canopy) = some (demand false 1 1 (some 600)) ∧
    (demand false 1 1 (some 600)).below2 = some 600 ∧ 0 < (demand false 1 1 (some 600)).skip := by decide

/-- A device with what THERMAL_TRIP has seen. -/
def tripping (above : List Nat) (tripped coolSince : Option Nat) (policy : Nat) : State :=
  at_ { live with th := { live.th with tripOver := above, tripped, coolSince, policy } }

/-- ThermalShutdown: the first hot sample, the second, the cooling under each policy. -/
theorem witness_ThermalShutdown :
    ([901, 901, 0] : List Int).length = 3 ∧ tripTemp 0x8700 = some 900 ∧
    2 ≤ (([901, 901, 0] : List Int).filter fun x => decide (900 < x)).length ∧ (tripping [] none none 0).dev.th.tripOver.contains 0x8700 = false ∧
    (tripping [] none none 0).dev.th.tripped = none ∧ (tripping [0x8700] none none 0).dev.th.tripOver.contains 0x8700 = true ∧
    (tripping [0x8700] none none 0).dev.th.tripped = none ∧ (tripping [] (some 0x8700) (some 900) 0).dev.th.tripped = some 0x8700 ∧
    (tripping [] (some 0x8700) (some 900) 0).dev.th.coolSince = some 900 ∧ (tripping [] (some 0x8700) (some 900) 0).dev.th.policy = 0 ∧
    (tripping [] (some 0x8700) (some 900) 1).dev.th.policy = 1 := by decide

/-- A device whose flash holds entries back. -/
def holding (held : List Event) : State :=
  at_ { live with th := { live.th with flashHold := true, flashOkSince := some 900, derateClear := some 800 }, lg := { live.lg with held } }

/-- An entry. -/
def event0 : Event := { number := 0, xtb := 10, unit := 0, outcome := 0, code := 0x07FF, value := 0 }

/-- Cooling: a poll, the end of a derating, the flash with and without a held entry. -/
theorem witness_Cooling :
    (at_ live).dev.fw.handover = none ∧ (at_ live).dev.fw.rangerUp = true ∧ (at_ live).dev.hg.devState = .ready ∧ (at_ live).dev.th.coolFail = (0, 0, 0) ∧
    (at_ live).dev.th.dutyMin ≤ (at_ live).dev.th.dutyMax ∧ (holding []).dev.th.derateClear = some 800 ∧ (holding []).dev.th.flashHold = true ∧
    (holding []).dev.th.flashOkSince = some 900 ∧ (holding []).dev.lg.held = [] ∧ (holding []).dev.th.tripped = none ∧
    (holding [event0]).dev.lg.held = [event0] ∧ (holding [event0]).dev.flashOk = true := by decide

end Sys2Proof.Tests
end

