-- ==== Sys2Proof/Tests/WitnessFaults.lean ====
section
/-!
SUPPORT. Witnesses for the hypotheses of the statements about faults, the Rangers and bring-up.
-/

-- Proofs one after another: the package as one text then needs less memory.
set_option Elab.async false

namespace Sys2Proof.Tests

open Sys2Proof Sys2Proof.Machine

/-- The last core of the last site. -/
def core39 : Nat := coreUnit 39 132 20

/-- A recovery of that core. -/
def recovery39 : Recovery := { report := { unit := core39, kind := .unit }, started := 600, retest := false }

/-- A device with faults as given. -/
def faulty (f : Faults → Faults) : State := at_ { live with fa := f live.fa }

/-- A device with a substitution in preparation. -/
def preparing : State := at_ { live with sp := { live.sp with substs := [{ unit := core39, substitute := coreUnit 39 132 21, ready := none }] } }

/-- An hour's counts of the core at the limit. -/
def count39 (hour : Nat) : ErrCount := { unit := core39, hour, corrected := hour, uncorrectable := 0 }

/-- FaultRecovery: reports taken or not, a queue with a unit and with a die, a recovery and its test, counts at 1,024, a substitute, a held map. -/
theorem witness_FaultRecovery :
    State.reset.dev.faultsTaken = false ∧
    (let d := (at_ live).dev
     d.faultsTaken = true ∧ d.fa.isolated = [] ∧ d.fa.queue = [] ∧ d.fa.now = none ∧ unitKind core39 ≠ 0x0E ∧ isCompute 39 = true ∧ d.inReset 39 = false ∧
       d.sp.held = none ∧ d.sp.substs.any (fun x => x.unit == core39 && x.ready.isNone) = false) ∧
    (let d := (faulty fun f => { f with queue := [{ unit := core39, kind := .unit }] }).dev
     d.faultsTaken = true ∧ d.fa.now = none ∧ d.fw.handover = none ∧ d.fa.queue = [{ unit := core39, kind := .unit }] ∧ testable core39 = true) ∧
    (let d := (faulty fun f => { f with queue := [{ unit := siteUnit 39, kind := .die }] }).dev
     d.fa.queue = [{ unit := siteUnit 39, kind := .die }] ∧ isCompute (unitPort (siteUnit 39)) = true ∧ d.fa.resets = []) ∧
    (let d := (faulty fun f => { f with now := some recovery39, testing := [core39] }).dev
     d.fa.now = some recovery39 ∧ recovery39.report.unit = core39 ∧ recovery39.retest = false ∧ d.fa.testing = [core39] ∧ d.testHeld core39 = false ∧
       d.fa.transients = []) ∧
    (∀ c ∈ (faulty fun f => { f with counts := [count39 1024] }).dev.fa.counts, c.hour ≤ 1024) ∧
    (preparing.dev.sp.substs.any (fun x => x.unit == core39 && x.ready.isNone) = true ∧ preparing.dev.fa.now = none) ∧
    (let d := (at_ { live with sp := { live.sp with held := some 300 } }).dev
     d.sp.held = some 300 ∧ d.flashOk = true ∧ d.fw.rangerUp = true ∧ d.fw.handover = none) := by
  decide +kernel

/-- A device with firmware state as given. -/
def ranger (f : Firmware → Firmware) : State := at_ { live with fw := f live.fw }

/-- A live activation. -/
def live9 (ready : Bool) : Live := { m := 400000, started := 700, ready, block := false, passed := false }

/-- RangerDuplex: a current and a stale standby, no Ranger, a handover under way, a self-test, a live activation that is ready and one that is not. -/
theorem witness_RangerDuplex :
    (State.reset.dev.hg.devState = .bringup ∧ (ranger fun f => { f with rangerUp := false }).dev.fw.rangerUp = false) ∧
    (let d := (at_ live).dev
     d.hg.devState ≠ .bringup ∧ d.fw.rangerUp = true ∧ d.fw.standby = .current ∧ d.fw.live = none ∧ d.fw.handover = none ∧ d.hg.devState ≠ .safeHold) ∧
    (∀ st ∈ [Standby.stale, .booting], (ranger fun f => { f with standby := st }).dev.fw.standby = st ∧
      (ranger fun f => { f with standby := st }).dev.fw.rangerUp = true ∧ (ranger fun f => { f with standby := st }).dev.fw.live = none) ∧
    (let d := (ranger fun f => { f with handover := some 200, handoverCause := 5 }).dev
     d.fw.handover = some 200 ∧ d.fw.handoverCause = 5 ∧ d.hg.devState ≠ .bringup ∧ d.mb.chans = []) ∧
    (let d := (ranger fun f => { f with standby := .selfTest }).dev
     d.fw.standby = .selfTest ∧ d.fw.rangerUp = true ∧ d.fa.transients = [] ∧ d.sp.failed = []) ∧
    (let d := (ranger fun f => { f with live := some (live9 true) }).dev
     d.fw.live = some (live9 true) ∧ (live9 true).ready = true ∧ (live9 true).passed = false ∧ (live9 true).m ≤ d.rd.next ∧ (live9 true).block = false) ∧
    ((ranger fun f => { f with live := some (live9 false) }).dev.fw.live = some (live9 false) ∧ (live9 false).ready = false) := by
  decide +kernel

/-- A device in a stage of bring-up. -/
def stage (n : Nat) : State :=
  at_ { Dev.reset with hg := { Dev.reset.hg with stage := n }, fw := { Dev.reset.fw with rangerUp := true } }

/-- BringUp: stage 0 sound and failed, stage 9, discovery and steward start at the last compute site. -/
theorem witness_BringUp :
    ((at_ live).dev.bringing = false ∧ (at_ live).dev.hg.devState ≠ .bringup) ∧
    ((stage 0).dev.bringing = true ∧ (stage 0).dev.hg.stage = 0 ∧ StageFindings.good.rails = 0 ∧ StageFindings.good.fuseOk = true ∧ StageFindings.good.romA = true ∧ StageFindings.good.romB = true) ∧
    ({ StageFindings.good with fuseOk := false } : StageFindings).fuseOk = false ∧
    ((stage 9).dev.bringing = true ∧ (stage 9).dev.hg.stage = 9 ∧ (stage 9).dev.minimumOk = true) ∧
    ((stage 3).dev.hg.devState = .bringup ∧ (stage 3).dev.hg.stage = 3 ∧ (stage 3).dev.bu.running = true ∧ positions.contains 39 = true ∧
      (stage 3).dev.bu.replied.contains 39 = false ∧ (stage 3).dev.bu.excluded.contains 39 = false ∧ (stage 3).dev.manifestEntry 39 = (1, 0, 0) ∧
      (stage 3).dev.manifestEntry 39 ≠ (1, 0, 1) ∧ isCompute 39 = true) ∧
    ((stage 4).dev.hg.stage = 4 ∧ (stage 4).dev.bu.stewards.contains 39 = false) := by
  decide +kernel

end Sys2Proof.Tests
end

