-- ==== Sys2Proof/Tests/WitnessFirmware.lean ====
section
/-!
SUPPORT. Witnesses for the hypotheses of the statements about firmware, licences, debug tokens and test commands.
-/

-- Proofs one after another: the package as one text then needs less memory.
set_option Elab.async false

namespace Sys2Proof.Tests

open Sys2Proof Sys2Proof.Machine

/-- A FW_UPDATE_BEGIN of a firmware image of a length. -/
def beginCmd (length : Nat) : State := cmd live 0x0500 0 (pack [(1, 0), (3, 0), (4, length), (4, 2), (4, 0)])

/-- A configuration procedure with the blocks received. -/
def confProc (blocks : List (Nat × List Byte)) : Update := { target := 1, length := 64, version := 0, blocks }

/-- A device in a procedure. -/
def inProc (p : Option Update) : Dev := { live with fw := { live.fw with proc := p } }

/-- A FW_UPDATE_BLOCK of block 0 of a configuration at 64, with a CRC. -/
def blockCmd (crc : Nat) : State := cmd (inProc (some (confProc []))) 0x0501 0 (pack [(4, 0), (4, crc), (8, 64)])

/-- A configuration record with the lowest cap. -/
def confBytes : List Byte :=
  let b := pack [(4, 0x46434250), (2, 1), (2, 0), (8, 1), (1, 2), (1, 1), (1, 9), (1, 1), (4, 10000), (4, 12500), (1, 0x30), (1, 0x31), (1, 0x32), (1, 0),
    (2, 240), (2, 1000), (2, 1000), (2, 50), (4, 0), (16, 0)]
  b ++ leBytes 4 (crc32c b)

/-- A FW_UPDATE_COMMIT of it. -/
def commitCmd (p : Option Update) : State := cmd (inProc p) 0x0502 0 (pack [(8, 0)])

/-- A FW_ACTIVATE with a mode, of a committed image in slot B. -/
def activateCmd (mode : Nat) : State :=
  cmd { live with fw := { live.fw with update := 1, slotB := Slot.factory } } 0x0503 0 (pack [(1, mode), (7, 0)])

/-- The block that BLOCK reads can be read, whatever its CRC. -/
theorem block_read (crc : Nat) : ∃ bs, (blockCmd crc).dev.readBytes 64 65536 = some bs :=
  readBytes_isSome _ _ _ fun i hi => readByte_plain _ _ rfl rfl rfl rfl (Nat.lt_trans (Nat.add_lt_add_left hi 64) (by decide))

/-- The body of a BLOCK is what was put there. -/
theorem block_body (crc : Nat) : (blockCmd crc).body 0 = leBytes 4 0 ++ leBytes 4 crc ++ leBytes 8 64 := by with_unfolding_all rfl

/-- The CRC of a BLOCK is what was put there. -/
theorem block_crc (crc : Nat) (h : crc < 2 ^ 32) : u32 ((blockCmd crc).body 0) 4 = crc := by
  rw [block_body]
  simp only [u32, field, leBytes, leNat, List.cons_append, List.nil_append, List.drop, List.take]
  simp
  omega

/-- The address of a BLOCK is 64. -/
theorem block_address (crc : Nat) : u64 ((blockCmd crc).body 0) 8 = 64 := by rw [block_body]; rfl

/-- FirmwareUpdate: the shortest and the longest image begin; a block with its CRC and with another; a commit with and without a
procedure; an activation at the next start and a live one. -/
theorem witness_FirmwareUpdate :
    (∀ n ∈ [4096, 41943040], (beginCmd n).atWork 0x0500 0 = true ∧ u8 ((beginCmd n).body 0) 0 = 0 ∧ field ((beginCmd n).body 0) 1 3 = 0 ∧
      (beginCmd n).dev.fw.update ≠ 2 ∧ (beginCmd n).dev.fw.activated = false ∧ u32 ((beginCmd n).body 0) 4 = n ∧ (beginCmd n).dev.flashOk = true) ∧
    ((blockCmd 0).atWork 0x0501 0 = true ∧ (blockCmd 0).dev.fw.proc = some (confProc []) ∧ (confProc []).target = 1 ∧ u32 ((blockCmd 0).body 0) 0 = 0 ∧
      (confProc []).length = 64 ∧ (confProc []).blocks = [] ∧ u64 ((blockCmd 0).body 0) 8 = 64 ∧ (blockCmd 0).dev.rangePopulated 64 65536 = true ∧
      (blockCmd 0).dev.mustSnoop 64 65536 = false ∧ (blockCmd 0).dev.flashOk = true) ∧
    ((commitCmd (some (confProc [(0, confBytes)]))).atWork 0x0502 0 = true ∧ ((confProc [(0, confBytes)]).blocks.any (·.1 == 0)) = true ∧
      confOk (blockBytes 1 (confProc [(0, confBytes)]).blocks) = true ∧ allZero ((blockBytes 1 (confProc [(0, confBytes)]).blocks).drop 64) = true) ∧
    ((commitCmd none).atWork 0x0502 0 = true ∧ (commitCmd none).dev.fw.proc = none) ∧
    ((activateCmd 1).atWork 0x0503 0 = true ∧ u8 ((activateCmd 1).body 0) 0 = 1 ∧ (activateCmd 1).dev.fw.update = 1 ∧ (activateCmd 1).dev.flashOk = true) ∧
    ((activateCmd 0).atWork 0x0503 0 = true ∧ u8 ((activateCmd 0).body 0) 0 = 0 ∧ (activateCmd 0).dev.simplex = false ∧
      ((activateCmd 0).dev.slot (activateCmd 0).dev.otherSlot).image = Slot.factory.image ∧ Slot.factory.image.isSome = true ∧
      (Slot.factory.image.any (activateCmd 0).dev.liveFlag) = true) := by
  decide +kernel

/-- FirmwareUpdate: both outcomes of a block's CRC have a witness. -/
theorem witness_FirmwareUpdate_crc :
    (∃ crc bs, (blockCmd crc).dev.readBytes (u64 ((blockCmd crc).body 0) 8) 65536 = some bs ∧ crc32c bs = u32 ((blockCmd crc).body 0) 4) ∧
    (∃ crc bs, (blockCmd crc).dev.readBytes (u64 ((blockCmd crc).body 0) 8) 65536 = some bs ∧ crc32c bs ≠ u32 ((blockCmd crc).body 0) 4) := by
  obtain ⟨bs, h⟩ := block_read 0
  have same : ∀ crc, (blockCmd crc).dev.readBytes (u64 ((blockCmd crc).body 0) 8) 65536 = some bs := by
    intro crc
    rw [← h, block_address]
    exact readBytes_mem (blockCmd crc).dev (blockCmd 0).dev rfl rfl rfl _ _
  have lt := crc32c_lt bs
  refine ⟨⟨crc32c bs, bs, same _, (block_crc _ lt).symm⟩, ⟨(crc32c bs + 1) % 2 ^ 32, bs, same _, ?_⟩⟩
  rw [block_crc _ (Nat.mod_lt _ (by decide))]
  omega

/-- A licence record of a unit. -/
def licence (serial : Nat) : List Byte := pack [(4, 0x504D5453), (2, 1), (2, 0), (8, serial), (8, 15), (24, 0), (144, 0), (64, 0)]

/-- A LICENCE_INSTALL of it. -/
def licenceCmd (serial : Nat) : State := cmd live 0x0504 0 (licence serial)

/-- A DEBUG_NONCE_REQUEST. -/
def nonceCmd : State := cmd live 0x0506 0 (pack [(1, 1), (135, 0)])

/-- A DEBUG_UNLOCK with a token of a unit, after nonce 5 was given. -/
def unlockCmd (serial : Nat) : State :=
  cmd { live with fw := { live.fw with nonce := some 5 } } 0x0506 0
    (zeros 8 ++ pack [(4, 0x4B474244), (2, 1), (1, 1), (1, 0), (8, serial), (32, 5), (8, 3), (8, 0), (64, 0)])

/-- LicencesAndTokens: a licence of this unit and of another, a nonce, a token. -/
theorem witness_LicencesAndTokens :
    ((licenceCmd 0).atWork 0x0504 0 = true ∧ licenceBad (((licenceCmd 0).body 0).take 256) = false ∧
      u64 (((licenceCmd 0).body 0).take 256) 8 = (licenceCmd 0).dev.fw.serial ∧
      (licenceCmd 0).dev.fw.licences.contains (((licenceCmd 0).body 0).take 256) = false ∧ (licenceCmd 0).dev.fw.licences.length < 4096 ∧
      (licenceCmd 0).dev.flashOk = true) ∧
    ((licenceCmd 1).atWork 0x0504 0 = true ∧ licenceBad (((licenceCmd 1).body 0).take 256) = false ∧
      u64 (((licenceCmd 1).body 0).take 256) 8 ≠ (licenceCmd 1).dev.fw.serial) ∧
    (nonceCmd.atWork 0x0506 0 = true ∧ nonceCmd.dev.hg.devState = .ready ∧ u8 (nonceCmd.body 0) 0 = 1 ∧ allZero (((nonceCmd.body 0).take 136).drop 1) = true) ∧
    (∀ n ∈ [0, 1], (unlockCmd n).atWork 0x0506 0 = true ∧ (unlockCmd n).dev.hg.devState = .ready ∧ allZero (((unlockCmd n).body 0).take 8) = true ∧
      u8 ((unlockCmd n).body 0) 0 = 0 ∧ u32 ((((unlockCmd n).body 0).take 136).drop 8) 0 = 0x4B474244 ∧
      u16 ((((unlockCmd n).body 0).take 136).drop 8) 4 = 1 ∧ u8 ((((unlockCmd n).body 0).take 136).drop 8) 7 = 0 ∧
      u64 ((((unlockCmd n).body 0).take 136).drop 8) 56 = 0 ∧ u8 ((((unlockCmd n).body 0).take 136).drop 8) 6 = 1 ∧ (unlockCmd n).dev.fw.lifecycle = 1) := by
  decide +kernel

/-- A CRUISER_RUN over the last bytes of the interleaved view. -/
def cruiserCmd : State := cmd live 0x0605 0 (pack [(1, 16), (1, 3), (1, 2), (5, 0), (8, 0x100000000000), (8, 32)])
/-- A SELFTEST_RUN of the last usable Stand of a site. -/
def selftestCmd : State := cmd live 0x0604 0 (pack [(8, standUnit 39 132), (8, 0)])
/-- The same command with its test under way. -/
def selftestRuns : State :=
  { selftestCmd with dev := { selftestCmd.dev with ts.runs := [{ ch := some 0, unit := standUnit 39 132, since := 10 ^ 12, degraded := false, wasOut := false }] } }
/-- A TEST_MODE_ENTER of session 1. -/
def enterCmd : State := cmd open1 0x0700 1 (pack [(1, 5), (7, 0)])
/-- A TEST_MODE_EXIT in TEST. -/
def exitCmd : State := cmd { open1 with hg := { live.hg with devState := .test } } 0x0701 1 []

/-- TestCommands: a scan, a self-test, into TEST and out of it. -/
theorem witness_TestCommands :
    (cruiserCmd.atWork 0x0605 0 = true ∧ u8 (cruiserCmd.body 0) 0 = 16 ∧ u8 (cruiserCmd.body 0) 1 = 3 ∧ u8 (cruiserCmd.body 0) 2 = 2 ∧
      field (cruiserCmd.body 0) 3 5 = 0 ∧ u64 (cruiserCmd.body 0) 16 = 32 ∧ cruiserCmd.dev.scanRange 16 (u64 (cruiserCmd.body 0) 8) 32 = true ∧
      cruiserCmd.dev.contextFree 0 16 = true ∧ cruiserCmd.dev.rangePopulated (u64 (cruiserCmd.body 0) 8) 32 = true ∧
      cruiserCmd.dev.mustSnoop (u64 (cruiserCmd.body 0) 8) 32 = false) ∧
    (selftestCmd.atWork 0x0604 0 = true ∧ selfTestUnit (u64 (selftestCmd.body 0) 0) = true ∧ u8 (selftestCmd.body 0) 8 = 0 ∧
      selftestCmd.dev.testRefused (u64 (selftestCmd.body 0) 0) false = false ∧ selftestCmd.dev.ts.runs = []) ∧
    (selftestRuns.atWork 0x0604 0 = true ∧ u8 (selftestRuns.body 0) 8 = 0 ∧
      selftestRuns.dev.ts.runs.find? (fun r => r.ch == some 0 && decide ((selftestRuns.dev.chan 0).accepted ≤ r.since)) = selftestRuns.dev.ts.runs.head?) ∧
    (enterCmd.atWork 0x0700 0 = true ∧ enterCmd.dev.hg.devState = .ready ∧ u8 (enterCmd.body 0) 0 = 5 ∧ ∀ x ∈ enterCmd.dev.ses.list, x.id = enterCmd.session 0) ∧
    (exitCmd.dev.runs 0x0701 0 = true ∧ exitCmd.dev.hg.devState = .test) := by
  decide +kernel

end Sys2Proof.Tests
end

