-- ==== Sys2Proof/Tests/WitnessHost.lean ====
section
/-!
SUPPORT. Witnesses for the hypotheses of the statements about the mailbox, the registers, the host port and the TAP.
-/

-- Proofs one after another: the package as one text then needs less memory.
set_option Elab.async false

namespace Sys2Proof.Tests

open Sys2Proof Sys2Proof.Machine

/-- A command waits, as StepRunsFront supposes. -/
theorem witness_StepRunsFront : ({ at_ live with pending := [.commandStart] } : State).pending = [Instr.commandStart] := by decide

/-- Nothing waits, as IdleAdvancesCount supposes. -/
theorem witness_IdleAdvancesCount : (at_ live).pending = [] ∧ (at_ live).dev.fw.restartAt = none ∧ 0 ≤ 65536 + live.tb.incr := by decide

/-- Channel 255 holds a command with sequence number 7; or is queued already. -/
def ringing (st : ChanSt) : State :=
  at_ { live with mb.chans := [{ Channel.fresh 255 with st := st, page := cellsWrite [] 0 (cmdHeader 1 0 7 0 0) }] }

/-- DoorbellWrite: a doorbell is accepted, out of sequence, or meets a busy channel; without bit 32 it is none. -/
theorem witness_DoorbellWrite :
    (ringing .idle).dev.mailboxOpen = true ∧ (ringing .queued).dev.mailboxOpen = true ∧
    leNat (cellsRead ((ringing .idle).dev.chan 255).page 4 4) = (0x100000007 : Word).toNat % 2 ^ 32 ∧ ((ringing .idle).dev.chan 255).lastSeq ≠ 7 ∧
    ((ringing .idle).dev.chan 255).st = .idle ∧ ((ringing .queued).dev.chan 255).st = .queued ∧
    leNat (cellsRead ((ringing .idle).dev.chan 255).page 4 4) ≠ (0x100000008 : Word).toNat % 2 ^ 32 ∧
    (0x100000007 : Word).getLsbD 32 = true ∧ (0x100000008 : Word).getLsbD 32 = true ∧ (7 : Word).getLsbD 32 = false ∧ 0xFF3FF / 0x1000 = 255 ∧
    0xFF3FF % 0x1000 < 0x400 := by
  decide +kernel

/-- A command of an unknown opcode is the oldest in the queue. -/
def queued : State :=
  at_ { live with fw := { live.fw with running := { live.fw.running with rantilMajor := 1 } }
                  mb := { live.mb with queue := [0], chans := [{ Channel.fresh 0 with st := .queued, hdr := cmdHeader 0x7777 0 7 0 0 }] } }

/-- Channel 255 has an outcome. -/
def outcome255 : State :=
  at_ { live with mb.chans := [{ Channel.fresh 255 with st := .running, hdr := cmdHeader 1 0 7 0 0, outcome := some { status := 0, body := [1], effect := 0 } }] }

/-- CommandStartComplete: a queued command, and one with its outcome. -/
theorem witness_CommandStartComplete :
    (queued.dev.mb.queue = [0] ∧ queued.dev.hg.mbReady = true ∧ queued.dev.fw.rangerUp = true ∧ queued.dev.fw.handover = none ∧
      queued.dev.fw.live = none ∧ queued.dev.running < 16 ∧ queued.dev.versionMatches = true ∧ opInfo (queued.dev.chan 0).opcode = none) ∧
    outcome255.outcome 255 = some { status := 0, body := [1], effect := 0 } ∧ (outcome255.dev.chan 255).st = .running ∧
      outcome255.dev.fw.handover = none ∧ (outcome255.dev.chan 255).opcode = 1 := by
  decide +kernel

/-- EveryCommandCompletes: a command other than COMMAND_START, one of the same Rantil version in front, and one of another. -/
theorem witness_EveryCommandCompletes :
    Instr.perstAssert ≠ .commandStart ∧ queued.dev.versionMatches = true ∧ queued.dev.nextStart = some 0 ∧ (queued.dev.chan 0).opcode ≠ 0x0001 ∧
    ({ queued.dev with fw := { live.fw with running := { live.fw.running with rantilMajor := 9 } } } : Dev).versionMatches = false ∧
    ({ queued.dev with fw := { live.fw with running := { live.fw.running with rantilMajor := 9 } } } : Dev).nextStart = some 0 := by
  decide +kernel

/-- RegisterWrite: a link, and a misaligned access; no link after reset. -/
theorem witness_RegisterWrite :
    State.reset.dev.hg.linkWidth = 0 ∧ (at_ live).dev.hg.linkWidth ≠ 0 ∧ aligned48 0xFFF 4 = false ∧ aligned48 0x2C 8 = false := by decide +kernel

/-- HostPortResets: PERST# asserted and not, no host read waiting; the restart key with bit 16, the key without it, another key. -/
theorem witness_HostPortResets_key :
    (at_ live).dev.bu.perst = false ∧ ({ live with bu := { live.bu with perst := true } } : Dev).bu.perst = true ∧ (at_ live).dev.ts.ir ≠ 0 ∧
    (at_ live).dev.hg.hostReads = [] ∧
    (at_ live).dev.hg.linkWidth ≠ 0 ∧ (0x15A3C : Word).toNat % 65536 = 0x5A3C ∧ (0x15A3C : Word).getLsbD 16 = true ∧
    (0x5A3C : Word).getLsbD 16 = false ∧ (0x15A3D : Word).toNat % 65536 ≠ 0x5A3C := by decide

/-- A live device with the last vector pending, with or without a secured link. -/
def linked (ide : Nat) : State := at_ { live with hg := { live.hg with msixPending := [2047], ide } }

/-- HostPortEvents: a pending message, a secured and an unsecured link, a usable device key and one that is not. -/
theorem witness_HostPortEvents :
    (2047 < 2048 ∧ (linked 0).dev.hg.linkWidth ≠ 0 ∧ (linked 0).dev.hg.msixEn = true ∧ (linked 0).dev.hg.bme = true ∧
      (linked 0).dev.hg.msixFnMask = false ∧ (linked 0).dev.hg.msixPending = [2047]) ∧
    ((at_ live).dev.bu.perst = false ∧ (at_ live).dev.th.heldInReset = false ∧ (at_ live).dev.hg.msixPending = []) ∧
    (linked 1).dev.hg.ide = 1 ∧ (linked 2).dev.hg.ide ≠ 1 ∧ (at_ live).dev.keyUsable = true ∧
    ({ live with fw := { live.fw with lifecycle := 3 } } : Dev).keyUsable = false := by decide

/-- A device in a lifecycle state, with a debug scope. -/
def lifeOf (lifecycle scope : Nat) (perst : Bool) : State :=
  at_ { live with fw := { live.fw with lifecycle, scope }, bu := { live.bu with perst } }

/-- TapInstructions: each lifecycle state, DEBUG with and without each scope. -/
theorem witness_TapInstructions :
    ((lifeOf 0 0 false).dev.faultsTaken = true ∧ State.reset.dev.faultsTaken = false) ∧
    ([0, 1, 2, 3].map fun k => (lifeOf k 0 false).dev.fw.lifecycle) = [0, 1, 2, 3] ∧
    (lifeOf 2 0x10 false).dev.fw.scope.testBit 4 = true ∧ (lifeOf 2 0x20 false).dev.fw.scope.testBit 4 = false ∧
    (lifeOf 2 0x20 false).dev.fw.scope.testBit 5 = true ∧ (lifeOf 2 0x10 false).dev.fw.scope.testBit 5 = false ∧
    (lifeOf 2 8 false).dev.fw.scope.testBit 3 = true ∧ ([0, 1, 2, 3].all fun k => !(lifeOf 2 0x30 false).dev.fw.scope.testBit k) = true := by decide

/-- StatusQueries: each query at work, and the last plane of CALIBRATION_STATUS. -/
theorem witness_StatusQueries :
    ([0x0001, 0x0002, 0x0013, 0x0505, 0x0405, 0x0403, 0x0305, 0x0603].all fun op => (cmd live op 0 []).atWork op 0) = true ∧
    (cmd live 0x0603 0 [3]).atWork 0x0603 0 = true ∧ u8 ((cmd live 0x0603 0 [3]).body 0) 0 ≤ 3 := by decide +kernel

/-- The reads of BufferReads: without a buffer, with one too small, and with one that is large enough. -/
def bufferRead (op : Nat) (body : List Byte) : State := cmd live op 0 body

/-- A DEFECT_MAP_READ whose buffer has n bytes. -/
def mapRead (n : Nat) : State := bufferRead 0x0602 (pack [(8, 64), (8, n)])

/-- A TELEMETRY_READ of the standing grants whose buffer has n bytes. -/
def grantRead (n : Nat) : State := bufferRead 0x0600 (pack [(2, 2), (2, 0xFFFF), (4, 0), (8, 64), (8, n)])

/-- A BRINGUP_LOG_READ of n bytes of records. -/
def stageRead (ready : Bool) (n : Nat) : State := cmd { live with mem := { live.mem with ready } } 0x0003 0 (pack [(8, 64), (4, n)])

/-- An EVENT_LOG_READ with room for two entries. -/
def eventRead : State := bufferRead 0x0601 (pack [(8, 0), (4, 2), (4, 0), (8, 64)])

/-- BufferReads: a buffer that is legal, and too small or large enough. -/
theorem witness_BufferReads :
    (∀ n ∈ [0, 32], (stageRead true n).atWork 0x0003 0 = true ∧ (stageRead false n).atWork 0x0003 0 = true ∧
      u64 ((stageRead true n).body 0) 0 % 64 = 0 ∧ u32 ((stageRead true n).body 0) 8 % 32 = 0 ∧ (stageRead true n).dev.mem.ready = true ∧
      (stageRead true n).dev.hbmRange (u64 ((stageRead true n).body 0) 0) (u32 ((stageRead true n).body 0) 8) = true ∧
      (stageRead false n).dev.mem.ready = false) ∧
    (∀ n ∈ [63, 64], (mapRead n).atWork 0x0602 0 = true ∧ (mapRead n).dev.bufferOk (u64 ((mapRead n).body 0) 0) (u64 ((mapRead n).body 0) 8) = true ∧
      u64 ((mapRead n).body 0) 8 = n) ∧ 64 + 32 * (mapRead 64).dev.sp.fdm.length = 64 ∧
    (eventRead.atWork 0x0601 0 = true ∧ eventRead.dev.bufferOk (u64 (eventRead.body 0) 16) (32 * u32 (eventRead.body 0) 8) = true ∧
      u32 (eventRead.body 0) 12 = 0) ∧
    (∀ n ∈ [15, 16], (grantRead n).atWork 0x0600 0 = true ∧ u16 ((grantRead n).body 0) 0 = 2 ∧ u16 ((grantRead n).body 0) 2 = 0xFFFF ∧
      u32 ((grantRead n).body 0) 4 = 0 ∧ (grantRead n).dev.bufferOk (u64 ((grantRead n).body 0) 8) (u64 ((grantRead n).body 0) 16) = true ∧
      (grantRead n).dev.ba.standing.all (fun g => decide (g.plane < 4)) = true ∧ u64 ((grantRead n).body 0) 16 = n) ∧
    16 + 16 * (grantRead 16).dev.ba.standing.length = 16 := by
  decide +kernel

end Sys2Proof.Tests
end

