-- ==== Sys2Proof/Tests/WitnessRounds.lean ====
section
/-!
SUPPORT. Witnesses for the hypotheses of the statements about resets, host memory, snoops and rounds.
-/

-- Proofs one after another: the package as one text then needs less memory.
set_option Elab.async false

namespace Sys2Proof.Tests

open Sys2Proof Sys2Proof.Machine

/-- A device with PERST# asserted or not. -/
def held (perst : Bool) : State := at_ { live with bu := { live.bu with perst } }

/-- HostPortResets: PERST# asserted, not asserted, and no read of host memory outstanding. -/
theorem witness_HostPortResets :
    (held true).dev.bu.perst = true ∧ (held true).dev.ts.ir ≠ 0 ∧ (held false).dev.bu.perst = false ∧ (held false).dev.hg.hostReads = [] := by decide

/-- A device whose secured link failed or not, with memory active or not. -/
def cxl (ide : Nat) (memEn memActive : Bool) : State := at_ { live with hg := { live.hg with ide, memEn, memActive } }

/-- HostMemoryAccess: no decoder, a failed link, memory that is not active, and the last line of the interleaved view. -/
theorem witness_HostMemoryAccess :
    (zeros 64).length = 64 ∧ (cxl 0 false true).dev.cxlReady = false ∧ ((cxl 2 true true).dev.cxlReady = true ∧ (cxl 2 true true).dev.hg.ide = 2) ∧
    ((cxl 0 true false).dev.cxlReady = true ∧ (cxl 0 true false).dev.hg.ide ≠ 2 ∧ (cxl 0 true false).dev.cxlOut 0 = true) ∧
    ((cxl 0 true true).dev.cxlReady = true ∧ (cxl 0 true true).dev.hg.ide ≠ 2 ∧
      (hbmBytes - 1) / 64 * 64 = 1279999999936 ∧ (cxl 0 true true).dev.cxlOut 1279999999936 = false ∧
      placeOf (cxl 0 true true).dev.mBytes 1279999999936 = .hbm 13 79999999936 ∧
      ((cxl 0 true true).dev.hostLine 1279999999936).isSome = true ∧
      (cxl 0 true true).dev.firstOp 13 (79999999936 / 256) = none ∧ (cxl 0 true true).dev.homeStack 13 79999999936 = 13 ∧
      ((cxl 0 true true).dev.stack 13).resetting = false ∧ (cxl 0 true true).dev.hg.snoopFilter.length < 8388608 ∧
      ((cxl 0 true true).dev.readBytes 1279999999936 64).isSome = true ∧ (cxl 0 true true).dev.opRoom 13 1 = true ∧
      (cxl 0 true true).dev.fencedLine 13 79999999936 = false) := by
  decide +kernel

/-- A snoop of line 9 that waits. -/
def snoop9 (inv : Bool) : Snoop := { line := 9, inv, sent := 500 }

/-- A device that waits for it. -/
def snooping (inv : Bool) : State := at_ { live with hg := { live.hg with snoops := [snoop9 inv], snoopFilter := [(9, true)] } }

/-- A result ring in host memory with 5 results published and 2 consumed. -/
def hostRing : ResultRing := { result2 with host := true, stream := some 0, published := 5, written := 5, consumed := 2 }

/-- A read of its count of consumed results. -/
def consumedRead : HostRead := { addr := 256, len := 8, purpose := .consumed 2, issued := 500, dev := false }

/-- A device that waits for it. -/
def consuming : State :=
  at_ { live with hg := { live.hg with hostReads := [consumedRead] }, str := { live.str with results := [hostRing] } }

/-- HostSnoops: a snoop of either kind, none, and a read of consumed with the largest legal value. -/
theorem witness_HostSnoops :
    ((snooping false).dev.hg.snoops.find? (·.line == 9) = some (snoop9 false) ∧ (snooping false).dev.hg.hostReads = []) ∧
    (at_ live).dev.hg.snoops.find? (·.line == 9) = none ∧
    ((snooping true).dev.hg.snoops.find? (·.line == 9) = some (snoop9 true) ∧ (snoop9 true).inv = true ∧ (snooping true).dev.hg.hostReads = []) ∧
    (consuming.dev.hg.hostReads.find? (fun r => !r.dev && r.addr == 256) = some consumedRead ∧ consumedRead.purpose = .consumed 2 ∧ consuming.dev.hostOk = true ∧
      consuming.dev.str.results.find? (·.handle == 2) = some hostRing ∧ consuming.dev.str.waiting = false ∧ consumedRead.len = 8 ∧ hostRing.host = true ∧
      hostRing.consumed < 5 ∧ 5 ≤ hostRing.published) := by
  decide

/-- RoundBoundaries: before S1 and after it. -/
theorem witness_RoundBoundaries : State.reset.dev.hg.xtbShown = false ∧ (at_ live).dev.hg.xtbShown = true := by decide

/-- An item that has been loaded. -/
def item0 (stage : ItemStage) : Item :=
  { seq := 0, desc := [], ring := 1, index := 0, round := 0, due := 0, stage, dispatched := 0, pos := 0, payload := some (zeros 64), payloadPoison := false, status := 0
    detail := 0, completion := 0, flags := 0, result := [], decode := none, tokens := 0, context := 0, emitted := 0, values := [] }

/-- A device with a stream whose result ring has a result written and whose item is at a stage. -/
def round0 (stage : ItemStage) : State :=
  at_ { streaming [{ stream0 false with items := [item0 stage] }] with
        str := { live.str with list := [{ stream0 false with items := [item0 stage] }], intakes := [intake1], results := [{ result2 with stream := some 0, written := 1 }]
                               touched := [2] } }

/-- RoundPoints: a round in progress in which no point has been reached, an item that is ready, a ring with a result. -/
theorem witness_RoundPoints :
    (round0 .ready).dev.rd.active = true ∧ (∀ p ∈ [RoundPoint.descRead, .calOpen, .calClose, .dispatch, .stageDeadline, .window, .pubDeadline],
      (round0 .ready).dev.rd.done.contains p = false) ∧ (round0 .ready).dev.hg.devState = .ready ∧ (round0 .ready).dev.stoppedCores = [] ∧
    (round0 .ready).dev.str.slack = false ∧ (∀ k, ((round0 .ready).dev.site k).phase = .running) ∧
    ((round0 .ready).dev.str.list.map fun st => ((round0 .ready).dev.frameOf st).map fun x => x.p.unplaced) = [some []] ∧
    ((item0 .ready).stage = .ready ∧ (item0 .ready).decode = none) ∧ (round0 .ready).dev.str.waiting = false ∧
    ((round0 .ready).dev.str.results.map (·.handle)).Nodup ∧ (∀ r ∈ (round0 .ready).dev.str.results, r.stream.isSome = true ∧
      (round0 .ready).dev.str.touched.contains r.handle = true) ∧ (round0 .ready).dev.sw.joined = false := by
  refine ⟨by decide +kernel, by decide +kernel, by decide +kernel, by decide +kernel, by decide +kernel, fun k => rfl, by decide +kernel,
    by decide +kernel, by decide +kernel, by decide +kernel, by decide +kernel, by decide +kernel⟩

/-- The stream of `round0`. -/
def sharing (left : List Nat) : Machine.Stream := { stream0 false with items := [item0 (.running 0 left)] }

/-- ShareCompletion: no stream, no such batch, and a batch that waits for the last site. -/
theorem witness_ShareCompletion :
    isComputeSite 39 = true ∧ (at_ live).dev.stream? 0 = none ∧
    ((round0 (.running 0 [8])).dev.stream? 0 = some (sharing [8]) ∧ ∀ m ∈ (sharing [8]).items, m.inBatch 0 39 = false) ∧
    ((round0 (.running 0 [39])).dev.stream? 0 = some (sharing [39]) ∧ (∃ m ∈ (sharing [39]).items, m.inBatch 0 39 = true) ∧
      ([39] : List Nat).Nodup ∧ (item0 (.running 0 [39])).dispatched ≤ (item0 (.running 0 [39])).dispatched) := by
  decide

end Sys2Proof.Tests
end

