-- ==== Sys2Proof/Tests/WitnessSpillway.lean ====
section
/-!
SUPPORT. Witnesses for the hypotheses of the statements about the Spillway fabric.
-/

-- Proofs one after another: the package as one text then needs less memory.
set_option Elab.async false

namespace Sys2Proof.Tests

open Sys2Proof Sys2Proof.Machine

/-- Body of a FABRIC_JOIN: node 7, port 7, epoch 3, timeout 20 µs, 31 hops, member of group 9 whose root is node 8. -/
def joinBody : List Byte := pack [(2, 7), (1, 0x80), (1, 0), (4, 3), (4, 20), (1, 31), (1, 1), (2, 9), (2, 8), (2, 0), (4, 0), (8, 0), (8, 0)]

/-- The device in the fabric as node 7 of epoch 3, with a port 7 as given; node 8 lies beyond it. -/
def joined (f : FPort → FPort) : Dev :=
  { live with
      sw := { live.sw with
                joined := true, node := 7, epoch := 3, enabled := 0x80, role := 1, group := 9, root := 8, table := [(8, 15)]
                ports := [f { FPort.fresh 7 with st := .up, reqCredit := 48, rspCredit := 16 }] } }

/-- Port 7 in a state. -/
def port7 (st : PortSt) : State := at_ (joined fun p => { p with st })

/-- An operation of thread `unit` that waits for node 8. -/
def swOp (left : Option Nat) : SwOp :=
  { gen := 255, unit := 5, engine := 54, plane := 0, issued := 500, left
    ask := { op := 1, aop := 0, aty := 0, size := 8, status := 0, address := 8 * 2 ^ 48, port := 0, unit := 5, tag := 1, data := [], fromHost := false } }

/-- The device with that operation. -/
def withOp (left : Option Nat) : State := at_ { joined id with sw := { (joined id).sw with ops := [swOp left] } }

/-- FabricMembership: joined and not, with and without the licence; leaving with and without an operation. -/
theorem witness_FabricMembership :
    ((cmd (joined id) 0x0302 0 joinBody).atWork 0x0302 0 = true ∧ (cmd (joined id) 0x0302 0 joinBody).dev.sw.joined = true) ∧
    (∀ v ∈ [0, 1], let s := cmd { live with fw := { live.fw with features := v }, tb := { live.tb with st := .locked } } 0x0302 0 joinBody
      s.atWork 0x0302 0 = true ∧ s.dev.sw.joined = false ∧ s.dev.noBarrier = false ∧ joinFits (s.body 0) = true ∧ u8 (s.body 0) 13 ≠ 2 ∧
        bitOf s.dev.fw.features 0 = (v == 1)) ∧
    ((cmd (joined id) 0x0303 0 []).atWork 0x0303 0 = true ∧ (cmd (joined id) 0x0303 0 []).dev.sw.joined = true ∧
      (cmd (joined id) 0x0303 0 []).dev.sw.leaving = none ∧ (cmd (joined id) 0x0303 0 []).dev.sw.ops = []) ∧
    (let s := cmd (withOp none).dev 0x0303 0 []
     s.atWork 0x0303 0 = true ∧ s.dev.sw.joined = true ∧ s.dev.sw.leaving = none ∧ s.dev.sw.ops ≠ []) := by
  decide +kernel

/-- A frame of a kind from node 8. -/
def frame8 (kind size : Nat) (payload : List Byte) : Frame :=
  { kind, enc := false, poison := false, posted := false, last := true, dst := 7, src := 8, address := 7 * 2 ^ 48 + 0x100000000000, gen := 255, unit := 5
    hops := 1, credit := 0, epoch := 3, aop := 0, aty := 0, status := 0, size, counter := 0, tagOk := true, payload }

/-- Each request frame with a payload that fits its kind. -/
def requests8 : List Frame :=
  [frame8 1 256 [], frame8 2 256 (zeros 256), frame8 3 4 (zeros 4), frame8 4 4096 (zeros 4096), frame8 5 4096 []]

/-- SpillwayArrivals: a port that is DARK; each request for this node; one that does not fit; a late and an awaited response; frames in
transit with 0 and 1 hops left. -/
theorem witness_SpillwayArrivals :
    (∀ f ∈ requests8, f.wf = true ∧ (at_ (joined id)).dev.sw.deliver = [] ∧ ((at_ (joined id)).dev.fport 7).authentic f = true ∧
      epochOk (at_ (joined id)).dev.sw.epoch f.epoch = true ∧ f.dst = (at_ (joined id)).dev.sw.node ∧ frameFits f = true ∧ f.poison = false ∧
      (at_ (joined id)).dev.frameHome f = some 0 ∧ (at_ (joined id)).dev.homeRoom (engineOf 7) 0 = true) ∧
    (((at_ (joined id)).dev.fport 7).st = .up ∧ ((at_ (joined id)).dev.fport 7).skipping = false ∧ ((at_ (joined id)).dev.fport 7).discRound ≠ 4 ∧
      (at_ (joined id)).dev.hg.devState ≠ .safeHold ∧ ((port7 .dark).dev.fport 7).st ≠ .up) ∧
    frameFits (frame8 1 264 []) = false ∧
    (frameFits (frame8 0x81 8 (zeros 8)) = true ∧ (at_ (joined id)).dev.opOf (frame8 0x81 8 (zeros 8)) = none) ∧
    (let f := { frame8 0x81 8 (zeros 8) with address := 8 * 2 ^ 48 }
     frameFits f = true ∧ (withOp (some 600)).dev.opOf f = some (swOp (some 600)) ∧ (swOp (some 600)).ask.op + 0x80 = f.kind ∧ (swOp (some 600)).ask.op < 4 ∧
       (withOp (some 600)).dev.sw.leaving = none) ∧
    (∀ hops ∈ [0, 1], let f := { frame8 1 8 [] with dst := 8, src := 9, hops }
      f.wf = true ∧ f.dst ≠ (at_ (joined id)).dev.sw.node ∧ frameFits f = true ∧ f.hops = hops ∧ (at_ (joined id)).dev.route f.dst = some 7) := by
  decide +kernel

/-- A frame that waits at port 7. -/
def queued8 (since : Nat) (from_ : Option Nat) : TxFrame := { frame := { frame8 1 8 [] with dst := 8, src := 7 }, since, from_ }

/-- SpillwaySending: a credit and none, UP and not, discarding to the next marker, none, one and two wrong symbols, an
operation timed and none, a queue and none. -/
theorem witness_SpillwaySending :
    (let s := at_ (joined fun p => { p with queue := [queued8 500 none, queued8 900 (some 6)] })
     (s.dev.fport 7).queue.find? (fun x => decide (0 < (if isRsp x.frame then (s.dev.fport 7).rspCredit else (s.dev.fport 7).reqCredit))) =
       some (queued8 500 none) ∧ (s.dev.fport 7).st = .up ∧ s.dev.sw.deliver = [] ∧ (s.dev.fport 7).queue ≠ []) ∧
    (let s := at_ (joined fun p => { p with reqCredit := 0, queue := [queued8 500 none] })
     (s.dev.fport 7).queue.find? (fun x => decide (0 < (if isRsp x.frame then (s.dev.fport 7).rspCredit else (s.dev.fport 7).reqCredit))) = none) ∧
    (let p := (at_ (joined id)).dev.fport 7
     p.skipping = false ∧ p.laneMap = none ∧ p.keySwitch = none ∧ p.txSwitch = none ∧ p.discRound ≠ 4 ∧ p.queue = [] ∧
       (at_ (joined id)).dev.ba.out = [] ∧ (at_ (joined id)).dev.ba.recv = []) ∧
    ((at_ (joined id)).dev.fibreWrong 7 1023 [] = 0 ∧ (at_ (joined id)).dev.fibreWrong 7 1023 [35] = 1 ∧ (at_ (joined id)).dev.fibreWrong 7 1023 [0, 35] = 2) ∧
    (((port7 .dark).dev.fport 7).st ≠ .up ∧ ((port7 .dark).dev.fport 7).st ≠ .training) ∧
    ((at_ (joined fun p => { p with skipping := true })).dev.fport 7).skipping = true ∧
    ((at_ (joined id)).dev.sw.ops = [] ∧ (withOp (some 600)).dev.sw.ops = [swOp (some 600)] ∧ (withOp (some 600)).dev.sw.leaving = none ∧
      (swOp (some 600)).gen = 255 ∧ (swOp (some 600)).unit = 5 ∧ (withOp (some 600)).dev.sw.deliver = []) := by
  decide +kernel

/-- A port with encryption. -/
def keyedPort (st : PortSt) (keyed : Bool) (n : Nat) : State :=
  let d := joined fun p => { p with st, enc := true, keyed, helloIn := true, txCounter := n, trainSince := some 400 }
  at_ { d with sw := { d.sw with encMask := 0x80 } }

/-- LinkManagement: a port in each state, every line in lock and the last one not, epochs accepted and not, encryption in force, key counts on both sides of 2^31. -/
theorem witness_LinkManagement :
    (((port7 .training).dev.fport 7).st = .training ∧ (port7 .training).dev.epochAccepted 3 = true ∧ (port7 .training).dev.epochAccepted 2 = true ∧
      (port7 .training).dev.epochAccepted 4 = false ∧ (port7 .training).dev.epochAccepted 1 = false ∧ ((port7 .training).dev.fport 7).lost = false ∧
      ((port7 .training).dev.fport 7).helloIn = false ∧ bitOf (port7 .training).dev.sw.encMask 7 = false) ∧
    (((port7 .up).dev.fport 7).st = .up ∧ ((port7 .up).dev.fport 7).lost = false ∧ ((port7 .up).dev.fport 7).laneMap = none ∧ mapOk (List.range 18) = true ∧
      (List.range 18).length = 18) ∧
    (((port7 .down).dev.fport 7).st = .down ∧ ((port7 .probing).dev.fport 7).st = .probing) ∧
    (∀ n ∈ [2 ^ 31 - 1, 2 ^ 31], ((keyedPort .up true n).dev.fport 7).st = .up ∧ ((keyedPort .up true n).dev.fport 7).enc = true ∧
      ((keyedPort .up true n).dev.fport 7).txCounter = n) ∧
    (((keyedPort .training false 0).dev.fport 7).st = .training ∧ bitOf (keyedPort .training false 0).dev.sw.encMask 7 = true ∧
      (keyedPort .training false 0).dev.keyUsable = true) ∧
    (((keyedPort .training true 0).dev.fport 7).helloIn = true ∧ ((keyedPort .training true 0).dev.fport 7).keyed = true ∧
      ((keyedPort .training true 0).dev.fport 7).trainSince = some 400) ∧
    (let d := (at_ (joined fun p => { p with st := .training, helloIn := true, marker := some 0 })).dev
     bitOf d.sw.encMask 7 = false ∧ (d.fport 7).marker ≠ none ∧ d.linesReady 7 = true) ∧
    (let d := (at_ { (joined fun p => { p with st := .training, helloIn := true, marker := some 0 }) with
        op := { live.op with rings := [{ Ring.fresh { port := 71, plane := 0, side := .rx, idx := 17 } with locked := false }] } }).dev
     d.linesReady 7 = false) ∧
    ((port7 .up).dev.comb 3 2).failed = false := by
  decide +kernel

/-- The device as root of the group, or as a member of it, with the round's arrivals so far. -/
def barrier (role : Nat) (arrivals : List (Nat × Bool)) : State :=
  let d := joined id
  at_ { d with tb := { d.tb with st := .locked }, sw := { d.sw with role, root := if role = 2 then 0xFFFF else 8, members := if role = 2 then [8, 9] else [], arrivals } }

/-- A barrier frame of round 0 of group 9 from node 8. -/
def barrierFrame8 (kind : Nat) : Frame := frame8 kind 16 (barrierRecord 0 9 false 3)

/-- RackBarriers: no round; a member that arrives; a root with an arrival to come; all in; a member's release, miss, withdrawal, rejoin. -/
theorem witness_RackBarriers :
    State.reset.dev.rd.active = false ∧
    (let d := (barrier 1 []).dev
     d.rd.active = true ∧ d.sw.arrived = false ∧ d.inBarrier = true ∧ (d.reach (d.rd.start + d.rd.period - 40000)).inBarrier = true ∧
      (∀ o ∈ [25000, 10000], (d.reach (d.rd.start + (d.rd.period - o))).inBarrier = true) ∧ d.sw.role = 1 ∧ d.route d.sw.root = some 7 ∧ d.coveredOps = false ∧
      d.rd.done.contains .arriveDeadline = false ∧ d.sw.outcome = none ∧ d.rd.done.contains .barrierMissed = false) ∧
    (∀ kind ∈ [0x10, 0x11, 0x12, 0x13], let f := barrierFrame8 kind
      let d := (barrier (if kind = 0x10 then 2 else 1) []).dev
      f.wf = true ∧ f.kind = kind ∧ (d.fport 7).st = .up ∧ (d.fport 7).skipping = false ∧ (d.fport 7).authentic f = true ∧ frameFits f = true ∧
        epochOk d.sw.epoch f.epoch = true ∧ f.dst = d.sw.node ∧ d.hg.devState ≠ .safeHold ∧ d.ofRound f true = true ∧ d.ofRound f false = true) ∧
    (let d := (barrier 2 []).dev
     d.sw.role = 2 ∧ d.inBarrier = true ∧ (d.reach (d.rd.start + (d.rd.period - 15000))).inBarrier = true ∧ d.sw.released = false ∧ d.expectedNodes = [7, 8, 9] ∧ (barrierFrame8 0x10).src = 8 ∧
      d.sw.arrivals.any (·.1 == 8) = false ∧ d.sw.arrivals.any (·.1 == 9) = false ∧ d.rd.active = true ∧ d.rd.done.contains .releaseDeadline = false) ∧
    (barrier 2 [(7, false), (8, false), (9, false)]).dev.sw.released = false ∧
    ((barrierFrame8 0x11).src = (barrier 1 []).dev.sw.root ∧ (barrier 1 []).dev.sw.outcome = none) := by
  decide +kernel

/-- Line 15 of Basin port 54 at plane 3 and line 15 of fibre port 7 out of lock. -/
def unlocked : Dev :=
  { joined id with op := { live.op with rings :=
      [{ Ring.fresh { port := 54, plane := 3, side := .rx, idx := 15 } with locked := false },
        { Ring.fresh { port := 71, plane := 0, side := .rx, idx := 15 } with locked := false }] } }

/-- LinkCodewords: 16 bytes, an interval of codewords of 36 symbols, a plane lane and a fibre lane that do not arrive, the last lane. -/
theorem witness_LinkCodewords :
    (zeros 16).length = 16 ∧ (List.replicate 1024 (List.replicate 36 15)).length = 1024 ∧
    (∀ w ∈ List.replicate 1024 (List.replicate 36 15), w.length = 36) ∧ 15 < 16 ∧ pam4 15 = pam4 15 ∧ 64 ≤ 71 ∧ 17 < 18 ∧
    unlocked.laneLive 39 54 3 15 = false ∧ (unlocked.ring { port := 64 + 7, plane := 0, side := .rx, idx := 15 }).locked = false ∧
    (unlocked.fport 7).faultLane ≠ 15 ∧ (unlocked.fport 7).calLane ≠ 15 ∧ (unlocked.fport 7).calNow ≠ some 15 := by
  refine ⟨rfl, List.length_replicate .., fun w h => by rw [List.eq_of_mem_replicate h]; rfl, ?_⟩
  decide +kernel

end Sys2Proof.Tests
end

section
/-!
PROOFS. The resets of the host port (chapter 11 R351, R358, R362; chapter 19 R514, R519): what PERST#, the restart key and a hot
reset change.
-/

set_option Elab.async false

namespace Sys2Proof.Machine

/-! ## The error bits of the host port -/

/-- Setting a bit that is already 1 changes nothing. -/
theorem or_one_shiftLeft_of_getLsbD {w : Word} {bit : Nat} (h : w.getLsbD bit = true) : w ||| ((1 : Word) <<< bit) = w := by
  ext i hi
  by_cases hb : i = bit
  · subst hb
    simp [← BitVec.getLsbD_eq_getElem, h]
  · have hne : i < bit ∨ i - bit ≠ 0 := by omega
    rcases hne with hlt | hsub <;> simp [*]

@[simp] theorem sendMsix_errstat (d : Dev) (v : Nat) : (d.sendMsix v).hg.errstat = d.hg.errstat := by
  unfold Dev.sendMsix
  split <;> rfl

@[simp] theorem raiseInt_errstat (d : Dev) (bit : Nat) : (d.raiseInt bit).hg.errstat = d.hg.errstat := by
  unfold Dev.raiseInt
  split
  · rfl
  · dsimp only
    split
    · rw [sendMsix_errstat]
    · rfl

@[simp] theorem setErr_errstat (d : Dev) (bit : Nat) : (d.setErr bit).hg.errstat = d.hg.errstat ||| ((1 : Word) <<< bit) := by
  unfold Dev.setErr
  split
  case isTrue h => exact (or_one_shiftLeft_of_getLsbD h).symm
  case isFalse => rw [raiseInt_errstat]

/-! ## A full device reset (R362): the parts at their values after power-on, and what is kept -/

@[simp] theorem restart_hg (d : Dev) (keepLatch : Bool) :
    (d.restart keepLatch).hg = { HostPort.reset with hostMem := d.hg.hostMem } := rfl

@[simp] theorem restart_queue (d : Dev) (keepLatch : Bool) : (d.restart keepLatch).mb.queue = [] := rfl

@[simp] theorem restart_ses (d : Dev) (keepLatch : Bool) : (d.restart keepLatch).ses = Dev.reset.ses := rfl

@[simp] theorem restart_gr (d : Dev) (keepLatch : Bool) : (d.restart keepLatch).gr = Dev.reset.gr := rfl

@[simp] theorem restart_str (d : Dev) (keepLatch : Bool) : (d.restart keepLatch).str = Dev.reset.str := rfl

@[simp] theorem restart_mem (d : Dev) (keepLatch : Bool) : (d.restart keepLatch).mem = Dev.reset.mem := rfl

/-- The event log in the flash is kept. -/
@[simp] theorem restart_entries (d : Dev) (keepLatch : Bool) : (d.restart keepLatch).lg.entries = d.lg.entries := rfl

/-- The fuses and the firmware slots in the flash are kept. -/
theorem restart_firmware (d : Dev) (keepLatch : Bool) :
    (d.restart keepLatch).fw.serial = d.fw.serial ∧ (d.restart keepLatch).fw.fuseF = d.fw.fuseF ∧
      (d.restart keepLatch).fw.slotA = d.fw.slotA ∧ (d.restart keepLatch).fw.slotB = d.fw.slotB := ⟨rfl, rfl, rfl, rfl⟩

/-! ## PERST# -/

/-- PERST# resets exactly as the restart key does (R351) but for the test interface, where an EXTEST stays in force, and for bring-up, which
waits for the release. -/
theorem perstAssert_eq_restart (d : Dev) :
    perstAssert d = { d.restart false with
      ts := (perstAssert d).ts
      bu := { (d.restart false).bu with perst := true, running := false } } := by
  unfold perstAssert
  dsimp only
  split <;> rfl

/-- The release begins bring-up at S0, with the count at 0, when the input is good (R514). -/
theorem perstDeassert_of_perst {d : Dev} (hp : d.bu.perst = true) (hir : d.ts.ir ≠ 0) :
    perstDeassert d = { d with bu.perst := false, bu.running := d.pw.inputGood, bu.stageStart := 0, tb.ns := 0, tb.frac := 0 } := by
  simp [perstDeassert, hp, hir]

/-- There is nothing to release. -/
theorem perstDeassert_of_not_perst {d : Dev} (hp : d.bu.perst = false) : perstDeassert d = d := by simp [perstDeassert, hp]

/-! ## Hot reset (R358) -/

/-- The host port after a hot reset without a read outstanding: the link's training when it went down, configuration space, IDE, the snoop
filter and the device cache are at their values after power-on. -/
def HostPort.hotReset (linkDown : Bool) (p : HostPort) : HostPort :=
  { p with
    linkWidth := if linkDown then 0 else p.linkWidth
    linkRate := if linkDown then 0 else p.linkRate
    lopt := if linkDown then false else p.lopt
    ide := 0
    cacheEn := false
    memEn := false
    bme := false
    hdmBase := 0
    msixEn := false
    msixFnMask := false
    msixTable := []
    msixUnmasked := []
    snoopFilter := []
    snoops := []
    snoopLost := []
    devCache := [] }

theorem endReads_of_no_reads {d : Dev} (h : d.hg.hostReads = []) : d.endReads = d := by simp [Dev.endReads, h]

theorem retryReads_of_no_reads {d : Dev} (h : d.hg.hostReads = []) : d.retryReads = d := by simp [Dev.retryReads, h]

/-- With no read outstanding, a hot reset acts on the host port alone. -/
theorem hotReset_of_no_reads {d : Dev} (linkDown : Bool) (h : d.hg.hostReads = []) :
    hotReset linkDown d = { d with hg := d.hg.hotReset linkDown } := by
  have h1 : ({ d with hg := d.hg.hotReset linkDown } : Dev).hg.hostReads = [] := h
  calc hotReset linkDown d = ({ d with hg := d.hg.hotReset linkDown } : Dev).endReads.retryReads := rfl
    _ = { d with hg := d.hg.hotReset linkDown } := by rw [endReads_of_no_reads h1, retryReads_of_no_reads h1]

/-! ## HG.DOORBELL (R351) -/

theorem hgDoorbell_of_key {d : Dev} {v : Word} (hl : d.hg.linkWidth ≠ 0) (hk : v.toNat % 65536 = 0x5A3C) (hr : v.getLsbD 16 = true) :
    hgDoorbell v d = d.restart false := by
  simp [hgDoorbell, hl, hk, hr]

theorem hgDoorbell_of_not_key {d : Dev} {v : Word} (hl : d.hg.linkWidth ≠ 0) (hv : v.toNat % 65536 ≠ 0x5A3C ∨ v.getLsbD 16 = false) :
    hgDoorbell v d = d.setErr 3 := by
  have hn : ¬(v.toNat % 65536 = 0x5A3C ∧ v.getLsbD 16 = true) := by
    rintro ⟨hk, hr⟩
    exact hv.elim (· hk) fun h0 => Bool.false_ne_true (h0.symm.trans hr)
  rw [hgDoorbell, if_neg hl, if_neg hn]

/-! ## The four commands -/

theorem exec_perstAssert (s : State) : exec .perstAssert s = .next { s with dev := perstAssert s.dev } := rfl

theorem exec_perstDeassert (s : State) : exec .perstDeassert s = .next { s with dev := perstDeassert s.dev } := rfl

theorem exec_hotReset (linkDown : Bool) (s : State) : exec (.hotReset linkDown) s = .next { s with dev := hotReset linkDown s.dev } := rfl

theorem exec_hgDoorbellRestart (v : Word) (s : State) : exec (.hgDoorbellRestart v) s = .next { s with dev := hgDoorbell v s.dev } := rfl

/-- Settles O33: PERST# and the restart key come to the same full reset, a release to the beginning of bring-up, and a hot reset to the
host port's own state. -/
theorem hostPortResets : Obligations.HostPortResets := by
  unfold Obligations.HostPortResets
  intro s down
  refine ⟨?assert, ?release, ?idle, ?hot, fun v hl => ⟨?key, ?noKey⟩⟩
  case assert =>
    refine ⟨_, exec_perstAssert s, rfl, ?_⟩
    rw [perstAssert_eq_restart]
    simp [restart_firmware, HostPort.reset, Dev.reset]
  case release =>
    intro hp hir
    rw [exec_perstDeassert, perstDeassert_of_perst hp hir]
  case idle =>
    intro hp
    rw [exec_perstDeassert, perstDeassert_of_not_perst hp]
  case hot =>
    intro hreads
    refine ⟨_, exec_hotReset down s, ?_⟩
    rw [hotReset_of_no_reads down hreads]
    simp [HostPort.hotReset]
  case key =>
    intro hk hr
    refine ⟨_, exec_hgDoorbellRestart v s, rfl, ?_⟩
    rw [hgDoorbell_of_key hl hk hr]
    simp [restart_firmware, HostPort.reset, Dev.reset]
  case noKey =>
    intro hv
    refine ⟨_, exec_hgDoorbellRestart v s, ?_⟩
    rw [hgDoorbell_of_not_key hl hv]
    exact ⟨by dsimp only; rw [← setErr_frame], setErr_errstat s.dev 3⟩

end Sys2Proof.Machine
end

section
/-!
PROOFS. The doorbell of a channel (chapter 12 R366): when it is accepted, and what it and a write of the channel's page change.
-/

set_option Elab.async false

namespace Sys2Proof.Machine

/-! ## Which doorbells are accepted -/

/-- A value without GO is no doorbell. -/
theorem mbDoorbell_of_no_go {d : Dev} {ch : Nat} {v : Word} (ho : d.mailboxOpen = true) (hg : v.getLsbD 32 = false) :
    mbDoorbell ch v d = d := by
  simp only [mbDoorbell, ho, hg, Bool.not_true, Bool.not_false, Bool.false_eq_true, if_false, if_true]

/-- With GO, the channel's state is judged first, then the sequence number. -/
theorem mbDoorbell_of_go {d : Dev} {ch : Nat} {v : Word} (ho : d.mailboxOpen = true) (hg : v.getLsbD 32 = true) :
    mbDoorbell ch v d =
      if (d.chan ch).st = .queued ∨ (d.chan ch).st = .running then d.onChan ch fun c => { c with errBusy := true }
      else if leNat (cellsRead (d.chan ch).page 4 4) ≠ v.toNat % 2 ^ 32 ∨ v.toNat % 2 ^ 32 = (d.chan ch).lastSeq then
        d.onChan ch fun c => { c with errSeq := true }
      else d.acceptDoorbell ch := by
  simp only [mbDoorbell, ho, hg, Bool.not_true, Bool.false_eq_true, if_false]

/-! ## An accepted doorbell: the command is queued, then its session is active -/

/-- A session that becomes ORPHANED changes the sessions, the event log and the host port alone. -/
theorem orphan_frame (id : Nat) (d : Dev) :
    d.orphan id = { d with ses := (d.orphan id).ses, lg := (d.orphan id).lg, hg := (d.orphan id).hg } := by
  unfold Dev.orphan
  rw [log_frame]
  rfl

/-- The mailbox once the command in a channel's page is queued at an instant, last in doorbell order. -/
def Dev.queuedMailbox (ch : Nat) (d : Dev) : Mailbox :=
  let c := d.chan ch
  let d1 := d.onChan ch fun a =>
    { a with st := .queued, hdr := cellsRead c.page 0 64, body := cellsRead c.page 64 960, accepted := d.tb.ns, outcome := none, journaled := false }
  { d1.mb with queue := d.mb.queue ++ [ch], order := d.mb.order.filter (· != ch) ++ [ch] }

/-- Beside the mailbox, an accepted doorbell changes only what the activity of its session touches. -/
theorem acceptDoorbell_frame (ch : Nat) (d : Dev) :
    d.acceptDoorbell ch = { d with
      mb := d.queuedMailbox ch
      ses := (d.acceptDoorbell ch).ses
      lg := (d.acceptDoorbell ch).lg
      hg := (d.acceptDoorbell ch).hg } := by
  unfold Dev.acceptDoorbell
  dsimp only
  split
  case h_1 =>
    split
    case isTrue => rw [orphan_frame]; rfl
    case isFalse => split <;> rfl
  case h_2 => rfl

theorem acceptDoorbell_mb (ch : Nat) (d : Dev) : (d.acceptDoorbell ch).mb = d.queuedMailbox ch := by rw [acceptDoorbell_frame]

theorem acceptDoorbell_queue (ch : Nat) (d : Dev) : (d.acceptDoorbell ch).mb.queue = d.mb.queue ++ [ch] := by
  rw [acceptDoorbell_mb]
  rfl

/-- The channel holds the copy of the command and is QUEUED. -/
theorem chan_acceptDoorbell (ch : Nat) (d : Dev) :
    (d.acceptDoorbell ch).chan ch = { d.chan ch with
      st := .queued
      hdr := cellsRead (d.chan ch).page 0 64
      body := cellsRead (d.chan ch).page 64 960
      accepted := d.tb.ns
      outcome := none
      journaled := false } := by
  rw [Dev.chan, acceptDoorbell_mb]
  exact chan_onChan d ch _ fun _ => rfl

/-! ## A write of the channel's page (R364, R365) -/

/-- A channel with bytes of its page written. -/
def Channel.writePage (o : Nat) (bs : List Byte) (c : Channel) : Channel := { c with page := cellsWrite c.page o bs }

theorem chan_onChan_writePage (d : Dev) (ch o : Nat) (bs : List Byte) :
    (d.onChan ch (Channel.writePage o bs)).chan ch = (d.chan ch).writePage o bs := chan_onChan d ch _ fun _ => rfl

/-- An access that fits the page area writes it, and any other access of that area does nothing. -/
theorem writeMailbox_page {off : Nat} (size : Nat) (v : Word) {d : Dev} (ho : d.mailboxOpen = true) (hc : off / 0x1000 < 256)
    (hp : off % 0x1000 < 0x400) :
    writeMailbox off size v d = d ∨
      writeMailbox off size v d =
        d.onChan (off / 0x1000) (Channel.writePage (off % 0x1000) (leBytes size v.toNat)) := by
  have hn : ¬256 ≤ off / 0x1000 := Nat.not_le.mpr hc
  simp only [writeMailbox, ho, Bool.not_true, Bool.false_eq_true, if_false, if_neg hn, if_pos hp]
  split
  case isTrue => exact .inr rfl
  case isFalse => exact .inl rfl

/-- A write of the page leaves all of the channel but the page, the command in the Headgate's buffer with it. -/
theorem writeMailbox_page_frame {off : Nat} (size : Nat) (v : Word) {d : Dev} (ho : d.mailboxOpen = true) (hc : off / 0x1000 < 256)
    (hp : off % 0x1000 < 0x400) :
    let e := writeMailbox off size v d
    e = { d with mb := { d.mb with chans := e.mb.chans } } ∧
      e.chan (off / 0x1000) = { d.chan (off / 0x1000) with page := (e.chan (off / 0x1000)).page } := by
  intro e
  rcases writeMailbox_page size v ho hc hp with h | h
  · rw [show e = d from h]
    exact ⟨rfl, rfl⟩
  · rw [show e = _ from h]
    refine ⟨rfl, ?_⟩
    rw [chan_onChan_writePage]
    rfl

/-- The mailbox is open only while the link is up. -/
theorem linkWidth_ne_zero_of_mailboxOpen {d : Dev} (ho : d.mailboxOpen = true) : d.hg.linkWidth ≠ 0 := by
  simp only [Dev.mailboxOpen, Bool.and_eq_true, bne_iff_ne] at ho
  exact ho.1.1

theorem registerWrite_mailbox (off size : Nat) (v : Word) {d : Dev} (hl : d.hg.linkWidth ≠ 0) :
    registerWrite (.mailbox off size) v d = writeMailbox off size v d := if_neg hl

/-! ## The two commands -/

theorem exec_mbDoorbellWrite {ch : Nat} (v : Word) (s : State) (hc : ch < 256) :
    exec (.mbDoorbellWrite ch v) s = .next { s with dev := mbDoorbell ch v s.dev } := by
  have hw : (Instr.mbDoorbellWrite ch v).wf = true := decide_eq_true hc
  calc exec (.mbDoorbellWrite ch v) s = s.run (.mbDoorbellWrite ch v) (mbDoorbell ch v) := rfl
    _ = .next { s with dev := mbDoorbell ch v s.dev } := by rw [run_next, if_pos hw]

theorem exec_registerWrite (target : RegTarget) (v : Word) (s : State) :
    exec (.registerWrite target v) s = .next { s with dev := registerWrite target v s.dev } := rfl

/-- Settles O5: the four outcomes of a doorbell, and that a write of the page leaves the queued command as it was copied. -/
theorem doorbellWrite : Obligations.DoorbellWrite := by
  unfold Obligations.DoorbellWrite
  intro s ch v hc ho
  refine ⟨?noGo, ?busy, ?badSeq, ?accepted, ?page⟩
  case noGo =>
    intro hg
    rw [exec_mbDoorbellWrite v s hc, mbDoorbell_of_no_go ho hg]
  case busy =>
    intro hg hb
    rw [exec_mbDoorbellWrite v s hc, mbDoorbell_of_go ho hg, if_pos hb]
  case badSeq =>
    intro hg hb hs
    rw [exec_mbDoorbellWrite v s hc, mbDoorbell_of_go ho hg, if_neg hb, if_pos hs]
  case accepted =>
    intro hg hb hs
    refine ⟨{ s with dev := s.dev.acceptDoorbell ch }, ?_, ?_, acceptDoorbell_queue ch s.dev, chan_acceptDoorbell ch s.dev⟩
    · rw [exec_mbDoorbellWrite v s hc, mbDoorbell_of_go ho hg, if_neg hb, if_neg hs]
    · dsimp only
      rw [acceptDoorbell_mb, ← acceptDoorbell_frame]
  case page =>
    rintro off size rfl hp
    refine ⟨_, exec_registerWrite _ v s, ?_⟩
    rw [registerWrite_mailbox off size v (linkWidth_ne_zero_of_mailboxOpen ho)]
    obtain ⟨hframe, hchan⟩ := writeMailbox_page_frame size v ho hc hp
    exact ⟨by dsimp only; rw [← hframe], hchan⟩

end Sys2Proof.Machine
end

section
/-!
PROOFS. The package TAP (chapter 19 R516 to R520): the lifecycle states in which each instruction is permitted, and what a permitted one
and one that is not permitted change.
-/

set_option Elab.async false

namespace Sys2Proof.Machine

/-! ## Bits of a number -/

theorem bitOf_eq_testBit (v i : Nat) : bitOf v i = v.testBit i := by
  rw [Nat.testBit_eq_decide_div_mod_eq]
  rfl

/-- Two numbers meet exactly where both have a bit. -/
theorem and_ne_zero_iff (v m : Nat) : v &&& m ≠ 0 ↔ ∃ k, v.testBit k = true ∧ m.testBit k = true := by
  constructor
  · intro h
    obtain ⟨k, hk⟩ := Nat.exists_testBit_of_ne_zero h
    rw [Nat.testBit_and, Bool.and_eq_true] at hk
    exact ⟨k, hk⟩
  · rintro ⟨k, hv, hm⟩ h0
    have hk : (v &&& m).testBit k = true := by rw [Nat.testBit_and, hv, hm]; rfl
    rw [h0, Nat.zero_testBit] at hk
    exact Bool.false_ne_true hk

/-- The mask of an ascending list has a bit for each of its entries. -/
theorem testBit_foldl_two_pow {l : List Nat} (hl : l.SortedLT) (p : Nat) :
    (l.foldl (fun m q => m + 2 ^ q) 0).testBit p = true ↔ p ∈ l := by
  have hsum : l.foldl (fun m q => m + 2 ^ q) 0 = (l.map (2 ^ ·)).sum := by rw [List.sum_eq_foldl, List.foldl_map]
  rw [hsum, ← Nat.mem_bitIndices, Nat.bitIndices_sum_map_two_pow hl]

/-! ## The lifecycle states in which an instruction is permitted (R517) -/

/-- MANUFACTURE permits; DEBUG_UNLOCKED permits an instruction that needs no scope, or one of whose scope bits is given. -/
theorem tapPermits_iff (m : Nat) (d : Dev) :
    d.tapPermits m = true ↔
      d.fw.lifecycle = 0 ∨ (d.fw.lifecycle = 2 ∧ (m = 0 ∨ ∃ k, d.fw.scope.testBit k = true ∧ m.testBit k = true)) := by
  simp only [Dev.tapPermits, Bool.or_eq_true, Bool.and_eq_true, beq_iff_eq, bne_iff_ne, and_ne_zero_iff]

theorem tapPermits_zero (d : Dev) : d.tapPermits 0 = true ↔ d.fw.lifecycle = 0 ∨ d.fw.lifecycle = 2 := by
  simp [tapPermits_iff]

theorem tapPermits_two_pow (k : Nat) (d : Dev) :
    d.tapPermits (2 ^ k) = true ↔ d.fw.lifecycle = 0 ∨ (d.fw.lifecycle = 2 ∧ d.fw.scope.testBit k = true) := by
  simp [tapPermits_iff, Nat.testBit_two_pow]

/-- CHAIN_SELECT needs one of the scope bits [0] to [3]. -/
theorem tapPermits_chain (d : Dev) :
    d.tapPermits 0xF = true ↔ d.fw.lifecycle = 0 ∨ (d.fw.lifecycle = 2 ∧
      (d.fw.scope.testBit 0 = true ∨ d.fw.scope.testBit 1 = true ∨ d.fw.scope.testBit 2 = true ∨ d.fw.scope.testBit 3 = true)) := by
  have hbit (k : Nat) : (0xF : Nat).testBit k = true ↔ k = 0 ∨ k = 1 ∨ k = 2 ∨ k = 3 := by
    rw [show (0xF : Nat) = 2 ^ 4 - 1 from rfl, Nat.testBit_two_pow_sub_one, decide_eq_true_eq]
    omega
  simp [tapPermits_iff, hbit, and_or_left, exists_or]

/-- DEPLOYED and RETIRED permit nothing of the kind, nor does DEBUG_UNLOCKED without the scope. -/
theorem tapPermits_eq_false {m : Nat} {d : Dev} {covered : Prop}
    (hiff : d.tapPermits m = true ↔ d.fw.lifecycle = 0 ∨ (d.fw.lifecycle = 2 ∧ covered))
    (h : d.fw.lifecycle = 1 ∨ d.fw.lifecycle = 3 ∨ (d.fw.lifecycle = 2 ∧ ¬covered)) : d.tapPermits m = false := by
  rw [Bool.eq_false_iff, ne_eq, hiff]
  rintro (h0 | ⟨h2, hcovered⟩)
  · omega
  · rcases h with h1 | h3 | ⟨-, hnone⟩
    · omega
    · omega
    · exact hnone hcovered

/-- A loopback or the run control without its scope bit. -/
theorem tapPermits_two_pow_eq_false {k : Nat} {d : Dev}
    (h : d.fw.lifecycle = 1 ∨ d.fw.lifecycle = 3 ∨ (d.fw.lifecycle = 2 ∧ d.fw.scope.testBit k = false)) :
    d.tapPermits (2 ^ k) = false :=
  tapPermits_eq_false (tapPermits_two_pow k d) (by rwa [Bool.not_eq_true])

/-! ## What each instruction comes to -/

theorem exec_bypass (s : State) : exec .bypass s = .next { s with dev := s.dev.tapBypass } := rfl

theorem exec_idcode (s : State) : exec .idcode s = .next { s with dev := s.dev.tapSelect 0x01 0 0 false } := rfl

theorem exec_trstAssert (s : State) : exec .trstAssert s = .next { s with dev := s.dev.tapSelect 0x01 0 0 false } := rfl

theorem exec_samplePreload (pins : Nat) (s : State) : exec (.samplePreload pins) s = .next { s with dev := samplePreload pins s.dev } := rfl

theorem exec_extest (s : State) :
    exec .extest s = .next { s with dev := s.dev.tapIf (s.dev.tapPermits 0 || s.dev.bu.perst) 0x00 1 0 false } := rfl

theorem exec_clamp (s : State) : exec .clamp s = .next { s with dev := s.dev.tapIf (s.dev.tapPermits 0) 0x03 1 0 false } := rfl

theorem exec_highz (s : State) : exec .highz s = .next { s with dev := s.dev.tapIf (s.dev.tapPermits 0) 0x04 2 0 false } := rfl

theorem exec_portLoopback (s : State) :
    exec .portLoopback s = .next { s with dev := s.dev.tapIf (s.dev.tapPermits (2 ^ 4)) 0x20 0 1 false } := rfl

theorem exec_bondLoopback (s : State) :
    exec .bondLoopback s = .next { s with dev := s.dev.tapIf (s.dev.tapPermits (2 ^ 4)) 0x21 0 2 false } := rfl

theorem exec_rangerDebug (s : State) :
    exec .rangerDebug s = .next { s with dev := s.dev.tapIf (s.dev.tapPermits (2 ^ 5)) 0x30 0 0 true } := rfl

theorem exec_chainSelect (bits : Word) (s : State) : exec (.chainSelect bits) s = .next { s with dev := chainSelect bits s.dev } := rfl

/-! ## CHAIN_SELECT (R520) -/

/-- The ports that a data register selects: those that the scope covers. -/
def Dev.chainPorts (bits : Word) (d : Dev) : List Nat := (List.range 56).filter fun p => bits.getLsbD p && d.chainBit p

/-- The device with those ports in the chain. -/
def Dev.selectChain (bits : Word) (d : Dev) : Dev :=
  Dev.tapSelect 0x10 0 0 false { d with ts.chain := (d.chainPorts bits).foldl (fun m p => m + 2 ^ p) 0 }

/-- The compute and memory dies that come into the chain. -/
def Dev.newlyChained (bits : Word) (d : Dev) : List Nat :=
  (List.range 48).filter fun p => (d.selectChain bits).chained p && !d.chained p && !(d.selectChain bits).bu.excluded.contains p

theorem chainSelect_of_not_permitted (bits : Word) {d : Dev} (h : d.tapPermits 0xF = false) : chainSelect bits d = d.tapBypass :=
  if_neg (Bool.eq_false_iff.mp h)

/-- Where the fault manager takes reports, the dies that come into the chain are treated as isolated. -/
theorem chainSelect_of_permitted (bits : Word) {d : Dev} (h : d.tapPermits 0xF = true) :
    chainSelect bits d =
      if d.faultsTaken then each (d.newlyChained bits) (fun p e => e.isolate p (dieUnit p)) (d.selectChain bits)
      else d.selectChain bits := if_pos h

/-- What treating dies as isolated can change. -/
def Dev.sameButIsolation (d e : Dev) : Prop :=
  e = { d with fa := e.fa, sp := e.sp, str := e.str, gr := e.gr, lg := e.lg, hg := e.hg, th := e.th, fw := e.fw }

theorem isolate_keeps_sameButIsolation {d e : Dev} (port unit : Nat) (h : d.sameButIsolation e) :
    d.sameButIsolation (e.isolate port unit) := by
  unfold Dev.sameButIsolation at h ⊢
  rw [isolate_frame, h]

/-- A permitted CHAIN_SELECT comes to the selection, and to the isolation of dies beside it. -/
theorem chainSelect_sameButIsolation (bits : Word) {d : Dev} (h : d.tapPermits 0xF = true) :
    (d.selectChain bits).sameButIsolation (chainSelect bits d) := by
  rw [chainSelect_of_permitted bits h]
  split
  case isTrue => exact each_keeps _ _ (fun p e he => isolate_keeps_sameButIsolation p (dieUnit p) he) _ _ rfl
  case isFalse => rfl

/-- The dies' isolation leaves the test interface. -/
theorem chainSelect_ts (bits : Word) {d : Dev} (h : d.tapPermits 0xF = true) : (chainSelect bits d).ts = (d.selectChain bits).ts := by
  rw [chainSelect_sameButIsolation bits h]

theorem chainPorts_sortedLT (bits : Word) (d : Dev) : (d.chainPorts bits).SortedLT :=
  ((List.sortedLT_range 56).pairwise.filter _).sortedLT

/-- A port is in the chain when its bit is set and the scope covers it. -/
theorem selectChain_testBit (bits : Word) (d : Dev) (p : Nat) :
    (d.selectChain bits).ts.chain.testBit p = (bits.getLsbD p && decide (p < 56) && d.chainBit p) := by
  rw [Bool.eq_iff_iff, show (d.selectChain bits).ts.chain = (d.chainPorts bits).foldl (fun m q => m + 2 ^ q) 0 from rfl,
    testBit_foldl_two_pow (chainPorts_sortedLT bits d)]
  simp only [Dev.chainPorts, List.mem_filter, List.mem_range, Bool.and_eq_true, decide_eq_true_eq]
  tauto

/-- Settles O9: each instruction where the table permits it and where it does not. -/
theorem tapInstructions : Obligations.TapInstructions := by
  unfold Obligations.TapInstructions
  intro s pins bits life scope sel no group
  refine ⟨exec_bypass s, exec_idcode s, exec_trstAssert s, exec_samplePreload pins s, ?pinsOpen, ?pinsClosed, ?loopOpen, ?loopClosed,
    ?debugOpen, ?debugClosed, ?chainOpen, ?chainClosed⟩
  case pinsOpen =>
    intro h
    have hp := (tapPermits_zero s.dev).mpr h
    rw [exec_extest, exec_clamp, exec_highz, hp]
    exact ⟨rfl, rfl, rfl⟩
  case pinsClosed =>
    intro h
    have hp : s.dev.tapPermits 0 = false := by
      rw [Bool.eq_false_iff, ne_eq, tapPermits_zero]
      omega
    rw [exec_extest, exec_clamp, exec_highz, hp]
    refine ⟨?_, rfl, rfl⟩
    cases s.dev.bu.perst
    case true => rfl
    case false => rfl
  case loopOpen =>
    intro h
    rw [exec_portLoopback, exec_bondLoopback, (tapPermits_two_pow 4 s.dev).mpr h]
    exact ⟨rfl, rfl⟩
  case loopClosed =>
    intro h
    rw [exec_portLoopback, exec_bondLoopback, tapPermits_two_pow_eq_false h]
    exact ⟨rfl, rfl⟩
  case debugOpen =>
    intro h
    rw [exec_rangerDebug, (tapPermits_two_pow 5 s.dev).mpr h]
    rfl
  case debugClosed =>
    intro h
    rw [exec_rangerDebug, tapPermits_two_pow_eq_false h]
    rfl
  case chainOpen =>
    intro h
    have hp := (tapPermits_chain s.dev).mpr h
    have hframe := chainSelect_sameButIsolation bits hp
    have hts := chainSelect_ts bits hp
    refine ⟨_, exec_chainSelect bits s, ?_, ?_, ?_, ?_⟩
    · dsimp only
      rw [hframe]
      rfl
    · intro hf
      rw [chainSelect_of_permitted bits hp, hf]
      rfl
    · dsimp only
      rw [hts]
      rfl
    · intro p
      dsimp only
      rw [hts, selectChain_testBit, Dev.chainBit, bitOf_eq_testBit]
  case chainClosed =>
    intro h
    have hp : s.dev.tapPermits 0xF = false := tapPermits_eq_false (tapPermits_chain s.dev) (by simpa only [not_or, Bool.not_eq_true] using h)
    rw [exec_chainSelect, chainSelect_of_not_permitted bits hp]
    rfl

end Sys2Proof.Machine
end

section
/-!
PROOFS. The step itself (chapter 95): what it takes from the queue, that every command completes, one tick of the master count
(chapter 05), and the state after PERST#.
-/

set_option Elab.async false

namespace Sys2Proof.Machine

/-- Settles O1: it is how `step` is defined. -/
theorem stepRunsFront : Obligations.StepRunsFront := by
  intro s c rest h
  simp only [step, h]

/-! ## Every command completes -/

/-- Every command other than COMMAND_START is one change of the device, which a command that is not well formed leaves out. -/
theorem exec_eq_run {i : Instr} (h : i ≠ .commandStart) (s : State) : ∃ f : Dev → Dev, exec i s = s.run i f := by
  cases i
  case commandStart => exact absurd rfl h
  case cisternReset stack => exact ⟨fun d => if (d.stack stack).resetting then d else d.resetCistern stack, rfl⟩
  all_goals exact ⟨_, rfl⟩

/-- COMMAND_START is one change of the device too, unless it starts a command under another Rantil version. -/
theorem exec_commandStart_eq_run {s : State}
    (h : s.dev.versionMatches = true ∨ ∀ ch, s.dev.nextStart = some ch → (s.dev.chan ch).opcode = 0x0001) :
    exec .commandStart s = s.run .commandStart commandStart := by
  show execCommandStart s = _
  unfold execCommandStart
  split
  · rename_i ch hch
    have : ¬ ((s.dev.chan ch).opcode ≠ 0x0001 ∧ (!s.dev.versionMatches) = true) := by
      rintro ⟨hop, hver⟩
      rcases h with hm | hq
      · simp [hm] at hver
      · exact hop (hq ch hch)
    rw [if_neg this]
  · rfl

/-- A change of the device leaves the queue, and a command that is not well formed changes nothing. -/
theorem run_completes (s : State) (i : Instr) (f : Dev → Dev) :
    ∃ t : State, s.run i f = .next t ∧ t.pending = s.pending ∧ (i.wf = false → t = s) :=
  ⟨_, run_next s i f, rfl, fun hwf => by simp [hwf]⟩

/-- Settles O2: but for COMMAND_START every arm is one change of the device. -/
theorem everyCommandCompletes : Obligations.EveryCommandCompletes := by
  intro i s
  refine ⟨fun h => ?_, fun ch hch hop hver => ?_⟩
  · by_cases hi : i = .commandStart
    · subst hi
      rw [exec_commandStart_eq_run (h.resolve_left (· rfl))]
      exact run_completes ..
    · obtain ⟨f, hf⟩ := exec_eq_run hi s
      rw [hf]
      exact run_completes ..
  · show execCommandStart s = _
    simp [execCommandStart, hch, hop, hver]

/-! ## One tick of the master count -/

theorem step_of_empty {s : State} (hq : s.pending = []) : step s = .next { s with dev := s.dev.idle } := by
  unfold step
  rw [hq]

theorem idle_of_heldReset {d : Dev} (hres : d.heldReset = true) : d.idle = d := by simp [Dev.idle, hres]

/-- While a restart is not awaited, an idle step of a device that is not held in reset is one tick. -/
theorem idle_eq_tick {d : Dev} (hres : d.heldReset = false) (hat : d.fw.restartAt = none) : d.idle = d.tick := by
  have : d.tick.fw.restartAt = none := hat
  simp [Dev.idle, hres, this]

/-- The tick's count, in units of 2^-16 ns, is the old one and 1 ns and the rate, when these are not negative. -/
theorem tick_count (d : Dev) (h : 0 ≤ 65536 + d.rate) :
    ((d.tick.tb.ns * 65536 + d.tick.tb.frac : Nat) : Int) = (d.tb.ns * 65536 + d.tb.frac : Nat) + 65536 + d.rate := by
  simp only [Dev.tick]
  omega

theorem tick_frac_lt (d : Dev) : d.tick.tb.frac < 65536 := Nat.mod_lt _ (by decide)

/-- Settles O3. -/
theorem idleAdvancesCount : Obligations.IdleAdvancesCount := by
  intro s hq hat rate
  have hrate : s.dev.rate = rate := by simp [Dev.rate, rate]
  refine ⟨fun hres => by rw [step_of_empty hq, idle_of_heldReset hres], fun hres => ?_⟩
  refine ⟨{ s with dev := s.dev.tick }, by rw [step_of_empty hq, idle_eq_tick hres hat], hq, rfl, tick_frac_lt _, fun h => ?_⟩
  exact hrate ▸ tick_count s.dev (hrate ▸ h)

/-! ## The state after PERST# -/

/-- HG reads 0 at every offset but those of its version and its device state. -/
theorem reset_readHg {off : Nat} (h0 : off ≠ 0x000) (h8 : off ≠ 0x008) : Dev.reset.readHg off = 0 := by
  unfold Dev.readHg
  split
  case h_1 => exact absurd rfl h0
  case h_2 => exact absurd rfl h8
  all_goals rfl

/-- Settles O4. -/
theorem resetState : Obligations.ResetState := by
  refine ⟨rfl, by decide +kernel, fun _ => reset_readHg, fun _ => ⟨rfl, rfl⟩, rfl, rfl, rfl, rfl, rfl, rfl, rfl, rfl, rfl, rfl, rfl,
    fun _ => ⟨rfl, rfl⟩, rfl, rfl, rfl, rfl, rfl, rfl, rfl, fun _ => rfl, rfl, rfl, rfl, rfl⟩

end Sys2Proof.Machine
end

section
/-!
PROOFS. What no step loses: the canonical form of device memory (chapter 09, chapter 03) and the blown anti-rollback fuses (chapter 17).
-/

set_option Elab.async false

namespace Sys2Proof.Machine

/-- The bytes of device memory and the count of blown fuses. -/
def Dev.vital (d : Dev) : List Host.Cell × Nat := (d.mem.cells, d.fw.fuseF)

/-- Device memory has its form when it had it, and no fuse is unblown. -/
def Keeps (k k' : List Host.Cell × Nat) : Prop := (cellsWf k.1 = true → cellsWf k'.1 = true) ∧ k.2 ≤ k'.2

@[simp] theorem Keeps.refl {k : List Host.Cell × Nat} : Keeps k k := ⟨id, le_rfl⟩

theorem Keeps.trans {k k' k'' : List Host.Cell × Nat} (h : Keeps k k') (h' : Keeps k' k'') : Keeps k k'' :=
  ⟨fun hw => h'.1 (h.1 hw), h.2.trans h'.2⟩

/-- Only two of a device's fields matter. -/
@[simp] theorem Dev.vital_mk (free hg mb ses gr str tb rd ck pw th ba op mem cs sw bu sp fw lg fa ts) :
    Dev.vital ⟨free, hg, mb, ses, gr, str, tb, rd, ck, pw, th, ba, op, mem, cs, sw, bu, sp, fw, lg, fa, ts⟩ = (mem.cells, fw.fuseF) := (rfl)

@[simp] theorem Dev.vital_eta (d : Dev) : (d.mem.cells, d.fw.fuseF) = d.vital := (rfl)

@[simp] theorem vital_ite (c : Prop) [Decidable c] (d e : Dev) : (if c then d else e).vital = if c then d.vital else e.vital :=
  apply_ite Dev.vital c d e

/-- A choice between two devices. -/
theorem keeps_if {v : List Host.Cell × Nat} {c : Prop} [Decidable c] {d e : Dev} (hd : Keeps v d.vital) (he : Keeps v e.vital) :
    Keeps v (if c then d else e).vital := by split <;> assumption

@[simp] theorem keeps_ite {c : Prop} [Decidable c] {k x y : List Host.Cell × Nat} (hx : Keeps k x) (hy : Keeps k y) :
    Keeps k (if c then x else y) := by split <;> assumption

@[simp] theorem each_vital {α : Type} {f : α → Dev → Dev} (hf : ∀ a e, (f a e).vital = e.vital) (l : List α) (d : Dev) :
    (each l f d).vital = d.vital :=
  each_keeps (fun e => e.vital = d.vital) f (fun a e he => (hf a e).trans he) l d rfl

theorem each_keepsVital {α : Type} {k : List Host.Cell × Nat} {f : α → Dev → Dev} (hf : ∀ a e, Keeps e.vital (f a e).vital) (l : List α) {d : Dev}
    (h : Keeps k d.vital) : Keeps k (each l f d).vital :=
  each_keeps (fun e => Keeps k e.vital) f (fun a e he => he.trans (hf a e)) l d h

@[simp] theorem onlyIf_vital {c : Bool} {f : Dev → Dev} (hf : ∀ e, (f e).vital = e.vital) (d : Dev) : (onlyIf c f d).vital = d.vital := by
  cases c
  · rfl
  · exact hf d

@[simp] theorem elim_vital {α : Type} {f : α → Dev} {d : Dev} (hf : ∀ a, (f a).vital = d.vital) (o : Option α) : (o.elim d f).vital = d.vital := by
  cases o
  · rfl
  · exact hf _

@[simp] theorem elim_keeps {α : Type} {v : List Host.Cell × Nat} {f : α → Dev} {d : Dev} (hf : ∀ a, Keeps v (f a).vital) (h : Keeps v d.vital)
    (o : Option α) : Keeps v (o.elim d f).vital := by
  cases o
  · exact h
  · exact hf _

@[simp] theorem onlyIf_keepsVital {v : List Host.Cell × Nat} {c : Bool} {f : Dev → Dev} {d : Dev} (hf : ∀ e, Keeps e.vital (f e).vital)
    (h : Keeps v d.vital) : Keeps v (onlyIf c f d).vital :=
  onlyIf_keeps (fun e => Keeps v e.vital) c f (fun e he => he.trans (hf e)) d h

/-- A write of bytes keeps the form. -/
theorem Keeps.write {v : List Host.Cell × Nat} {c : List Host.Cell} {n : Nat} (h : Keeps v (c, n)) (a : Nat) (bs : List Byte) :
    Keeps v (cellsWrite c a bs, n) := ⟨fun hw => cellsWrite_wf c a bs (h.1 hw), h.2⟩

/-- Taking bytes out keeps the form. -/
theorem Keeps.filter {v : List Host.Cell × Nat} {c : List Host.Cell} {n : Nat} (h : Keeps v (c, n)) (p : Host.Cell → Bool) :
    Keeps v (c.filter p, n) := ⟨fun hw => filter_wf c p (h.1 hw), h.2⟩

/-- Memory without a byte has the form. -/
theorem Keeps.clear {v : List Host.Cell × Nat} {c : List Host.Cell} {n : Nat} (h : Keeps v (c, n)) : Keeps v ([], n) := ⟨fun _ => rfl, h.2⟩

/-- Fuses may be blown. -/
theorem Keeps.raise {v : List Host.Cell × Nat} {c : List Host.Cell} {n : Nat} (h : Keeps v (c, n)) (m : Nat) : Keeps v (c, max n m) :=
  ⟨h.1, h.2.trans (Nat.le_max_left n m)⟩

/-! ## The shared operations -/

@[simp] theorem Dev.tick_vital (d : Dev) : (d.tick).vital = d.vital := by
  rfl

@[simp] theorem Dev.reach_vital (t : Nat) (d : Dev) : (d.reach t).vital = d.vital := by
  simp [Dev.reach]

@[simp] theorem Dev.draw_vital (d : Dev) : (d.draw).vital = d.vital := by
  rfl

@[simp] theorem Dev.sendMsix_vital (v : Nat) (d : Dev) : (d.sendMsix v).vital = d.vital := by
  simp [Dev.sendMsix]

@[simp] theorem Dev.flushMsix_vital (d : Dev) : (d.flushMsix).vital = d.vital := by
  rfl

@[simp] theorem Dev.raiseInt_vital (bit : Nat) (d : Dev) : (d.raiseInt bit).vital = d.vital := by
  simp [Dev.raiseInt]

@[simp] theorem Dev.setErr_vital (bit : Nat) (d : Dev) : (d.setErr bit).vital = d.vital := by
  simp [Dev.setErr]

@[simp] theorem Dev.setState_vital (s : DevState) (d : Dev) : (d.setState s).vital = d.vital := by
  simp [Dev.setState]

@[simp] theorem Dev.log_vital (unit outcome code value : Nat) (d : Dev) : (d.log unit outcome code value).vital = d.vital := by
  simp [Dev.log]

@[simp] theorem Dev.notice_vital (unit value : Nat) (d : Dev) : (d.notice unit value).vital = d.vital := by
  simp [Dev.notice]

@[simp] theorem Dev.logWith_vital (unit outcome code value : Nat) (conts : List (Nat × Nat)) (d : Dev) :
    (d.logWith unit outcome code value conts).vital = d.vital := by
  simp [Dev.logWith]

@[simp] theorem Dev.onPort_vital (port plane : Nat) (f : PlanePort → PlanePort) (d : Dev) : (d.onPort port plane f).vital = d.vital := by
  rfl

@[simp] theorem Dev.onOptic_vital (port plane : Nat) (f : OptPort → OptPort) (d : Dev) : (d.onOptic port plane f).vital = d.vital := by
  rfl

@[simp] theorem Dev.onRing_vital (id : RingId) (f : Machine.Ring → Machine.Ring) (d : Dev) : (d.onRing id f).vital = d.vital := by
  rfl

@[simp] theorem Dev.onWell_vital (w : Nat) (f : Wellhead → Wellhead) (d : Dev) : (d.onWell w f).vital = d.vital := by
  rfl

@[simp] theorem Dev.onStack_keeps {v : List Host.Cell × Nat} (k : Nat) (f : Stack → Stack) {d : Dev} (hv : Keeps v d.vital) :
    Keeps v (d.onStack k f).vital := by
  simpa [Dev.onStack] using hv

@[simp] theorem Dev.onSite_vital (s : Nat) (f : Site → Site) (d : Dev) : (d.onSite s f).vital = d.vital := by
  rfl

@[simp] theorem Dev.onFport_vital (p : Nat) (f : FPort → FPort) (d : Dev) : (d.onFport p f).vital = d.vital := by
  rfl

@[simp] theorem Dev.onChan_vital (ch : Nat) (f : Channel → Channel) (d : Dev) : (d.onChan ch f).vital = d.vital := by
  rfl

@[simp] theorem Dev.onSession_vital (id : Nat) (f : Session → Session) (d : Dev) : (d.onSession id f).vital = d.vital := by
  rfl

@[simp] theorem Dev.onGraph_vital (h : Nat) (f : Machine.Graph → Machine.Graph) (d : Dev) : (d.onGraph h f).vital = d.vital := by
  rfl

@[simp] theorem Dev.onStream_vital (id : Nat) (f : Machine.Stream → Machine.Stream) (d : Dev) : (d.onStream id f).vital = d.vital := by
  rfl

@[simp] theorem Dev.onIntake_vital (h : Nat) (f : IntakeRing → IntakeRing) (d : Dev) : (d.onIntake h f).vital = d.vital := by
  rfl

@[simp] theorem Dev.onResult_vital (h : Nat) (f : ResultRing → ResultRing) (d : Dev) : (d.onResult h f).vital = d.vital := by
  rfl

@[simp] theorem Dev.pokeLine_keeps {v : List Host.Cell × Nat} (stack line off : Nat) (data : List Byte) {d : Dev} (hv : Keeps v d.vital) :
    Keeps v (d.pokeLine stack line off data).vital := by
  unfold Dev.pokeLine
  dsimp only
  split
  · exact hv
  · exact hv.write _ _

@[simp] theorem Dev.poisonLine_keeps {v : List Host.Cell × Nat} (stack line : Nat) {d : Dev} (hv : Keeps v d.vital) :
    Keeps v (d.poisonLine stack line).vital := by
  simpa [Dev.poisonLine] using hv

@[simp] theorem Dev.unpoison_keeps {v : List Host.Cell × Nat} (stack line : Nat) {d : Dev} (hv : Keeps v d.vital) :
    Keeps v (d.unpoison stack line).vital := by
  simpa [Dev.unpoison] using hv

@[simp] theorem Dev.storeCopy_keeps {v : List Host.Cell × Nat} (stack off : Nat) (data : List Byte) {d : Dev} (hv : Keeps v d.vital) :
    Keeps v (d.storeCopy stack off data).vital :=
  keeps_if (Dev.pokeLine_keeps _ _ _ _ (Dev.unpoison_keeps _ _ hv)) (keeps_if hv (Dev.pokeLine_keeps _ _ _ _ hv))

@[simp] theorem Dev.storeLine_keeps {v : List Host.Cell × Nat} (stack off : Nat) (data : List Byte) {d : Dev} (hv : Keeps v d.vital) :
    Keeps v (d.storeLine stack off data).vital := by
  unfold Dev.storeLine
  extract_lets d1
  have h1 : Keeps v d1.vital := keeps_if hv (Dev.storeCopy_keeps _ _ _ hv)
  split
  · exact keeps_if h1 (Dev.storeCopy_keeps _ _ _ h1)
  · exact h1

@[simp] theorem Dev.storeFuel_keeps {v : List Host.Cell × Nat} (fuel a : Nat) (data : List Byte) {d : Dev} (hv : Keeps v d.vital) :
    Keeps v (d.storeFuel fuel a data).vital := by
  induction fuel generalizing a data d with
  | zero => exact hv
  | succ n ih =>
    unfold Dev.storeFuel
    dsimp only
    repeat' split
    · exact hv
    · exact ih _ _ (Dev.storeLine_keeps _ _ _ hv)
    · exact ih _ _ (hv.write _ _)
    all_goals exact ih _ _ hv

@[simp] theorem Dev.sendSnoop_vital (inv : Bool) (line : Nat) (d : Dev) : (d.sendSnoop inv line).vital = d.vital := by
  simp [Dev.sendSnoop]

@[simp] theorem Dev.snoopRange_vital (a n : Nat) (d : Dev) : (d.snoopRange a n).vital = d.vital := by
  simp [Dev.snoopRange]

@[simp] theorem Dev.dropLost_vital (a n : Nat) (d : Dev) : (d.dropLost a n).vital = d.vital := by
  rfl

@[simp] theorem Dev.takeLines_vital (a n : Nat) (d : Dev) : (d.takeLines a n).vital = d.vital := by
  simp [Dev.takeLines]

@[simp] theorem Dev.store_keeps {v : List Host.Cell × Nat} (a : Nat) (data : List Byte) {d : Dev} (hv : Keeps v d.vital) :
    Keeps v (d.store a data).vital := by
  simp [Dev.store, hv]

@[simp] theorem Dev.storeHost_vital (a : Nat) (data : List Byte) (d : Dev) : (d.storeHost a data).vital = d.vital := by
  rfl

@[simp] theorem Dev.storeRing_keeps {v : List Host.Cell × Nat} (host : Bool) (a : Nat) (data : List Byte) {d : Dev} (hv : Keeps v d.vital) :
    Keeps v (d.storeRing host a data).vital := by
  simp [Dev.storeRing, hv]

@[simp] theorem Dev.degrade_vital (d : Dev) : (d.degrade).vital = d.vital := by
  rfl

@[simp] theorem Dev.fdm_vital (unit type source value : Nat) (d : Dev) : (d.fdm unit type source value).vital = d.vital := by
  unfold Dev.fdm
  dsimp only
  repeat' split
  all_goals simp

@[simp] theorem Dev.setStandby_keeps {v : List Host.Cell × Nat} (st : Standby) {d : Dev} (hv : Keeps v d.vital) :
    Keeps v (d.setStandby st).vital := by
  simpa [Dev.setStandby] using hv

@[simp] theorem Dev.throttleClock_vital (d : Dev) : (d.throttleClock).vital = d.vital := by
  rfl

@[simp] theorem Dev.powerAxis_vital (d : Dev) : (d.powerAxis).vital = d.vital := by
  simp [Dev.powerAxis]

@[simp] theorem Dev.onItems_vital (f : Machine.Stream → Item → Item) (d : Dev) : (d.onItems f).vital = d.vital := by
  rfl

@[simp] theorem Dev.faultPages_vital (site : Nat) (d : Dev) : (d.faultPages site).vital = d.vital := by
  rfl

@[simp] theorem Dev.faultItems_vital (site : Nat) (lost : Bool) (d : Dev) : (d.faultItems site lost).vital = d.vital := by
  rfl

@[simp] theorem Dev.replaceFor_vital (site : Nat) (d : Dev) : (d.replaceFor site).vital = d.vital := by
  rfl

@[simp] theorem Dev.siteOut_vital (site : Nat) (d : Dev) : (d.siteOut site).vital = d.vital := by
  rfl

@[simp] theorem Dev.poisonSite_vital (site : Nat) (d : Dev) : (d.poisonSite site).vital = d.vital := by
  rfl

@[simp] theorem Dev.safeHold_keeps {v : List Host.Cell × Nat} (cause : Nat) {d : Dev} (hv : Keeps v d.vital) : Keeps v (d.safeHold cause).vital := by
  simpa [Dev.safeHold] using hv

@[simp] theorem Dev.checkMinimum_keeps {v : List Host.Cell × Nat} {d : Dev} (hv : Keeps v d.vital) : Keeps v (d.checkMinimum).vital := by
  simp [Dev.checkMinimum, hv]

@[simp] theorem Dev.isolate_keeps {v : List Host.Cell × Nat} (port unit : Nat) {d : Dev} (hv : Keeps v d.vital) :
    Keeps v (d.isolate port unit).vital := by
  unfold Dev.isolate
  refine keeps_if hv (keeps_if (Dev.checkMinimum_keeps ?_) (keeps_if ?_ ?_))
  all_goals simp [hv]

@[simp] theorem Dev.restarted_keeps {v : List Host.Cell × Nat} {d : Dev} (keepLatch badEnd : Bool) (hv : Keeps v d.vital) :
    Keeps v (d.restarted keepLatch badEnd).vital := hv.clear

@[simp] theorem Dev.onPoint_vital (p : RoundPoint) (offset : Nat) {f : Dev → Dev} (hf : ∀ e, (f e).vital = e.vital) (d : Dev) :
    (d.onPoint p offset f).vital = d.vital := by
  rcases Bool.eq_false_or_eq_true d.rd.active with ha | ha
  · rcases Bool.eq_false_or_eq_true (d.rd.done.contains p) with hp | hp
    · rw [onPoint_past d p offset f (.inr hp)]
    · rw [onPoint_next d p offset f ha hp]
      simp [hf]
  · rw [onPoint_past d p offset f (.inl ha)]

@[simp] theorem Dev.onPoint_keeps {v : List Host.Cell × Nat} (p : RoundPoint) (offset : Nat) {f : Dev → Dev} (hf : ∀ e, Keeps e.vital (f e).vital)
    {d : Dev} (hv : Keeps v d.vital) : Keeps v (d.onPoint p offset f).vital := by
  rcases Bool.eq_false_or_eq_true d.rd.active with ha | ha
  · rcases Bool.eq_false_or_eq_true (d.rd.done.contains p) with hp | hp
    · rwa [onPoint_past d p offset f (.inr hp)]
    · rw [onPoint_next d p offset f ha hp]
      exact Keeps.trans (by simpa using hv) (hf _)
  · rwa [onPoint_past d p offset f (.inl ha)]

/-! ## Cells and requests of the Basin -/

@[simp] theorem Dev.putCell_vital (plane : Nat) (c : BCell) (d : Dev) : (d.putCell plane c).vital = d.vital := by
  rfl

@[simp] theorem Dev.sendCell_vital (c : BCell) (d : Dev) : (d.sendCell c).vital = d.vital := by
  unfold Dev.sendCell
  split <;> simp

@[simp] theorem Dev.sendCtl_vital (src dst : Nat) (m : CtlMsg) (d : Dev) : (d.sendCtl src dst m).vital = d.vital := by
  unfold Dev.sendCtl
  split <;> simp

@[simp] theorem Dev.sendCtlCopies_vital (src : Nat) (dsts : List Nat) (m : CtlMsg) (d : Dev) : (d.sendCtlCopies src dsts m).vital = d.vital := by
  unfold Dev.sendCtlCopies
  refine each_vital (fun _ _ => ?_) _ _
  repeat' split
  all_goals simp

@[simp] theorem Dev.sendRec_vital (kind src dst : Nat) (r : Rec) (d : Dev) : (d.sendRec kind src dst r).vital = d.vital := by
  unfold Dev.sendRec
  split <;> simp

@[simp] theorem Dev.respondRec_vital (port : Nat) (r : Rec) (status : Nat) (data : List Byte) (d : Dev) :
    (d.respondRec port r status data).vital = d.vital := by
  simp [Dev.respondRec]

@[simp] theorem Dev.sendAck_vital (port src transfer status : Nat) (d : Dev) : (d.sendAck port src transfer status).vital = d.vital := by
  simp [Dev.sendAck]

@[simp] theorem Dev.ackWhole_vital (port src transfer : Nat) (d : Dev) : (d.ackWhole port src transfer).vital = d.vital := by
  unfold Dev.ackWhole
  split <;> simp

@[simp] theorem Dev.poisonBulk_vital (port src transfer : Nat) (d : Dev) : (d.poisonBulk port src transfer).vital = d.vital := by
  rfl

@[simp] theorem Dev.answerOp_vital (stack status : Nat) (data : List Byte) (r : Reply) (d : Dev) :
    (d.answerOp stack status data r).vital = d.vital := by
  unfold Dev.answerOp
  split <;> simp

/-! ## Fibre ports -/

@[simp] theorem Dev.finishThread_vital (t : Thread) (status : Nat) (data : List Byte) (d : Dev) : (d.finishThread t status data).vital = d.vital := by
  rfl

@[simp] theorem Dev.lose_vital (t : Thread) (rack : Bool) (d : Dev) : (d.lose t rack).vital = d.vital := by
  rfl

@[simp] theorem Dev.loseFrame_vital (tag : Nat) (d : Dev) : (d.loseFrame tag).vital = d.vital := by
  unfold Dev.loseFrame
  dsimp only
  split <;> simp

@[simp] theorem Dev.enqueue_vital (p since : Nat) (from_ : Option Nat) (f : Frame) (d : Dev) : (d.enqueue p since from_ f).vital = d.vital := by
  rfl

@[simp] theorem Dev.freeBuf_vital (port : Nat) (rsp : Bool) (d : Dev) : (d.freeBuf port rsp).vital = d.vital := by
  rfl

@[simp] theorem Dev.emit_vital (engine since : Nat) (from_ : Option Nat) (f : Frame) (d : Dev) : (d.emit engine since from_ f).1.vital = d.vital := by
  unfold Dev.emit
  dsimp only
  repeat' split
  all_goals simp

@[simp] theorem Dev.respondFrame_vital (engine : Nat) (f : Frame) (status : Nat) (data : List Byte) (d : Dev) :
    (d.respondFrame engine f status data).vital = d.vital := by
  simp [Dev.respondFrame]

@[simp] theorem Dev.readBack_vital (o : SwOp) (data : Option (List Byte)) (a : Dev) : (a.readBack o data).vital = a.vital := by
  simp [Dev.readBack]

@[simp] theorem Dev.endOp_vital (o : SwOp) (status : Nat) (data : List Byte) (d : Dev) : (d.endOp o status data).vital = d.vital := by
  unfold Dev.endOp
  split <;> simp

@[simp] theorem Dev.timeoutOp_vital (o : SwOp) (d : Dev) : (d.timeoutOp o).vital = d.vital := by
  unfold Dev.timeoutOp
  split <;> simp

@[simp] theorem Dev.noRouteOp_vital (o : SwOp) (d : Dev) : (d.noRouteOp o).vital = d.vital := by
  simp [Dev.noRouteOp]

@[simp] theorem Dev.dropFrame_vital (x : TxFrame) (d : Dev) : (d.dropFrame x).vital = d.vital := by
  unfold Dev.dropFrame
  repeat' split
  all_goals simp

@[simp] theorem Dev.setPort_vital (port : Nat) (st : PortSt) (d : Dev) : (d.setPort port st).vital = d.vital := by
  simp [Dev.setPort]

@[simp] theorem Dev.sendMgmt_vital (port : Nat) (m : LinkMsg) (d : Dev) : (d.sendMgmt port m).vital = d.vital := by
  rfl

@[simp] theorem Dev.sendHello_vital (port : Nat) (d : Dev) : (d.sendHello port).vital = d.vital := by
  rfl

@[simp] theorem Dev.train_vital (port : Nat) (d : Dev) : (d.train port).vital = d.vital := by
  simp [Dev.train]

@[simp] theorem Dev.portDown_vital (port cause : Nat) (light : Bool) (d : Dev) : (d.portDown port cause light).vital = d.vital := by
  unfold Dev.portDown
  extract_lets p d1 d2
  have h2 : d2.vital = d.vital := by
    unfold d2
    rw [each_vital fun x e => ?_]
    · simp [d1]
    · split <;> simp
  split
  · rfl
  split
  · simpa using h2
  · exact h2

@[simp] theorem Dev.darken_vital (port : Nat) (d : Dev) : (d.darken port).vital = d.vital := by
  simp [Dev.darken]

@[simp] theorem Dev.probe_vital (port : Nat) (d : Dev) : (d.probe port).vital = d.vital := by
  simp [Dev.probe]

@[simp] theorem Dev.recheckFibre_vital (port : Nat) (side : Side) (lock : Bool) (d : Dev) : (d.recheckFibre port side lock).vital = d.vital := by
  simp [Dev.recheckFibre]

@[simp] theorem Dev.sendMap_vital (port fault cal : Nat) (forCal : Bool) (d : Dev) : (d.sendMap port fault cal forCal).vital = d.vital := by
  rfl

@[simp] theorem Dev.fibreLane_vital (port lane : Nat) (d : Dev) : (d.fibreLane port lane).vital = d.vital := by
  simp [Dev.fibreLane]

@[simp] theorem Dev.onComb_vital (engine source : Nat) (f : SwComb → SwComb) (d : Dev) : (d.onComb engine source f).vital = d.vital := by
  rfl

@[simp] theorem Dev.toSpare_vital (port : Nat) (d : Dev) : (d.toSpare port).vital = d.vital := by
  simp [Dev.toSpare]

@[simp] theorem Dev.ageEngine_vital (engine : Nat) (d : Dev) : (d.ageEngine engine).vital = d.vital := by
  unfold Dev.ageEngine
  refine each_vital (fun _ _ => ?_) _ _
  repeat' split
  all_goals simp

@[simp] theorem Dev.ageEngines_vital (d : Dev) : (d.ageEngines).vital = d.vital := by
  simp [Dev.ageEngines]

@[simp] theorem Dev.engineCombBoundary_vital (d : Dev) : (d.engineCombBoundary).vital = d.vital := by
  simp [Dev.engineCombBoundary]

@[simp] theorem Dev.resetEngine_vital (engine : Nat) (d : Dev) : (d.resetEngine engine).vital = d.vital := by
  simp [Dev.resetEngine]

@[simp] theorem Dev.toFibre_vital (engine plane : Nat) (r : Rec) (poison last : Bool) (d : Dev) :
    (d.toFibre engine plane r poison last).vital = d.vital := by
  simp [Dev.toFibre]

@[simp] theorem Dev.inboundRsp_vital (engine tag status : Nat) (data : List Byte) (d : Dev) :
    (d.inboundRsp engine tag status data).vital = d.vital := by
  unfold Dev.inboundRsp
  split <;> simp

/-! ## The mailbox -/

@[simp] theorem Dev.answer_vital (ch status : Nat) (body : List Byte) (effect : Nat) (d : Dev) :
    (d.answer ch status body effect).vital = d.vital := by
  rfl

@[simp] theorem Dev.fail_vital (ch status : Nat) (d : Dev) : (d.fail ch status).vital = d.vital := by
  rfl

@[simp] theorem Dev.failConflict_vital (ch : Nat) (pre : List Byte) (object state id : Nat) (d : Dev) :
    (d.failConflict ch pre object state id).vital = d.vital := by
  rfl

@[simp] theorem Dev.failState_vital (ch : Nat) (d : Dev) : (d.failState ch).vital = d.vital := by
  rfl

@[simp] theorem Dev.onCommand_vital (op ch : Nat) {f : Nat → List Byte → Dev → Dev} (hf : ∀ s b e, (f s b e).vital = e.vital) (d : Dev) :
    (d.onCommand op ch f).vital = d.vital := by
  unfold Dev.onCommand
  repeat' split
  all_goals simp [hf]

@[simp] theorem Dev.onCommand_keeps {v : List Host.Cell × Nat} (op ch : Nat) {f : Nat → List Byte → Dev → Dev}
    (hf : ∀ s b e, Keeps e.vital (f s b e).vital) {d : Dev} (h : Keeps v d.vital) : Keeps v (d.onCommand op ch f).vital := by
  unfold Dev.onCommand
  repeat' split
  · simpa using h
  · exact h.trans (hf _ _ _)
  · exact h

@[simp] theorem Dev.orphan_vital (id : Nat) (d : Dev) : (d.orphan id).vital = d.vital := by
  simp [Dev.orphan]

@[simp] theorem Dev.acceptDoorbell_vital (ch : Nat) (d : Dev) : (d.acceptDoorbell ch).vital = d.vital := by
  unfold Dev.acceptDoorbell
  dsimp only
  split <;> simp

@[simp] theorem mbDoorbell_vital (ch : Nat) (value : Word) (d : Dev) : (mbDoorbell ch value d).vital = d.vital := by
  simp [mbDoorbell]

@[simp] theorem commandStart_vital (d : Dev) : (commandStart d).vital = d.vital := by
  unfold commandStart
  dsimp only
  repeat' split
  all_goals simp

@[simp] theorem Dev.respond_vital (ch : Nat) (o : CmdOutcome) (d : Dev) : (d.respond ch o).vital = d.vital := by
  simp [Dev.respond]

@[simp] theorem Dev.afterResponse_keeps {v : List Host.Cell × Nat} (op : Nat) (o : CmdOutcome) {d : Dev} (hv : Keeps v d.vital) :
    Keeps v (d.afterResponse op o).vital := by
  simpa [Dev.afterResponse] using hv

@[simp] theorem Dev.newSchedule_vital (ch : Nat) (o : CmdOutcome) (d : Dev) : (d.newSchedule ch o).2.vital = d.vital := by
  unfold Dev.newSchedule
  split <;> simp

@[simp] theorem Dev.complete_keeps {v : List Host.Cell × Nat} (ch : Nat) (o : CmdOutcome) {d : Dev} (hv : Keeps v d.vital) :
    Keeps v (d.complete ch o).vital := by
  unfold Dev.complete
  dsimp only
  split <;> simp [hv]

@[simp] theorem commandComplete_keeps {v : List Host.Cell × Nat} (ch : Nat) {d : Dev} (hv : Keeps v d.vital) :
    Keeps v (commandComplete ch d).vital := by
  unfold commandComplete
  split <;> simp [hv]

/-! ## The host port -/

@[simp] theorem Dev.restart_keeps {v : List Host.Cell × Nat} (keepLatch : Bool) {d : Dev} (hv : Keeps v d.vital) :
    Keeps v (d.restart keepLatch).vital := Dev.restarted_keeps keepLatch d.th.tripped.isSome hv

@[simp] theorem hgDoorbell_keeps {v : List Host.Cell × Nat} (value : Word) {d : Dev} (hv : Keeps v d.vital) : Keeps v (hgDoorbell value d).vital :=
  keeps_if hv (keeps_if (Dev.restart_keeps _ hv) (by simp [hv]))

@[simp] theorem writeHg_keeps {v : List Host.Cell × Nat} (off size : Nat) (value : Word) {d : Dev} (hv : Keeps v d.vital) :
    Keeps v (writeHg off size value d).vital := by
  unfold writeHg
  repeat' split
  all_goals simp [hv]

@[simp] theorem writeMsix_vital (off size : Nat) (value : Word) (d : Dev) : (writeMsix off size value d).vital = d.vital := by
  simp [writeMsix]

@[simp] theorem writeControl_keeps {v : List Host.Cell × Nat} (off size : Nat) (value : Word) {d : Dev} (hv : Keeps v d.vital) :
    Keeps v (writeControl off size value d).vital := by
  simp [writeControl, hv]

@[simp] theorem writeMailbox_vital (off size : Nat) (value : Word) (d : Dev) : (writeMailbox off size value d).vital = d.vital := by
  simp [writeMailbox]

@[simp] theorem writeConfig_vital (r : CfgReg) (value : Word) (d : Dev) : (writeConfig r value d).vital = d.vital := by
  unfold writeConfig
  split <;> simp

@[simp] theorem registerWrite_keeps {v : List Host.Cell × Nat} (target : RegTarget) (value : Word) {d : Dev} (hv : Keeps v d.vital) :
    Keeps v (registerWrite target value d).vital := by
  unfold registerWrite
  repeat' split
  all_goals simp [hv]

@[simp] theorem msixUnmask_vital (v : Nat) (d : Dev) : (msixUnmask v d).vital = d.vital := by
  simp [msixUnmask]

@[simp] theorem linkUp_vital (width rate : Nat) (lopt : Bool) (d : Dev) : (linkUp width rate lopt d).vital = d.vital := by
  simp [linkUp]

@[simp] theorem ideFail_vital (d : Dev) : (ideFail d).vital = d.vital := by
  simp [ideFail]

@[simp] theorem ideKeys_vital (d : Dev) : (ideKeys d).vital = d.vital := by
  simp [ideKeys]

@[simp] theorem Dev.writeConf_keeps {v : List Host.Cell × Nat} (f : ConfigRec → ConfigRec) {d : Dev} (hv : Keeps v d.vital) :
    Keeps v (d.writeConf f).vital := by
  simpa [Dev.writeConf] using hv

@[simp] theorem spdmAnswer_vital (req : SpdmReq) (d : Dev) : (spdmAnswer req d).vital = d.vital := by
  unfold spdmAnswer
  repeat' split
  all_goals simp

@[simp] theorem spdmRequest_vital (req : SpdmReq) (d : Dev) : (spdmRequest req d).vital = d.vital := by
  simp [spdmRequest]

@[simp] theorem cdatAccess_vital (d : Dev) : (cdatAccess d).vital = d.vital := by
  simp [cdatAccess]

@[simp] theorem devQuery_vital (ch : Nat) (d : Dev) : (devQuery ch d).vital = d.vital := by
  simp [devQuery]

@[simp] theorem devStateCmd_vital (ch : Nat) (d : Dev) : (devStateCmd ch d).vital = d.vital := by
  simp [devStateCmd]

@[simp] theorem bringupLogRead_keeps {v : List Host.Cell × Nat} (ch : Nat) {d : Dev} (hv : Keeps v d.vital) :
    Keeps v (bringupLogRead ch d).vital := by
  refine Dev.onCommand_keeps _ _ (fun s b e => keeps_if (by simp) ?_) hv
  rw [Dev.answer_vital]
  exact onlyIf_keepsVital (fun e => Dev.store_keeps _ _ .refl) .refl

/-! ## Placement of graphs -/

@[simp] theorem Dev.setReadOnly_keeps {v : List Host.Cell × Nat} {d : Dev} (hv : Keeps v d.vital) : Keeps v d.setReadOnly.vital :=
  each_keepsVital (fun k e => Dev.onStack_keeps _ _ .refl) _ hv

@[simp] theorem Dev.setWays_keeps {v : List Host.Cell × Nat} {d : Dev} (hv : Keeps v d.vital) : Keeps v d.setWays.vital := by
  unfold Dev.setWays
  refine each_keepsVital (fun s e => ?_) _ hv
  dsimp only
  split
  · exact .refl
  · exact Keeps.refl.filter _

@[simp] theorem Dev.refreshCaches_vital (d : Dev) (g : Machine.Graph) : (d.refreshCaches g).vital = d.vital := by
  simp [Dev.refreshCaches]

@[simp] theorem Dev.startGenerators_vital (d : Dev) (p : Placement) : (d.startGenerators p).vital = d.vital := by
  rfl

@[simp] theorem Dev.restartGenerators_vital (d : Dev) (mine : Nat → Bool) : (d.restartGenerators mine).vital = d.vital := by
  rfl

@[simp] theorem Dev.loadPrograms_vital (d : Dev) : (d.loadPrograms).vital = d.vital := by
  simp [Dev.loadPrograms]

@[simp] theorem Dev.moved_vital (cores : List Nat) (d : Dev) : (d.moved cores).vital = d.vital := by
  rfl

@[simp] theorem Dev.updateGraph_vital (g : Machine.Graph) (d : Dev) : (d.updateGraph g).vital = d.vital := by
  unfold Dev.updateGraph
  split <;> simp

@[simp] theorem Dev.updatePlacements_vital (d : Dev) : (d.updatePlacements).vital = d.vital := by
  simp [Dev.updatePlacements]

@[simp] theorem Dev.rebudget_vital (d : Dev) : (d.rebudget).vital = d.vital := by
  unfold Dev.rebudget
  refine each_vital (fun _ _ => ?_) _ _
  repeat' split
  all_goals simp

/-! ## Graph commands -/

@[simp] theorem Dev.onGraphCommand_vital (op ch : Nat) {f : Nat → List Byte → Dev → Dev} (hf : ∀ s b e, (f s b e).vital = e.vital) (d : Dev) :
    (d.onGraphCommand op ch f).vital = d.vital := by
  unfold Dev.onGraphCommand
  split <;> simp [hf]

@[simp] theorem Dev.failGraph_vital (ch : Nat) (pre : List Byte) (g : Machine.Graph) (d : Dev) : (d.failGraph ch pre g).vital = d.vital := by
  rfl

@[simp] theorem graphLoad_vital (ch : Nat) (d : Dev) : (graphLoad ch d).vital = d.vital := by
  unfold graphLoad
  refine Dev.onGraphCommand_vital _ _ (fun _ _ e => ?_) d
  dsimp only
  repeat' split
  all_goals simp

@[simp] theorem Dev.dropGraph_vital (handle : Nat) (d : Dev) : (d.dropGraph handle).vital = d.vital := by
  rfl

@[simp] theorem graphUnload_vital (ch : Nat) (d : Dev) : (graphUnload ch d).vital = d.vital := by
  refine Dev.onGraphCommand_vital _ _ (fun _ _ e => ?_) d
  split
  · simp
  · split <;> simp

@[simp] theorem graphPlace_vital (ch : Nat) (d : Dev) : (graphPlace ch d).vital = d.vital := by
  unfold graphPlace
  refine Dev.onGraphCommand_vital _ _ (fun _ _ e => ?_) d
  dsimp only
  repeat' split
  all_goals simp

@[simp] theorem Dev.installAll_keeps {v : List Host.Cell × Nat} {d : Dev} (hv : Keeps v d.vital) : Keeps v d.installAll.vital := by
  unfold Dev.installAll
  extract_lets waiting _ d1 answer start
  have hanswer : ∀ g e, (answer g e).vital = e.vital := by
    intro g e
    unfold answer
    split <;> simp
  have hstart : ∀ g e, (start g e).vital = e.vital := by
    intro g e
    unfold start
    rw [Dev.refreshCaches_vital]
    exact elim_vital (fun _ => Dev.startGenerators_vital _ _) _
  refine keeps_if ?_ ?_
  · rw [Dev.loadPrograms_vital]
    exact Dev.setReadOnly_keeps (Dev.setWays_keeps hv)
  · rw [each_vital hanswer, Dev.loadPrograms_vital]
    refine Dev.setReadOnly_keeps (Dev.setWays_keeps ?_)
    rw [each_vital hstart]
    exact hv

@[simp] theorem graphQuery_keeps {v : List Host.Cell × Nat} (ch : Nat) {d : Dev} (hv : Keeps v d.vital) : Keeps v (graphQuery ch d).vital := by
  unfold graphQuery
  refine Dev.onCommand_keeps _ _ (fun _ _ e => ?_) hv
  dsimp only
  repeat' split
  all_goals simp

@[simp] theorem decodePoolConfig_vital (ch : Nat) (d : Dev) : (decodePoolConfig ch d).vital = d.vital := by
  unfold decodePoolConfig
  refine Dev.onCommand_vital _ _ (fun _ _ e => ?_) d
  dsimp only
  repeat' split
  all_goals simp

@[simp] theorem regionMap_vital (ch : Nat) (d : Dev) : (regionMap ch d).vital = d.vital := by
  simp [regionMap]

@[simp] theorem regionUnmap_vital (ch : Nat) (d : Dev) : (regionUnmap ch d).vital = d.vital := by
  unfold regionUnmap
  refine Dev.onCommand_vital _ _ (fun _ _ e => ?_) d
  dsimp only
  repeat' split
  all_goals simp

/-! ## Streams -/

@[simp] theorem Dev.ask_vital (host : Bool) (a n : Nat) (p : ReadPurpose) (d : Dev) : (d.ask host a n p).1.vital = d.vital := by
  unfold Dev.ask
  dsimp only
  repeat' split
  all_goals simp

@[simp] theorem Dev.dropCache_vital (a n : Nat) (d : Dev) : (d.dropCache a n).vital = d.vital := by
  rfl

@[simp] theorem Dev.putIntake_keeps {v : List Host.Cell × Nat} (h : Nat) {d : Dev} (hv : Keeps v d.vital) : Keeps v (d.putIntake h).vital := by
  unfold Dev.putIntake
  split <;> simp [hv]

@[simp] theorem intakeRingCreate_keeps {v : List Host.Cell × Nat} (ch : Nat) {d : Dev} (hv : Keeps v d.vital) :
    Keeps v (intakeRingCreate ch d).vital := by
  refine Dev.onCommand_keeps _ _ (fun session b e => ?_) hv
  refine keeps_if (by simp) (keeps_if (by simp) ?_)
  rw [Dev.answer_vital]
  exact Dev.putIntake_keeps _ .refl

@[simp] theorem resultRingCreate_keeps {v : List Host.Cell × Nat} (ch : Nat) {d : Dev} (hv : Keeps v d.vital) :
    Keeps v (resultRingCreate ch d).vital := by
  refine Dev.onCommand_keeps _ _ (fun session b e => ?_) hv
  refine keeps_if (by simp) (keeps_if (by simp) ?_)
  rw [Dev.answer_vital]
  exact each_keepsVital (fun k e => Dev.storeRing_keeps _ _ _ .refl) _ (Dev.storeRing_keeps _ _ _ .refl)

@[simp] theorem Dev.newStream_vital (session : Nat) (b : List Byte) (d : Dev) : (d.newStream session b).vital = d.vital := by
  simp [Dev.newStream]

@[simp] theorem streamCreate_vital (ch : Nat) (d : Dev) : (streamCreate ch d).vital = d.vital := by
  unfold streamCreate
  refine Dev.onCommand_vital _ _ (fun _ _ e => ?_) d
  dsimp only
  repeat' split
  all_goals simp

@[simp] theorem Dev.pauseCommand_vital (op : Nat) (pause : Bool) (ch : Nat) (d : Dev) : (d.pauseCommand op pause ch).vital = d.vital := by
  unfold Dev.pauseCommand
  refine Dev.onCommand_vital _ _ (fun _ _ e => ?_) d
  dsimp only
  repeat' split
  all_goals simp

@[simp] theorem streamPause_vital (ch : Nat) (d : Dev) : (streamPause ch d).vital = d.vital := by
  simp [streamPause]

@[simp] theorem streamResume_vital (ch : Nat) (d : Dev) : (streamResume ch d).vital = d.vital := by
  simp [streamResume]

@[simp] theorem streamDestroy_vital (ch : Nat) (d : Dev) : (streamDestroy ch d).vital = d.vital := by
  unfold streamDestroy
  refine Dev.onCommand_vital _ _ (fun _ _ e => ?_) d
  dsimp only
  repeat' split
  all_goals simp

@[simp] theorem Dev.releaseStream_vital (id : Nat) (d : Dev) : (d.releaseStream id).vital = d.vital := by
  rfl

@[simp] theorem Dev.destroyStreams_vital (d : Dev) : (d.destroyStreams).vital = d.vital := by
  unfold Dev.destroyStreams
  refine each_vital (fun _ _ => ?_) _ _
  repeat' split
  all_goals simp

@[simp] theorem Dev.onItem_vital (id seq : Nat) (f : Item → Item) (d : Dev) : (d.onItem id seq f).vital = d.vital := by
  rfl

@[simp] theorem Dev.freeSlot_vital (id n : Nat) (d : Dev) : (d.freeSlot id n).vital = d.vital := by
  rfl

@[simp] theorem Dev.freeReservation_vital (id seq : Nat) (d : Dev) : (d.freeReservation id seq).vital = d.vital := by
  unfold Dev.freeReservation
  repeat' split
  all_goals simp

@[simp] theorem Dev.sampled_keeps {v : List Host.Cell × Nat} (h value : Nat) {d : Dev} (hv : Keeps v d.vital) :
    Keeps v (d.sampled h value).vital := by
  unfold Dev.sampled
  split <;> simp [hv]

@[simp] theorem Dev.takeOne_vital (id h : Nat) (d : Dev) : (d.takeOne id h).vital = d.vital := by
  unfold Dev.takeOne
  repeat' split
  all_goals simp

@[simp] theorem Dev.slackLeave_vital (d : Dev) : (d.slackLeave).vital = d.vital := by
  simp [Dev.slackLeave]

@[simp] theorem Dev.takeStream_vital (id : Nat) (d : Dev) : (d.takeStream id).vital = d.vital := by
  unfold Dev.takeStream
  split
  · rfl
  extract_lets ring r d1
  have hr : r.2.vital = d.vital := by
    refine List.foldlRecOn (motive := fun acc : Nat × Dev => acc.2.vital = d.vital) _ _ rfl fun acc h k _ => ?_
    exact List.foldlRecOn (motive := fun e : Dev => e.vital = d.vital) _ _ h fun e he _ _ => by rwa [Dev.takeOne_vital]
  split
  · rw [← hr]
    exact (Dev.slackLeave_vital d1).trans (Dev.onStream_vital ..)
  · exact hr

@[simp] theorem Dev.enterItems_vital (id : Nat) (d : Dev) : (d.enterItems id).vital = d.vital := by
  unfold Dev.enterItems
  split <;> simp

@[simp] theorem Dev.sampleStream_keeps {v : List Host.Cell × Nat} (id : Nat) {d : Dev} (hv : Keeps v d.vital) :
    Keeps v (d.sampleStream id).vital := by
  unfold Dev.sampleStream
  split
  · exact hv
  extract_lets one d1
  have hone : ∀ h e, Keeps e.vital (one h e).vital := by
    intro h e
    unfold one
    split
    · exact .refl
    dsimp only
    split
    · exact Dev.sampled_keeps _ _ (by simp)
    · simp
  have h1 : Keeps v d1.vital := each_keepsVital hone _ hv
  exact keeps_if h1 (by simpa using h1)

@[simp] theorem Dev.dropSamples_vital (d : Dev) : (d.dropSamples).vital = d.vital := by
  simp [Dev.dropSamples]

@[simp] theorem Dev.cutoff_keeps {v : List Host.Cell × Nat} {d : Dev} (hv : Keeps v d.vital) : Keeps v (d.cutoff).vital := by
  unfold Dev.cutoff
  refine each_keepsVital (fun _ _ => ?_) _ ?_
  · simp
  · simp [hv]

@[simp] theorem Dev.reject_keeps {v : List Host.Cell × Nat} (id seq detail : Nat) {d : Dev} (hv : Keeps v d.vital) :
    Keeps v (d.reject id seq detail).vital := by
  unfold Dev.reject
  split <;> simp [hv]

@[simp] theorem Dev.faultItem_vital (id seq detail : Nat) (d : Dev) : (d.faultItem id seq detail).vital = d.vital := by
  rfl

@[simp] theorem Dev.gotPayload_keeps {v : List Host.Cell × Nat} (id seq : Nat) (data : Option (List Byte)) {d : Dev} (hv : Keeps v d.vital) :
    Keeps v (d.gotPayload id seq data).vital := by
  unfold Dev.gotPayload
  repeat' split
  all_goals simp [hv]

@[simp] theorem Dev.checkItem_keeps {v : List Host.Cell × Nat} (id seq : Nat) {d : Dev} (hv : Keeps v d.vital) :
    Keeps v (d.checkItem id seq).vital := by
  unfold Dev.checkItem
  dsimp only
  repeat' split
  all_goals simp [hv]

@[simp] theorem Dev.ringRead_keeps {v : List Host.Cell × Nat} (id h : Nat) {d : Dev} (hv : Keeps v d.vital) : Keeps v (d.ringRead id h).vital := by
  unfold Dev.ringRead
  split
  · exact hv
  extract_lets mine drop d1 d2 d3
  have hdrop : ∀ r it e, (drop r it e).vital = e.vital := by
    intro r it e
    unfold drop
    split <;> simp
  have h1 : Keeps v d1.vital := Dev.putIntake_keeps _ hv
  have h2 : Keeps v d2.vital := by
    unfold d2
    split
    · rwa [each_vital (hdrop _)]
    · exact h1
  have h3 : Keeps v d3.vital := each_keepsVital (fun it e => by simp) _ h2
  exact keeps_if hv (each_keepsVital (fun it e => keeps_if (by simp) (Dev.checkItem_keeps _ _ .refl)) _ h3)

@[simp] theorem Dev.gotDescriptor_keeps {v : List Host.Cell × Nat} (h index : Nat) (data : Asked) {d : Dev} (hv : Keeps v d.vital) :
    Keeps v (d.gotDescriptor h index data).vital := by
  unfold Dev.gotDescriptor
  split
  · exact hv
  extract_lets here set host gone seqs d1 back d2
  have hset : ∀ f, Keeps v (set f).vital := fun f => hv
  have hback : ∀ it e, (back it e).vital = e.vital := by
    intro it e
    unfold back
    split <;> simp
  split
  · exact hv
  · exact Dev.ringRead_keeps _ _ (hset _)
  · refine keeps_if (Dev.ringRead_keeps _ _ (hset _)) ?_
    exact (congrArg (Keeps v) (each_vital hback _ _)).mpr hv

@[simp] theorem Dev.readDescriptors_keeps {v : List Host.Cell × Nat} (id : Nat) {d : Dev} (hv : Keeps v d.vital) :
    Keeps v (d.readDescriptors id).vital := by
  unfold Dev.readDescriptors
  split
  · exact hv
  refine each_keepsVital (fun it e => keeps_if ?_ .refl) _ hv
  split
  · exact .refl
  · exact Dev.gotDescriptor_keeps _ _ _ (by simp)

@[simp] theorem intakeDescriptorRead_keeps {v : List Host.Cell × Nat} {d : Dev} (hv : Keeps v d.vital) : Keeps v (intakeDescriptorRead d).vital :=
  keeps_if (each_keepsVital (fun st e => Dev.readDescriptors_keeps _ .refl) _ hv) hv

@[simp] theorem Dev.samplesIn_keeps {v : List Host.Cell × Nat} (id : Nat) {d : Dev} (hv : Keeps v d.vital) : Keeps v (d.samplesIn id).vital := by
  unfold Dev.samplesIn
  split
  · exact hv
  · have h1 : Keeps v (d.takeStream id).vital := by rwa [Dev.takeStream_vital]
    exact keeps_if hv (keeps_if (Dev.readDescriptors_keeps _ h1) h1)

/-! ## Publication -/

@[simp] theorem Dev.trickleNow_vital (d : Dev) : (d.trickleNow).vital = d.vital := by
  rfl

@[simp] theorem Dev.stageOperands_vital (d : Dev) : (d.stageOperands).vital = d.vital := by
  simp [Dev.stageOperands]

@[simp] theorem dispatch_vital (d : Dev) : (dispatch d).vital = d.vital := by
  simp [dispatch]

@[simp] theorem stageDeadline_vital (d : Dev) : (stageDeadline d).vital = d.vital := by
  simp [stageDeadline]

@[simp] theorem Dev.writeSlot_keeps {v : List Host.Cell × Nat} (id h round : Nat) (it : Item) {d : Dev} (hv : Keeps v d.vital) :
    Keeps v (d.writeSlot id h round it).vital := by
  unfold Dev.writeSlot
  split
  · exact hv
  · exact Dev.storeRing_keeps _ _ _ (onlyIf_keepsVital (fun e => Dev.storeRing_keeps _ _ _ .refl) hv)

@[simp] theorem Dev.afterPublish_vital (id : Nat) (it : Item) (d : Dev) : (d.afterPublish id it).vital = d.vital := by
  unfold Dev.afterPublish
  dsimp only
  repeat' split
  all_goals simp

theorem Dev.publishOne_keeps {v : List Host.Cell × Nat} (id h : Nat) (acc : HostBudget × Nat × Dev) (it : Item) (hv : Keeps v acc.2.2.vital) :
    Keeps v (Dev.publishOne id h acc it).2.2.vital := by
  unfold Dev.publishOne
  dsimp only
  split
  · exact hv
  split
  · exact hv
  split
  · split <;> exact hv
  · simpa using Dev.writeSlot_keeps _ _ _ _ hv

theorem Dev.publishStream_keeps {v : List Host.Cell × Nat} (acc : HostBudget × Dev) (id : Nat) (hv : Keeps v acc.2.vital) :
    Keeps v (Dev.publishStream acc id).2.vital := by
  unfold Dev.publishStream
  split
  · exact hv
  · exact List.foldlRecOn (motive := fun acc : HostBudget × Nat × Dev => Keeps v acc.2.2.vital) _ _ hv
      fun acc h it _ => Dev.publishOne_keeps _ _ acc it h

@[simp] theorem Dev.publishAll_keeps {v : List Host.Cell × Nat} {d : Dev} (hv : Keeps v d.vital) : Keeps v d.publishAll.vital :=
  List.foldlRecOn (motive := fun acc : HostBudget × Dev => Keeps v acc.2.vital) _ _ hv fun acc h id _ => Dev.publishStream_keeps acc id h

@[simp] theorem Dev.reclaim_keeps {v : List Host.Cell × Nat} (r : ResultRing) (upTo : Nat) {d : Dev} (hv : Keeps v d.vital) :
    Keeps v (d.reclaim r upTo).vital := by
  unfold Dev.reclaim
  refine each_keepsVital (fun _ _ => ?_) _ ?_
  · simp
  · simp [hv]

@[simp] theorem Dev.gotConsumed_keeps {v : List Host.Cell × Nat} (h : Nat) (value : Option Nat) {d : Dev} (hv : Keeps v d.vital) :
    Keeps v (d.gotConsumed h value).vital := by
  unfold Dev.gotConsumed
  split <;> simp [hv]

@[simp] theorem Dev.windowReady_keeps {v : List Host.Cell × Nat} {d : Dev} (hv : Keeps v d.vital) : Keeps v (d.windowReady).vital := by
  simp [Dev.windowReady, hv]

@[simp] theorem Dev.askConsumed_keeps {v : List Host.Cell × Nat} (r : ResultRing) {d : Dev} (hv : Keeps v d.vital) :
    Keeps v (d.askConsumed r).vital := by
  unfold Dev.askConsumed
  dsimp only
  repeat' split
  all_goals simp [hv]

@[simp] theorem publicationWindowOpen_keeps {v : List Host.Cell × Nat} {d : Dev} (hv : Keeps v d.vital) :
    Keeps v (publicationWindowOpen d).vital := by
  refine Dev.onPoint_keeps _ _ (fun e => ?_) (by rwa [onlyIf_vital stageDeadline_vital])
  exact keeps_if (Dev.windowReady_keeps (each_keepsVital (fun r e => Dev.askConsumed_keeps _ .refl) _ .refl)) .refl

@[simp] theorem Dev.publishDeadline_keeps {v : List Host.Cell × Nat} {d : Dev} (hv : Keeps v d.vital) : Keeps v d.publishDeadline.vital := by
  unfold Dev.publishDeadline
  extract_lets noRead d1 one d2
  have hread : ∀ r e, Keeps e.vital (noRead r e).vital := by
    intro r e
    unfold noRead
    split <;> simp
  have h1 : Keeps v d1.vital := keeps_if (Dev.publishAll_keeps (each_keepsVital hread _ hv)) hv
  have hone : ∀ r e, Keeps e.vital (one r e).vital := by
    intro r e
    unfold one
    dsimp only
    rw [onlyIf_vital fun e => Dev.sendMsix_vital _ _]
    exact Dev.storeRing_keeps _ _ _ .refl
  exact keeps_if (each_keepsVital hone _ h1) hv

/-! ## Recovery -/

@[simp] theorem Dev.holdPort_vital (h : Hold) (port plane : Nat) (a : Dev) : (a.holdPort h port plane).vital = a.vital := by
  rfl

@[simp] theorem Dev.freePort_vital (h : Hold) (port plane : Nat) (a : Dev) : (a.freePort h port plane).vital = a.vital := by
  rfl

@[simp] theorem Dev.retirePort_vital (port plane : Nat) (d : Dev) : (d.retirePort port plane).vital = d.vital := by
  simp [Dev.retirePort]

@[simp] theorem Dev.cutOff_vital (port : Nat) (d : Dev) : (d.cutOff port).vital = d.vital := by
  simp [Dev.cutOff]

@[simp] theorem Dev.retireNow_keeps {v : List Host.Cell × Nat} (port plane : Nat) {d : Dev} (hv : Keeps v d.vital) :
    Keeps v (d.retireNow port plane).vital := by
  simp [Dev.retireNow, hv]

@[simp] theorem Dev.prepare_vital (unit substitute : Nat) (d : Dev) : (d.prepare unit substitute).vital = d.vital := by
  rfl

@[simp] theorem Dev.steerPort_vital (port plane : Nat) (d : Dev) : (d.steerPort port plane).vital = d.vital := by
  unfold Dev.steerPort
  dsimp only
  split <;> simp

@[simp] theorem Dev.locateLoss_vital (port plane line : Nat) (d : Dev) : (d.locateLoss port plane line).vital = d.vital := by
  simp [Dev.locateLoss]

@[simp] theorem Dev.tuneSpare_vital (port plane idx : Nat) (side : Side) (d : Dev) : (d.tuneSpare port plane idx side).vital = d.vital := by
  unfold Dev.tuneSpare
  split <;> simp

@[simp] theorem Dev.waitRelock_vital (port plane : Nat) (d : Dev) : (d.waitRelock port plane).vital = d.vital := by
  rfl

@[simp] theorem Dev.spareNow_vital (port plane : Nat) (side : Side) (lane : Nat) (relocks : Bool) (d : Dev) :
    (d.spareNow port plane side lane relocks).vital = d.vital := by
  simp [Dev.spareNow]

@[simp] theorem Dev.opticNow_vital (m : OpticMove) (d : Dev) : (d.opticNow m).vital = d.vital := by
  unfold Dev.opticNow
  split <;> simp

@[simp] theorem Dev.atSlot_vital (m : OpticMove) (d : Dev) : (d.atSlot m).vital = d.vital := by
  simp [Dev.atSlot]

@[simp] theorem Dev.syncCal_vital (d : Dev) : (d.syncCal).vital = d.vital := by
  rfl

@[simp] theorem Dev.opticChanges_vital (d : Dev) : (d.opticChanges).vital = d.vital := by
  simp [Dev.opticChanges]

@[simp] theorem Dev.laneToSpare_vital (port plane : Nat) (side : Side) (lane : Nat) (d : Dev) :
    (d.laneToSpare port plane side lane).vital = d.vital := by
  simp [Dev.laneToSpare]

@[simp] theorem Dev.stopWork_vital (unit : Nat) (d : Dev) : (d.stopWork unit).vital = d.vital := by
  simp [Dev.stopWork]

@[simp] theorem Dev.replaceStand_keeps {v : List Host.Cell × Nat} (site ps : Nat) {d : Dev} (hv : Keeps v d.vital) :
    Keeps v (d.replaceStand site ps).vital := by
  unfold Dev.replaceStand
  dsimp only
  repeat' split
  all_goals simp [hv]

@[simp] theorem Dev.replaceCore_keeps {v : List Host.Cell × Nat} (site ps pos : Nat) {d : Dev} (hv : Keeps v d.vital) :
    Keeps v (d.replaceCore site ps pos).vital := by
  have hs := Dev.replaceStand_keeps site ps hv
  unfold Dev.replaceCore
  dsimp only
  split
  · exact keeps_if hs (keeps_if hv (keeps_if hs (by simpa using hv)))
  · exact keeps_if hv hs

@[simp] theorem Dev.retireGroup_vital (site group : Nat) (d : Dev) : (d.retireGroup site group).vital = d.vital := by
  simp [Dev.retireGroup]

@[simp] theorem Dev.replaceLane_vital (site group lane : Nat) (d : Dev) : (d.replaceLane site group lane).vital = d.vital := by
  unfold Dev.replaceLane
  dsimp only
  repeat' split
  all_goals simp

@[simp] theorem Dev.redecide_keeps {v : List Host.Cell × Nat} (substitute : Nat) {d : Dev} (hv : Keeps v d.vital) :
    Keeps v (d.redecide substitute).vital := by
  refine each_keepsVital (fun s e => ?_) _ hv
  dsimp only
  split
  · exact Dev.replaceCore_keeps _ _ _ .refl
  · exact Dev.replaceStand_keeps _ _ .refl
  · simp
  · exact .refl

@[simp] theorem Dev.dropSlice_keeps {v : List Host.Cell × Nat} (site group : Nat) {d : Dev} (hv : Keeps v d.vital) :
    Keeps v (d.dropSlice site group).vital := hv.filter _

@[simp] theorem Dev.substitute_keeps {v : List Host.Cell × Nat} (s : Subst) {d : Dev} (hv : Keeps v d.vital) : Keeps v (d.substitute s).vital := by
  unfold Dev.substitute
  extract_lets u site ps _ d0 noted restart pos map lane rest d1
  have hnoted : ∀ e, (noted e).vital = e.vital := fun e => by simp [noted]
  have hrestart : ∀ e, (restart e).vital = e.vital := fun e => by simp [restart]
  have h0 : Keeps v d0.vital := hv
  have h1 : Keeps v d1.vital := by simpa [d1] using Dev.dropSlice_keeps site ps h0
  split
  · split
    · rw [hrestart, hnoted]
      exact h0
    · exact h0
  · split
    · rw [hrestart, hnoted]
      exact h0
    · exact h0
  · rw [hnoted]
    exact h0
  · exact keeps_if (Dev.checkMinimum_keeps (by simpa using h1)) h1
  · rw [hnoted]
    exact h0
  · exact h0

@[simp] theorem Dev.coppiceBoundary_keeps {v : List Host.Cell × Nat} {d : Dev} (hv : Keeps v d.vital) : Keeps v (d.coppiceBoundary).vital := by
  unfold Dev.coppiceBoundary
  refine each_keepsVital (fun _ _ => ?_) _ ?_
  · simp
  · simp [hv]

@[simp] theorem Dev.failOps_keeps {v : List Host.Cell × Nat} (stack : Nat) (mine : LineOp → Bool) {d : Dev} (hv : Keeps v d.vital) :
    Keeps v (d.failOps stack mine).vital := by
  unfold Dev.failOps
  refine each_keepsVital (fun _ _ => ?_) _ ?_
  · repeat' split
    all_goals simp
  · simp [hv]

@[simp] theorem Dev.fenceStack_keeps {v : List Host.Cell × Nat} (stack : Nat) {d : Dev} (hv : Keeps v d.vital) :
    Keeps v (d.fenceStack stack).vital := by
  refine keeps_if hv (Dev.checkMinimum_keeps ?_)
  rw [Dev.degrade_vital, Dev.fdm_vital, Dev.log_vital]
  exact Dev.failOps_keeps _ _ (Dev.onStack_keeps _ _ hv)

@[simp] theorem Dev.fenceChannel_keeps {v : List Host.Cell × Nat} (stack channel : Nat) {d : Dev} (hv : Keeps v d.vital) :
    Keeps v (d.fenceChannel stack channel).vital := by
  unfold Dev.fenceChannel
  extract_lets d1 d2 u d3
  have h2 : Keeps v d2.vital := Dev.failOps_keeps _ _ (Dev.onStack_keeps _ _ hv)
  have h3 : Keeps v d3.vital := by simpa [d3] using h2
  exact keeps_if hv (keeps_if (Dev.fenceStack_keeps _ h3) h3)

@[simp] theorem Dev.dropPort_vital (port : Nat) (d : Dev) : (d.dropPort port).vital = d.vital := by
  rfl

@[simp] theorem Dev.stopCanopy_vital (site : Nat) (phase : SitePhase) (d : Dev) : (d.stopCanopy site phase).vital = d.vital := by
  rfl

@[simp] theorem Dev.retain_vital (site : Nat) (d : Dev) : (d.retain site).vital = d.vital := by
  rfl

@[simp] theorem Dev.resetUnderstory_keeps {v : List Host.Cell × Nat} (site : Nat) {d : Dev} (hv : Keeps v d.vital) :
    Keeps v (d.resetUnderstory site).vital := by
  unfold Dev.resetUnderstory
  dsimp only
  refine Keeps.filter ?_ _
  simpa using hv

@[simp] theorem Dev.resetCanopy_vital (site : Nat) (d : Dev) : (d.resetCanopy site).vital = d.vital := by
  rfl

@[simp] theorem Dev.resetCistern_keeps {v : List Host.Cell × Nat} (stack : Nat) {d : Dev} (hv : Keeps v d.vital) :
    Keeps v (d.resetCistern stack).vital := by
  have h1 : Keeps v ((d.dropPort (cisternPort stack)).mem.cells, (d.dropPort (cisternPort stack)).fw.fuseF) := by simpa using hv
  exact h1.filter _

@[simp] theorem Dev.countReset_vital (port : Nat) (d : Dev) : (d.countReset port).1.vital = d.vital := by
  unfold Dev.countReset
  dsimp only
  simp

@[simp] theorem Dev.resetDie_keeps {v : List Host.Cell × Nat} (port : Nat) {d : Dev} (hv : Keeps v d.vital) : Keeps v (d.resetDie port).vital := by
  unfold Dev.resetDie
  extract_lets r d1 out
  have hr : Keeps v r.1.vital := by rwa [Dev.countReset_vital]
  have h1 : Keeps v d1.vital := by rwa [Dev.resetEngine_vital]
  have hout : ∀ p e, (out p e).vital = e.vital := fun p e => by simp [out]
  refine keeps_if (keeps_if (Dev.checkMinimum_keeps ?_) (Dev.resetUnderstory_keeps _ hr)) (keeps_if ?_ (keeps_if (keeps_if ?_ h1) hr))
  · rwa [Dev.siteOut_vital]
  · exact keeps_if (Dev.fenceStack_keeps _ hr) (Dev.resetCistern_keeps _ hr)
  · rwa [Dev.degrade_vital, hout, hout]

@[simp] theorem Dev.endTest_vital (unit : Nat) (d : Dev) : (d.endTest unit).vital = d.vital := by
  simp [Dev.endTest]

@[simp] theorem Dev.repairRow_keeps {v : List Host.Cell × Nat} (unit why : Nat) (spareRow : Bool) {d : Dev} (hv : Keeps v d.vital) :
    Keeps v (d.repairRow unit why spareRow).vital := by
  simp [Dev.repairRow, hv]

@[simp] theorem Dev.lasting_keeps {v : List Host.Cell × Nat} (unit why : Nat) {d : Dev} (hv : Keeps v d.vital) :
    Keeps v (d.lasting unit why).vital := by
  unfold Dev.lasting
  extract_lets place _ _ d1 ps d2 _ d3 r d4
  have h1 : Keeps v d1.vital := by
    show Keeps v (Dev.fdm unit 1 1 1 (Dev.log unit 2 0x0202 why d)).vital
    rwa [Dev.fdm_vital, Dev.log_vital]
  refine keeps_if (Dev.repairRow_keeps _ _ _ hv) ?_
  split
  · have h2 : Keeps v d2.vital := Dev.redecide_keeps _ (Dev.replaceCore_keeps _ _ _ h1)
    exact keeps_if (Dev.redecide_keeps _ h2) h2
  · refine keeps_if (keeps_if (Dev.checkMinimum_keeps ?_) ?_) (Dev.redecide_keeps _ (Dev.replaceStand_keeps _ _ h1))
    · rw [Dev.siteOut_vital, Dev.countReset_vital]
      exact h1
    · rw [Dev.resetCanopy_vital, Dev.countReset_vital]
      exact h1
  · exact Dev.redecide_keeps _ (by rwa [Dev.replaceLane_vital])
  · rwa [Dev.retireGroup_vital]
  · rwa [Dev.laneToSpare_vital, Dev.freePort_vital]
  · rwa [Dev.steerPort_vital, Dev.freePort_vital]
  · exact Dev.fenceChannel_keeps _ _ h1
  · exact Dev.fenceStack_keeps _ h1
  · rwa [Dev.laneToSpare_vital]
  · exact h1
  · exact Dev.isolate_keeps _ _ h1

@[simp] theorem Dev.transient_keeps {v : List Host.Cell × Nat} (unit : Nat) {d : Dev} (hv : Keeps v d.vital) : Keeps v (d.transient unit).vital := by
  simp [Dev.transient, hv]

@[simp] theorem Dev.passLive_keeps {v : List Host.Cell × Nat} {d : Dev} (hv : Keeps v d.vital) : Keeps v (d.passLive).vital := by
  unfold Dev.passLive
  split <;> simp [hv]

@[simp] theorem Dev.handover_keeps {v : List Host.Cell × Nat} (cause : Nat) {d : Dev} (hv : Keeps v d.vital) : Keeps v (d.handover cause).vital := by
  unfold Dev.handover
  extract_lets d1 d2 _ d3
  have h1 : Keeps v d1.vital := by simpa [d1] using hv
  have h2 : Keeps v d2.vital := keeps_if (Dev.passLive_keeps h1) h1
  have h3 : Keeps v d3.vital := Dev.safeHold_keeps _ (Dev.setStandby_keeps _ hv)
  exact keeps_if hv (keeps_if (Dev.setStandby_keeps _ h2) h3)

@[simp] theorem Dev.beginTest_vital (unit : Nat) (d : Dev) : (d.beginTest unit).vital = d.vital := by
  unfold Dev.beginTest
  split <;> simp

@[simp] theorem Dev.abandonRecovery_keeps {v : List Host.Cell × Nat} {d : Dev} (hv : Keeps v d.vital) : Keeps v d.abandonRecovery.vital := by
  unfold Dev.abandonRecovery
  split
  · exact Dev.isolate_keeps _ _ hv
  · exact hv

@[simp] theorem Dev.reportFault_keeps {v : List Host.Cell × Nat} (unit : Nat) (kind : FaultKind) {d : Dev} (hv : Keeps v d.vital) :
    Keeps v (d.reportFault unit kind).vital := by
  have ha := Dev.abandonRecovery_keeps hv
  unfold Dev.reportFault
  split
  · exact Dev.handover_keeps _ hv
  · exact Dev.safeHold_keeps _ hv
  · exact Dev.safeHold_keeps _ hv
  · refine keeps_if hv (keeps_if hv (keeps_if (keeps_if ha ha) (keeps_if (Dev.safeHold_keeps _ hv) (keeps_if ?_ hv))))
    rw [Dev.beginTest_vital]
    exact hv

@[simp] theorem Dev.siteReturns_vital (port : Nat) (d : Dev) : (d.siteReturns port).vital = d.vital := by
  rfl

@[simp] theorem Dev.beginRetest_vital (port : Nat) (d : Dev) : (d.beginRetest port).vital = d.vital := by
  simp [Dev.beginRetest]

@[simp] theorem Dev.dieReady_vital (port : Nat) (d : Dev) : (d.dieReady port).vital = d.vital := by
  unfold Dev.dieReady
  split <;> simp

@[simp] theorem Dev.uncorrectable_keeps {v : List Host.Cell × Nat} (unit what : Nat) {d : Dev} (hv : Keeps v d.vital) :
    Keeps v (d.uncorrectable unit what).vital := by
  simp [Dev.uncorrectable, hv]

@[simp] theorem Dev.corrected_vital (unit n : Nat) (d : Dev) : (d.corrected unit n).vital = d.vital := by
  rfl

/-! ## Lines of the stacks -/

@[simp] theorem Dev.pushJob_keeps {v : List Host.Cell × Nat} (stack : Nat) (j : GrJob) {d : Dev} (hv : Keeps v d.vital) :
    Keeps v (d.pushJob stack j).vital := by
  simp [Dev.pushJob, hv]

@[simp] theorem Dev.popJob_keeps {v : List Host.Cell × Nat} (stack : Nat) {d : Dev} (hv : Keeps v d.vital) : Keeps v (d.popJob stack).vital := by
  unfold Dev.popJob
  dsimp only
  split <;> simp [hv]

@[simp] theorem Dev.pushOp_keeps {v : List Host.Cell × Nat} (o : LineOp) {d : Dev} (hv : Keeps v d.vital) : Keeps v (d.pushOp o).vital := by
  simp [Dev.pushOp, hv]

@[simp] theorem Dev.acceptWrite_keeps {v : List Host.Cell × Nat} (stack off n : Nat) (fromHost : Bool) (act : LineAct) (reply : Reply) {d : Dev}
    (hv : Keeps v d.vital) : Keeps v (d.acceptWrite stack off n fromHost act reply).vital :=
  keeps_if hv (keeps_if (by simpa using hv) (keeps_if (by simpa using hv) (Dev.pushOp_keeps _ hv)))

@[simp] theorem Dev.dropOp_keeps {v : List Host.Cell × Nat} (o : LineOp) {d : Dev} (hv : Keeps v d.vital) : Keeps v (d.dropOp o).vital := by
  simp [Dev.dropOp, hv]

@[simp] theorem Dev.serveReads_keeps {v : List Host.Cell × Nat} (poisoned : Bool) (stack line n : Nat) {d : Dev} (hv : Keeps v d.vital) :
    Keeps v (d.serveReads poisoned stack line n).vital := by
  induction n generalizing d with
  | zero => exact hv
  | succ n ih =>
    unfold Dev.serveReads
    split
    · split
      · exact ih (by simpa using Dev.dropOp_keeps _ hv)
      · exact hv
    · exact hv

@[simp] theorem Dev.acceptRead_keeps {v : List Host.Cell × Nat} (stack off len : Nat) (reply : Reply) {d : Dev} (hv : Keeps v d.vital) :
    Keeps v (d.acceptRead stack off len reply).vital := by
  unfold Dev.acceptRead
  extract_lets line go
  have hgo : ∀ k, Keeps v (go k).vital := fun k => keeps_if hv (keeps_if (by simpa using hv) (Dev.pushOp_keeps _ hv))
  refine keeps_if (hgo _) ?_
  split
  · exact keeps_if (by simpa using hv) (hgo _)
  · simpa using hv

@[simp] theorem Dev.writeBack_keeps {v : List Host.Cell × Nat} (stack line : Nat) {d : Dev} (hv : Keeps v d.vital) :
    Keeps v (d.writeBack stack line).vital := by
  unfold Dev.writeBack
  split
  · exact hv.write _ _
  · exact hv

@[simp] theorem Dev.evict_keeps {v : List Host.Cell × Nat} (stack : Nat) {d : Dev} (hv : Keeps v d.vital) : Keeps v (d.evict stack).vital := by
  unfold Dev.evict
  dsimp only
  repeat' split
  all_goals simp [hv]

@[simp] theorem Dev.fillBuf_keeps {v : List Host.Cell × Nat} (stack line : Nat) (data : List Byte) {d : Dev} (hv : Keeps v d.vital) :
    Keeps v (d.fillBuf stack line data).vital := keeps_if hv (Dev.onStack_keeps _ _ (Dev.evict_keeps _ hv))

@[simp] theorem Dev.finishOp_keeps {v : List Host.Cell × Nat} (o : LineOp) (data : List Byte) {d : Dev} (hv : Keeps v d.vital) :
    Keeps v (d.finishOp o data).vital := by
  unfold Dev.finishOp
  split <;> simp [hv]

@[simp] theorem Dev.poisonAll_keeps {v : List Host.Cell × Nat} (stack line : Nat) {d : Dev} (hv : Keeps v d.vital) :
    Keeps v (d.poisonAll stack line).vital := by
  unfold Dev.poisonAll
  extract_lets one
  have hone : ∀ k {e : Dev}, Keeps v e.vital → Keeps v (one k e).vital := fun k e he => Dev.poisonLine_keeps _ _ (Dev.onStack_keeps _ _ he)
  split
  · exact hone _ (hone _ hv)
  · exact hone _ hv

@[simp] theorem Dev.applyOp_keeps {v : List Host.Cell × Nat} (o : LineOp) {d : Dev} (hv : Keeps v d.vital) : Keeps v (d.applyOp o).vital := by
  unfold Dev.applyOp
  split
  · rw [Dev.answerOp_vital]
    exact Dev.poisonAll_keeps _ _ (Dev.dropOp_keeps _ hv)
  · exact Dev.finishOp_keeps _ _ (Dev.onStack_keeps _ _ (Dev.dropOp_keeps _ hv))

@[simp] theorem Dev.drainPoisoned_keeps {v : List Host.Cell × Nat} (stack line n : Nat) {d : Dev} (hv : Keeps v d.vital) :
    Keeps v (d.drainPoisoned stack line n).vital := by
  induction n generalizing d with
  | zero => exact hv
  | succ n ih =>
    unfold Dev.drainPoisoned
    split
    · split
      · exact Dev.fillBuf_keeps _ _ _ (Dev.unpoison_keeps _ _ hv)
      · split
        · exact ih (by simpa using Dev.poisonAll_keeps stack line (Dev.dropOp_keeps _ hv))
        · exact ih (by simpa using Dev.dropOp_keeps _ hv)
    · exact hv

@[simp] theorem Dev.foundBad_keeps {v : List Host.Cell × Nat} (stack line : Nat) {d : Dev} (hv : Keeps v d.vital) :
    Keeps v (d.foundBad stack line).vital := by
  unfold Dev.foundBad
  extract_lets ch u recent d1 _ _ d2
  have h1 : Keeps v d1.vital := Dev.onStack_keeps _ _ (Dev.poisonLine_keeps _ _ hv)
  have h2 : Keeps v d2.vital := (congrArg (Keeps v) (Dev.log_vital u 0 0x0102 0 d1)).mpr h1
  exact keeps_if (Dev.fenceChannel_keeps _ _ h2) h2

@[simp] theorem Dev.healLine_keeps {v : List Host.Cell × Nat} (stack line : Nat) {d : Dev} (hv : Keeps v d.vital) :
    Keeps v (d.healLine stack line).1.vital := by
  unfold Dev.healLine
  split
  · split
    · exact hv
    · exact hv.write _ _
  · exact hv

@[simp] theorem Dev.readLine_keeps {v : List Host.Cell × Nat} (stack line : Nat) (outcome : ReadOutcome) {d : Dev} (hv : Keeps v d.vital) :
    Keeps v (d.readLine stack line outcome).1.vital := by
  unfold Dev.readLine
  repeat' split
  all_goals simp [hv]

/-! ## Transfers -/

@[simp] theorem Dev.park_vital (t : Thread) (op : RemoteOp) (rack : Bool) (tag lost : Nat) (d : Dev) :
    (d.park t op rack tag lost).vital = d.vital := by
  rfl

@[simp] theorem Dev.writeStand_vital (site a : Nat) (data : List Byte) (d : Dev) : (d.writeStand site a data).vital = d.vital := by
  rfl

@[simp] theorem Dev.sramCorrected_vital (site unit n : Nat) (d : Dev) : (d.sramCorrected site unit n).vital = d.vital := by
  simp [Dev.sramCorrected]

@[simp] theorem Dev.writeLocal_keeps {v : List Host.Cell × Nat} (site a : Nat) (data : List Byte) {d : Dev} (hv : Keeps v d.vital) :
    Keeps v (d.writeLocal site a data).1.vital := by
  unfold Dev.writeLocal
  repeat' split
  all_goals simp [hv]

@[simp] theorem Dev.endTransfer_vital (x : Transfer) (status : Nat) (d : Dev) : (d.endTransfer x status).vital = d.vital := by
  rfl

@[simp] theorem Dev.fillCache_vital (site line : Nat) (data : List Byte) (d : Dev) : (d.fillCache site line data).vital = d.vital := by
  simp [Dev.fillCache]

@[simp] theorem Dev.partDone_vital (tag status : Nat) (bytes : Option Nat) (d : Dev) : (d.partDone tag status bytes).vital = d.vital := by
  unfold Dev.partDone
  split <;> simp

@[simp] theorem Dev.notePast_vital (a : Nat) (d : Dev) : (d.notePast a).vital = d.vital := by
  unfold Dev.notePast
  split <;> simp

@[simp] theorem Dev.ownPiece_keeps {v : List Host.Cell × Nat} (x : Transfer) (o n : Nat) {d : Dev} (hv : Keeps v d.vital) :
    Keeps v (d.ownPiece x o n).vital := by
  unfold Dev.ownPiece
  dsimp only
  split <;> simp [hv]

@[simp] theorem Dev.hitPiece_keeps {v : List Host.Cell × Nat} (x : Transfer) (tag o n : Nat) (bs : List Byte) {d : Dev} (hv : Keeps v d.vital) :
    Keeps v (d.hitPiece x tag o n bs).vital := by
  simp [Dev.hitPiece, hv]

@[simp] theorem Dev.sendPiece_keeps {v : List Host.Cell × Nat} (x : Transfer) (part : XferPart) (o n : Nat) {d : Dev} (hv : Keeps v d.vital) :
    Keeps v (d.sendPiece x part o n).vital := by
  unfold Dev.sendPiece
  dsimp only
  repeat' split
  all_goals simp [hv]

@[simp] theorem Dev.feed_keeps {v : List Host.Cell × Nat} (tag fuel : Nat) {d : Dev} (hv : Keeps v d.vital) : Keeps v (d.feed tag fuel).vital := by
  induction fuel generalizing d with
  | zero => exact hv
  | succ fuel ih =>
    unfold Dev.feed
    split
    · dsimp only
      split
      · refine keeps_if hv (ih (keeps_if ?_ ?_))
        · rw [Dev.partDone_vital]
          exact Dev.sendPiece_keeps _ _ _ _ hv
        · exact Dev.sendPiece_keeps _ _ _ _ hv
      · exact hv
    · exact hv

@[simp] theorem Dev.feedAll_keeps {v : List Host.Cell × Nat} {d : Dev} (hv : Keeps v d.vital) : Keeps v (d.feedAll).vital := by
  unfold Dev.feedAll
  refine each_keepsVital (fun _ _ => ?_) _ ?_
  · simp
  · simp [hv]

/-! ## The Basin -/

@[simp] theorem Dev.sendCopy_vital (src dst : Nat) (payload : List Byte) (a : Dev) : (a.sendCopy src dst payload).vital = a.vital := by
  simp [Dev.sendCopy]

@[simp] theorem Dev.multicast_vital (src set : Nat) (payload : List Byte) (d : Dev) : (d.multicast src set payload).vital = d.vital := by
  simp [Dev.multicast]

@[simp] theorem Dev.placeGrants_vital (d : Dev) : (d.placeGrants).vital = d.vital := by
  rfl

@[simp] theorem Dev.basinChanges_keeps {v : List Host.Cell × Nat} {d : Dev} (hv : Keeps v d.vital) : Keeps v d.basinChanges.vital := by
  unfold Dev.basinChanges
  extract_lets steer _ d1
  have h1 : Keeps v d1.vital := each_keepsVital (fun e d => Dev.retireNow_keeps _ _ .refl) _ (by simp [steer, hv])
  split
  · simpa using h1
  · exact h1

@[simp] theorem Dev.accepted_vital (plane : Nat) (reqs : List Request) (p : Nat × Nat) (d : Dev) : (d.accepted plane reqs p).vital = d.vital := by
  rfl

@[simp] theorem Dev.matchPlane_vital (plane slot : Nat) (d : Dev) : (d.matchPlane plane slot).vital = d.vital := by
  simp [Dev.matchPlane]

@[simp] theorem Dev.transmit_vital (plane : Nat) (dsts : List Nat) (standing : Bool) (q : Queued) (d : Dev) :
    (d.transmit plane dsts standing q).vital = d.vital := by
  rfl

@[simp] theorem Dev.sendMatched_vital (slot : Nat) (reserved : List Standing) (d : Dev) : (d.sendMatched slot reserved).vital = d.vital := by
  unfold Dev.sendMatched
  refine each_vital (fun _ _ => ?_) _ _
  repeat' split
  all_goals simp

@[simp] theorem Dev.useGrant_vital (g : Standing) (d : Dev) : (d.useGrant g).vital = d.vital := by
  unfold Dev.useGrant
  dsimp only
  split <;> simp

@[simp] theorem Dev.resumeGrants_vital (slot : Nat) (d : Dev) : (d.resumeGrants slot).vital = d.vital := by
  simp [Dev.resumeGrants]

@[simp] theorem Dev.countAged_vital (slot : Nat) (d : Dev) : (d.countAged slot).vital = d.vital := by
  simp [Dev.countAged]

@[simp] theorem Dev.latchSlot_vital (slot : Nat) (d : Dev) : (d.latchSlot slot).vital = d.vital := by
  rfl

@[simp] theorem slotBoundary_keeps {v : List Host.Cell × Nat} {d : Dev} (hv : Keeps v d.vital) : Keeps v (slotBoundary d).vital := by
  unfold slotBoundary
  extract_lets slot d0 _ d1 live reserved d2
  have h0 : Keeps v d0.vital := Dev.feedAll_keeps (by simpa using hv)
  have h1 : Keeps v d1.vital := by
    rw [Dev.resumeGrants_vital, Dev.opticChanges_vital]
    exact Dev.basinChanges_keeps h0
  have h2 : Keeps v d2.vital := by simpa [d2] using h1
  exact keeps_if hv (by simpa using h2)

@[simp] theorem Dev.calAhead_vital (port plane lane : Nat) (a : Dev) : (a.calAhead port plane lane).vital = a.vital := by
  rfl

@[simp] theorem Dev.discard_keeps {v : List Host.Cell × Nat} (port plane : Nat) {d : Dev} (hv : Keeps v d.vital) :
    Keeps v (d.discard port plane).vital := by
  simp [Dev.discard, hv]

@[simp] theorem Dev.misdelivered_keeps {v : List Host.Cell × Nat} (port plane : Nat) {d : Dev} (hv : Keeps v d.vital) :
    Keeps v (d.misdelivered port plane).vital := by
  simp [Dev.misdelivered, hv]

@[simp] theorem Dev.corrections_vital (port plane n : Nat) (d : Dev) : (d.corrections port plane n).vital = d.vital := by
  simp [Dev.corrections]

@[simp] theorem cellReceive_keeps {v : List Host.Cell × Nat} (port plane : Nat) (wrong : List (Nat × Nat)) (astray : Option (Nat × Nat)) {d : Dev}
    (hv : Keeps v d.vital) : Keeps v (cellReceive port plane wrong astray d).vital := by
  unfold cellReceive
  extract_lets own
  split
  · exact hv
  · refine keeps_if (Dev.discard_keeps _ _ ?_) (keeps_if (Dev.misdelivered_keeps _ _ ?_) ?_)
    all_goals simpa using hv

@[simp] theorem planeSchedulerFail_keeps {v : List Host.Cell × Nat} (plane : Nat) {d : Dev} (hv : Keeps v d.vital) :
    Keeps v (planeSchedulerFail plane d).vital := by
  refine keeps_if hv (Dev.checkMinimum_keeps (each_keepsVital (fun p e => keeps_if (by simp) .refl) _ ?_))
  rw [Dev.degrade_vital, Dev.log_vital]
  exact hv

@[simp] theorem switchPortFail_vital (port plane : Nat) (d : Dev) : (switchPortFail port plane d).vital = d.vital := by
  simp [switchPortFail]

/-! ## Requests at their home -/

@[simp] theorem Dev.dropCell_vital (w : Nat × Nat × BCell) (d : Dev) : (d.dropCell w).vital = d.vital := by
  rfl

@[simp] theorem Dev.dropRec_vital (port plane kind : Nat) (d : Dev) : (d.dropRec port plane kind).vital = d.vital := by
  unfold Dev.dropRec
  split <;> simp

@[simp] theorem Dev.serve_vital (port plane op : Nat) (mine ready : Rec → Bool) {f : Rec → Dev → Dev} (hf : ∀ r e, (f r e).vital = e.vital)
    (d : Dev) : (d.serve port plane op mine ready f).vital = d.vital := by
  unfold Dev.serve
  repeat' split
  all_goals simp [hf]

@[simp] theorem Dev.serve_keeps {v : List Host.Cell × Nat} (port plane op : Nat) (mine ready : Rec → Bool) {f : Rec → Dev → Dev}
    (hf : ∀ r e, Keeps e.vital (f r e).vital) {d : Dev} (h : Keeps v d.vital) : Keeps v (d.serve port plane op mine ready f).vital := by
  unfold Dev.serve
  repeat' split
  case isTrue.isFalse.isTrue => exact Keeps.trans (by simpa using h) (hf _ _)
  all_goals simpa using h

@[simp] theorem Dev.refuseRec_vital (port : Nat) (r : Rec) (d : Dev) : (d.refuseRec port r).vital = d.vital := by
  simp [Dev.refuseRec]

@[simp] theorem Dev.refuseLost_vital (port : Nat) (r : Rec) (d : Dev) : (d.refuseLost port r).vital = d.vital := by
  simp [Dev.refuseLost]

@[simp] theorem Dev.bulkData_vital (port : Nat) (r : Rec) (bad : Bool) (d : Dev) : (d.bulkData port r bad).vital = d.vital := by
  unfold Dev.bulkData
  dsimp only
  split <;> simp

@[simp] theorem Dev.elsewhere_vital (port plane : Nat) (r : Rec) (d : Dev) : (d.elsewhere port plane r).vital = d.vital := by
  simp [Dev.elsewhere]

@[simp] theorem Dev.takeRange_vital (a n : Nat) (d : Dev) : (d.takeRange a n).vital = d.vital := by
  simp [Dev.takeRange]

@[simp] theorem Dev.whenTaken_keeps {v : List Host.Cell × Nat} (port op n : Nat) (r : Rec) {go : Dev → Dev} {d : Dev} (hgo : Keeps v (go d).vital)
    (h : Keeps v d.vital) : Keeps v (d.whenTaken port op n r go).vital := by
  unfold Dev.whenTaken
  split
  · simpa using h
  · exact hgo

@[simp] theorem Dev.scratchRead_keeps {v : List Host.Cell × Nat} (port a corrected : Nat) (bad : Bool) {d : Dev} (hv : Keeps v d.vital) :
    Keeps v (d.scratchRead port a corrected bad).vital := by
  simp [Dev.scratchRead, hv]

@[simp] theorem load_keeps {v : List Host.Cell × Nat} (port plane corrected : Nat) (bad : Bool) {d : Dev} (hv : Keeps v d.vital) :
    Keeps v (load port plane corrected bad d).vital := by
  unfold load
  extract_lets bulk ready lost
  split
  · refine keeps_if (by simpa using hv) (Dev.serve_keeps _ _ _ _ _ (fun r e => keeps_if (by simp) ?_) hv)
    split
    · exact keeps_if (keeps_if .refl (by simp)) (Dev.acceptRead_keeps _ _ _ _ .refl)
    · refine keeps_if (keeps_if (by simp) (by simp)) ?_
      have h : Keeps e.vital (e.scratchRead port r.address corrected bad).vital := Dev.scratchRead_keeps _ _ _ _ .refl
      refine keeps_if (by simp [h]) ?_
      split <;> simp [h]
    · simp
  · exact keeps_if (Dev.serve_keeps _ _ _ _ _ (fun r e => .refl) hv) hv
  · exact hv

@[simp] theorem store_keeps {v : List Host.Cell × Nat} (port plane : Nat) {d : Dev} (hv : Keeps v d.vital) : Keeps v (store port plane d).vital := by
  unfold store
  extract_lets ready go
  have hgo : Keeps v (go d).vital := by
    refine Dev.serve_keeps _ _ _ _ _ (fun r e => keeps_if (by simp) ?_) hv
    split
    · exact Dev.acceptWrite_keeps _ _ _ _ _ _ .refl
    · refine keeps_if ?_ (by simp)
      rw [Dev.respondRec_vital]
      exact Dev.store_keeps _ _ .refl
    · simp
  split
  · exact keeps_if hv (Dev.whenTaken_keeps _ _ _ _ hgo hv)
  · exact hgo

@[simp] theorem atomic_keeps {v : List Host.Cell × Nat} (port plane corrected : Nat) (bad : Bool) {d : Dev} (hv : Keeps v d.vital) :
    Keeps v (atomic port plane corrected bad d).vital := by
  unfold atomic
  extract_lets ready go
  have hgo : Keeps v (go d).vital := by
    refine Dev.serve_keeps _ _ _ _ _ (fun r e => keeps_if (by simp) ?_) hv
    split
    · dsimp only
      split
      · exact Dev.acceptWrite_keeps _ _ _ _ _ _ .refl
      · refine keeps_if (by simp) ?_
        have h : Keeps e.vital (e.scratchRead port r.address corrected bad).vital := Dev.scratchRead_keeps _ _ _ _ .refl
        split
        · rw [Dev.respondRec_vital]
          exact Dev.store_keeps _ _ h
        · simp [h]
      · simp
    · simp
  split
  · exact Dev.whenTaken_keeps _ _ _ _ hgo hv
  · exact hgo

@[simp] theorem barrierWordLoad_vital (plane : Nat) (d : Dev) : (barrierWordLoad plane d).vital = d.vital := by
  simp [barrierWordLoad]

@[simp] theorem gatherReduceJobSubmit_keeps {v : List Host.Cell × Nat} (port plane : Nat) {d : Dev} (hv : Keeps v d.vital) :
    Keeps v (gatherReduceJobSubmit port plane d).vital := by
  refine Dev.serve_keeps _ _ _ _ _ (fun r e => ?_) hv
  split
  · exact keeps_if .refl (keeps_if (by simp) (Dev.pushJob_keeps _ _ .refl))
  · exact .refl

@[simp] theorem Dev.onPartial_vital (port : Nat) (c : BCell) (f : Partial → Partial) (d : Dev) : (d.onPartial port c f).vital = d.vital := by
  rfl

@[simp] theorem Dev.bulkStore_keeps {v : List Host.Cell × Nat} (port a : Nat) (bs : List Byte) (reply : Reply) {d : Dev} (hv : Keeps v d.vital) :
    Keeps v (d.bulkStore port a bs reply).vital := by
  unfold Dev.bulkStore
  refine each_keepsVital (fun _ _ => ?_) _ ?_
  · repeat' split
    all_goals simp
  · simp [hv]

@[simp] theorem Dev.checkWhole_keeps {v : List Host.Cell × Nat} (port : Nat) (c : BCell) {d : Dev} (hv : Keeps v d.vital) :
    Keeps v (d.checkWhole port c).vital := by
  unfold Dev.checkWhole
  split
  · split
    · refine keeps_if hv (keeps_if (each_keepsVital (fun e d => Dev.bulkStore_keeps _ _ _ _ .refl) _ hv) ?_)
      simpa using hv
    · exact hv
  · exact hv

@[simp] theorem Dev.bulkToFibre_vital (port plane : Nat) (w : Nat × Nat × BCell) (d : Dev) : (d.bulkToFibre port plane w).vital = d.vital := by
  unfold Dev.bulkToFibre
  dsimp only
  split <;> simp

@[simp] theorem bulkWrite_keeps {v : List Host.Cell × Nat} (port plane : Nat) {d : Dev} (hv : Keeps v d.vital) :
    Keeps v (bulkWrite port plane d).vital := by
  unfold bulkWrite
  split
  · exact hv
  extract_lets range lost _ c d1 d2 d3
  have h1 : Keeps v d1.vital := by simpa [d1] using hv
  have h2 : Keeps v d2.vital := keeps_if h1 (keeps_if h1 (keeps_if (by simpa using h1) (Dev.bulkStore_keeps _ _ _ _ h1)))
  have h3 : Keeps v d3.vital := Dev.checkWhole_keeps _ _ (by simpa using h2)
  refine keeps_if (by simpa using hv) (keeps_if hv (keeps_if (by simpa using hv) (keeps_if h3 (by simpa using h3))))

@[simp] theorem Dev.cacheBulk_vital (port : Nat) (c : BCell) (d : Dev) : (d.cacheBulk port c).vital = d.vital := by
  unfold Dev.cacheBulk
  split <;> simp

@[simp] theorem bulkReadData_keeps {v : List Host.Cell × Nat} (port plane : Nat) {d : Dev} (hv : Keeps v d.vital) :
    Keeps v (bulkReadData port plane d).vital := by
  unfold bulkReadData
  dsimp only
  repeat' split
  all_goals simp [hv]

@[simp] theorem partialTransferExpiry_vital (port src transfer : Nat) (d : Dev) : (partialTransferExpiry port src transfer d).vital = d.vital := by
  unfold partialTransferExpiry
  split <;> simp

@[simp] theorem Dev.hearVote_vital (site : Nat) (dom : Domain) (cause : Nat) (d : Dev) : (d.hearVote site dom cause).vital = d.vital := by
  simp [Dev.hearVote]

@[simp] theorem Dev.gotCtl_vital (port src : Nat) (m : CtlMsg) (d : Dev) : (d.gotCtl port src m).vital = d.vital := by
  unfold Dev.gotCtl
  split <;> simp

@[simp] theorem control_vital (port plane : Nat) (d : Dev) : (control port plane d).vital = d.vital := by
  unfold control
  repeat' split
  all_goals simp

@[simp] theorem multicast_vital (port plane : Nat) (d : Dev) : (multicast port plane d).vital = d.vital := by
  unfold multicast
  split <;> simp

@[simp] theorem Dev.takeRsp_vital (port plane op : Nat) {f : Rec → Dev → Dev} (hf : ∀ r e, (f r e).vital = e.vital) (d : Dev) :
    (d.takeRsp port plane op f).vital = d.vital := by
  unfold Dev.takeRsp
  repeat' split
  all_goals simp [hf]

@[simp] theorem Dev.threadRsp_vital (r : Rec) (d : Dev) : (d.threadRsp r).vital = d.vital := by
  unfold Dev.threadRsp
  dsimp only
  repeat' split
  all_goals simp

@[simp] theorem Dev.wantLine_vital (t : Thread) (line : Nat) (d : Dev) : (d.wantLine t line).vital = d.vital := by
  unfold Dev.wantLine
  dsimp only
  repeat' split
  all_goals simp

@[simp] theorem Dev.nextFills_vital (site : Nat) (d : Dev) : (d.nextFills site).vital = d.vital := by
  simp [Dev.nextFills]

@[simp] theorem Dev.fillRsp_vital (site line : Nat) (r : Rec) (d : Dev) : (d.fillRsp site line r).vital = d.vital := by
  unfold Dev.fillRsp
  dsimp only
  split <;> simp

@[simp] theorem loadRsp_vital (port plane : Nat) (d : Dev) : (loadRsp port plane d).vital = d.vital := by
  simp [loadRsp]

@[simp] theorem Dev.jobDone_vital (tag status : Nat) (d : Dev) : (d.jobDone tag status).vital = d.vital := by
  rfl

@[simp] theorem storeAck_vital (port plane : Nat) (d : Dev) : (storeAck port plane d).vital = d.vital := by
  simp [storeAck]

@[simp] theorem atomicRsp_vital (port plane : Nat) (d : Dev) : (atomicRsp port plane d).vital = d.vital := by
  simp [atomicRsp]

@[simp] theorem xferAck_vital (port plane : Nat) (d : Dev) : (xferAck port plane d).vital = d.vital := by
  simp [xferAck]

/-! ## The host and device memory -/

@[simp] theorem Dev.readDone_keeps {v : List Host.Cell × Nat} (p : ReadPurpose) (a : Asked) {d : Dev} (hv : Keeps v d.vital) :
    Keeps v (d.readDone p a).vital := by
  unfold Dev.readDone
  repeat' split
  all_goals simp [hv]

@[simp] theorem Dev.dropRead_vital (r : HostRead) (d : Dev) : (d.dropRead r).vital = d.vital := by
  rfl

@[simp] theorem Dev.retryReads_keeps {v : List Host.Cell × Nat} {d : Dev} (hv : Keeps v d.vital) : Keeps v (d.retryReads).vital := by
  unfold Dev.retryReads
  refine each_keepsVital (fun _ _ => ?_) _ ?_
  · repeat' split
    all_goals simp
  · simp [hv]

@[simp] theorem Dev.keepLines_vital (a : Nat) (bs : List Byte) (d : Dev) : (d.keepLines a bs).vital = d.vital := by
  rfl

@[simp] theorem cxlCacheReadComplete_keeps {v : List Host.Cell × Nat} (addr : Nat) (data : List Byte) {d : Dev} (hv : Keeps v d.vital) :
    Keeps v (cxlCacheReadComplete addr data d).vital := by
  unfold cxlCacheReadComplete
  repeat' split
  all_goals simp [hv]

@[simp] theorem cxlCacheReadTimeout_keeps {v : List Host.Cell × Nat} (addr : Nat) {d : Dev} (hv : Keeps v d.vital) :
    Keeps v (cxlCacheReadTimeout addr d).vital := by
  unfold cxlCacheReadTimeout
  split <;> simp [hv]

@[simp] theorem hostSnoop_vital (line : Nat) (d : Dev) : (hostSnoop line d).vital = d.vital := by
  rfl

@[simp] theorem Dev.putHostLine_keeps {v : List Host.Cell × Nat} (line : Nat) (data : List Byte) {d : Dev} (hv : Keeps v d.vital) :
    Keeps v (d.putHostLine line data).vital := by
  simp [Dev.putHostLine, hv]

@[simp] theorem biSnoopResponse_keeps {v : List Host.Cell × Nat} (line : Nat) (data : Option (List Byte)) {d : Dev} (hv : Keeps v d.vital) :
    Keeps v (biSnoopResponse line data d).vital := by
  unfold biSnoopResponse
  split
  · exact hv
  extract_lets held _ d1 d2 filter
  have h2 : Keeps v d2.vital := by
    unfold d2
    split
    · exact keeps_if (Dev.putHostLine_keeps _ _ hv) hv
    · exact hv
  exact Dev.retryReads_keeps h2

@[simp] theorem Dev.endReads_keeps {v : List Host.Cell × Nat} {d : Dev} (hv : Keeps v d.vital) : Keeps v (d.endReads).vital := by
  unfold Dev.endReads
  refine each_keepsVital (fun _ _ => ?_) _ ?_
  · repeat' split
    all_goals simp
  · simp [hv]

@[simp] theorem hotReset_keeps {v : List Host.Cell × Nat} (linkDown : Bool) {d : Dev} (hv : Keeps v d.vital) : Keeps v (hotReset linkDown d).vital :=
  Dev.retryReads_keeps (Dev.endReads_keeps hv)

@[simp] theorem Dev.beginClose_vital (id : Nat) (d : Dev) : (d.beginClose id).vital = d.vital := by
  rfl

@[simp] theorem Dev.prepareClose_keeps {v : List Host.Cell × Nat} (ids : List Nat) {d : Dev} (hv : Keeps v d.vital) :
    Keeps v (d.prepareClose ids).1.vital := by
  unfold Dev.prepareClose
  simp [each_keepsVital, hv]

theorem Dev.abandonOne_keeps {v : List Host.Cell × Nat} (id h : Nat) (acc : Nat × Nat × Dev) (it : Item) (hv : Keeps v acc.2.2.vital) :
    Keeps v (Dev.abandonOne id h acc it).2.2.vital := by
  unfold Dev.abandonOne
  dsimp only
  split
  · exact hv
  · split
    · exact hv
    · exact Dev.writeSlot_keeps _ _ _ _ hv

theorem Dev.abandonStream_keeps {v : List Host.Cell × Nat} (acc : Nat × Nat × Dev) (st : Stream) (hv : Keeps v acc.2.2.vital) :
    Keeps v (Dev.abandonStream acc st).2.2.vital := by
  unfold Dev.abandonStream
  extract_lets before all r d1 d2 d3
  have hr : Keeps v r.2.2.vital :=
    List.foldlRecOn (motive := fun acc : Nat × Nat × Dev => Keeps v acc.2.2.vital) _ _ hv fun acc h it _ => Dev.abandonOne_keeps _ _ acc it h
  have h1 : Keeps v d1.vital := by simpa [d1] using hr
  have h2 : Keeps v d2.vital := by
    unfold d2
    split
    · exact Dev.storeRing_keeps _ _ _ h1
    · exact h1
  have h3 : d3.vital = d2.vital := onlyIf_vital (fun e => Dev.log_vital _ _ _ _ _) _
  simpa [h3] using h2

theorem Dev.closeSession_keeps {v : List Host.Cell × Nat} (id : Nat) {d : Dev} (hv : Keeps v d.vital) : Keeps v (d.closeSession id).1.vital := by
  unfold Dev.closeSession
  extract_lets sts r d1 d2
  have h1 : Keeps v d1.vital :=
    List.foldlRecOn (motive := fun acc : Nat × Nat × Dev => Keeps v acc.2.2.vital) _ _ hv fun acc h st _ => Dev.abandonStream_keeps acc st h
  show Keeps v (Dev.log _ _ _ _ _).vital
  rw [Dev.log_vital]
  exact h1

@[simp] theorem sessionClose_keeps {v : List Host.Cell × Nat} (ch : Nat) {d : Dev} (hv : Keeps v d.vital) : Keeps v (sessionClose ch d).vital := by
  refine Dev.onCommand_keeps _ _ (fun id b e => keeps_if (by simp) ?_) hv
  have h : Keeps e.vital (e.prepareClose [id]).1.vital := Dev.prepareClose_keeps _ .refl
  refine keeps_if h ?_
  rw [Dev.answer_vital]
  exact Dev.closeSession_keeps _ h

@[simp] theorem orphanHoldExpiry_keeps {v : List Host.Cell × Nat} (id : Nat) {d : Dev} (hv : Keeps v d.vital) :
    Keeps v (orphanHoldExpiry id d).vital := by
  unfold orphanHoldExpiry
  split
  · exact hv
  split
  · exact hv
  extract_lets d1 a
  have h1 : Keeps v d1.vital := by simpa [d1] using hv
  have ha : Keeps v a.1.vital := Dev.prepareClose_keeps _ h1
  exact keeps_if h1 (keeps_if (by simpa using h1) (keeps_if (Dev.closeSession_keeps _ ha) ha))

/-! ## Clocks -/

@[simp] theorem refclkLoss_vital (d : Dev) : (refclkLoss d).vital = d.vital := by
  rfl

@[simp] theorem refclkRestored_vital (d : Dev) : (refclkRestored d).vital = d.vital := by
  rfl

@[simp] theorem refclkHoldExpiry_keeps {v : List Host.Cell × Nat} {d : Dev} (hv : Keeps v d.vital) : Keeps v (refclkHoldExpiry d).vital := by
  unfold refclkHoldExpiry
  split <;> simp [hv]

@[simp] theorem Dev.countDroop_vital (site stand pos : Nat) (f : DroopCount → DroopCount) (d : Dev) :
    (d.countDroop site stand pos f).vital = d.vital := by
  rfl

@[simp] theorem supplyRecovery_vital (site stand pos : Nat) (d : Dev) : (supplyRecovery site stand pos d).vital = d.vital := by
  unfold supplyRecovery
  split <;> simp

@[simp] theorem Dev.endDroops_vital (d : Dev) : (d.endDroops).vital = d.vital := by
  simp [Dev.endDroops]

@[simp] theorem supplyDroop_vital (site stand pos mhz : Nat) (d : Dev) : (supplyDroop site stand pos mhz d).vital = d.vital := by
  simp [supplyDroop]

@[simp] theorem sustainedDroop_vital (site stand pos : Nat) (d : Dev) : (sustainedDroop site stand pos d).vital = d.vital := by
  unfold sustainedDroop
  split <;> simp

@[simp] theorem Dev.setReq_vital (dom : Domain) (r : Option StepReq) (d : Dev) : (d.setReq dom r).vital = d.vital := by
  unfold Dev.setReq
  split <;> simp

@[simp] theorem Dev.setRails_vital (dom : Domain) (r : Option Nat) (d : Dev) : (d.setRails dom r).vital = d.vital := by
  unfold Dev.setRails
  split <;> simp

@[simp] theorem Dev.setDec_vital (dom : Domain) (r : Option Bool) (d : Dev) : (d.setDec dom r).vital = d.vital := by
  unfold Dev.setDec
  split <;> simp

@[simp] theorem Dev.request_vital (dom : Domain) (mhz : Nat) (d : Dev) : (d.request dom mhz).vital = d.vital := by
  simp [Dev.request]

@[simp] theorem freqStepSet_vital (ch : Nat) (d : Dev) : (freqStepSet ch d).vital = d.vital := by
  simp [freqStepSet]

@[simp] theorem voltageRiseStart_vital (d : Dev) : (voltageRiseStart d).vital = d.vital := by
  unfold voltageRiseStart
  refine Dev.onPoint_vital _ _ (fun e => ?_) d
  dsimp only
  repeat' split
  all_goals simp

@[simp] theorem frequencyStepVote_vital (site : Nat) (dom : Domain) (railOk staged : Bool) (d : Dev) :
    (frequencyStepVote site dom railOk staged d).vital = d.vital := by
  simp [frequencyStepVote]

@[simp] theorem Dev.decideStep_vital (dom : Domain) (d : Dev) : (d.decideStep dom).vital = d.vital := by
  unfold Dev.decideStep
  split <;> simp

@[simp] theorem Dev.sendDecision_vital (dom : Domain) (d : Dev) : (d.sendDecision dom).vital = d.vital := by
  unfold Dev.sendDecision
  split <;> simp

@[simp] theorem frequencyStepDecision_vital (d : Dev) : (frequencyStepDecision d).vital = d.vital := by
  simp [frequencyStepDecision]

@[simp] theorem stepDecisionMissing_vital (sites : List Nat) (d : Dev) : (stepDecisionMissing sites d).vital = d.vital := by
  simp [stepDecisionMissing]

@[simp] theorem Dev.setStep_vital (dom : Domain) (mhz : Nat) (d : Dev) : (d.setStep dom mhz).vital = d.vital := by
  unfold Dev.setStep
  split <;> simp

@[simp] theorem Dev.changeStep_vital (dom : Domain) (mhz : Nat) (split : List Nat) (d : Dev) : (d.changeStep dom mhz split).vital = d.vital := by
  simp [Dev.changeStep]

@[simp] theorem Dev.commitStep_vital (dom : Domain) (d : Dev) : (d.commitStep dom).vital = d.vital := by
  unfold Dev.commitStep
  repeat' split
  all_goals simp

@[simp] theorem Dev.fixSwallow_vital (d : Dev) : (d.fixSwallow).vital = d.vital := by
  rfl

@[simp] theorem Dev.resendDecision_vital (dom : Domain) (d : Dev) : (d.resendDecision dom).vital = d.vital := by
  simp [Dev.resendDecision]

@[simp] theorem Dev.stepBoundary_vital (d : Dev) : (d.stepBoundary).vital = d.vital := by
  simp [Dev.stepBoundary]

@[simp] theorem Dev.enterSlack_vital (d : Dev) : (d.enterSlack).vital = d.vital := by
  simp [Dev.enterSlack]

@[simp] theorem Dev.slackBoundary_vital (d : Dev) : (d.slackBoundary).vital = d.vital := by
  unfold Dev.slackBoundary
  split <;> simp

/-! ## Power and cooling -/

@[simp] theorem inputUndervoltage_keeps {v : List Host.Cell × Nat} (deciVolts : Nat) {d : Dev} (hv : Keeps v d.vital) :
    Keeps v (inputUndervoltage deciVolts d).vital := by
  unfold inputUndervoltage
  refine keeps_if hv ?_
  exact Dev.restarted_keeps false true hv

@[simp] theorem inputRestored_vital (deciVolts : Nat) (d : Dev) : (inputRestored deciVolts d).vital = d.vital := by
  simp [inputRestored]

@[simp] theorem powerCapSet_keeps {v : List Host.Cell × Nat} (ch : Nat) {d : Dev} (hv : Keeps v d.vital) : Keeps v (powerCapSet ch d).vital := by
  refine Dev.onCommand_keeps _ _ (fun s b e => keeps_if (by simp) (keeps_if (by simp) ?_)) hv
  rw [Dev.answer_vital]
  exact keeps_if (Dev.writeConf_keeps _ .refl) .refl

@[simp] theorem trickleConfig_vital (ch : Nat) (d : Dev) : (trickleConfig ch d).vital = d.vital := by
  simp [trickleConfig]

@[simp] theorem Dev.onLimiter_vital (site : Option Nat) (f : Limiter → Limiter) (d : Dev) : (d.onLimiter site f).vital = d.vital := by
  rfl

@[simp] theorem Dev.powerBoundary_vital (d : Dev) : (d.powerBoundary).vital = d.vital := by
  simp [Dev.powerBoundary]

@[simp] theorem trickleRatioStep_vital (d : Dev) : (trickleRatioStep d).vital = d.vital := by
  simp [trickleRatioStep]

@[simp] theorem Dev.rampGovern_vital (d : Dev) : (d.rampGovern).vital = d.vital := by
  simp [Dev.rampGovern]

@[simp] theorem powerSample_vital (site : Option Nat) (milliwatts deciVolts : Nat) (d : Dev) :
    (powerSample site milliwatts deciVolts d).vital = d.vital := by
  simp [powerSample]

@[simp] theorem limiterStep_vital (site : Option Nat) (d : Dev) : (limiterStep site d).vital = d.vital := by
  simp [limiterStep]

@[simp] theorem limiterRelease_vital (site : Option Nat) (d : Dev) : (limiterRelease site d).vital = d.vital := by
  simp [limiterRelease]

@[simp] theorem Dev.suspect_vital (die idx : Nat) (d : Dev) : (d.suspect die idx).vital = d.vital := by
  unfold Dev.suspect
  split <;> simp

@[simp] theorem Dev.judge_vital (die idx : Nat) (reading : Int) (d : Dev) : (d.judge die idx reading).vital = d.vital := by
  unfold Dev.judge
  dsimp only
  split <;> simp

@[simp] theorem Dev.onThrottle_vital (site zone : Nat) (source : DemandSource) (f : Throttle → Throttle) (d : Dev) :
    (d.onThrottle site zone source f).vital = d.vital := by
  rfl

@[simp] theorem Dev.demand_vital (site zone : Nat) (source : DemandSource) (v : Int) (d : Dev) : (d.demand site zone source v).vital = d.vital := by
  simp [Dev.demand]

@[simp] theorem Dev.drive_vital (die idx : Nat) (v : Int) (d : Dev) : (d.drive die idx v).vital = d.vital := by
  simp [Dev.drive]

@[simp] theorem Dev.flashTemp_vital (die idx : Nat) (reading : Int) (d : Dev) : (d.flashTemp die idx reading).vital = d.vital := by
  simp [Dev.flashTemp]

@[simp] theorem Dev.cooling_vital (d : Dev) : (d.cooling).vital = d.vital := by
  simp [Dev.cooling]

@[simp] theorem sensorSample_vital (die sensor : Nat) (reading : Int) (d : Dev) : (sensorSample die sensor reading d).vital = d.vital := by
  unfold sensorSample
  dsimp only
  repeat' split
  all_goals simp

@[simp] theorem throttleDividerTimer_vital (site zone : Nat) (source : DemandSource) (d : Dev) :
    (throttleDividerTimer site zone source d).vital = d.vital := by
  unfold throttleDividerTimer
  repeat' split
  all_goals simp

@[simp] theorem throttleSkipDecay_vital (site zone : Nat) (source : DemandSource) (d : Dev) :
    (throttleSkipDecay site zone source d).vital = d.vital := by
  unfold throttleSkipDecay
  repeat' split
  all_goals simp

@[simp] theorem Dev.freshReadings_vital (d : Dev) : (d.freshReadings).vital = d.vital := by
  rfl

@[simp] theorem Dev.holdAfterTrip_vital (d : Dev) : (d.holdAfterTrip).vital = d.vital := by
  simp [Dev.holdAfterTrip]

@[simp] theorem Dev.shutdown_keeps {v : List Host.Cell × Nat} (group : Nat) (readings : List Int) {d : Dev} (hv : Keeps v d.vital) :
    Keeps v (d.shutdown group readings).vital := by
  have h0 : Keeps v ([], d.fw.fuseF) := hv.clear
  simp only [Dev.shutdown, Dev.holdAfterTrip_vital, Dev.log_vital, Dev.vital_mk, Dev.vital_eta]
  exact Dev.safeHold_keeps 2 h0

@[simp] theorem thermalTrip_keeps {v : List Host.Cell × Nat} (group : Nat) (readings : List Int) {d : Dev} (hv : Keeps v d.vital) :
    Keeps v (thermalTrip group readings d).vital := by
  unfold thermalTrip
  split
  · exact hv
  extract_lets above p warm _ d1
  have h1 : Keeps v d1.vital := keeps_if hv hv
  exact keeps_if h1 (keeps_if (Dev.shutdown_keeps _ _ h1) h1)

@[simp] theorem thermalPolicyRestart_keeps {v : List Host.Cell × Nat} {d : Dev} (hv : Keeps v d.vital) : Keeps v (thermalPolicyRestart d).vital := by
  unfold thermalPolicyRestart
  split <;> simp [hv]

@[simp] theorem Dev.rederate_vital (d : Dev) : (d.rederate).vital = d.vital := by
  unfold Dev.rederate
  split <;> simp

@[simp] theorem coolantPoll_vital (inlet outlet flow : Option Nat) (d : Dev) : (coolantPoll inlet outlet flow d).vital = d.vital := by
  simp [coolantPoll]

@[simp] theorem capDerateTimer_vital (d : Dev) : (capDerateTimer d).vital = d.vital := by
  unfold capDerateTimer
  split <;> simp

@[simp] theorem Dev.setCoolant_vital (b : List Byte) (d : Dev) : (d.setCoolant b).vital = d.vital := by
  rfl

@[simp] theorem coolantConfig_keeps {v : List Host.Cell × Nat} (ch : Nat) {d : Dev} (hv : Keeps v d.vital) : Keeps v (coolantConfig ch d).vital := by
  refine Dev.onCommand_keeps _ _ (fun s b e => keeps_if (by simp) (keeps_if (by simp) ?_)) hv
  rw [Dev.answer_vital, Dev.setCoolant_vital]
  exact Dev.writeConf_keeps _ .refl

@[simp] theorem flashWriteResume_vital (d : Dev) : (flashWriteResume d).vital = d.vital := by
  unfold flashWriteResume
  split <;> simp

@[simp] theorem thermalPolicyQuery_vital (ch : Nat) (d : Dev) : (thermalPolicyQuery ch d).vital = d.vital := by
  simp [thermalPolicyQuery]

/-! ## Faults of the stacks -/

@[simp] theorem lineFillComplete_keeps {v : List Host.Cell × Nat} (stack line : Nat) (outcome : ReadOutcome) {d : Dev} (hv : Keeps v d.vital) :
    Keeps v (lineFillComplete stack line outcome d).vital := by
  unfold lineFillComplete
  extract_lets r d1
  have hr : Keeps v r.1.vital := Dev.readLine_keeps _ _ _ hv
  have h1 : Keeps v d1.vital := Dev.serveReads_keeps _ _ _ _ hr
  exact keeps_if hv (keeps_if (keeps_if (Dev.fillBuf_keeps _ _ _ h1) h1) (Dev.drainPoisoned_keeps _ _ _ hr))

@[simp] theorem lineUpdate_keeps {v : List Host.Cell × Nat} (stack line : Nat) {d : Dev} (hv : Keeps v d.vital) :
    Keeps v (lineUpdate stack line d).vital := by
  have h := each_keepsVital (fun o e => Dev.applyOp_keeps o .refl) (updateGroup ((d.stack stack).ops.filter (·.line == line))) hv
  exact keeps_if hv (keeps_if (Dev.serveReads_keeps _ _ _ _ h) h)

@[simp] theorem lineWriteback_keeps {v : List Host.Cell × Nat} (stack line : Nat) {d : Dev} (hv : Keeps v d.vital) :
    Keeps v (lineWriteback stack line d).vital := by
  unfold lineWriteback
  split <;> simp [hv]

@[simp] theorem Dev.copyLine_keeps {v : List Host.Cell × Nat} (src dst line : Nat) {d : Dev} (hv : Keeps v d.vital) :
    Keeps v (d.copyLine src dst line).vital := hv.write _ _

@[simp] theorem mirrorCopyAck_keeps {v : List Host.Cell × Nat} (stack line : Nat) {d : Dev} (hv : Keeps v d.vital) :
    Keeps v (mirrorCopyAck stack line d).vital := by
  unfold mirrorCopyAck
  extract_lets mine
  split
  · refine keeps_if hv ?_
    rw [each_vital fun c e => Dev.answerOp_vital _ _ _ _ _]
    exact Dev.onStack_keeps _ _ (keeps_if hv (Dev.copyLine_keeps _ _ _ hv))
  · exact hv

@[simp] theorem mirrorConfig_keeps {v : List Host.Cell × Nat} (ch : Nat) {d : Dev} (hv : Keeps v d.vital) : Keeps v (mirrorConfig ch d).vital := by
  refine Dev.onCommand_keeps _ _ (fun s b e => keeps_if (by simp) (keeps_if (by simp) ?_)) hv
  rw [Dev.answer_vital]
  exact Dev.writeConf_keeps _ .refl

@[simp] theorem scrubRead_keeps {v : List Host.Cell × Nat} (stack line : Nat) (outcome : ReadOutcome) {d : Dev} (hv : Keeps v d.vital) :
    Keeps v (scrubRead stack line outcome d).vital := by
  simp [scrubRead, hv]

@[simp] theorem rowTestComplete_keeps {v : List Host.Cell × Nat} (unit : Nat) (pass spareRow : Bool) {d : Dev} (hv : Keeps v d.vital) :
    Keeps v (rowTestComplete unit pass spareRow d).vital := by
  have h1 : ∀ k f, Keeps v (d.onStack k f).vital := fun k f => Dev.onStack_keeps _ _ hv
  exact keeps_if (keeps_if (Dev.transient_keeps _ (h1 _ _)) (Dev.repairRow_keeps _ _ _ (h1 _ _))) hv

@[simp] theorem softPprComplete_keeps {v : List Host.Cell × Nat} (unit : Nat) {d : Dev} (hv : Keeps v d.vital) :
    Keeps v (softPprComplete unit d).vital := by
  simp [softPprComplete, hv]

@[simp] theorem Dev.fenceForRetrain_keeps {v : List Host.Cell × Nat} (stack channel : Nat) {d : Dev} (hv : Keeps v d.vital) :
    Keeps v (d.fenceForRetrain stack channel).vital := keeps_if hv (Dev.onStack_keeps _ _ (Dev.fenceChannel_keeps _ _ hv))

@[simp] theorem channelTimeout_keeps {v : List Host.Cell × Nat} (stack line : Nat) {d : Dev} (hv : Keeps v d.vital) :
    Keeps v (channelTimeout stack line d).vital := by
  unfold channelTimeout
  extract_lets ch d1
  have h1 : Keeps v d1.vital := Dev.onStack_keeps _ _ (Dev.drainPoisoned_keeps _ _ _ hv)
  exact keeps_if hv (keeps_if (Dev.fenceForRetrain_keeps _ _ h1) h1)

@[simp] theorem parityAlert_keeps {v : List Host.Cell × Nat} (stack channel : Nat) {d : Dev} (hv : Keeps v d.vital) :
    Keeps v (parityAlert stack channel d).vital := by
  unfold parityAlert
  extract_lets d1
  have h1 : Keeps v d1.vital := Dev.onStack_keeps _ _ hv
  exact keeps_if hv (keeps_if (Dev.fenceForRetrain_keeps _ _ h1) h1)

@[simp] theorem channelRetrainComplete_keeps {v : List Host.Cell × Nat} (stack channel : Nat) (pass : Bool) {d : Dev} (hv : Keeps v d.vital) :
    Keeps v (channelRetrainComplete stack channel pass d).vital := by
  unfold channelRetrainComplete
  extract_lets u set d0 d1
  have hset : ∀ f {e : Dev}, Keeps v e.vital → Keeps v (set f e).vital := fun f e he => Dev.onStack_keeps _ _ he
  have h0 : Keeps v d0.vital := keeps_if (Dev.onStack_keeps _ _ hv) hv
  exact keeps_if (keeps_if (hset _ (Dev.transient_keeps _ h0)) (Dev.lasting_keeps _ _ (hset _ h0))) h0

@[simp] theorem stackTempRead_keeps {v : List Host.Cell × Nat} (stack : Nat) (report : Int) (die : List Int) {d : Dev} (hv : Keeps v d.vital) :
    Keeps v (stackTempRead stack report die d).vital := by
  unfold stackTempRead
  extract_lets med bad t d1 h _ d2 d3
  have h1 : Keeps v d1.vital := Dev.onStack_keeps _ _ hv
  have h3 : Keeps v d3.vital := keeps_if (Dev.onStack_keeps _ _ (Dev.fenceStack_keeps _ h1)) h1
  simpa using h3

@[simp] theorem Dev.jobOut_keeps {v : List Host.Cell × Nat} (a : Nat) (data : List Byte) {d : Dev} (hv : Keeps v d.vital) :
    Keeps v (d.jobOut a data).1.vital := by
  unfold Dev.jobOut
  dsimp only
  repeat' split
  all_goals simp [hv]

@[simp] theorem Dev.jobRun_keeps {v : List Host.Cell × Nat} (stack : Nat) (j : GrJob) {d : Dev} (hv : Keeps v d.vital) :
    Keeps v (d.jobRun stack j).1.vital := by
  unfold Dev.jobRun
  refine List.foldlRecOn (motive := fun acc : Dev × JobEnd => Keeps v acc.1.vital) _ _ hv fun acc h bag _ => ?_
  dsimp only
  split <;> simp [h]

@[simp] theorem gatherReduceJobComplete_keeps {v : List Host.Cell × Nat} (stack : Nat) {d : Dev} (hv : Keeps v d.vital) :
    Keeps v (gatherReduceJobComplete stack d).vital := by
  unfold gatherReduceJobComplete
  repeat' split
  all_goals simp [hv]

/-- Writing bytes one by one keeps the form. -/
theorem Keeps.cellSets {v : List Host.Cell × Nat} {n : Nat} (f : Host.Cell → Nat) (l : List Host.Cell) {c : List Host.Cell} (h : Keeps v (c, n)) :
    Keeps v (l.foldl (fun cells x => cellSet cells (f x) x.2) c, n) :=
  List.foldlRecOn (motive := fun c => Keeps v (c, n)) l _ h fun c hc x _ => ⟨fun hw => cellSet_wf c (f x) x.2 (hc.1 hw), hc.2⟩

@[simp] theorem Dev.copyBack_keeps {v : List Host.Cell × Nat} (stack : Nat) {d : Dev} (hv : Keeps v d.vital) : Keeps v (d.copyBack stack).vital := by
  refine each_keepsVital (fun b e => Dev.copyLine_keeps _ _ _ .refl) _ ?_
  exact each_keepsVital (fun l e => Dev.poisonLine_keeps _ _ .refl) _ (Keeps.cellSets _ _ hv)

@[simp] theorem cisternResetComplete_keeps {v : List Host.Cell × Nat} (stack : Nat) {d : Dev} (hv : Keeps v d.vital) :
    Keeps v (cisternResetComplete stack d).vital := by
  refine keeps_if ?_ hv
  rw [Dev.dieReady_vital]
  exact Dev.onStack_keeps _ _ (Dev.copyBack_keeps _ hv)

@[simp] theorem Dev.cxlAnswer_vital (x : Nat) (data : List Byte) (poisoned : Bool) (d : Dev) : (d.cxlAnswer x data poisoned).vital = d.vital := by
  rfl

@[simp] theorem Dev.track_vital (line : Nat) (d : Dev) : (d.track line).vital = d.vital := by
  rfl

@[simp] theorem cxlMemRead_vital (x : Nat) (d : Dev) : (cxlMemRead x d).vital = d.vital := by
  unfold cxlMemRead
  dsimp only
  repeat' split
  all_goals simp

@[simp] theorem cxlMemWrite_keeps {v : List Host.Cell × Nat} (x : Nat) (data : List Byte) (poisoned : Bool) {d : Dev} (hv : Keeps v d.vital) :
    Keeps v (cxlMemWrite x data poisoned d).vital := by
  unfold cxlMemWrite
  dsimp only
  repeat' split
  all_goals simp [hv]

@[simp] theorem Dev.loseCommand_vital (line : Nat) (c : Channel) (d : Dev) : (d.loseCommand line c).vital = d.vital := by
  unfold Dev.loseCommand
  repeat' split
  all_goals simp

/-- The waiting commands and reads that a lost snoop ends, whatever instant the loss is noted at. -/
theorem lostSnoop_keeps {v : List Host.Cell × Nat} {d : Dev} (hv : Keeps v d.vital) (line : Nat) (sn : Snoop) (lost : List Nat) (waiting : List HostRead) :
    let d1 := { d with hg.snoopLost := lost }
    let d2 := each d1.mb.chans (Dev.loseCommand line) d1
    let d3 := { d2 with hg.snoops := d2.hg.snoops.erase sn, hg.snoopFilter := d2.hg.snoopFilter.filter (·.1 != line) }
    Keeps v (each waiting (fun r d => (d.dropRead r).readDone r.purpose .failed) d3).retryReads.vital := by
  intro d1 d2 d3
  have h2 : d2.vital = d1.vital := each_vital (fun c e => Dev.loseCommand_vital _ _ _) _ d1
  have h3 : Keeps v d3.vital := by
    show Keeps v d2.vital
    rwa [h2]
  exact Dev.retryReads_keeps (each_keepsVital (fun r e => Dev.readDone_keeps _ _ (by simp)) _ h3)

@[simp] theorem biSnoopTimeout_keeps {v : List Host.Cell × Nat} (line : Nat) {d : Dev} (hv : Keeps v d.vital) :
    Keeps v (biSnoopTimeout line d).vital := by
  unfold biSnoopTimeout
  split
  · exact hv
  · exact lostSnoop_keeps (by simpa using hv) line _ _ _

@[simp] theorem cruiserRun_vital (ch : Nat) (d : Dev) : (cruiserRun ch d).vital = d.vital := by
  simp [cruiserRun]

/-! ## Optics -/

@[simp] theorem Dev.abortCal_vital (port plane : Nat) (d : Dev) : (d.abortCal port plane).vital = d.vital := by
  simp [Dev.abortCal]

@[simp] theorem Dev.recheck_vital (w : Nat) (d : Dev) : (d.recheck w).vital = d.vital := by
  simp [Dev.recheck]

@[simp] theorem Dev.startSwitch_vital (scheduled : Bool) (w : Nat) (d : Dev) : (d.startSwitch scheduled w).vital = d.vital := by
  simp [Dev.startSwitch]

@[simp] theorem Dev.loseGranted_keeps {v : List Host.Cell × Nat} (w : Nat) {d : Dev} (hv : Keeps v d.vital) : Keeps v (d.loseGranted w).vital := by
  refine each_keepsVital (fun m e => ?_) _ hv
  split
  · exact each_keepsVital (fun t e => Dev.discard_keeps _ _ .refl) _ .refl
  · exact .refl

@[simp] theorem combFailure_keeps {v : List Host.Cell × Nat} (w : Nat) {d : Dev} (hv : Keeps v d.vital) : Keeps v (combFailure w d).vital := by
  simp [combFailure, hv]

@[simp] theorem combSwitchComplete_vital (w : Nat) (d : Dev) : (combSwitchComplete w d).vital = d.vital := by
  unfold combSwitchComplete
  split <;> simp

@[simp] theorem Dev.roundMargins_vital (d : Dev) : (d.roundMargins).vital = d.vital := by
  rfl

@[simp] theorem Dev.ageComb_vital (w : Nat) (d : Dev) : (d.ageComb w).vital = d.vital := by
  simp [Dev.ageComb]

@[simp] theorem laserAgeingCheck_vital (d : Dev) : (laserAgeingCheck d).vital = d.vital := by
  simp [laserAgeingCheck]

@[simp] theorem Dev.combBoundary_vital (d : Dev) : (d.combBoundary).vital = d.vital := by
  simp [Dev.combBoundary]

@[simp] theorem opticalMonitorSample_vital (port plane line : Nat) (sample : PathSample) (d : Dev) :
    (opticalMonitorSample port plane line sample d).vital = d.vital := by
  simp [opticalMonitorSample]

@[simp] theorem Dev.sweepFrom_vital (id : RingId) (d : Dev) : (d.sweepFrom id).vital = d.vital := by
  rfl

@[simp] theorem Dev.lostLane_vital (id : RingId) (lane : Nat) (d : Dev) : (d.lostLane id lane).vital = d.vital := by
  simp [Dev.lostLane]

@[simp] theorem Dev.lossOfLock_keeps {v : List Host.Cell × Nat} (id : RingId) {d : Dev} (hv : Keeps v d.vital) : Keeps v (d.lossOfLock id).vital := by
  unfold Dev.lossOfLock
  dsimp only
  repeat' split
  all_goals simp [hv]

@[simp] theorem tuningLoopUpdate_keeps {v : List Host.Cell × Nat} (id : RingId) (inWindow : Bool) (step dTemp : Int) {d : Dev}
    (hv : Keeps v d.vital) : Keeps v (tuningLoopUpdate id inWindow step dTemp d).vital := by
  unfold tuningLoopUpdate
  extract_lets r forward move out d1
  have h1 : Keeps v d1.vital := by simpa [d1] using hv
  exact keeps_if hv (keeps_if (Dev.lossOfLock_keeps _ h1) h1)

@[simp] theorem laneIdentityCheck_vital (id : RingId) (identity : Option Nat) (d : Dev) : (laneIdentityCheck id identity d).vital = d.vital := by
  unfold laneIdentityCheck
  dsimp only
  repeat' split
  all_goals simp

@[simp] theorem relockTimeout_vital (port plane : Nat) (d : Dev) : (relockTimeout port plane d).vital = d.vital := by
  unfold relockTimeout
  split <;> simp

@[simp] theorem Dev.startCal_vital (port plane : Nat) (d : Dev) : (d.startCal port plane).vital = d.vital := by
  simp [Dev.startCal]

@[simp] theorem Dev.startFibreCal_vital (port : Nat) (d : Dev) : (d.startFibreCal port).vital = d.vital := by
  simp [Dev.startFibreCal]

@[simp] theorem Dev.endFibreCal_vital (port fault : Nat) (d : Dev) : (d.endFibreCal port fault).vital = d.vital := by
  simp [Dev.endFibreCal]

@[simp] theorem calibrationWindowOpen_vital (d : Dev) : (calibrationWindowOpen d).vital = d.vital := by
  unfold calibrationWindowOpen
  refine Dev.onPoint_vital _ _ (fun e => ?_) d
  dsimp only
  repeat' split
  all_goals simp

@[simp] theorem Dev.closeCal_vital (o : OptPort) (d : Dev) : (d.closeCal o).vital = d.vital := by
  simp [Dev.closeCal]

@[simp] theorem calibrationWindowClose_vital (d : Dev) : (calibrationWindowClose d).vital = d.vital := by
  simp [calibrationWindowClose]

@[simp] theorem Dev.acceptRing_vital (id : RingId) (a b : RingMeas) (t : Int) (d : Dev) : (d.acceptRing id a b t).vital = d.vital := by
  simp [Dev.acceptRing]

@[simp] theorem Dev.suspectLane_vital (port plane pos : Nat) (side : Side) (d : Dev) : (d.suspectLane port plane pos side).vital = d.vital := by
  simp [Dev.suspectLane]

@[simp] theorem Dev.laneBack_vital (port plane pos : Nat) (side : Side) (d : Dev) : (d.laneBack port plane pos side).vital = d.vital := by
  simp [Dev.laneBack]

@[simp] theorem calibrationMeasurementComplete_vital (port plane : Nat) (tx1 tx2 rx1 rx2 : RingMeas) (temp : Int) (d : Dev) :
    (calibrationMeasurementComplete port plane tx1 tx2 rx1 rx2 temp d).vital = d.vital := by
  unfold calibrationMeasurementComplete
  split <;> simp

@[simp] theorem Dev.storeCal_vital (d : Dev) : (d.storeCal).vital = d.vital := by
  simp [Dev.storeCal]

@[simp] theorem calibrationStoreWrite_vital (d : Dev) : (calibrationStoreWrite d).vital = d.vital := by
  simp [calibrationStoreWrite]

@[simp] theorem calibrationStatus_vital (ch : Nat) (d : Dev) : (calibrationStatus ch d).vital = d.vital := by
  simp [calibrationStatus]

/-! ## The Spillway -/

@[simp] theorem Dev.credit_vital (port c : Nat) (d : Dev) : (d.credit port c).vital = d.vital := by
  rfl

@[simp] theorem Dev.discardFrame_keeps {v : List Host.Cell × Nat} (port : Nat) {d : Dev} (hv : Keeps v d.vital) :
    Keeps v (d.discardFrame port).vital := by
  simp [Dev.discardFrame, hv]

@[simp] theorem Dev.tagFailure_vital (port : Nat) (d : Dev) : (d.tagFailure port).vital = d.vital := by
  simp [Dev.tagFailure]

@[simp] theorem Dev.arrive_keeps {v : List Host.Cell × Nat} (port : Nat) (f : Frame) (kinds : List Nat) (own : Bool) {act : Dev → Dev}
    (hact : ∀ e, Keeps e.vital (act e).vital) {d : Dev} (hv : Keeps v d.vital) : Keeps v (d.arrive port f kinds own act).vital := by
  unfold Dev.arrive
  dsimp only
  refine keeps_if hv (keeps_if ?tag (keeps_if ?fits (keeps_if ?epoch (keeps_if ?held ?act))))
  case fits => exact Dev.discardFrame_keeps _ (by simpa using hv)
  case held => exact Dev.discardFrame_keeps _ (by simpa using hv)
  case act => exact Keeps.trans (by simpa using hv) (hact _)
  all_goals simpa using hv

@[simp] theorem Dev.passOn_vital (port : Nat) (f : Frame) (home : Nat) (d : Dev) : (d.passOn port f home).vital = d.vital := by
  simp [Dev.passOn]

@[simp] theorem Dev.refuseFrame_vital (port : Nat) (f : Frame) (d : Dev) : (d.refuseFrame port f).vital = d.vital := by
  simp [Dev.refuseFrame]

@[simp] theorem Dev.serveFrame_vital (port : Nat) (f : Frame) (d : Dev) : (d.serveFrame port f).vital = d.vital := by
  unfold Dev.serveFrame
  split <;> simp

@[simp] theorem Dev.drain_vital (fuel : Nat) (d : Dev) : (d.drain fuel).vital = d.vital := by
  induction fuel generalizing d with
  | zero => rfl
  | succ fuel ih =>
    unfold Dev.drain
    dsimp only
    split
    · rw [ih]
      split <;> simp
    · rfl

@[simp] theorem Dev.drainAll_vital (d : Dev) : (d.drainAll).vital = d.vital := by
  simp [Dev.drainAll]

@[simp] theorem Dev.ownRequest_keeps {v : List Host.Cell × Nat} (port : Nat) (f : Frame) (kind : Nat) {d : Dev} (hv : Keeps v d.vital) :
    Keeps v (d.ownRequest port f kind).vital := by
  simp [Dev.ownRequest, hv]

@[simp] theorem spillwayLoad_keeps {v : List Host.Cell × Nat} (port : Nat) (f : Frame) {d : Dev} (hv : Keeps v d.vital) :
    Keeps v (spillwayLoad port f d).vital := by
  simp [spillwayLoad, hv]

@[simp] theorem spillwayStore_keeps {v : List Host.Cell × Nat} (port : Nat) (f : Frame) {d : Dev} (hv : Keeps v d.vital) :
    Keeps v (spillwayStore port f d).vital := by
  simp [spillwayStore, hv]

@[simp] theorem spillwayAtomic_keeps {v : List Host.Cell × Nat} (port : Nat) (f : Frame) {d : Dev} (hv : Keeps v d.vital) :
    Keeps v (spillwayAtomic port f d).vital := by
  simp [spillwayAtomic, hv]

@[simp] theorem spillwayBulkWrite_keeps {v : List Host.Cell × Nat} (port : Nat) (f : Frame) {d : Dev} (hv : Keeps v d.vital) :
    Keeps v (spillwayBulkWrite port f d).vital := by
  simp [spillwayBulkWrite, hv]

@[simp] theorem spillwayBulkRead_keeps {v : List Host.Cell × Nat} (port : Nat) (f : Frame) {d : Dev} (hv : Keeps v d.vital) :
    Keeps v (spillwayBulkRead port f d).vital := by
  simp [spillwayBulkRead, hv]

@[simp] theorem Dev.leaveDone_vital (d : Dev) : (d.leaveDone).vital = d.vital := by
  unfold Dev.leaveDone
  split <;> simp

@[simp] theorem spillwayResponse_keeps {v : List Host.Cell × Nat} (port : Nat) (f : Frame) {d : Dev} (hv : Keeps v d.vital) :
    Keeps v (spillwayResponse port f d).vital := by
  refine Dev.arrive_keeps _ _ _ _ (fun e => ?_) (by simpa using hv)
  dsimp only
  split
  · exact keeps_if (by simp) (by simp)
  · simp

@[simp] theorem transitForward_keeps {v : List Host.Cell × Nat} (port : Nat) (f : Frame) {d : Dev} (hv : Keeps v d.vital) :
    Keeps v (transitForward port f d).vital := by
  simp [transitForward, hv]

@[simp] theorem spillwayTimeout_vital (gen unit : Nat) (d : Dev) : (spillwayTimeout gen unit d).vital = d.vital := by
  unfold spillwayTimeout
  dsimp only
  split <;> simp

@[simp] theorem Dev.leaves_vital (f : Frame) (d : Dev) : (d.leaves f).vital = d.vital := by
  unfold Dev.leaves
  split <;> simp

@[simp] theorem frameTransmit_vital (port : Nat) (d : Dev) : (frameTransmit port d).vital = d.vital := by
  unfold frameTransmit
  dsimp only
  repeat' split
  all_goals simp

@[simp] theorem staleFrameExpiry_vital (port : Nat) (d : Dev) : (staleFrameExpiry port d).vital = d.vital := by
  have hfreed : ∀ c : BCell, ∀ e : Dev, (c.frame.elim e fun x => e.freeBuf port (isRsp x.2.2)).vital = e.vital :=
    fun c e => elim_vital (fun x => Dev.freeBuf_vital _ _ _) _
  unfold staleFrameExpiry
  extract_lets held
  clear_value held
  split
  · rfl
  extract_lets d1 old stale gone late cells d2 _ _ d3 d4 d5
  have h2 : d2.vital = d.vital := (Dev.onFport_vital ..).trans (Dev.reach_vital ..)
  have h3 : d3.vital = d2.vital := Dev.vital_mk ..
  have h4 : d4.vital = d3.vital := by
    refine each_vital (fun x e => ?_) _ _
    split
    · exact Dev.freeBuf_vital ..
    · split
      · rfl
      · exact Dev.leaves_vital ..
  have h5 : d5.vital = d4.vital := each_vital (fun x e => Dev.freeBuf_vital ..) _ _
  rw [each_vital hfreed, h5, h4, h3, h2]

@[simp] theorem idleCodeword_vital (port credit : Nat) (d : Dev) : (idleCodeword port credit d).vital = d.vital := by
  simp [idleCodeword]

@[simp] theorem Dev.laneMapDue_vital (port seq : Nat) (d : Dev) : (d.laneMapDue port seq).vital = d.vital := by
  unfold Dev.laneMapDue
  dsimp only
  split <;> simp

@[simp] theorem Dev.keysDue_vital (port seq : Nat) (d : Dev) : (d.keysDue port seq).vital = d.vital := by
  rfl

@[simp] theorem marker_vital (port credit nextStart seq : Nat) (d : Dev) : (marker port credit nextStart seq d).vital = d.vital := by
  simp [marker]

@[simp] theorem frameUncorrectable_keeps {v : List Host.Cell × Nat} (port index c : Nat) (wrong : List Nat) (response : Bool) {d : Dev}
    (hv : Keeps v d.vital) : Keeps v (frameUncorrectable port index c wrong response d).vital := by
  refine keeps_if hv (keeps_if ?_ (Dev.discardFrame_keeps _ (keeps_if ?_ ?_)))
  all_goals simpa using hv

@[simp] theorem hello_vital (port version node epoch reqCredits rspCredits : Nat) (required : Bool) (d : Dev) :
    (hello port version node epoch reqCredits rspCredits required d).vital = d.vital := by
  simp [hello]

@[simp] theorem helloTimer_vital (port : Nat) (d : Dev) : (helloTimer port d).vital = d.vital := by
  simp [helloTimer]

@[simp] theorem laneMap_vital (port : Nat) (map : List Nat) (seq : Nat) (d : Dev) : (laneMap port map seq d).vital = d.vital := by
  simp [laneMap]

@[simp] theorem leave_vital (port : Nat) (d : Dev) : (leave port d).vital = d.vital := by
  simp [leave]

@[simp] theorem spdm_vital (port : Nat) (done ok : Bool) (d : Dev) : (spdm port done ok d).vital = d.vital := by
  simp [spdm]

@[simp] theorem keySwitch_vital (port seq : Nat) (d : Dev) : (keySwitch port seq d).vital = d.vital := by
  simp [keySwitch]

@[simp] theorem rekeyTimer_vital (port : Nat) (d : Dev) : (rekeyTimer port d).vital = d.vital := by
  simp [rekeyTimer]

@[simp] theorem portLossOfLight_vital (port : Nat) (byMarker light : Bool) (d : Dev) : (portLossOfLight port byMarker light d).vital = d.vital := by
  simp [portLossOfLight]

@[simp] theorem aprEntry_vital (port : Nat) (d : Dev) : (aprEntry port d).vital = d.vital := by
  simp [aprEntry]

@[simp] theorem aprProbeLight_vital (port : Nat) (d : Dev) : (aprProbeLight port d).vital = d.vital := by
  simp [aprProbeLight]

@[simp] theorem portUp_vital (port : Nat) (d : Dev) : (portUp port d).vital = d.vital := by
  simp [portUp]

@[simp] theorem trainingTimeout_vital (port : Nat) (d : Dev) : (trainingTimeout port d).vital = d.vital := by
  unfold trainingTimeout
  dsimp only
  split <;> simp

@[simp] theorem spillwayCombFailure_vital (engine source : Nat) (d : Dev) : (spillwayCombFailure engine source d).vital = d.vital := by
  unfold spillwayCombFailure
  dsimp only
  repeat' split
  all_goals simp

@[simp] theorem Dev.sendBarrier_vital (kind node : Nat) (incomplete : Bool) (count : Nat) (d : Dev) :
    (d.sendBarrier kind node incomplete count).vital = d.vital := by
  unfold Dev.sendBarrier
  split <;> simp

@[simp] theorem Dev.barrierOutcome_vital (arrivals outcome withdrawn : Nat) (d : Dev) :
    (d.barrierOutcome arrivals outcome withdrawn).vital = d.vital := by
  simp [Dev.barrierOutcome]

@[simp] theorem Dev.release_vital (d : Dev) : (d.release).vital = d.vital := by
  simp [Dev.release]

@[simp] theorem Dev.releaseIfAll_vital (d : Dev) : (d.releaseIfAll).vital = d.vital := by
  simp [Dev.releaseIfAll]

@[simp] theorem Dev.countArrival_vital (node : Nat) (incomplete : Bool) (d : Dev) : (d.countArrival node incomplete).vital = d.vital := by
  simp [Dev.countArrival]

@[simp] theorem Dev.arriveBarrier_vital (incomplete : Bool) (d : Dev) : (d.arriveBarrier incomplete).vital = d.vital := by
  simp [Dev.arriveBarrier]

@[simp] theorem barrierArriveSend_vital (d : Dev) : (barrierArriveSend d).vital = d.vital := by
  simp [barrierArriveSend]

@[simp] theorem barrierArriveDeadline_vital (d : Dev) : (barrierArriveDeadline d).vital = d.vital := by
  simp [barrierArriveDeadline]

@[simp] theorem Dev.barrierFrame_keeps {v : List Host.Cell × Nat} (port : Nat) (f : Frame) (kind : Nat) {act : Dev → Dev}
    (hact : ∀ e, Keeps e.vital (act e).vital) {d : Dev} (h : Keeps v d.vital) : Keeps v (d.barrierFrame port f kind act).vital :=
  Dev.arrive_keeps _ _ _ _ (fun _ => Keeps.trans (by simp) (hact _)) h

@[simp] theorem barrierArrive_keeps {v : List Host.Cell × Nat} (port : Nat) (f : Frame) {d : Dev} (hv : Keeps v d.vital) :
    Keeps v (barrierArrive port f d).vital := by
  simp [barrierArrive, hv]

@[simp] theorem barrierReleaseDeadline_vital (d : Dev) : (barrierReleaseDeadline d).vital = d.vital := by
  simp [barrierReleaseDeadline]

@[simp] theorem barrierRelease_keeps {v : List Host.Cell × Nat} (port : Nat) (f : Frame) (withdrawn : Nat) {d : Dev} (hv : Keeps v d.vital) :
    Keeps v (barrierRelease port f withdrawn d).vital := by
  simp [barrierRelease, hv]

@[simp] theorem barrierMissed_vital (d : Dev) : (barrierMissed d).vital = d.vital := by
  simp [barrierMissed]

@[simp] theorem barrierWithdraw_keeps {v : List Host.Cell × Nat} (port : Nat) (f : Frame) {d : Dev} (hv : Keeps v d.vital) :
    Keeps v (barrierWithdraw port f d).vital := by
  simp [barrierWithdraw, hv]

@[simp] theorem barrierRejoin_keeps {v : List Host.Cell × Nat} (port : Nat) (f : Frame) {d : Dev} (hv : Keeps v d.vital) :
    Keeps v (barrierRejoin port f d).vital := by
  simp [barrierRejoin, hv]

@[simp] theorem holdoverAgeLimit_vital (d : Dev) : (holdoverAgeLimit d).vital = d.vital := by
  unfold holdoverAgeLimit
  split <;> simp

@[simp] theorem Dev.barrierBoundary_vital (d : Dev) : (d.barrierBoundary).vital = d.vital := by
  simp [Dev.barrierBoundary]

@[simp] theorem Dev.feedPort_vital (port : Nat) (d : Dev) : (d.feedPort port).vital = d.vital := by
  simp [Dev.feedPort]

@[simp] theorem Dev.joinFabric_vital (b : List Byte) (members : List Nat) (d : Dev) : (d.joinFabric b members).vital = d.vital := by
  simp [Dev.joinFabric]

@[simp] theorem fabricJoin_vital (ch : Nat) (d : Dev) : (fabricJoin ch d).vital = d.vital := by
  unfold fabricJoin
  refine Dev.onCommand_vital _ _ (fun _ _ e => ?_) d
  dsimp only
  repeat' split
  all_goals simp

@[simp] theorem fabricLeave_vital (ch : Nat) (d : Dev) : (fabricLeave ch d).vital = d.vital := by
  unfold fabricLeave
  refine Dev.onCommand_vital _ _ (fun _ _ e => ?_) d
  dsimp only
  repeat' split
  all_goals simp

@[simp] theorem fabricTableSet_vital (ch : Nat) (d : Dev) : (fabricTableSet ch d).vital = d.vital := by
  unfold fabricTableSet
  refine Dev.onCommand_vital _ _ (fun _ _ e => ?_) d
  dsimp only
  repeat' split
  all_goals simp

@[simp] theorem fabricQuery_vital (ch : Nat) (d : Dev) : (fabricQuery ch d).vital = d.vital := by
  simp [fabricQuery]

/-! ## Threads and resets of the compute sites -/

@[simp] theorem Dev.accessHere_vital (t : Thread) (op : RemoteOp) (a tag : Nat) (rack : Bool) (d : Dev) :
    (d.accessHere t op a tag rack).vital = d.vital := by
  unfold Dev.accessHere
  repeat' split
  all_goals simp

@[simp] theorem Dev.accessFar_vital (t : Thread) (op : RemoteOp) (a tag : Nat) (poison posted : Bool) (d : Dev) :
    (d.accessFar t op a tag poison posted).vital = d.vital := by
  unfold Dev.accessFar
  repeat' split
  all_goals simp

@[simp] theorem tallyRemoteAccess_vital (t : Thread) (rack : Bool) (op : RemoteOp) (d : Dev) : (tallyRemoteAccess t rack op d).vital = d.vital := by
  unfold tallyRemoteAccess
  repeat' split
  all_goals simp

@[simp] theorem Dev.endDescriptor_vital (tag status : Nat) (d : Dev) : (d.endDescriptor tag status).vital = d.vital := by
  rfl

@[simp] theorem Dev.startTransfer_vital (t : Thread) (desc : XferDesc) (d : Dev) : (d.startTransfer t desc).vital = d.vital := by
  unfold Dev.startTransfer
  repeat' split
  all_goals simp

@[simp] theorem transferDescriptorWrite_vital (t : Thread) (desc : XferDesc) (d : Dev) : (transferDescriptorWrite t desc d).vital = d.vital := by
  simp [transferDescriptorWrite]

@[simp] theorem Dev.finishFence_vital (t : Thread) (rack : Bool) (d : Dev) : (d.finishFence t rack).vital = d.vital := by
  rfl

@[simp] theorem Dev.ownAccess_keeps {v : List Host.Cell × Nat} (t : Thread) (op : RemoteOp) (bad : Bool) {d : Dev} (hv : Keeps v d.vital) :
    Keeps v (d.ownAccess t op bad).vital := by
  unfold Dev.ownAccess
  dsimp only
  repeat' split
  all_goals simp [hv]

@[simp] theorem Dev.badWord_keeps {v : List Host.Cell × Nat} (site w : Nat) {d : Dev} (hv : Keeps v d.vital) : Keeps v (d.badWord site w).vital := by
  simp [Dev.badWord, hv]

/-- What holds of the access to the thread's own Stand, whichever it is. -/
theorem standAccess_cases (p : Dev → Prop) {load : Nat → Nat → Nat → Dev} {store : Nat → Nat → List Byte → Dev}
    {atomic : AtomicOp → AtomicTy → Nat → Nat → Nat → Nat → Dev} {other : Dev} (op : RemoteOp) (hl : ∀ st off n, p (load st off n))
    (hs : ∀ st off data, p (store st off data)) (ha : ∀ o ty st off x y, p (atomic o ty st off x y)) (ho : p other) :
    p (match op with
      | .standLoad st off n => load st off n
      | .standStore st off data => store st off data
      | .standAtomic o ty st off x y => atomic o ty st off x y
      | _ => other) := by
  split
  · exact hl _ _ _
  · exact hs _ _ _
  · exact ha _ _ _ _ _ _
  · exact ho
@[simp] theorem Dev.standAccess_vital (t : Thread) (op : RemoteOp) (d : Dev) : (d.standAccess t op).vital = d.vital := by
  unfold Dev.standAccess
  refine standAccess_cases (fun e => e.vital = d.vital) op (fun st off n => ?_) (fun st off data => ?_) (fun o ty st off x y => ?_) rfl
  · split <;> rw [Dev.finishThread_vital]
  · rw [Dev.finishThread_vital, Dev.writeStand_vital]
  · split
    · rw [Dev.finishThread_vital, Dev.writeStand_vital]
    · rw [Dev.finishThread_vital]

@[simp] theorem Dev.hit_vital (p : Parked) (line : Nat) (d : Dev) : (d.hit p line).vital = d.vital := by
  unfold Dev.hit
  split <;> simp

@[simp] theorem Dev.standArrives_vital (p : Parked) (d : Dev) : (d.standArrives p).vital = d.vital := by
  unfold Dev.standArrives
  extract_lets same before
  exact each_vital (fun q e => Dev.standAccess_vital _ _ e) _ d

@[simp] theorem Dev.completeParked_keeps {v : List Host.Cell × Nat} (p : Parked) (corrected : Nat) (bad : Bool) {d : Dev} (hv : Keeps v d.vital) :
    Keeps v (d.completeParked p corrected bad).vital := by
  have hc : ∀ (c : Prop) [Decidable c] site unit, Keeps v (if c then d.sramCorrected site unit corrected else d).vital :=
    fun c _ site unit => keeps_if (by rwa [Dev.sramCorrected_vital]) hv
  unfold Dev.completeParked
  extract_lets site
  split
  · exact keeps_if (by simpa using hv) hv
  · exact elim_keeps (fun st => by simpa using hv) hv _
  · split
    · dsimp only
      rw [Dev.standArrives_vital]
      split
      · exact Dev.badWord_keeps _ _ (hc _ _ _)
      · exact hc _ _ _
    · exact hv
    · refine keeps_if hv (keeps_if (Dev.ownAccess_keeps _ _ _ (hc _ _ _)) ?_)
      split
      · refine keeps_if hv (keeps_if (Dev.uncorrectable_keeps _ _ ?_) ?_)
        · rw [Dev.wantLine_vital, Dev.onSite_vital]
          exact hc _ _ _
        · rw [Dev.hit_vital]
          exact hc _ _ _
      · exact hv

@[simp] theorem Dev.timeoutParked_vital (p : Parked) (far : Bool) (d : Dev) : (d.timeoutParked p far).vital = d.vital := by
  simp [Dev.timeoutParked]

@[simp] theorem Dev.timeoutTransfer_vital (x : Transfer) (d : Dev) : (d.timeoutTransfer x).vital = d.vital := by
  simp [Dev.timeoutTransfer]

@[simp] theorem Dev.timeoutJob_vital (j : Nat × Thread × Nat) (d : Dev) : (d.timeoutJob j).vital = d.vital := by
  simp [Dev.timeoutJob]

theorem Dev.timeouts_vital {t : Thread} {d : Dev} {x : Nat × (Dev → Dev)} (hx : x ∈ d.timeouts t) (e : Dev) : (x.2 e).vital = e.vital := by
  unfold Dev.timeouts at hx
  simp only [List.mem_append, List.mem_filterMap, List.mem_map] at hx
  rcases hx with (⟨p, -, hp⟩ | ⟨p, -, rfl⟩) | ⟨p, -, rfl⟩
  · split at hp
    · cases hp
    · cases hp
      exact Dev.timeoutParked_vital ..
  · exact Dev.timeoutTransfer_vital ..
  · exact Dev.timeoutJob_vital ..

@[simp] theorem remoteAccessTimeout_vital (t : Thread) (d : Dev) : (remoteAccessTimeout t d).vital = d.vital := by
  unfold remoteAccessTimeout
  extract_lets all first
  cases hx : all.find? (·.1 == first) with
  | none => rfl
  | some x => exact Dev.timeouts_vital (List.mem_of_find?_eq_some hx) d

@[simp] theorem bondBeatUncorrectable_keeps {v : List Host.Cell × Nat} (site group : Nat) (beat : BeatOwner) {d : Dev} (hv : Keeps v d.vital) :
    Keeps v (bondBeatUncorrectable site group beat d).vital := by
  refine Dev.uncorrectable_keeps _ _ ?_
  split
  · split
    · exact keeps_if (by simpa using hv) hv
    · exact hv
  · exact hv
  · exact hv

@[simp] theorem coreAgeingLower_vital (site stand pos : Nat) (d : Dev) : (coreAgeingLower site stand pos d).vital = d.vital := by
  rfl

@[simp] theorem understoryReset_keeps {v : List Host.Cell × Nat} (site : Nat) {d : Dev} (hv : Keeps v d.vital) :
    Keeps v (understoryReset site d).vital := by
  simp [understoryReset, hv]

@[simp] theorem Dev.sendReload_vital (site : Nat) (d : Dev) : (d.sendReload site).vital = d.vital := by
  simp [Dev.sendReload]

@[simp] theorem understoryReady_vital (site : Nat) (d : Dev) : (understoryReady site d).vital = d.vital := by
  simp [understoryReady]

@[simp] theorem canopyReset_vital (site : Nat) (d : Dev) : (canopyReset site d).vital = d.vital := by
  simp [canopyReset]

@[simp] theorem canopyReloadComplete_vital (site : Nat) (d : Dev) : (canopyReloadComplete site d).vital = d.vital := by
  simp [canopyReloadComplete]

/-! ## Fault reports -/

@[simp] theorem Dev.standbyFault_keeps {v : List Host.Cell × Nat} {d : Dev} (hv : Keeps v d.vital) : Keeps v (d.standbyFault).vital := by
  simp [Dev.standbyFault, hv]

@[simp] theorem faultReport_keeps {v : List Host.Cell × Nat} (unit : Nat) (kind : FaultKind) {d : Dev} (hv : Keeps v d.vital) :
    Keeps v (faultReport unit kind d).vital := by
  unfold faultReport
  repeat' split
  all_goals simp [hv]

@[simp] theorem Dev.settle_vital (port : Nat) (d : Dev) : (d.settle port).vital = d.vital := by
  simp [Dev.settle]

@[simp] theorem Dev.recover_keeps {v : List Host.Cell × Nat} (r : Report) {d : Dev} (hv : Keeps v d.vital) : Keeps v (d.recover r).vital := by
  unfold Dev.recover
  extract_lets _ d1 port
  have h1 : Keeps v d1.vital := hv
  split
  · exact keeps_if (by simpa using h1) (Dev.isolate_keeps _ _ h1)
  · simpa using Dev.resetDie_keeps _ h1

@[simp] theorem Dev.retestSite_keeps {v : List Host.Cell × Nat} (port unit : Nat) {d : Dev} (hv : Keeps v d.vital) :
    Keeps v (d.retestSite port unit).vital := by
  unfold Dev.retestSite
  extract_lets _ d1 d2 reset
  have h2 : Keeps v d2.vital := Dev.resetDie_keeps _ hv
  exact keeps_if (keeps_if h2 h2) (by simpa [d1] using hv)

@[simp] theorem recoveryStart_keeps {v : List Host.Cell × Nat} {d : Dev} (hv : Keeps v d.vital) : Keeps v (recoveryStart d).vital := by
  unfold recoveryStart
  repeat' split
  all_goals simp [hv]

@[simp] theorem Dev.retested_vital (tested unit : Nat) (result : TestResult) (d : Dev) : (d.retested tested unit result).vital = d.vital := by
  unfold Dev.retested
  split <;> simp

@[simp] theorem Dev.tested_keeps {v : List Host.Cell × Nat} (tested unit : Nat) (result : TestResult) {d : Dev} (hv : Keeps v d.vital) :
    Keeps v (d.tested tested unit result).vital := by
  unfold Dev.tested
  split <;> simp [hv]

@[simp] theorem targetedSelfTestComplete_keeps {v : List Host.Cell × Nat} (unit : Nat) (result : TestResult) {d : Dev} (hv : Keeps v d.vital) :
    Keeps v (targetedSelfTestComplete unit result d).vital := by
  unfold targetedSelfTestComplete
  repeat' split
  all_goals simp [hv]

@[simp] theorem recoveryTimeout_keeps {v : List Host.Cell × Nat} {d : Dev} (hv : Keeps v d.vital) : Keeps v (recoveryTimeout d).vital := by
  unfold recoveryTimeout
  split <;> simp [hv]

@[simp] theorem stewardHeartbeatMissed_keeps {v : List Host.Cell × Nat} (port : Nat) {d : Dev} (hv : Keeps v d.vital) :
    Keeps v (stewardHeartbeatMissed port d).vital :=
  keeps_if hv (Dev.reportFault_keeps _ _ (by rwa [onlyIf_vital fun e => Dev.notice_vital _ _ _]))

@[simp] theorem chimeLoss_keeps {v : List Host.Cell × Nat} (port : Nat) {d : Dev} (hv : Keeps v d.vital) : Keeps v (chimeLoss port d).vital := by
  unfold chimeLoss
  extract_lets _ d1
  have h1 : Keeps v d1.vital := hv
  refine keeps_if h1 (keeps_if (by simpa using h1) (keeps_if ?_ (keeps_if (Dev.handover_keeps _ h1) (keeps_if ?_ ?_))))
  all_goals simp [h1]

@[simp] theorem correctedErrorHour_keeps {v : List Host.Cell × Nat} {d : Dev} (hv : Keeps v d.vital) : Keeps v (correctedErrorHour d).vital := by
  unfold correctedErrorHour
  refine each_keepsVital (fun _ _ => ?_) _ ?_
  · repeat' split
    all_goals simp
  · simp [hv]

@[simp] theorem coppicePreparationComplete_vital (unit : Nat) (d : Dev) : (coppicePreparationComplete unit d).vital = d.vital := by
  simp [coppicePreparationComplete]

/-! ## Firmware -/

@[simp] theorem Dev.setSlot_keeps {v : List Host.Cell × Nat} (n : Nat) (x : Slot) {d : Dev} (hv : Keeps v d.vital) :
    Keeps v (d.setSlot n x).vital := by
  simpa [Dev.setSlot] using hv

@[simp] theorem Dev.writeBoot_keeps {v : List Host.Cell × Nat} (f : BootRec → BootRec) {d : Dev} (hv : Keeps v d.vital) :
    Keeps v (d.writeBoot f).vital := by
  simpa [Dev.writeBoot] using hv

@[simp] theorem fwUpdateBegin_keeps {v : List Host.Cell × Nat} (ch : Nat) {d : Dev} (hv : Keeps v d.vital) : Keeps v (fwUpdateBegin ch d).vital := by
  refine Dev.onCommand_keeps _ _ (fun s b e => keeps_if (by simp) (keeps_if (by simp) (keeps_if (by simp) (keeps_if (by simp) ?_)))) hv
  rw [Dev.answer_vital]
  exact Dev.writeBoot_keeps _ (Dev.setSlot_keeps _ _ .refl)

@[simp] theorem Dev.writeBlock_keeps {v : List Host.Cell × Nat} (p : Update) (i : Nat) (bs : List Byte) {d : Dev} (hv : Keeps v d.vital) :
    Keeps v (d.writeBlock p i bs).vital := by
  simp [Dev.writeBlock, hv]

@[simp] theorem fwUpdateBlock_keeps {v : List Host.Cell × Nat} (ch : Nat) (readbackOk : Bool) {d : Dev} (hv : Keeps v d.vital) :
    Keeps v (fwUpdateBlock ch readbackOk d).vital := by
  unfold fwUpdateBlock
  refine Dev.onCommand_keeps _ _ (fun _ _ e => ?_) hv
  dsimp only
  repeat' split
  all_goals simp

@[simp] theorem Dev.commitConf_keeps {v : List Host.Cell × Nat} (ch : Nat) (p : Update) {d : Dev} (hv : Keeps v d.vital) :
    Keeps v (d.commitConf ch p).vital := by
  refine keeps_if (by simpa using hv) (keeps_if (by simpa using hv) ?_)
  rw [Dev.answer_vital]
  exact Dev.writeConf_keeps _ hv

@[simp] theorem Dev.commitImage_keeps {v : List Host.Cell × Nat} (ch : Nat) (p : Update) {d : Dev} (hv : Keeps v d.vital) :
    Keeps v (d.commitImage ch p).vital := by
  have hf : ∀ status, Keeps v (d.fail ch status).vital := fun status => by simpa using hv
  refine keeps_if (hf _) (keeps_if (hf _) (keeps_if (hf _) (keeps_if (hf _) ?_)))
  rw [Dev.answer_vital]
  exact Dev.writeBoot_keeps _ (Dev.setSlot_keeps _ _ hv)

@[simp] theorem fwUpdateCommit_keeps {v : List Host.Cell × Nat} (ch : Nat) {d : Dev} (hv : Keeps v d.vital) :
    Keeps v (fwUpdateCommit ch d).vital := by
  refine Dev.onCommand_keeps _ _ (fun s b e => ?_) hv
  split
  · simp
  · exact keeps_if (keeps_if (Dev.commitImage_keeps _ _ .refl) (Dev.commitConf_keeps _ _ .refl)) (by simp)

@[simp] theorem fwActivate_keeps {v : List Host.Cell × Nat} (ch : Nat) {d : Dev} (hv : Keeps v d.vital) : Keeps v (fwActivate ch d).vital := by
  refine Dev.onCommand_keeps _ _ (fun s b e => keeps_if .refl (keeps_if (by simp) (keeps_if (by simp) (keeps_if (by simp) ?_)))) hv
  rw [Dev.answer_vital]
  exact Dev.writeBoot_keeps _ .refl

@[simp] theorem fwActivateLive_keeps {v : List Host.Cell × Nat} (ch : Nat) {d : Dev} (hv : Keeps v d.vital) :
    Keeps v (fwActivateLive ch d).vital := by
  refine Dev.onCommand_keeps _ _ (fun s b e => ?_) hv
  refine keeps_if .refl (keeps_if (by simp) (keeps_if (by simp) (keeps_if (by simp) ?_)))
  rw [Dev.answer_vital]
  exact Dev.setStandby_keeps _ Keeps.refl

@[simp] theorem licenceInstall_keeps {v : List Host.Cell × Nat} (ch : Nat) {d : Dev} (hv : Keeps v d.vital) :
    Keeps v (licenceInstall ch d).vital := by
  simpa [licenceInstall] using hv

@[simp] theorem licenceQuery_vital (ch : Nat) (d : Dev) : (licenceQuery ch d).vital = d.vital := by
  simp [licenceQuery]

@[simp] theorem debugNonceRequest_keeps {v : List Host.Cell × Nat} (ch : Nat) {d : Dev} (hv : Keeps v d.vital) :
    Keeps v (debugNonceRequest ch d).vital := by
  simpa [debugNonceRequest] using hv

@[simp] theorem Dev.useToken_keeps {v : List Host.Cell × Nat} (t : List Byte) {d : Dev} (hv : Keeps v d.vital) : Keeps v (d.useToken t).vital := by
  unfold Dev.useToken
  split <;> simp [hv]

@[simp] theorem Dev.checkToken_keeps {v : List Host.Cell × Nat} (ch : Nat) (t : List Byte) {d : Dev} (hv : Keeps v d.vital) :
    Keeps v (d.checkToken ch t).vital := by
  refine keeps_if ?_ ?_
  · rw [Dev.answer_vital]
    exact Dev.useToken_keeps _ hv
  · rw [Dev.onChan_vital, Dev.fail_vital]
    exact hv

@[simp] theorem debugUnlock_keeps {v : List Host.Cell × Nat} (ch : Nat) {d : Dev} (hv : Keeps v d.vital) : Keeps v (debugUnlock ch d).vital :=
  Dev.onCommand_keeps _ _ (fun s b e => keeps_if .refl (keeps_if (by simp) (keeps_if (by simp) (Dev.checkToken_keeps _ _ .refl)))) hv

@[simp] theorem fdmWrite_vital (d : Dev) : (fdmWrite d).vital = d.vital := by
  simp [fdmWrite]

@[simp] theorem defectMapRead_keeps {v : List Host.Cell × Nat} (ch : Nat) {d : Dev} (hv : Keeps v d.vital) : Keeps v (defectMapRead ch d).vital := by
  refine Dev.onCommand_keeps _ _ (fun s b e => keeps_if (by simp) (keeps_if (by simp) ?_)) hv
  rw [Dev.answer_vital]
  exact Dev.store_keeps _ _ .refl

/-! ## Diagnostics -/

@[simp] theorem telemetryRead_keeps {v : List Host.Cell × Nat} (ch : Nat) {d : Dev} (hv : Keeps v d.vital) : Keeps v (telemetryRead ch d).vital := by
  unfold telemetryRead
  refine Dev.onCommand_keeps _ _ (fun _ _ e => ?_) hv
  dsimp only
  repeat' split
  all_goals simp

@[simp] theorem eventLogRead_keeps {v : List Host.Cell × Nat} (ch : Nat) {d : Dev} (hv : Keeps v d.vital) : Keeps v (eventLogRead ch d).vital := by
  refine Dev.onCommand_keeps _ _ (fun s b e => keeps_if (by simp) ?_) hv
  rw [Dev.answer_vital]
  exact Dev.store_keeps _ _ .refl

@[simp] theorem Dev.excludeUnit_keeps {v : List Host.Cell × Nat} (u why : Nat) {d : Dev} (hv : Keeps v d.vital) :
    Keeps v (d.excludeUnit u why).vital := by
  unfold Dev.excludeUnit
  split <;> simp [hv]

@[simp] theorem Dev.holdTested_keeps {v : List Host.Cell × Nat} (u : Nat) {d : Dev} (hv : Keeps v d.vital) : Keeps v (d.holdTested u).vital := by
  unfold Dev.holdTested
  split <;> simp [hv]

@[simp] theorem Dev.releaseTested_keeps {v : List Host.Cell × Nat} (r : SelfRun) {d : Dev} (hv : Keeps v d.vital) :
    Keeps v (d.releaseTested r).vital := by
  unfold Dev.releaseTested
  split <;> simp [hv]

@[simp] theorem Dev.failTested_keeps {v : List Host.Cell × Nat} (r : SelfRun) (why : Nat) {d : Dev} (hv : Keeps v d.vital) :
    Keeps v (d.failTested r why).vital := by
  unfold Dev.failTested
  split <;> simp [hv]

@[simp] theorem Dev.clearMark_vital (u : Nat) (d : Dev) : (d.clearMark u).vital = d.vital := by
  simp [Dev.clearMark]

@[simp] theorem Dev.endRun_keeps {v : List Host.Cell × Nat} (ch : Nat) (r : SelfRun) (result : TestResult) (duration : Nat) (clear : Bool) {d : Dev} (hv : Keeps v d.vital) :
    Keeps v (d.endRun ch r result duration clear).vital := by
  unfold Dev.endRun
  split <;> simp [hv]

@[simp] theorem selftestRun_keeps {v : List Host.Cell × Nat} (ch : Nat) (result : TestResult) (duration : Nat) {d : Dev} (hv : Keeps v d.vital) :
    Keeps v (selftestRun ch result duration d).vital := by
  refine Dev.onCommand_keeps _ _ (fun s b e => ?_) hv
  dsimp only
  split
  · exact Dev.endRun_keeps _ _ _ _ _ .refl
  · refine keeps_if (by simp) (keeps_if (by simp) ?_)
    exact Dev.holdTested_keeps _ Keeps.refl

@[simp] theorem Dev.startTest_vital (sel : Nat) (d : Dev) : (d.startTest sel).vital = d.vital := by
  unfold Dev.startTest
  split <;> simp

@[simp] theorem testModeEnter_keeps {v : List Host.Cell × Nat} (ch : Nat) {d : Dev} (hv : Keeps v d.vital) : Keeps v (testModeEnter ch d).vital := by
  refine Dev.onCommand_keeps _ _ (fun s b e => ?_) hv
  refine keeps_if (by simp) (keeps_if (by simp) ?_)
  have h : Keeps e.vital (e.prepareClose ((e.ses.list.filter (·.id != s)).map (·.id))).1.vital := Dev.prepareClose_keeps _ .refl
  have h1 := each_keepsVital (fun o d => Dev.closeSession_keeps o .refl) ((e.ses.list.filter (·.id != s)).map (·.id)) h
  refine keeps_if h ?_
  rw [Dev.answer_vital, Dev.startTest_vital]
  exact (congrArg (Keeps e.vital) (Dev.setState_vital .test _)).mpr h1

@[simp] theorem testModeExit_vital (ch : Nat) (d : Dev) : (testModeExit ch d).vital = d.vital := by
  simp [testModeExit]

/-! ## The timebase -/

@[simp] theorem Dev.setTb_vital (st : TbState) (cause : Nat) (d : Dev) : (d.setTb st cause).vital = d.vital := by
  simp [Dev.setTb]

@[simp] theorem Dev.acquire_vital (cause : Nat) (step : Bool) (d : Dev) : (d.acquire cause step).vital = d.vital := by
  simp [Dev.acquire]

@[simp] theorem Dev.inputLost_vital (cause : Nat) (d : Dev) : (d.inputLost cause).vital = d.vital := by
  unfold Dev.inputLost
  split <;> simp

@[simp] theorem Dev.reacquire_vital (d : Dev) : (d.reacquire).vital = d.vital := by
  simp [Dev.reacquire]

@[simp] theorem tbClkLoss_vital (d : Dev) : (tbClkLoss d).vital = d.vital := by
  simp [tbClkLoss]

@[simp] theorem tbClkRestored_vital (d : Dev) : (tbClkRestored d).vital = d.vital := by
  rfl

@[simp] theorem tbPpsLoss_vital (d : Dev) : (tbPpsLoss d).vital = d.vital := by
  unfold tbPpsLoss
  split
  · rename_i t _
    dsimp only
    rw [Dev.inputLost_vital, Dev.vital_mk, Dev.vital_eta, Dev.reach_vital]
  · rfl

@[simp] theorem Dev.lockedEdge_vital (d : Dev) : (d.lockedEdge).vital = d.vital := by
  simp [Dev.lockedEdge]

@[simp] theorem Dev.steer_vital (d : Dev) : (d.steer).vital = d.vital := by
  simp [Dev.steer]

@[simp] theorem tbPpsEdge_vital (prevHigh : Nat) (d : Dev) : (tbPpsEdge prevHigh d).vital = d.vital := by
  simp [tbPpsEdge]

@[simp] theorem Dev.lateDispatched_vital (d : Dev) : (d.lateDispatched).vital = d.vital := by
  rfl

@[simp] theorem Dev.lateWaiting_vital (d : Dev) : (d.lateWaiting).vital = d.vital := by
  rfl

@[simp] theorem Dev.roundStep_vital (old new : Nat) (d : Dev) : (d.roundStep old new).vital = d.vital := by
  simp [Dev.roundStep]

@[simp] theorem Dev.countStep_vital (new : Nat) (d : Dev) : (d.countStep new).vital = d.vital := by
  simp [Dev.countStep]

@[simp] theorem Dev.acquiringFrame_vital (f : TodFrame) (d : Dev) : (d.acquiringFrame f).vital = d.vital := by
  simp [Dev.acquiringFrame]

@[simp] theorem Dev.waitingFrame_vital (f : TodFrame) (d : Dev) : (d.waitingFrame f).vital = d.vital := by
  simp [Dev.waitingFrame]

@[simp] theorem tbTodFrame_vital (bytes : List Byte) (d : Dev) : (tbTodFrame bytes d).vital = d.vital := by
  unfold tbTodFrame
  repeat' split
  all_goals simp

@[simp] theorem xtbRateCorrection_vital (d : Dev) : (xtbRateCorrection d).vital = d.vital := by
  simp [xtbRateCorrection]

@[simp] theorem Dev.applyTimebase_vital (mode reacquire delay : Nat) (d : Dev) : (d.applyTimebase mode reacquire delay).vital = d.vital := by
  simp [Dev.applyTimebase]

@[simp] theorem timebaseConfig_keeps {v : List Host.Cell × Nat} (ch : Nat) {d : Dev} (hv : Keeps v d.vital) :
    Keeps v (timebaseConfig ch d).vital := by
  refine Dev.onCommand_keeps _ _ (fun s b e => keeps_if (by simp) (keeps_if (by simp) ?_)) hv
  rw [Dev.answer_vital, Dev.applyTimebase_vital]
  exact Dev.writeConf_keeps _ .refl

@[simp] theorem timebaseStatus_vital (ch : Nat) (d : Dev) : (timebaseStatus ch d).vital = d.vital := by
  simp [timebaseStatus]

@[simp] theorem roundConfig_vital (ch : Nat) (d : Dev) : (roundConfig ch d).vital = d.vital := by
  unfold roundConfig
  refine Dev.onCommand_vital _ _ (fun _ _ e => ?_) d
  dsimp only
  repeat' split
  all_goals simp

/-! ## Bring-up -/

@[simp] theorem Dev.bringLog_vital (kind cause unit value : Nat) (d : Dev) : (d.bringLog kind cause unit value).vital = d.vital := by
  rfl

@[simp] theorem Dev.readFlash_keeps {v : List Host.Cell × Nat} {d : Dev} (hv : Keeps v d.vital) : Keeps v (d.readFlash).vital := by
  simpa [Dev.readFlash] using hv

@[simp] theorem Dev.bringLane_keeps {v : List Host.Cell × Nat} (r : RingId) {d : Dev} (hv : Keeps v d.vital) : Keeps v (d.bringLane r).vital :=
  keeps_if hv (keeps_if (by simpa using hv) (keeps_if (by simpa using hv) (Dev.retireNow_keeps _ _ hv)))

@[simp] theorem Dev.bringComb_keeps {v : List Host.Cell × Nat} (bad : List (Nat × Nat)) (w : Nat) {d : Dev} (hv : Keeps v d.vital) :
    Keeps v (d.bringComb bad w).vital := by
  unfold Dev.bringComb
  exact keeps_if (keeps_if hv hv) (keeps_if (each_keepsVital (fun p d => Dev.retireNow_keeps _ _ .refl) _ hv) hv)

@[simp] theorem Dev.bringSwitch_keeps {v : List Host.Cell × Nat} (port plane : Nat) {d : Dev} (hv : Keeps v d.vital) :
    Keeps v (d.bringSwitch port plane).vital := by
  unfold Dev.bringSwitch
  dsimp only
  split <;> simp [hv]

@[simp] theorem Dev.excludePosition_keeps {v : List Host.Cell × Nat} (p : Nat) {d : Dev} (hv : Keeps v d.vital) :
    Keeps v (d.excludePosition p).vital := by
  unfold Dev.excludePosition
  extract_lets b d1
  have h1 : Keeps v d1.vital := by simpa [d1] using hv
  refine keeps_if hv (keeps_if (each_keepsVital (fun q e => Dev.retireNow_keeps _ _ .refl) _ h1) (keeps_if ?_ (keeps_if h1 h1)))
  simpa using h1

@[simp] theorem discoveryResponse_keeps {v : List Host.Cell × Nat} (position kind id1 id2 : Nat) {d : Dev} (hv : Keeps v d.vital) :
    Keeps v (discoveryResponse position kind id1 id2 d).vital :=
  keeps_if hv (keeps_if hv (keeps_if hv (Dev.excludePosition_keeps _ hv)))

@[simp] theorem discoveryTimeout_keeps {v : List Host.Cell × Nat} (position : Nat) {d : Dev} (hv : Keeps v d.vital) :
    Keeps v (discoveryTimeout position d).vital := by
  unfold discoveryTimeout
  extract_lets d1
  have h1 : Keeps v d1.vital := by rwa [Dev.reach_vital]
  exact keeps_if hv (keeps_if h1 (Dev.excludePosition_keeps _ h1))

@[simp] theorem stewardStartTimeout_keeps {v : List Host.Cell × Nat} (port : Nat) {d : Dev} (hv : Keeps v d.vital) :
    Keeps v (stewardStartTimeout port d).vital := by
  simp [stewardStartTimeout, hv]

@[simp] theorem Dev.bringBond_vital (bad : List Nat) (u : Nat) (d : Dev) : (d.bringBond bad u).vital = d.vital := by
  unfold Dev.bringBond
  dsimp only
  repeat' split
  all_goals simp

@[simp] theorem Dev.leaveOut_keeps {v : List Host.Cell × Nat} (bad : List Nat) {d : Dev} (hv : Keeps v d.vital) : Keeps v (d.leaveOut bad).vital := by
  unfold Dev.leaveOut
  extract_lets slow cores stands mills gone _ _ d1 d2 d3 d4 d5 out
  have h2 : Keeps v d2.vital := by
    unfold d2
    rw [each_vital fun u e => Dev.bringBond_vital _ _ _]
    exact hv
  have h3 : d3.vital = d2.vital := each_vital (fun u e => Dev.onSite_vital _ _ _) _ _
  have h4 : Keeps v d4.vital := each_keepsVital (fun u e => Dev.onStack_keeps _ _ .refl) _ (h3 ▸ h2)
  exact each_keepsVital (fun u e => Dev.onStack_keeps _ _ .refl) _ h4

@[simp] theorem Dev.bringRow_keeps {v : List Host.Cell × Nat} (r : Nat × Bool) {d : Dev} (hv : Keeps v d.vital) : Keeps v (d.bringRow r).vital := by
  unfold Dev.bringRow
  split
  · simpa using hv
  · dsimp only
    rw [Dev.vital_mk, Dev.vital_eta]
    exact each_keepsVital (fun l e => Dev.poisonLine_keeps _ _ .refl) _ (by simpa using hv)

@[simp] theorem Dev.confirmImage_keeps {v : List Host.Cell × Nat} {d : Dev} (hv : Keeps v d.vital) : Keeps v d.confirmImage.vital := by
  unfold Dev.confirmImage
  dsimp only
  split
  · refine Keeps.raise ?_ _
    simp [hv]
  · exact hv

@[simp] theorem Dev.failStage_keeps {v : List Host.Cell × Nat} {d : Dev} (hv : Keeps v d.vital) : Keeps v d.failStage.vital := hv.clear

@[simp] theorem Dev.beginStage_vital (k : Nat) (d : Dev) : (d.beginStage k).vital = d.vital := by
  unfold Dev.beginStage
  split <;> simp

@[simp] theorem StageEnd.finish_keeps {v : List Host.Cell × Nat} {e : StageEnd} (hv : Keeps v e.dev.vital) : Keeps v e.finish.vital := by
  unfold StageEnd.finish
  extract_lets _ _ d k w result report _ d1
  have h1 : Keeps v d1.vital := by simpa [d1, d] using hv
  exact keeps_if (Dev.failStage_keeps h1) (keeps_if (by simpa using h1) (by simpa using h1))

theorem Dev.chooseSlot_keeps {v : List Host.Cell × Nat} {d : Dev} (hv : Keeps v d.vital) : Keeps v d.chooseSlot.2.vital := by
  unfold Dev.chooseSlot
  extract_lets r p start
  have hstart : Keeps v start.2.vital := by
    unfold start
    split
    · exact onlyIf_keepsVital (fun e => Dev.writeBoot_keeps _ .refl) hv
    · split
      · split
        · exact Dev.writeBoot_keeps _ hv
        · exact hv
      · exact hv
  split
  · exact hstart
  · split <;> exact hstart

theorem stage0_keeps {v : List Host.Cell × Nat} (f : StageFindings) {d : Dev} (hv : Keeps v d.vital) : Keeps v (stage0 f d).dev.vital := hv

theorem stage1_keeps {v : List Host.Cell × Nat} (f : StageFindings) {d : Dev} (hv : Keeps v d.vital) : Keeps v (stage1 f d).dev.vital := by
  have h := Dev.chooseSlot_keeps hv
  unfold stage1
  extract_lets r
  split
  · exact hv
  · exact Dev.readFlash_keeps h

theorem stage2_keeps {v : List Host.Cell × Nat} (f : StageFindings) {d : Dev} (hv : Keeps v d.vital) : Keeps v (stage2 f d).dev.vital := by
  refine each_keepsVital (fun s e => Dev.bringSwitch_keeps _ _ .refl) _ (each_keepsVital (fun r e => Dev.bringLane_keeps _ .refl) _ ?_)
  rw [each_vital Dev.sweepFrom_vital]
  exact each_keepsVital (fun w e => Dev.bringComb_keeps _ _ .refl) _ hv

theorem stage3_keeps {v : List Host.Cell × Nat} {d : Dev} (hv : Keeps v d.vital) : Keeps v (stage3 d).dev.vital :=
  each_keepsVital (fun p e => Dev.excludePosition_keeps _ .refl) _ hv

theorem stage4_keeps {v : List Host.Cell × Nat} (f : StageFindings) {d : Dev} (hv : Keeps v d.vital) : Keeps v (stage4 f d).dev.vital :=
  each_keepsVital (fun p e => Dev.excludePosition_keeps _ .refl) _ hv

theorem stage5_keeps {v : List Host.Cell × Nat} (f : StageFindings) {d : Dev} (hv : Keeps v d.vital) : Keeps v (stage5 f d).dev.vital := by
  refine Dev.leaveOut_keeps _ ?_
  rw [each_vital fun u e => (Dev.bringLog_vital _ _ _ _ _).trans (Dev.fdm_vital _ _ _ _ _)]
  exact keeps_if hv hv

theorem stage6_keeps {v : List Host.Cell × Nat} (f : StageFindings) {d : Dev} (hv : Keeps v d.vital) : Keeps v (stage6 f d).dev.vital := by
  unfold stage6
  extract_lets d1 clear _ d2 d3 _ d4
  have h1 : Keeps v d1.vital := each_keepsVital (fun k e => Dev.onStack_keeps _ _ .refl) _ hv
  have h2 : Keeps v d2.vital := each_keepsVital (fun k e => Keeps.refl.filter _) _ h1
  have h3 : Keeps v d3.vital :=
    each_keepsVital (fun r e => Dev.bringRow_keeps _ .refl) _ (each_keepsVital (fun c e => Dev.fenceChannel_keeps _ _ .refl) _ h2)
  have h4 : Keeps v d4.vital := keeps_if h3 h3
  exact h4

theorem stage7_keeps {v : List Host.Cell × Nat} {d : Dev} (hv : Keeps v d.vital) : Keeps v (stage7 d).dev.vital :=
  keeps_if hv (by rw [Dev.bringLog_vital]; exact hv)

theorem stage8_keeps {v : List Host.Cell × Nat} (f : StageFindings) {d : Dev} (hv : Keeps v d.vital) : Keeps v (stage8 f d).dev.vital := hv

theorem stage9_keeps {v : List Host.Cell × Nat} {d : Dev} (hv : Keeps v d.vital) : Keeps v (stage9 d).dev.vital := by
  unfold stage9
  extract_lets _ _ _ d1 d2 d3
  have h2 : Keeps v d2.vital := by
    rw [Dev.fixSwallow_vital]
    exact Dev.confirmImage_keeps hv
  exact (congrArg (Keeps v) (each_vital (fun e d => Dev.notice_vital _ _ _) _ d2)).mpr h2

theorem stageEnd_keeps {v : List Host.Cell × Nat} (f : StageFindings) {d : Dev} (hv : Keeps v d.vital) : Keeps v (stageEnd f d).dev.vital := by
  unfold stageEnd
  split
  · exact stage0_keeps f hv
  · exact stage1_keeps f hv
  · exact stage2_keeps f hv
  · exact stage3_keeps hv
  · exact stage4_keeps f hv
  · exact stage5_keeps f hv
  · exact stage6_keeps f hv
  · exact stage7_keeps hv
  · exact stage8_keeps f hv
  · exact stage9_keeps hv

@[simp] theorem bringupStageComplete_keeps {v : List Host.Cell × Nat} (f : StageFindings) {d : Dev} (hv : Keeps v d.vital) :
    Keeps v (bringupStageComplete f d).vital := keeps_if (StageEnd.finish_keeps (stageEnd_keeps f hv)) hv

@[simp] theorem bringupStageTimeout_keeps {v : List Host.Cell × Nat} {d : Dev} (hv : Keeps v d.vital) : Keeps v (bringupStageTimeout d).vital :=
  keeps_if hv (StageEnd.finish_keeps (by simpa using hv))

@[simp] theorem perstAssert_keeps {v : List Host.Cell × Nat} {d : Dev} (hv : Keeps v d.vital) : Keeps v (perstAssert d).vital := by
  have h := Dev.restarted_keeps false d.th.tripped.isSome hv
  unfold perstAssert
  dsimp only
  rw [Dev.vital_mk, Dev.vital_eta]
  exact keeps_if h h

@[simp] theorem perstDeassert_vital (d : Dev) : (perstDeassert d).vital = d.vital := by
  simp [perstDeassert]

/-! ## The Rangers -/

@[simp] theorem Dev.abandonLive_keeps {v : List Host.Cell × Nat} {d : Dev} (hv : Keeps v d.vital) : Keeps v (d.abandonLive).vital := by
  simpa [Dev.abandonLive] using hv

@[simp] theorem Dev.loseStandby_keeps {v : List Host.Cell × Nat} (st : Standby) {d : Dev} (hv : Keeps v d.vital) :
    Keeps v (d.loseStandby st).vital := by
  have h1 := Dev.setStandby_keeps st hv
  exact keeps_if (Dev.abandonLive_keeps h1) h1

@[simp] theorem Dev.bringupHandover_keeps {v : List Host.Cell × Nat} (cause : Nat) {d : Dev} (hv : Keeps v d.vital) :
    Keeps v (d.bringupHandover cause).vital := by
  have h1 := Dev.handover_keeps cause hv
  unfold Dev.bringupHandover
  dsimp only
  refine keeps_if (keeps_if (Dev.setStandby_keeps _ hv) (StageEnd.finish_keeps hv)) (keeps_if hv (keeps_if ?_ h1))
  simpa using h1

@[simp] theorem Dev.assertHandover_keeps {v : List Host.Cell × Nat} (cause : Nat) {d : Dev} (hv : Keeps v d.vital) :
    Keeps v (d.assertHandover cause).vital :=
  keeps_if (keeps_if (Dev.bringupHandover_keeps _ hv) hv) (Dev.handover_keeps _ hv)

@[simp] theorem rangerPeriodicSelfTest_keeps {v : List Host.Cell × Nat} (pass : Bool) {d : Dev} (hv : Keeps v d.vital) :
    Keeps v (rangerPeriodicSelfTest pass d).vital := by
  simp [rangerPeriodicSelfTest, hv]

@[simp] theorem Dev.takeOver_keeps {v : List Host.Cell × Nat} (ch : Nat) {d : Dev} (hv : Keeps v d.vital) : Keeps v (d.takeOver ch).vital := by
  unfold Dev.takeOver
  dsimp only
  repeat' split
  all_goals simp [hv]

@[simp] theorem Dev.takeOverMailbox_keeps {v : List Host.Cell × Nat} (gap : Nat) {d : Dev} (hv : Keeps v d.vital) :
    Keeps v (d.takeOverMailbox gap).vital := by
  unfold Dev.takeOverMailbox
  refine each_keepsVital (fun _ _ => ?_) _ ?_
  · simp
  · simp [hv]

@[simp] theorem Dev.rerunStage_vital (d : Dev) : (d.rerunStage).vital = d.vital := by
  simp [Dev.rerunStage]

@[simp] theorem handoverComplete_keeps {v : List Host.Cell × Nat} {d : Dev} (hv : Keeps v d.vital) : Keeps v (handoverComplete d).vital := by
  unfold handoverComplete
  split
  · exact hv
  extract_lets _ d1 d2
  have h1 : Keeps v d1.vital := by
    rw [Dev.freshReadings_vital]
    exact Dev.takeOverMailbox_keeps _ hv
  have h2 : Keeps v d2.vital := keeps_if (by simpa using h1) h1
  exact keeps_if h2 (Dev.abandonRecovery_keeps h2)

@[simp] theorem journalHeartbeatMissed_keeps {v : List Host.Cell × Nat} {d : Dev} (hv : Keeps v d.vital) :
    Keeps v (journalHeartbeatMissed d).vital := by
  simp [journalHeartbeatMissed, hv]

@[simp] theorem Dev.finishLive_keeps {v : List Host.Cell × Nat} {d : Dev} (hv : Keeps v d.vital) : Keeps v d.finishLive.vital := by
  unfold Dev.finishLive
  refine Keeps.raise ?_ _
  simp [hv]

@[simp] theorem standbyResyncComplete_keeps {v : List Host.Cell × Nat} {d : Dev} (hv : Keeps v d.vital) :
    Keeps v (standbyResyncComplete d).vital := by
  unfold standbyResyncComplete
  dsimp only
  repeat' split
  all_goals simp [hv]

@[simp] theorem rangerRomSelfTestComplete_keeps {v : List Host.Cell × Nat} (rangerB pass : Bool) {d : Dev} (hv : Keeps v d.vital) :
    Keeps v (rangerRomSelfTestComplete rangerB pass d).vital := by
  unfold rangerRomSelfTestComplete
  extract_lets u d1 bad
  have h1 : Keeps v d1.vital := keeps_if (Dev.transient_keeps _ hv) (Dev.lasting_keeps _ _ hv)
  exact keeps_if hv (Dev.setStandby_keeps _ h1)

/-- Moving requested steps and marking the live activation touch neither memory nor fuses. -/
theorem live_req_vital (live : Option Live) (q9 q10 : Option StepReq) (d : Dev) :
    Dev.vital { d with fw.live := live, ck.req9 := q9, ck.req10 := q10 } = d.vital := rfl

@[simp] theorem handoffBlockWrite_keeps {v : List Host.Cell × Nat} {d : Dev} (hv : Keeps v d.vital) : Keeps v (handoffBlockWrite d).vital := by
  unfold handoffBlockWrite
  split
  · refine keeps_if hv ((congrArg (Keeps v) (live_req_vital ..)).mpr ?_)
    rwa [Dev.reach_vital]
  · exact hv

@[simp] theorem liveActivationTimeout_keeps {v : List Host.Cell × Nat} {d : Dev} (hv : Keeps v d.vital) :
    Keeps v (liveActivationTimeout d).vital := by
  unfold liveActivationTimeout
  split <;> simp [hv]

@[simp] theorem Dev.livePass_keeps {v : List Host.Cell × Nat} {d : Dev} (hv : Keeps v d.vital) : Keeps v d.livePass.vital := by
  unfold Dev.livePass
  exact Dev.setStandby_keeps _ (Dev.passLive_keeps (by rwa [Dev.log_vital]))

/-! ## The test interface -/

@[simp] theorem Dev.tapSelect_vital (code pins loop : Nat) (debug : Bool) (d : Dev) : (d.tapSelect code pins loop debug).vital = d.vital := by
  rfl

@[simp] theorem Dev.tapBypass_vital (a : Dev) : (a.tapBypass).vital = a.vital := by
  rfl

@[simp] theorem Dev.tapIf_vital (ok : Bool) (code pins loop : Nat) (debug : Bool) (d : Dev) : (d.tapIf ok code pins loop debug).vital = d.vital := by
  simp [Dev.tapIf]

@[simp] theorem samplePreload_vital (pins : Nat) (d : Dev) : (samplePreload pins d).vital = d.vital := by
  rfl

@[simp] theorem extest_vital (d : Dev) : (extest d).vital = d.vital := by
  simp [extest]

@[simp] theorem clamp_vital (d : Dev) : (clamp d).vital = d.vital := by
  simp [clamp]

@[simp] theorem highz_vital (d : Dev) : (highz d).vital = d.vital := by
  simp [highz]

@[simp] theorem chainSelect_keeps {v : List Host.Cell × Nat} (bits : Word) {d : Dev} (hv : Keeps v d.vital) : Keeps v (chainSelect bits d).vital := by
  unfold chainSelect
  refine keeps_if ?_ (by simpa using hv)
  extract_lets chain _ d1 new
  have h1 : Keeps v d1.vital := by simpa [d1] using hv
  exact keeps_if (each_keepsVital (fun p e => Dev.isolate_keeps _ _ .refl) _ h1) h1

@[simp] theorem portLoopback_vital (d : Dev) : (portLoopback d).vital = d.vital := by
  simp [portLoopback]

@[simp] theorem bondLoopback_vital (d : Dev) : (bondLoopback d).vital = d.vital := by
  simp [bondLoopback]

@[simp] theorem rangerDebug_vital (d : Dev) : (rangerDebug d).vital = d.vital := by
  simp [rangerDebug]

/-! ## The boundary of a round -/

@[simp] theorem Dev.beginRound_vital (d : Dev) : (d.beginRound).vital = d.vital := by
  rfl

@[simp] theorem Dev.endRoundCounts_keeps {v : List Host.Cell × Nat} {d : Dev} (hv : Keeps v d.vital) : Keeps v (d.endRoundCounts).vital := by
  simpa [Dev.endRoundCounts] using hv

@[simp] theorem Dev.restoreCapacity_vital (d : Dev) : (d.restoreCapacity).vital = d.vital := by
  rfl

@[simp] theorem Dev.resumeSites_vital (d : Dev) : (d.resumeSites).vital = d.vital := by
  rfl

@[simp] theorem Dev.resumeUnits_vital (d : Dev) : (d.resumeUnits).vital = d.vital := by
  simp [Dev.resumeUnits]

@[simp] theorem Dev.releaseTests_keeps {v : List Host.Cell × Nat} {d : Dev} (hv : Keeps v d.vital) : Keeps v (d.releaseTests).vital := by
  unfold Dev.releaseTests
  refine each_keepsVital (fun _ _ => ?_) _ ?_
  · simp
  · simp [hv]

@[simp] theorem Dev.returnSites_vital (d : Dev) : (d.returnSites).vital = d.vital := by
  simp [Dev.returnSites]

@[simp] theorem Dev.returnMemory_keeps {v : List Host.Cell × Nat} {d : Dev} (hv : Keeps v d.vital) : Keeps v (d.returnMemory).vital := by
  simpa [Dev.returnMemory] using hv

@[simp] theorem Dev.resumeEngines_vital (d : Dev) : (d.resumeEngines).vital = d.vital := by
  simp [Dev.resumeEngines]

@[simp] theorem Dev.lowerCore_keeps {v : List Host.Cell × Nat} (c : Nat × Nat × Nat) {d : Dev} (hv : Keeps v d.vital) :
    Keeps v (d.lowerCore c).vital := by
  simp [Dev.lowerCore, hv]

@[simp] theorem Dev.lowerCores_keeps {v : List Host.Cell × Nat} {d : Dev} (hv : Keeps v d.vital) : Keeps v (d.lowerCores).vital := by
  unfold Dev.lowerCores
  refine each_keepsVital (fun _ _ => ?_) _ ?_
  · simp
  · simp [hv]

@[simp] theorem Dev.splitterBoundary_vital (d : Dev) : (d.splitterBoundary).vital = d.vital := by
  simp [Dev.splitterBoundary]

@[simp] theorem Dev.licenceBoundary_keeps {v : List Host.Cell × Nat} {d : Dev} (hv : Keeps v d.vital) : Keeps v (d.licenceBoundary).vital := by
  simpa [Dev.licenceBoundary] using hv

@[simp] theorem Dev.rangerBoundary_keeps {v : List Host.Cell × Nat} {d : Dev} (hv : Keeps v d.vital) : Keeps v d.rangerBoundary.vital := by
  unfold Dev.rangerBoundary
  extract_lets d1
  have h1 : Keeps v d1.vital := by
    rw [Dev.splitterBoundary_vital, Dev.restoreCapacity_vital]
    refine Dev.returnMemory_keeps ?_
    rw [Dev.returnSites_vital]
    refine Dev.releaseTests_keeps ?_
    rw [Dev.resumeUnits_vital, Dev.combBoundary_vital]
    refine Dev.coppiceBoundary_keeps ?_
    rwa [Dev.roundMargins_vital]
  have h2 : Keeps v d1.updatePlacements.installAll.vital := Dev.installAll_keeps ((congrArg (Keeps v) (Dev.updatePlacements_vital d1)).mpr h1)
  rw [Dev.powerBoundary_vital]
  refine Dev.licenceBoundary_keeps ?_
  rwa [Dev.vital_mk, Dev.vital_eta]

@[simp] theorem Dev.serviceBoundary_vital (any : Bool) (d : Dev) : (d.serviceBoundary any).vital = d.vital := by
  simp [Dev.serviceBoundary]

@[simp] theorem Dev.changeBoundary_keeps {v : List Host.Cell × Nat} (pass : Bool) {d : Dev} (hv : Keeps v d.vital) :
    Keeps v (d.changeBoundary pass).vital := by
  unfold Dev.changeBoundary
  extract_lets d1
  have h1 : Keeps v d1.vital := by
    rw [Dev.resumeEngines_vital, Dev.stepBoundary_vital]
    exact Dev.lowerCores_keeps (by rwa [Dev.resumeSites_vital])
  exact keeps_if hv (keeps_if (Dev.livePass_keeps h1) (keeps_if h1 (Dev.rangerBoundary_keeps h1)))

@[simp] theorem Dev.sendJournal_vital (d : Dev) : (d.sendJournal).vital = d.vital := by
  simp [Dev.sendJournal]

@[simp] theorem roundBoundary_keeps {v : List Host.Cell × Nat} {d : Dev} (hv : Keeps v d.vital) : Keeps v (roundBoundary d).vital := by
  unfold roundBoundary
  extract_lets pass any d1
  have h1 : Keeps v d1.vital := by
    rw [Dev.destroyStreams_vital, Dev.beginRound_vital]
    refine Dev.endRoundCounts_keeps ?_
    rwa [Dev.slackBoundary_vital, Dev.reach_vital]
  refine keeps_if hv ?_
  rw [Dev.sendJournal_vital]
  refine Dev.cutoff_keeps ?_
  rw [Dev.serviceBoundary_vital, Dev.barrierBoundary_vital]
  exact Dev.changeBoundary_keeps _ h1

@[simp] theorem Dev.writeBarrierWord_vital (d : Dev) : (d.writeBarrierWord).vital = d.vital := by
  rfl

@[simp] theorem publicationDeadline_keeps {v : List Host.Cell × Nat} {d : Dev} (hv : Keeps v d.vital) : Keeps v (publicationDeadline d).vital := by
  simp [publicationDeadline, hv]

@[simp] theorem Dev.idle_keeps {v : List Host.Cell × Nat} {d : Dev} (hv : Keeps v d.vital) : Keeps v d.idle.vital := by
  have h1 : Keeps v d.tick.vital := by rwa [Dev.tick_vital]
  exact keeps_if hv (keeps_if (Dev.restart_keeps _ h1) h1)

/-! ## Sessions -/

@[simp] theorem Dev.openSession_vital (ch hold : Nat) (name : List Byte) (d : Dev) : (d.openSession ch hold name).vital = d.vital := by
  rfl

@[simp] theorem sessionOpen_vital (ch : Nat) (d : Dev) : (sessionOpen ch d).vital = d.vital := by
  simp [sessionOpen]

@[simp] theorem hostKeepalive_vital (ch : Nat) (d : Dev) : (hostKeepalive ch d).vital = d.vital := by
  simp [hostKeepalive]

@[simp] theorem Dev.wrongToken_vital (id : Nat) (d : Dev) : (d.wrongToken id).vital = d.vital := by
  unfold Dev.wrongToken
  split <;> simp

@[simp] theorem sessionReattach_vital (ch : Nat) (d : Dev) : (sessionReattach ch d).vital = d.vital := by
  unfold sessionReattach
  refine Dev.onCommand_vital _ _ (fun _ _ e => ?_) d
  dsimp only
  repeat' split
  all_goals simp

@[simp] theorem sessionOrphanTimer_vital (id : Nat) (d : Dev) : (sessionOrphanTimer id d).vital = d.vital := by
  unfold sessionOrphanTimer
  split <;> simp

@[simp] theorem reattachLockoutExpiry_vital (id : Nat) (d : Dev) : (reattachLockoutExpiry id d).vital = d.vital := by
  unfold reattachLockoutExpiry
  split <;> simp

/-! ## The evaluation of a graph -/

@[simp] theorem Dev.onState_vital (h : Nat) (key : Nat × Nat × Nat) (f : StateMem → StateMem) (d : Dev) : (d.onState h key f).vital = d.vital := by
  rfl

@[simp] theorem Dev.cacheIn_vital (g : Graph) (sites : List Nat) (t : Tensor) (ranges : List (Nat × Nat)) (d : Dev) :
    (d.cacheIn g sites t ranges).vital = d.vital := by
  unfold Dev.cacheIn
  dsimp only
  split
  · rfl
  split
  · rfl
  refine each_vital (fun s e => each_vital (fun line e' => ?_) _ e) _ d
  split
  · rfl
  · exact elim_vital (fun b => by simp) _

@[simp] theorem Dev.markPoison_keeps {v : List Host.Cell × Nat} (a n : Nat) {d : Dev} (hv : Keeps v d.vital) : Keeps v (d.markPoison a n).vital := by
  refine each_keepsVital (fun i e => ?_) _ hv
  split
  · simp
  · exact .refl
  · exact .refl

@[simp] theorem Dev.putWeights_keeps {v : List Host.Cell × Nat} (a : Nat) (b : List Byte) (poison : Bool) {d : Dev} (hv : Keeps v d.vital) :
    Keeps v (d.putWeights a b poison).vital := by
  refine each_keepsVital (fun p e => keeps_if .refl (keeps_if ?_ ?_)) _ hv
  · simp
  · simp

@[simp] theorem Dev.carryTo_vital (src : Nat) (sites : List Nat) (payload : List Byte) (d : Dev) : (d.carryTo src sites payload).vital = d.vital := by
  simp [Dev.carryTo]

@[simp] theorem Dev.carry_vital (kind : Nat) (sites : List Nat) (own result : List Byte) (d : Dev) :
    (d.carry kind sites own result).vital = d.vital := by
  unfold Dev.carry
  split <;> simp

@[simp] theorem Dev.nodeStore_keeps {v : List Host.Cell × Nat} (rack : Bool) (a : Nat) (b : List Byte) (poison : Bool) {d : Dev}
    (hv : Keeps v d.vital) : Keeps v (d.nodeStore rack a b poison).1.vital := by
  unfold Dev.nodeStore
  dsimp only
  repeat' split
  all_goals simp [hv]

@[simp] theorem Dev.accessLocal_keeps {v : List Host.Cell × Nat} (rack : Bool) (op : RemoteOp) (poison : Bool) {d : Dev} (hv : Keeps v d.vital) :
    Keeps v (d.accessLocal rack op poison).1.vital := by
  unfold Dev.accessLocal
  dsimp only
  repeat' split
  all_goals simp [hv]

/-! ## Shares -/

/-- An evaluation draws generators in the device, and nothing else. -/
@[simp] theorem Eval.setSr_vital (sr : Generators) (e : Eval) : (e.setSr sr).dev.vital = e.dev.vital := rfl

@[simp] theorem Eval.onItem_dev (p : Nat) (f : Item → Item) (e : Eval) : (e.onItem p f).dev = e.dev := by
  unfold Eval.onItem
  split <;> rfl

theorem each_keepsEval {α : Type} {v : List Host.Cell × Nat} {f : α → Eval → Eval} (hf : ∀ a e, Keeps e.dev.vital (f a e).dev.vital) (l : List α)
    {e : Eval} (hv : Keeps v e.dev.vital) : Keeps v (each l f e).dev.vital :=
  each_keeps (fun e => Keeps v e.dev.vital) f (fun a e he => he.trans (hf a e)) l e hv

theorem Eval.onItem_keeps {v : List Host.Cell × Nat} (p : Nat) (f : Item → Item) {e : Eval} (hv : Keeps v e.dev.vital) :
    Keeps v (e.onItem p f).dev.vital := by rwa [Eval.onItem_dev]

theorem each_onItem_keeps {α : Type} {v : List Host.Cell × Nat} {p : α → Nat} {f : α → Eval → Item → Item} (l : List α) {e : Eval}
    (hv : Keeps v e.dev.vital) : Keeps v (each l (fun a e => e.onItem (p a) (f a e)) e).dev.vital :=
  each_keepsEval (fun _ _ => Eval.onItem_keeps _ _ .refl) l hv

theorem Eval.putBytes_keeps {v : List Host.Cell × Nat} (x : Frame0) (p id : Nat) (t : Tensor) (o : Nat) (b : List Byte) (poison : Bool) {e : Eval}
    (hv : Keeps v e.dev.vital) : Keeps v (e.putBytes x p id t o b poison).dev.vital := by
  unfold Eval.putBytes
  dsimp only
  repeat' split
  · exact hv
  · simp [hv]
  all_goals simpa using hv

theorem Eval.putElems_keeps {v : List Host.Cell × Nat} (x : Frame0) (p id : Nat) (t : Tensor) (ds : List Nat) (lo : Nat) (es : List Nat)
    (xs : List Elem) (poison : Bool) {e : Eval} (hv : Keeps v e.dev.vital) : Keeps v (e.putElems x p id t ds lo es xs poison).dev.vital := by
  unfold Eval.putElems
  split
  · exact hv
  · exact Eval.putBytes_keeps _ _ _ _ _ _ _ hv

theorem Eval.putSlice_keeps {v : List Host.Cell × Nat} (x : Frame0) (p id : Nat) (t : Tensor) (xs : List Elem) (poison : Bool) {e : Eval}
    (hv : Keeps v e.dev.vital) : Keeps v (e.putSlice x p id t xs poison).dev.vital := by
  unfold Eval.putSlice
  split
  · exact hv
  split
  · exact Eval.putElems_keeps _ _ _ _ _ _ _ _ _ hv
  split
  · simpa using hv
  · exact hv

theorem Eval.putBand_keeps {v : List Host.Cell × Nat} (x : Frame0) (w : Draws) (n : Node) (id : Nat) (t : Tensor) (ps : List Piece) (b : Nat)
    {e : Eval} (hv : Keeps v e.dev.vital) : Keeps v (e.putBand x w n id t ps b).dev.vital := by
  unfold Eval.putBand
  split
  · exact hv
  dsimp only
  split
  · exact Eval.putElems_keeps _ _ _ _ _ _ _ _ _ hv
  · exact each_keepsEval (fun s e => Eval.putSlice_keeps _ _ _ _ _ _ .refl) _ hv

theorem Eval.store_keeps {v : List Host.Cell × Nat} (x : Frame0) (k : Nat) (n : Node) (id : Nat) (t : Tensor) (alone : Bool) (ps : List Piece)
    {e : Eval} (hv : Keeps v e.dev.vital) : Keeps v (e.store x k n id t alone ps).dev.vital := by
  unfold Eval.store
  dsimp only
  split
  · exact each_keepsEval (fun b e => Eval.putBand_keeps _ _ _ _ _ _ _ .refl) _ hv
  · refine each_keepsEval (fun s e => ?_) _ hv
    split
    · exact Eval.putSlice_keeps _ _ _ _ _ _ (by simp)
    · exact each_keepsEval (fun p e => Eval.putSlice_keeps _ _ _ _ _ _ .refl) _ (by simp)

theorem Eval.fillMill_keeps {v : List Host.Cell × Nat} (s : At) (y : Tensor) {e : Eval} (hv : Keeps v e.dev.vital) :
    Keeps v (e.fillMill s y).dev.vital := by
  refine each_keepsEval (fun c e => ?_) _ hv
  dsimp only
  split <;> exact .refl

theorem Eval.attention_keeps {v : List Host.Cell × Nat} (s : At) (p : Nat) (it : Item) {e : Eval} (hv : Keeps v e.dev.vital) :
    Keeps v (e.attention s p it).1.dev.vital := by
  unfold Eval.attention
  dsimp only
  rw [Eval.onItem_dev]
  exact each_keepsEval (fun t e => Eval.putBytes_keeps _ _ _ _ _ _ _ .refl) _ hv

theorem Eval.scatterRows_keeps {v : List Host.Cell × Nat} (x : Frame0) (k draw : Nat) (n : Node) (id : Nat) (t : Tensor) (p : Nat)
    (ws : List RowWrite) {e : Eval} (hv : Keeps v e.dev.vital) : Keeps v (e.scatterRows x k draw n id t p ws).dev.vital := by
  unfold Eval.scatterRows
  split
  · exact hv
  dsimp only
  split
  · split
    · exact each_keepsEval (fun b e => Eval.putElems_keeps _ _ _ _ _ _ _ _ _ (by simp)) _ hv
    · exact each_keepsEval (fun r e => Eval.putElems_keeps _ _ _ _ _ _ _ _ _ .refl) _ hv
  · refine each_keepsEval (fun q e => Eval.putSlice_keeps _ _ _ _ _ _ .refl) _ ?_
    split
    · exact List.foldlRecOn (motive := fun acc : List Elem × Eval => Keeps v acc.2.dev.vital) _ _ hv fun acc h b _ => h
    · exact hv

theorem Eval.scatter_keeps {v : List Host.Cell × Nat} (x : Frame0) (k : Nat) (n : Node) (is : List Input) (ps : List Nat) {e : Eval}
    (hv : Keeps v e.dev.vital) : Keeps v (e.scatter x k n is ps).dev.vital := by
  have h1 : Keeps v ({ e with dev := e.dev.draw } : Eval).dev.vital := by simpa using hv
  unfold Eval.scatter
  dsimp only
  split
  · exact each_keepsEval (fun q e => Eval.scatterRows_keeps _ _ _ _ _ _ _ _ .refl) _ (each_onItem_keeps _ h1)
  · generalize List.head? _ = o
    cases o
    · exact each_onItem_keeps _ h1
    · exact Eval.scatterRows_keeps _ _ _ _ _ _ _ _ (each_onItem_keeps _ h1)

theorem Eval.access_keeps {v : List Host.Cell × Nat} (posted : Bool) (n : Node) (is : List Input) (fuel : Nat) (z : Suspended) {e : Eval}
    (hv : Keeps v e.dev.vital) : Keeps v (Eval.access posted n is fuel z e).1.dev.vital := by
  induction fuel generalizing z e with
  | zero => exact hv
  | succ fuel ih =>
    unfold Eval.access
    dsimp only
    split
    · exact hv
    split
    · exact ih _ hv
    split
    · exact ih _ hv
    split
    · split
      · simpa using hv
      · exact ih _ (by simpa using hv)
    · refine ih _ ?_
      rw [Dev.draw_vital]
      split
      · simp [hv]
      · simp [hv]

theorem Eval.endRemote_keeps {v : List Host.Cell × Nat} (x : Frame0) (k : Nat) (n : Node) (is : List Input) (z : Suspended) {e : Eval}
    (hv : Keeps v e.dev.vital) : Keeps v (e.endRemote x k n is z).dev.vital :=
  each_keepsEval (fun o e => Eval.store_keeps _ _ _ _ _ _ _ .refl) _ (each_onItem_keeps _ hv)

theorem Eval.remote_keeps {v : List Host.Cell × Nat} (x : Frame0) (stage k : Nat) (n : Node) (loops : List (Nat × Nat)) (is : List Input)
    (ps : List Nat) {e : Eval} (hv : Keeps v e.dev.vital) : Keeps v (e.remote x stage k n loops is ps).dev.vital := by
  unfold Eval.remote
  dsimp only
  split
  · exact Eval.endRemote_keeps _ _ _ _ _ (Eval.access_keeps _ _ _ _ _ (each_onItem_keeps _ hv))
  · exact Eval.access_keeps _ _ _ _ _ (each_onItem_keeps _ hv)

theorem Eval.fence_keeps {v : List Host.Cell × Nat} (x : Frame0) (k : Nat) (n : Node) (ps : List Nat) {e : Eval} (hv : Keeps v e.dev.vital) :
    Keeps v (e.fence x k n ps).dev.vital := by
  unfold Eval.fence
  extract_lets rack threads lost code clear d0 cs0 e1 id
  have h1 : Keeps v e1.dev.vital := hv
  split
  · exact each_onItem_keeps _ h1
  · exact Eval.store_keeps _ _ _ _ _ _ _ h1

theorem Eval.compute_keeps {v : List Host.Cell × Nat} (x : Frame0) (k trip : Nat) (n : Node) (is : List Input) (ps : List Nat) (draw : Nat)
    {e : Eval} (hv : Keeps v e.dev.vital) : Keeps v (e.compute x k trip n is ps draw).dev.vital := by
  unfold Eval.compute
  extract_lets outs each1 alone turns cores mill step r write e1 bytes
  have hr : Keeps v r.1.dev.vital := by
    refine List.foldlRecOn (motive := fun acc : Eval × List (At × Nat × Made) => Keeps v acc.1.dev.vital) _ _ hv fun acc h p _ => ?_
    unfold step
    split
    · exact h
    extract_lets s y q bad m0 m e2
    have hq : Keeps v q.1.dev.vital := by
      unfold q
      split
      · exact Eval.attention_keeps _ _ _ h
      · exact h
    have h2 : Keeps v e2.dev.vital := by
      unfold e2
      split
      · exact Eval.fillMill_keeps _ _ hq
      · exact hq
    split
    · exact Eval.onItem_keeps _ _ h2
    · exact h2
  have h1 : Keeps v e1.dev.vital := each_keepsEval (fun o e => Eval.store_keeps _ _ _ _ _ _ _ .refl) _ hr
  split
  · simpa using h1
  · exact h1

theorem Eval.copyTensors_keeps {v : List Host.Cell × Nat} (x : Frame0) (k : Nat) (n : Node) (pairs : List (Nat × Nat)) (ps : List Nat) {e : Eval}
    (hv : Keeps v e.dev.vital) : Keeps v (e.copyTensors x k n pairs ps).dev.vital :=
  each_keepsEval (fun v e => Eval.store_keeps _ _ _ _ _ _ _ .refl) _ hv

theorem Eval.exits_keeps {v : List Host.Cell × Nat} (x : Frame0) (n : Node) (ps : List Nat) {e : Eval} (hv : Keeps v e.dev.vital) :
    Keeps v (e.exits x n ps).dev.vital := by
  refine each_keepsEval (fun p e => ?_) _ hv
  dsimp only
  repeat' split
  all_goals simp

theorem Eval.node_keeps {v : List Host.Cell × Nat} (x : Frame0) (stage k : Nat) (n : Node) (loops : List (Nat × Nat)) (ps : List Nat) {e : Eval}
    (hv : Keeps v e.dev.vital) : Keeps v (e.node x stage k n loops ps).dev.vital := by
  unfold Eval.node
  split
  · exact hv
  dsimp only
  generalize he : ({ e with dev := _ } : Eval) = e1
  have h1 : Keeps v e1.dev.vital := by
    subst he
    refine each_keepsVital (fun i d => ?_) _ (by simpa using hv)
    split <;> simp
  split
  · exact Eval.scatter_keeps _ _ _ _ _ h1
  · exact Eval.remote_keeps _ _ _ _ _ _ _ h1
  · exact Eval.remote_keeps _ _ _ _ _ _ _ h1
  · exact Eval.remote_keeps _ _ _ _ _ _ _ h1
  · exact Eval.fence_keeps _ _ _ _ h1
  · exact Eval.compute_keeps _ _ _ _ _ _ _ h1

theorem Eval.run_keeps {v : List Host.Cell × Nat} (x : Frame0) (stage : Nat) (decls : List (Option Nat)) (fuel k : Nat) (loops : List (Nat × Nat))
    {e : Eval} (hv : Keeps v e.dev.vital) : Keeps v (Eval.run x stage decls fuel k loops e).dev.vital := by
  induction fuel generalizing k loops e with
  | zero => exact hv
  | succ fuel ih =>
    unfold Eval.run
    dsimp only
    split
    · exact hv
    · exact hv
    split
    · exact ih _ _ hv
    split
    · exact ih _ _ (Eval.copyTensors_keeps _ _ _ _ _ hv)
    · split
      · exact ih _ _ hv
      · split
        · exact ih _ _ (Eval.copyTensors_keeps _ _ _ _ _ (Eval.copyTensors_keeps _ _ _ _ _ hv))
        · exact ih _ _ (Eval.copyTensors_keeps _ _ _ _ _ hv)
    · exact ih _ _ (Eval.exits_keeps _ _ _ hv)
    · exact ih _ _ (Eval.node_keeps _ _ _ _ _ _ hv)

theorem Dev.evalStage_keeps {v : List Host.Cell × Nat} (x : Frame0) (stage : Nat) (items : List Item) {d : Dev} (hv : Keeps v d.vital) :
    Keeps v (d.evalStage x stage items).dev.vital := Eval.run_keeps _ _ _ _ _ _ hv

theorem Dev.resumeStage_keeps {v : List Host.Cell × Nat} (x : Frame0) (z : Suspended) (status : Nat) (data : List Byte) (items : List Item)
    {d : Dev} (hv : Keeps v d.vital) : Keeps v (d.resumeStage x z status data items).dev.vital := by
  unfold Dev.resumeStage
  split
  · exact hv
  dsimp only
  split
  · exact Eval.run_keeps _ _ _ _ _ _ (Eval.endRemote_keeps _ _ _ _ _ (Eval.access_keeps _ _ _ _ _ hv))
  · exact Eval.access_keeps _ _ _ _ _ hv

theorem Eval.finish_vital (x : Frame0) (e : Eval) : (e.finish x).vital = e.dev.vital := by
  unfold Eval.finish
  dsimp only
  cases e.wait <;> rfl

@[simp] theorem Dev.runStage_keeps {v : List Host.Cell × Nat} (id key stage : Nat) {d : Dev} (hv : Keeps v d.vital) :
    Keeps v (d.runStage id key stage).vital := by
  unfold Dev.runStage
  split
  · exact hv
  dsimp only
  split
  · exact hv
  · rw [Eval.finish_vital]
    exact Dev.evalStage_keeps _ _ _ hv

@[simp] theorem Dev.shareWords_keeps {v : List Host.Cell × Nat} (site corrected : Nat) (bad : List Nat) {d : Dev} (hv : Keeps v d.vital) :
    Keeps v (d.shareWords site corrected bad).vital := by
  unfold Dev.shareWords
  refine each_keepsVital (fun _ _ => ?_) _ ?_
  · simp
  · simp [hv]

@[simp] theorem shareComplete_keeps {v : List Host.Cell × Nat} (batch site corrected : Nat) (bad : List Nat) {d : Dev} (hv : Keeps v d.vital) :
    Keeps v (shareComplete batch site corrected bad d).vital := by
  unfold shareComplete
  dsimp only
  split
  · exact hv
  refine keeps_if hv ?_
  rw [Dev.trickleNow_vital]
  refine each_keepsVital (fun k e => Dev.runStage_keeps _ _ _ .refl) _ ?_
  rw [Dev.onStream_vital]
  exact Dev.shareWords_keeps _ _ _ hv

@[simp] theorem Dev.resumeSuspended_keeps {v : List Host.Cell × Nat} (z : Suspended) (status : Nat) (data : List Byte) {d : Dev}
    (hv : Keeps v d.vital) : Keeps v (d.resumeSuspended z status data).vital := by
  unfold Dev.resumeSuspended
  dsimp only
  split
  · exact hv
  · rw [Dev.trickleNow_vital, Eval.finish_vital]
    exact Dev.resumeStage_keeps _ _ _ _ _ hv

@[simp] theorem remoteAccessComplete_keeps {v : List Host.Cell × Nat} (t : Thread) (corrected : Nat) (bad : Bool) {d : Dev} (hv : Keeps v d.vital) :
    Keeps v (remoteAccessComplete t corrected bad d).vital := by
  unfold remoteAccessComplete
  repeat' split
  all_goals simp [hv]

/-! ## Every step -/

/-- A change of the device that keeps both is a step that keeps both, whether the command is well formed or not. -/
theorem run_keepsVital {s t : State} {i : Instr} {f : Dev → Dev} (hf : ∀ d : Dev, Keeps d.vital (f d).vital) (h : s.run i f = .next t) :
    Keeps s.dev.vital t.dev.vital := by
  rw [run_next] at h
  cases h
  exact keeps_if (hf s.dev) .refl

/-- COMMAND_START keeps both; otherwise it is a fault. -/
theorem execCommandStart_keeps {s t : State} (h : execCommandStart s = .next t) : Keeps s.dev.vital t.dev.vital := by
  unfold execCommandStart at h
  split at h
  · split at h
    · cases h
    · exact run_keepsVital (fun d => (congrArg (Keeps d.vital) (commandStart_vital d)).mpr .refl) h
  · exact run_keepsVital (fun d => (congrArg (Keeps d.vital) (commandStart_vital d)).mpr .refl) h

/-- Every command keeps both: its arm has its lemma above. -/
theorem exec_keepsVital {i : Instr} {s t : State} (h : exec i s = .next t) : Keeps s.dev.vital t.dev.vital := by
  cases i
  case commandStart => exact execCommandStart_keeps h
  case cisternReset stack =>
    have hf : ∀ d : Dev, Keeps d.vital (if (d.stack stack).resetting then d else d.resetCistern stack).vital := fun d => by simp
    exact run_keepsVital hf h
  all_goals exact run_keepsVital (fun d => by simp) h

theorem step_keepsVital {s t : State} (h : step s = .next t) : Keeps s.dev.vital t.dev.vital := by
  unfold step at h
  split at h
  · cases h
    exact Dev.idle_keeps .refl
  · rename_i c rest _
    have hk : Keeps ({ s with pending := rest } : State).dev.vital t.dev.vital := exec_keepsVital h
    exact hk

/-- Settles O58: every operation of the device writes device memory by the writes of chapter 09, which keep its form, or clears it. -/
theorem memoryFormKept : Obligations.MemoryFormKept := fun _ _ hwf h => (step_keepsVital h).1 hwf

/-- Settles O59: only the confirmation of an image writes the fuses, and it blows more of them. -/
theorem fusesOnlyAdvance : Obligations.FusesOnlyAdvance := fun _ _ h => (step_keepsVital h).2

end Sys2Proof.Machine
end

section
/-!
PROOFS. The host port (chapter 11): register writes, messages, link, IDE and DOE; and the answers of the mailbox and its status queries
(chapter 12).
-/

set_option Elab.async false

namespace Sys2Proof.Machine

/-! ## Shared facts: a run, interrupts and the event log -/

/-- A well formed command is its change of the device. -/
theorem run_of_wf {s : State} {i : Instr} (h : i.wf = true) (f : Dev → Dev) : s.run i f = .next { s with dev := f s.dev } := by
  rw [run_next, if_pos h]

@[simp] theorem sendMsix_linkWidth (d : Dev) (v : Nat) : (d.sendMsix v).hg.linkWidth = d.hg.linkWidth := by
  unfold Dev.sendMsix
  split <;> rfl

@[simp] theorem raiseInt_linkWidth (d : Dev) (bit : Nat) : (d.raiseInt bit).hg.linkWidth = d.hg.linkWidth := by
  unfold Dev.raiseInt
  split
  · rfl
  · dsimp only
    split
    · rw [sendMsix_linkWidth]
    · rfl

@[simp] theorem setErr_linkWidth (d : Dev) (bit : Nat) : (d.setErr bit).hg.linkWidth = d.hg.linkWidth := by
  unfold Dev.setErr
  split
  · rfl
  · rw [raiseInt_linkWidth]

@[simp] theorem log_linkWidth (d : Dev) (u o c v : Nat) : (d.log u o c v).hg.linkWidth = d.hg.linkWidth := by
  unfold Dev.log
  dsimp only
  split
  · rw [raiseInt_linkWidth]
  · split <;> rfl

@[simp] theorem log_errstat (d : Dev) (u o c v : Nat) : (d.log u o c v).hg.errstat = d.hg.errstat := by
  unfold Dev.log
  dsimp only
  split
  · rw [raiseInt_errstat]
  · split <;> rfl

@[simp] theorem setErr_ide (d : Dev) (bit : Nat) : (d.setErr bit).hg.ide = d.hg.ide := by
  have hsend : ∀ (e : Dev) v, (e.sendMsix v).hg.ide = e.hg.ide := fun e v => by
    unfold Dev.sendMsix
    split <;> rfl
  unfold Dev.setErr Dev.raiseInt
  split
  · rfl
  · split
    · rfl
    · dsimp only
      split
      · rw [hsend]
      · rfl

/-- A bit that is set is 1. -/
theorem getLsbD_setErr {d : Dev} {bit : Nat} (h : bit < 64) : (d.setErr bit).hg.errstat.getLsbD bit = true := by
  rw [setErr_errstat, BitVec.getLsbD_or, BitVec.getLsbD_shiftLeft]
  simp [h]

/-! ## Register writes -/

theorem registerWrite_of_link {d : Dev} (h : d.hg.linkWidth ≠ 0) (off size : Nat) (v : Word) (ho : off < 0x1000) :
    registerWrite (.control off size) v d = writeHg off size v d := by
  simp [registerWrite, h, writeControl, ho]

theorem writeHg_of_misaligned {off size : Nat} (h : aligned48 off size = false) (v : Word) (d : Dev) : writeHg off size v d = d.setErr 3 := by
  simp [writeHg, h]

/-- Settles O7. -/
theorem registerWrite_statement : Obligations.RegisterWrite := by
  intro s v tgt
  refine ⟨fun h => ?_, fun h => ⟨?_, ?_, ?_, ?_, fun off size ho ha => ?_⟩⟩
  · rw [exec_registerWrite]
    simp [registerWrite, h]
  · rw [exec_registerWrite, registerWrite_of_link h _ _ _ (by decide)]
    rfl
  · rw [exec_registerWrite, registerWrite_of_link h _ _ _ (by decide)]
    rfl
  · rw [exec_registerWrite, registerWrite_of_link h _ _ _ (by decide)]
    have hm : ((s.dev.hg.intmask &&& ~~~BitVec.allOnes 64) ||| v) &&& 0x3F = v &&& 0x3F := by simp
    simp only [← hm]
    rfl
  · rw [exec_registerWrite]
    simp [registerWrite, h, writeConfig]
  · rw [exec_registerWrite, registerWrite_of_link h _ _ _ ho, writeHg_of_misaligned ha]
    exact ⟨_, rfl, by dsimp only; rw [← setErr_frame], setErr_errstat _ _⟩

/-! ## Messages, link, IDE, DOE -/

theorem flushMsix_frame (d : Dev) : d.flushMsix = { d with hg := d.flushMsix.hg } := rfl

/-- The only message that waits is sent, when it can be. -/
theorem flushMsix_of_single {d : Dev} {v : Nat} (hp : d.hg.msixPending = [v]) (hgo : d.canSend v = true) :
    d.flushMsix = { d with hg.msixPending := [], hg.msixSent := v :: d.hg.msixSent } := by
  simp [Dev.flushMsix, hp, hgo]

/-- The only message that waits is sent as its vector is unmasked, when messages may be sent at all. -/
theorem msixUnmask_of_pending {d : Dev} {v : Nat} (hl : d.hg.linkWidth ≠ 0) (he : d.hg.msixEn = true) (hb : d.hg.bme = true)
    (hm : d.hg.msixFnMask = false) (hp : d.hg.msixPending = [v]) :
    msixUnmask v d = { d with hg.msixUnmasked := insertNew v d.hg.msixUnmasked, hg.msixPending := [], hg.msixSent := v :: d.hg.msixSent } := by
  have hin : v ∈ insertNew v d.hg.msixUnmasked := by
    unfold insertNew
    split <;> simp_all
  rw [msixUnmask, if_neg hl]
  exact flushMsix_of_single hp (by simp [Dev.canSend, he, hb, hm, hl, hin])

theorem linkUp_of_free {d : Dev} (hp : d.bu.perst = false) (ht : d.th.heldInReset = false) (w r : Nat) (lopt : Bool) :
    linkUp w r lopt d = if w = 16 ∧ r = 6 then Dev.flushMsix { d with hg.linkWidth := w, hg.linkRate := r, hg.lopt := lopt }
      else ((Dev.flushMsix { d with hg.linkWidth := w, hg.linkRate := r, hg.lopt := lopt }).setErr 5).notice 0 0 := by
  simp [linkUp, hp, ht]

theorem flushMsix_of_none {d : Dev} (h : d.hg.msixPending = []) : d.flushMsix = d := by
  simp only [Dev.flushMsix, h, List.filter_nil, List.reverse_nil, List.nil_append]
  rw [← h]

theorem linkUp_full {d : Dev} (hp : d.bu.perst = false) (ht : d.th.heldInReset = false) (hn : d.hg.msixPending = []) (lopt : Bool) :
    linkUp 16 6 lopt d = { d with hg.linkWidth := 16, hg.linkRate := 6, hg.lopt := lopt } := by
  rw [linkUp_of_free hp ht, if_pos ⟨rfl, rfl⟩]
  exact flushMsix_of_none hn

/-- The link comes up degraded: the host port and the event log alone change. -/
theorem linkUp_degraded_frame {d : Dev} (hp : d.bu.perst = false) (ht : d.th.heldInReset = false) (w : Nat) (lopt : Bool) (hw : w ≠ 16) :
    linkUp w 6 lopt d = { d with hg := (linkUp w 6 lopt d).hg, lg := (linkUp w 6 lopt d).lg } ∧
      (linkUp w 6 lopt d).hg.linkWidth = w ∧ (linkUp w 6 lopt d).hg.errstat.getLsbD 5 = true := by
  rw [linkUp_of_free hp ht, if_neg (fun h => hw h.1)]
  refine ⟨?_, ?_, ?_⟩
  · rw [notice_frame, setErr_frame, flushMsix_frame]
  · rw [Dev.notice, log_linkWidth, setErr_linkWidth]
    rfl
  · rw [Dev.notice, log_errstat]
    exact getLsbD_setErr (by decide)

/-- A signed answer over DOE, while the device key is usable. -/
theorem spdmAnswer_measurement5 {d : Dev} (hk : d.keyUsable = true) : ∃ sig,
    spdmAnswer (.getMeasurements 5) d =
      { d with free := d.free + 1, hg.doeOut := { code := 0xE0, error := false, data := [5, d.fw.fuseF, d.fw.running.rollback, sig] } :: d.hg.doeOut } := by
  refine ⟨Config.spdmSign (d.free :: d.fw.serial :: 0xE0 :: [5, d.fw.fuseF, d.fw.running.rollback]), ?_⟩
  simp [spdmAnswer, Dev.measurement, hk, Dev.draw]

/-- Settles O8. -/
theorem hostPortEvents : Obligations.HostPortEvents := by
  intro s v w lopt
  refine ⟨?unmask, ?up, ?degraded, ?ide, ?noIde, ?keys, ?cdat, ?challenge, ?measure⟩
  case unmask =>
    intro hv hl he hb hm hp
    have hw : (Instr.msixUnmask v).wf = true := decide_eq_true hv
    show s.run (.msixUnmask v) (msixUnmask v) = _
    rw [run_of_wf hw, msixUnmask_of_pending hl he hb hm hp]
  case up =>
    intro hp ht hn
    show s.run (.linkUp 16 6 lopt) (linkUp 16 6 lopt) = _
    rw [run_of_wf rfl, linkUp_full hp ht hn]
  case degraded =>
    intro hp ht hw
    have hwf : (Instr.linkUp w 6 lopt).wf = true := by rcases hw with rfl | rfl | rfl | rfl <;> rfl
    obtain ⟨hframe, hwidth, herr⟩ := linkUp_degraded_frame hp ht w lopt (by omega)
    refine ⟨{ s with dev := linkUp w 6 lopt s.dev }, ?_, ?_, hwidth, herr⟩
    · show s.run (.linkUp w 6 lopt) (linkUp w 6 lopt) = _
      rw [run_of_wf hwf]
    · dsimp only
      rw [← hframe]
  case ide =>
    intro hi
    have h : ideFail s.dev = Dev.setErr 2 { s.dev with hg.ide := 2 } := if_pos hi
    refine ⟨{ s with dev := ideFail s.dev }, rfl, ?_, ?_, ?_⟩
    · dsimp only
      rw [h, setErr_frame]
    · rw [h, setErr_ide]
    · rw [h]
      exact getLsbD_setErr (by decide)
  case noIde =>
    intro hi
    show s.run .ideIntegrityFail ideFail = _
    rw [run_of_wf rfl, ideFail, if_neg hi]
  case keys =>
    intro hl hk
    show s.run .ideKeyExchange ideKeys = _
    rw [run_of_wf rfl, ideKeys, if_pos ⟨hl, hk⟩]
  case cdat =>
    intro hl
    show s.run .cdatTableAccess cdatAccess = _
    rw [run_of_wf rfl, cdatAccess, if_neg hl]
  case challenge =>
    intro hl hk
    show s.run (.spdmRequest (.challenge v)) (spdmRequest (.challenge v)) = _
    rw [run_of_wf rfl, spdmRequest, if_neg hl]
    simp [spdmAnswer, hk]
  case measure =>
    intro hl hk
    obtain ⟨sig, hs⟩ := spdmAnswer_measurement5 hk
    refine ⟨{ s with dev := spdmAnswer (.getMeasurements 5) s.dev }, ?_, ?_, sig, ?_⟩
    · show s.run (.spdmRequest (.getMeasurements 5)) (spdmRequest (.getMeasurements 5)) = _
      rw [run_of_wf rfl, spdmRequest, if_neg hl]
    · dsimp only
      rw [hs]
    · dsimp only
      rw [hs]

/-! ## A command's answer and the queries that change nothing -/

/-- An answer changes the channel's outcome and its journal mark alone. -/
theorem chan_answer (d : Dev) (ch status effect : Nat) (body : List Byte) :
    (d.answer ch status body effect).chan ch =
      { d.chan ch with
        outcome := some { status, body, effect }
        journaled := (status == stOk || status == stAccepted || status == stDegraded) &&
          (opInfo (d.chan ch).opcode).elim false (fun i => !i.query) } :=
  chan_onChan d ch _ fun _ => rfl

theorem chan_answer_other (d : Dev) {ch other : Nat} (status effect : Nat) (body : List Byte) (h : other ≠ ch) :
    (d.answer ch status body effect).chan other = d.chan other := chan_onChan_other d ch other _ (fun _ => rfl) h

@[simp] theorem outcome_answer (d : Dev) (ch status effect : Nat) (body : List Byte) :
    ((d.answer ch status body effect).chan ch).outcome = some { status, body, effect } := by rw [chan_answer]

/-- Settles O10. -/
theorem answerLeavesOutcome : Obligations.AnswerLeavesOutcome := by
  intro d ch status effect body e
  refine ⟨rfl, rfl, outcome_answer .., ?_, fun hj => ?_, fun other h => chan_answer_other d _ _ _ h⟩
  · rw [chan_answer]
  · rw [chan_answer, Bool.and_eq_true] at hj
    simpa [or_assoc] using hj.1

@[simp] theorem length_leBytes (n v : Nat) : (leBytes n v).length = n := by
  induction n generalizing v with
  | zero => rfl
  | succ n ih => simp [leBytes, ih]

@[simp] theorem length_leInt (n : Nat) (v : Int) : (leInt n v).length = n := length_leBytes ..

@[simp] theorem length_zeros (n : Nat) : (zeros n).length = n := List.length_replicate

theorem length_queryBody (d : Dev) : d.queryBody.length = 64 := by simp [Dev.queryBody]

theorem length_stateBody (d : Dev) : d.stateBody.length = 32 := by simp [Dev.stateBody]

theorem length_timebaseBody (d : Dev) : d.timebaseBody.length = 64 := by simp [Dev.timebaseBody]

theorem length_thermalBody (d : Dev) : d.thermalBody.length = 88 := by simp [Dev.thermalBody, Dev.thermalHead, Dev.thermalReadings, limitRows]

theorem length_portRecord (d : Dev) (port : Nat) : (d.portRecord port).length = 64 := by simp [Dev.portRecord]

/-- Records of one size follow one another. -/
theorem length_flatten_map {α β : Type} {n : Nat} {f : α → List β} (h : ∀ a, (f a).length = n) (l : List α) :
    (l.map f).flatten.length = l.length * n := by
  simp [List.length_flatten, Function.comp_def, h]

theorem length_fabricBody (d : Dev) : d.fabricBody.length = 64 + 8 * 64 := by
  simp [Dev.fabricBody, length_flatten_map (length_portRecord d)]

/-- Settles O11. -/
theorem statusQueries : Obligations.StatusQueries := by
  intro s ch ok
  refine ⟨fun h => ⟨run_atWork h rfl, length_queryBody _⟩, fun h => ⟨run_atWork h rfl, length_stateBody _⟩, fun h => run_atWork h rfl,
    fun h => run_atWork h rfl, fun h => ⟨run_atWork h rfl, length_timebaseBody _⟩, fun h => ⟨run_atWork h rfl, length_thermalBody _⟩,
    fun h => ⟨run_atWork h rfl, length_fabricBody _⟩, fun h hp => ?_⟩
  let d1 := if 3 < u8 (s.body ch) 0 then s.dev.fail ch stBadParam else s.dev.answer ch stOk (s.dev.calBody (u8 (s.body ch) 0)) 0
  have hrun : exec (.calibrationStatus ch) s = .next { s with dev := d1 } := run_atWork h rfl
  have hd : d1 = s.dev.answer ch stOk (s.dev.calBody (u8 (s.body ch) 0)) 0 := if_neg (by omega)
  rw [hrun, hd]

end Sys2Proof.Machine
end

section
/-!
PROOFS. The reads that write a buffer of the host (chapter 12): the bring-up log, the defect map, the event log, telemetry and the report
of a graph; and what a store of the device changes.
-/

set_option Elab.async false

namespace Sys2Proof.Machine

/-! ## What a store of the device changes (chapter 09) -/

theorem pokeLine_frame (d : Dev) (stack line off : Nat) (data : List Byte) :
    d.pokeLine stack line off data = { d with mem := (d.pokeLine stack line off data).mem } := by
  unfold Dev.pokeLine
  dsimp only
  split <;> rfl

theorem storeCopy_frame (d : Dev) (stack off : Nat) (data : List Byte) :
    d.storeCopy stack off data = { d with mem := (d.storeCopy stack off data).mem } := by
  unfold Dev.storeCopy
  dsimp only
  split
  · rw [pokeLine_frame]
    rfl
  · split
    · rfl
    · rw [pokeLine_frame]

theorem storeLine_frame (d : Dev) (stack off : Nat) (data : List Byte) :
    d.storeLine stack off data = { d with mem := (d.storeLine stack off data).mem } := by
  have h : ∀ (c : Prop) [Decidable c] (e : Dev) k, e = { d with mem := e.mem } →
      (if c then e else e.storeCopy k off data) = { d with mem := (if c then e else e.storeCopy k off data).mem } := by
    intro c _ e k he
    split
    · exact he
    · rw [storeCopy_frame, he]
  unfold Dev.storeLine
  extract_lets d1
  have h1 : d1 = { d with mem := d1.mem } := h _ d stack rfl
  split
  · exact h _ d1 _ h1
  · exact h1

theorem storeFuel_frame (fuel a : Nat) (data : List Byte) (d : Dev) :
    d.storeFuel fuel a data = { d with mem := (d.storeFuel fuel a data).mem } := by
  induction fuel generalizing a data d with
  | zero => rfl
  | succ fuel ih =>
    unfold Dev.storeFuel
    split
    · rfl
    · extract_lets n _ d1
      have h1 : d1 = { d with mem := d1.mem } := by
        unfold d1
        split
        · exact storeLine_frame ..
        · dsimp only
          split <;> rfl
        · rfl
      rw [ih, h1]

theorem sendSnoop_frame (d : Dev) (inv : Bool) (line : Nat) : d.sendSnoop inv line = { d with hg := (d.sendSnoop inv line).hg } := by
  unfold Dev.sendSnoop
  split <;> rfl

theorem takeLines_frame (d : Dev) (a n : Nat) : d.takeLines a n = { d with hg := (d.takeLines a n).hg } := by
  unfold Dev.takeLines
  extract_lets ls d1
  have h1 : d1 = { d with hg := d1.hg } :=
    each_keeps (fun e : Dev => e = { d with hg := e.hg }) _ (fun l e he => by rw [sendSnoop_frame, he]) _ _ rfl
  rw [h1]

/-- A store of the device changes its memory and takes lines from the host alone. -/
theorem store_frame (d : Dev) (a : Nat) (data : List Byte) :
    d.store a data = { d with mem := (d.store a data).mem, hg := (d.store a data).hg } := by
  unfold Dev.store
  split
  · rfl
  · rw [storeFuel_frame, takeLines_frame]

@[simp] theorem store_bu (d : Dev) (a : Nat) (data : List Byte) : (d.store a data).bu = d.bu := by rw [store_frame]

/-- An answer changes the mailbox alone. -/
theorem answer_frame (d : Dev) (ch status : Nat) (body : List Byte) (effect : Nat) :
    d.answer ch status body effect = { d with mb := (d.answer ch status body effect).mb } := rfl

/-- A store and an answer after it. -/
theorem answer_store_frame (d : Dev) (a : Nat) (data : List Byte) (ch status : Nat) (body : List Byte) (effect : Nat) :
    let e := (d.store a data).answer ch status body effect
    e = { d with mb := e.mb, mem := e.mem, hg := e.hg } := by
  dsimp only
  rw [answer_frame, store_frame]

/-! ## The sizes of the records -/

@[simp] theorem length_padTo (n : Nat) (bs : List Byte) : (padTo n bs).length = n := by
  simp only [padTo, List.length_append, List.length_take, length_zeros]
  omega

theorem length_stageReports (d : Dev) : (((List.range 10).map d.stageEntry).flatten).length = 640 := by
  have h : ∀ k, (d.stageEntry k).length = 64 := fun k => length_padTo ..
  rw [length_flatten_map h]
  rfl

theorem length_fdmEntry (e : FdmEntry) : e.bytes.length = 32 := by simp [FdmEntry.bytes]

theorem length_fdmBytes (d : Dev) : d.fdmBytes.length = 64 + 32 * d.sp.fdm.length := by
  simp [Dev.fdmBytes, length_flatten_map length_fdmEntry]
  omega

/-! ## The reads -/

/-- BRINGUP_LOG_READ with a legal buffer: the entries are written when the memory takes them. -/
theorem exec_bringupLogRead {s : State} {ch : Nat} (h : s.atWork 0x0003 ch = true) (ha : u64 (s.body ch) 0 % 64 = 0)
    (hl : u32 (s.body ch) 8 % 32 = 0) :
    let es := (s.dev.bu.log.reverse.drop (u32 (s.body ch) 12)).take (u32 (s.body ch) 8 / 32)
    let ok := s.dev.mem.ready && s.dev.hbmRange (u64 (s.body ch) 0) (u32 (s.body ch) 8)
    let d1 := onlyIf ok (Dev.store (u64 (s.body ch) 0) (es.map BringLog.bytes).flatten) s.dev
    exec (.bringupLogRead ch) s = .next { s with dev := d1.answer ch stOk (((List.range 10).map s.dev.stageEntry).flatten ++
      leBytes 4 (if ok then es.length else 0) ++ leBytes 4 s.dev.bu.log.length) 0 } := by
  refine (run_atWork h rfl).trans ?_
  simp only [ha, hl, ne_eq, not_true_eq_false, or_self, if_false]

theorem exec_defectMapRead {s : State} {ch : Nat} (h : s.atWork 0x0602 ch = true)
    (hb : s.dev.bufferOk (u64 (s.body ch) 0) (u64 (s.body ch) 8) = true) :
    let need := 64 + 32 * s.dev.sp.fdm.length
    exec (.defectMapRead ch) s = .next { s with dev :=
      (if u64 (s.body ch) 8 < need then s.dev.answer ch stNoResource (leBytes 4 need) 0
      else (s.dev.store (u64 (s.body ch) 0) s.dev.fdmBytes).answer ch stOk (leBytes 4 need) 0) } := by
  refine (run_atWork h rfl).trans ?_
  simp only [hb, Bool.not_true, Bool.false_eq_true, if_false]

theorem exec_eventLogRead {s : State} {ch : Nat} (h : s.atWork 0x0601 ch = true)
    (hb : s.dev.bufferOk (u64 (s.body ch) 16) (32 * u32 (s.body ch) 8) = true) (hz : u32 (s.body ch) 12 = 0) :
    let es := (s.dev.lg.entries.reverse.filter fun e => decide (u64 (s.body ch) 0 ≤ e.number)).take (u32 (s.body ch) 8)
    let next := (es.getLast?).elim (min (u64 (s.body ch) 0) s.dev.lg.next) fun e => e.number + 1
    exec (.eventLogRead ch) s = .next { s with dev :=
      ((s.dev.store (u64 (s.body ch) 16) (es.map Event.bytes).flatten).answer ch stOk (leBytes 8 next ++ leBytes 4 es.length) 0) } := by
  refine (run_atWork h rfl).trans ?_
  simp only [hb, hz, Bool.not_true, Bool.false_eq_true, ne_eq, not_true_eq_false, or_self, if_false]

/-- TELEMETRY_READ of the standing grants of every plane. -/
theorem exec_telemetryRead_standing {s : State} {ch : Nat} (h : s.atWork 0x0600 ch = true) (hs : u16 (s.body ch) 0 = 2)
    (hi : u16 (s.body ch) 2 = 0xFFFF) (hz : u32 (s.body ch) 4 = 0) (hb : s.dev.bufferOk (u64 (s.body ch) 8) (u64 (s.body ch) 16) = true)
    (hp : s.dev.ba.standing.all (fun g => decide (g.plane < 4)) = true) :
    let need := 16 + 16 * s.dev.ba.standing.length
    let head := leBytes 2 2 ++ leBytes 2 16 ++ leBytes 4 s.dev.ba.standing.length ++ leBytes 8 s.dev.tb.ns
    exec (.telemetryRead ch) s = .next { s with dev :=
      (if u64 (s.body ch) 16 < need then s.dev.answer ch stNoResource (leBytes 4 need ++ zeros 4) 0
      else (s.dev.store (u64 (s.body ch) 8) (head ++ (s.dev.ba.standing.map Standing.bytes).flatten)).answer ch stOk
        (leBytes 4 need ++ leBytes 4 s.dev.ba.standing.length) 0) } := by
  have hall : s.dev.ba.standing.filter (fun g => [0, 1, 2, 3].contains g.plane) = s.dev.ba.standing := by
    rw [List.filter_eq_self]
    intro g hg
    have : g.plane < 4 := by simpa using List.all_eq_true.mp hp g hg
    interval_cases g.plane <;> rfl
  have htel : s.dev.telemetry 2 0xFFFF = some (16, s.dev.ba.standing.map Standing.bytes) := by
    conv_rhs => rw [← hall]
    rfl
  refine (run_atWork h rfl).trans ?_
  simp only [hs, hi, hz, hb, htel, List.length_map]
  rfl

/-- GRAPH_QUERY with no buffer, or a legal one. -/
theorem exec_graphQuery {s : State} {ch : Nat} (h : s.atWork 0x0103 ch = true) (hz : u32 (s.body ch) 4 = 0)
    (hb : u64 (s.body ch) 8 = 0 ∨ s.dev.bufferOk (u64 (s.body ch) 8) (u64 (s.body ch) 16) = true) {g : Graph}
    (hg : s.dev.graph? (u32 (s.body ch) 0) = some g) :
    exec (.graphQuery ch) s = .next { s with dev := match g.placed with
      | some p =>
        if u64 (s.body ch) 8 = 0 then s.dev.answer ch stOk (s.dev.summary g) 0
        else if u64 (s.body ch) 16 < p.reportBytes then s.dev.answer ch stNoResource (s.dev.summary g) 0
        else (s.dev.store (u64 (s.body ch) 8) (s.dev.report g.handle p)).answer ch stOk (s.dev.summary g) 0
      | none => s.dev.answer ch stOk (s.dev.summary g) 0 } := by
  refine (run_atWork h rfl).trans ?_
  have hn : ¬ (u32 (s.body ch) 4 ≠ 0 ∨ (u64 (s.body ch) 8 ≠ 0 ∧ !s.dev.bufferOk (u64 (s.body ch) 8) (u64 (s.body ch) 16))) := by
    rcases hb with hb | hb <;> simp [hz, hb]
  simp only [hg]
  rw [if_neg hn] <;> rfl

/-- Settles O12. -/
theorem bufferReads : Obligations.BufferReads := by
  intro s ch b d
  refine ⟨?log, ?defects, ?events, ?grants, ?graph⟩
  case log =>
    intro h ha hl es reports
    refine ⟨length_stageReports d, fun hm hr => ?_, fun hno => ?_⟩
    · have hok : (d.mem.ready && d.hbmRange (u64 b 0) (u32 b 8)) = true := by rw [hm, hr]; rfl
      refine (exec_bringupLogRead h ha hl).trans ?_
      simp only [b, d] at hok
      simp only [hok, store_bu, onlyIf, if_true]
      rfl
    · have hok : (d.mem.ready && d.hbmRange (u64 b 0) (u32 b 8)) = false := by rcases hno with hm | hr <;> simp [*]
      refine (exec_bringupLogRead h ha hl).trans ?_
      simp only [b, d] at hok
      simp only [hok]
      rfl
  case defects =>
    intro h hb need
    refine ⟨fun hlt => ?_, fun hle => ⟨?_, length_fdmBytes d⟩⟩
    · exact (exec_defectMapRead h hb).trans (by rw [if_pos hlt])
    · exact (exec_defectMapRead h hb).trans (by rw [if_neg (Nat.not_lt.mpr hle)])
  case events =>
    intro h hb hz
    let es := (d.lg.entries.reverse.filter fun e => decide (u64 b 0 ≤ e.number)).take (u32 b 8)
    refine ⟨es, _, exec_eventLogRead h hb hz, List.length_take_le _ _, fun e he => ?_, ?_, ?_⟩
    · have he := List.mem_filter.mp (List.mem_of_mem_take he)
      exact ⟨List.mem_reverse.mp he.1, of_decide_eq_true he.2⟩
    · dsimp only
      rw [← answer_store_frame]
    · simp [State.outcome]
  case grants =>
    intro h hs hi hz hb need hp
    refine ⟨fun hlt => ?_, fun hle => ?_⟩
    · exact (exec_telemetryRead_standing h hs hi hz hb hp).trans (by rw [if_pos hlt])
    · refine ⟨_, (exec_telemetryRead_standing h hs hi hz hb hp).trans (by rw [if_neg (Nat.not_lt.mpr hle)]), ?_, ?_⟩
      · dsimp only
        rw [← answer_store_frame]
      · exact outcome_answer ..
  case graph =>
    intro h hz hb g hg
    refine ⟨fun hno => ?_, fun p hp hd => ⟨fun hlt => ?_, fun hle => ?_⟩⟩
    · refine (exec_graphQuery h hz hb hg).trans ?_
      split
      · rcases hno with h0 | hn
        · rw [if_pos h0]
        · simp_all
      · rfl
    · refine (exec_graphQuery h hz hb hg).trans ?_
      simp only [hp]
      rw [if_neg hd, if_pos hlt]
    · refine (exec_graphQuery h hz hb hg).trans ?_
      simp only [hp]
      rw [if_neg hd, if_neg (Nat.not_lt.mpr hle)]

end Sys2Proof.Machine
end

section
/-!
PROOFS. Sessions (chapter 12): opening and closing, reattachment and the timers; and what settling a result ring's consumed count changes.
-/

set_option Elab.async false

namespace Sys2Proof.Machine

/-! ## Sorting -/

@[simp] theorem length_insertBy {α : Type} (before : α → α → Bool) (x : α) (l : List α) : (insertBy before x l).length = l.length + 1 := by
  induction l with
  | nil => rfl
  | cons y l ih =>
    unfold insertBy
    split
    · rfl
    · simp [ih]

@[simp] theorem length_sortBy {α : Type} (before : α → α → Bool) (l : List α) : (sortBy before l).length = l.length := by
  have h (acc : List α) : (l.foldl (fun acc x => insertBy before x acc) acc).length = acc.length + l.length := by
    induction l generalizing acc with
    | nil => rfl
    | cons x l ih =>
      rw [List.foldl_cons, ih, length_insertBy, List.length_cons]
      omega
  exact (h []).trans (Nat.zero_add _)

/-! ## What a read of a ring's consumed field can change (R383, log 36) -/

theorem storeRing_frame (d : Dev) (host : Bool) (a : Nat) (data : List Byte) :
    d.storeRing host a data = { d with mem := (d.storeRing host a data).mem, hg := (d.storeRing host a data).hg } := by
  unfold Dev.storeRing
  split
  · split <;> rfl
  · rw [store_frame]

theorem snoopRange_frame (d : Dev) (a n : Nat) : d.snoopRange a n = { d with hg := (d.snoopRange a n).hg } :=
  each_keeps (fun e : Dev => e = { d with hg := e.hg }) _ (fun l e he => by rw [sendSnoop_frame, he]) _ _ rfl

theorem reclaim_frame (d : Dev) (r : ResultRing) (upTo : Nat) :
    d.reclaim r upTo = { d with mem := (d.reclaim r upTo).mem, hg := (d.reclaim r upTo).hg } :=
  each_keeps (fun e : Dev => e = { d with mem := e.mem, hg := e.hg }) _ (fun l e he => by rw [storeRing_frame, he]) _ _ rfl

theorem ask_frame (d : Dev) (host : Bool) (a n : Nat) (p : ReadPurpose) : (d.ask host a n p).1 = { d with hg := (d.ask host a n p).1.hg } := by
  unfold Dev.ask
  dsimp only
  split
  · split
    · rfl
    · split <;> rfl
  · split
    · dsimp only
      rw [snoopRange_frame]
    · split <;> rfl

/-- What settling a result ring's consumed count can change: the rings themselves, the slots in memory and the log. -/
def Dev.sameButRings (d e : Dev) : Prop :=
  e = { d with mem := e.mem, hg := e.hg, lg := e.lg, str := { d.str with results := e.str.results } }

theorem gotConsumed_sameButRings {d e : Dev} (h : Nat) (value : Option Nat) (he : d.sameButRings e) :
    d.sameButRings (e.gotConsumed h value) := by
  unfold Dev.sameButRings at *
  unfold Dev.gotConsumed
  split
  · extract_lets bad d1 c
    have h1 : d1 = { d with mem := d1.mem, hg := d1.hg, lg := d1.lg, str := { d.str with results := d1.str.results } } := by
      unfold d1
      split
      · rw [notice_frame, he]; rfl
      · exact he
    split
    · exact h1
    · rw [reclaim_frame, h1]; rfl
  · rw [notice_frame, he]
  · exact he

theorem askConsumed_sameButRings {d e : Dev} (r : ResultRing) (he : d.sameButRings e) : d.sameButRings (e.askConsumed r) := by
  unfold Dev.askConsumed
  split
  · exact he
  · extract_lets a
    have ha : d.sameButRings a.1 := by
      unfold Dev.sameButRings at *
      unfold a
      rw [ask_frame, he]
    split
    · exact ha
    · exact gotConsumed_sameButRings _ _ ha
    · exact gotConsumed_sameButRings _ _ ha

/-- What preparing to close leaves as it is: the streams of the sessions among the rest. -/
theorem prepareClose_list (d : Dev) (ids : List Nat) : (d.prepareClose ids).1.str.list = d.str.list := by
  unfold Dev.prepareClose
  extract_lets mine d1 d2
  have h1 : d.sameButRings d1 := each_keeps d.sameButRings _ (fun r e he => askConsumed_sameButRings r he) _ _ rfl
  have h2 : d2.str.list = d.str.list := by
    unfold d2
    refine each_keeps (fun e : Dev => e.str.list = d.str.list) _ (fun id e he => by exact he) _ _ ?_
    rw [h1]
  exact h2

theorem log_ses (d : Dev) (u o c v : Nat) : (d.log u o c v).ses = d.ses := by rw [log_frame]

theorem log_gr (d : Dev) (u o c v : Nat) : (d.log u o c v).gr = d.gr := by rw [log_frame]

theorem log_str (d : Dev) (u o c v : Nat) : (d.log u o c v).str = d.str := by rw [log_frame]

theorem log_mb (d : Dev) (u o c v : Nat) : (d.log u o c v).mb = d.mb := by rw [log_frame]

theorem log_tb (d : Dev) (u o c v : Nat) : (d.log u o c v).tb = d.tb := by rw [log_frame]

/-- Nothing of a session is left: neither itself nor its graphs, regions or rings. -/
def Dev.sessionGone (id : Nat) (d : Dev) : Prop :=
  (∀ x ∈ d.ses.list, x.id ≠ id) ∧ (∀ g ∈ d.gr.list, g.session ≠ id) ∧ (∀ r ∈ d.gr.regions, r.session ≠ id) ∧
    (∀ r ∈ d.str.intakes, r.session ≠ id) ∧ ∀ r ∈ d.str.results, r.session ≠ id

theorem closeSession_sessionGone (d : Dev) (id : Nat) : (d.closeSession id).1.sessionGone id := by
  unfold Dev.closeSession Dev.sessionGone
  dsimp only
  rw [log_ses, log_gr, log_str]
  simp

theorem closeSession_count (d : Dev) (id : Nat) : (d.closeSession id).2.1 = (d.str.list.filter (·.session == id)).length :=
  length_sortBy ..

/-! ## SESSION_OPEN and SESSION_CLOSE -/

theorem exec_sessionOpen {s : State} {ch : Nat} (h : s.atWork 0x0010 ch = true)
    (hh : u32 (s.body ch) 16 = 0 ∨ (10 ≤ u32 (s.body ch) 16 ∧ u32 (s.body ch) 16 ≤ 3600)) (hn : s.dev.ses.list.length < 64)
    (hi : s.dev.ses.nextId ≤ 0xFFFFFFFF) :
    exec (.sessionOpen ch) s = .next { s with dev :=
      (s.dev.openSession ch (if u32 (s.body ch) 16 = 0 then 600 else u32 (s.body ch) 16) ((s.body ch).take 16)) } := by
  refine (run_atWork h rfl).trans ?_
  dsimp only
  rw [if_neg (by omega), if_neg (by omega)]

theorem exec_sessionClose {s : State} {ch : Nat} (h : s.atWork 0x0011 ch = true) :
    let id := s.session ch
    let a := s.dev.prepareClose [id]
    let r := a.1.closeSession id
    exec (.sessionClose ch) s = .next { s with dev :=
      (if s.dev.sessionBusy id (some ch) then s.dev.beginClose id
      else if !a.2 then a.1
      else r.1.answer ch stOk (leBytes 4 r.2.1 ++ leBytes 4 r.2.2.1 ++ leBytes 4 r.2.2.2) 0) } := run_atWork h rfl

/-- Settles O13. -/
theorem sessionOpenClose : Obligations.SessionOpenClose := by
  intro s ch
  refine ⟨fun h hh hn hi => ?opens, fun h => ?rest⟩
  case opens =>
    refine ⟨_, _, exec_sessionOpen h hh hn hi, rfl, rfl, rfl, rfl, Nat.mod_lt _ (by decide), rfl, rfl, ?_⟩
    exact outcome_answer ..
  intro id ready gone
  refine ⟨fun hb => ?busy, fun hb hw => ?waits, fun hb hr => ?closes⟩
  case busy => exact (exec_sessionClose h).trans (by rw [if_pos hb]; rfl)
  case waits =>
    refine (exec_sessionClose h).trans ?_
    rw [if_neg (Bool.eq_false_iff.mp hb), if_pos (by rw [Bool.not_eq_true']; exact hw)]
  case closes =>
    let r := ready.1.closeSession id
    refine ⟨{ s with dev := r.1.answer ch stOk (leBytes 4 r.2.1 ++ leBytes 4 r.2.2.1 ++ leBytes 4 r.2.2.2) 0 }, r.2.2.1, r.2.2.2, ?_, rfl,
      closeSession_sessionGone ready.1 id, ?_⟩
    · refine (exec_sessionClose h).trans ?_
      rw [if_neg (Bool.eq_false_iff.mp hb), if_neg]
      rw [Bool.not_eq_true', Bool.not_eq_false]
      exact hr
    · have hc : r.2.1 = (s.dev.str.list.filter (·.session == id)).length := by
        rw [show r.2.1 = _ from closeSession_count .., prepareClose_list]
      rw [← hc]
      exact outcome_answer ..

/-! ## SESSION_REATTACH and the timers of a session -/

theorem session?_onSession (d : Dev) (id : Nat) (f : Session → Session) (hf : ∀ x, (f x).id = x.id) :
    (d.onSession id f).session? id = (d.session? id).map f :=
  find?_mapIf _ f (fun x hx => by rwa [hf]) _

theorem session?_log (d : Dev) (u o c v id : Nat) : (d.log u o c v).session? id = d.session? id := by
  rw [Dev.session?, log_ses]
  rfl

theorem session?_answer (d : Dev) (ch status effect id : Nat) (body : List Byte) : (d.answer ch status body effect).session? id = d.session? id := rfl

/-- SESSION_REATTACH with the session's token, while it is neither closing nor locked out. -/
theorem exec_sessionReattach {s : State} {ch : Nat} {x : Session} (h : s.atWork 0x0012 ch = true) (h0 : s.session ch = 0)
    (hz : u32 (s.body ch) 4 = 0) (hx : s.dev.session? (u32 (s.body ch) 0) = some x) (hc : x.closing = false) (hl : x.lockout = none)
    (ht : field (s.body ch) 8 16 = x.token) :
    let id := u32 (s.body ch) 0
    let d1 := (s.dev.onSession id fun y =>
      { y with orphaned := none, lastDoorbell := max x.lastDoorbell (s.dev.chan ch).accepted }).log 0 0 0x0601 3
    exec (.sessionReattach ch) s = .next { s with dev := d1.answer ch stOk (d1.sessionCounts id) 0 } := by
  refine (run_atWork h rfl).trans ?_
  dsimp only
  rw [if_neg (by simp [h0, hz]), hx]
  dsimp only
  rw [if_neg (by simp [hc]), if_neg (by simp [hl]), if_neg (by simp [ht])]

/-- With no result ring of the session nothing is read and the close need not wait. -/
theorem prepareClose_of_no_rings {d : Dev} {id : Nat} (h : (d.str.results.any fun r => r.session == id) = false) : (d.prepareClose [id]).2 = true := by
  have hno : ∀ r ∈ d.str.results, (r.session == id) = false := by simpa using h
  have hf : (d.str.results.filter fun r => [id].contains r.session && (d.session? r.session).elim false (·.closeRead == false)) = [] := by
    rw [List.filter_eq_nil_iff]
    intro r hr
    have := hno r hr
    simp_all
  unfold Dev.prepareClose
  dsimp only
  rw [hf]
  rw [Bool.not_eq_true', List.any_eq_false]
  intro q _
  split
  · simp only [each_nil, each_cons, onSession_str, List.any_eq_true, not_exists, not_and, Bool.and_eq_true]
    intro r hr _
    have := hno r hr
    simp_all
  · exact Bool.false_ne_true

theorem reach_mb (d : Dev) (t : Nat) : (d.reach t).mb = d.mb := by rw [(reach_frame d t).1]

theorem reach_str (d : Dev) (t : Nat) : (d.reach t).str = d.str := by rw [(reach_frame d t).1]

theorem reach_reattaching (d : Dev) (t id : Nat) : (d.reach t).reattaching id = d.reattaching id := by rw [Dev.reattaching, reach_mb, Dev.reattaching]

theorem reach_sessionBusy (d : Dev) (t id : Nat) (ch : Option Nat) : (d.reach t).sessionBusy id ch = d.sessionBusy id ch := by
  rw [Dev.sessionBusy, reach_mb, Dev.sessionBusy]

theorem reach_session? (d : Dev) (t id : Nat) : (d.reach t).session? id = d.session? id := by
  rw [Dev.session?, (reach_frame d t).1, Dev.session?]

/-- At the end of its hold time an idle session without result rings is closed. -/
theorem orphanHoldExpiry_of_idle {d : Dev} {id a : Nat} {x : Session} (hx : d.session? id = some x) (ho : x.orphaned = some a)
    (hr : d.reattaching id = false) (hb : d.sessionBusy id none = false) (hn : (d.str.results.any fun r => r.session == id) = false) :
    (∀ y ∈ (orphanHoldExpiry id d).ses.list, y.id ≠ id) ∧ ∀ g ∈ (orphanHoldExpiry id d).gr.list, g.session ≠ id := by
  unfold orphanHoldExpiry
  rw [hx]
  dsimp only
  rw [ho]
  dsimp only
  generalize a + x.hold * 1000000000 = t
  have hw : ((d.reach t).prepareClose [id]).2 = true := prepareClose_of_no_rings (by rw [reach_str, hn])
  obtain ⟨hs, hg, -⟩ := closeSession_sessionGone ((d.reach t).prepareClose [id]).1 id
  simp only [reach_reattaching, reach_sessionBusy, hr, hb, Bool.and_false, Bool.false_eq_true, if_false, hw, if_true]
  exact ⟨hs, hg⟩

/-- A session that becomes ORPHANED at a given instant. -/
theorem orphan_reach {d : Dev} {id : Nat} {x : Session} (t : Nat) (hx : d.session? id = some x) :
    let e := (d.reach t).orphan id
    e = { d with tb := e.tb, ses := e.ses, lg := e.lg, hg := e.hg } ∧ e.tb.ns = max d.tb.ns t ∧
      e.session? id = some { x with orphaned := some e.tb.ns } := by
  obtain ⟨hf, hns⟩ := reach_frame d t
  have htb : ((d.reach t).orphan id).tb = (d.reach t).tb := by rw [orphan_frame]
  refine ⟨?_, ?_, ?_⟩
  · rw [orphan_frame, hf]
  · rw [htb, hns]
  · rw [htb, Dev.orphan, session?_log, session?_onSession _ _ _ (by intro _; rfl), reach_session?, hx]
    rfl

/-- Settles O14. -/
theorem sessionTimers : Obligations.SessionTimers := by
  intro s ch id x hx
  refine ⟨fun h h0 hid hz hc hl ht => ?reattach, fun ho hc hh => ?orphan, fun a ho hc hr hb hn => ?expiry, fun a ha => ?lockout⟩
  case reattach =>
    subst hid
    refine ⟨_, exec_sessionReattach h h0 hz hx hc hl ht, rfl, ?_, ?_, log_gr .., log_str ..⟩
    · dsimp only
      rw [session?_answer, session?_log, session?_onSession _ _ _ (by intro _; rfl), hx]
      rfl
    · exact congrArg (Option.map _) (outcome_answer ..)
  case orphan =>
    have hd : sessionOrphanTimer id s.dev = (s.dev.reach (x.lastDoorbell + 5000000000)).orphan id := by
      unfold sessionOrphanTimer
      rw [hx]
      exact if_pos ⟨by simp [ho], by simp [hc], by simp [hh]⟩
    obtain ⟨hf, hns, hs⟩ := orphan_reach (x.lastDoorbell + 5000000000) hx
    rw [← hd] at hf hns hs
    exact ⟨_, run_of_wf rfl _, hf ▸ rfl, hns, hs⟩
  case expiry =>
    obtain ⟨hs, hg⟩ := orphanHoldExpiry_of_idle hx ho hr hb hn
    exact ⟨_, run_of_wf rfl _, rfl, hs, hg⟩
  case lockout =>
    have hd : reattachLockoutExpiry id s.dev = (s.dev.reach a).onSession id fun y => { y with lockout := none } := by
      unfold reattachLockoutExpiry
      rw [hx, Option.bind_some, ha]
    obtain ⟨hf, hns⟩ := reach_frame s.dev a
    refine ⟨{ s with dev := (s.dev.reach a).onSession id fun y => { y with lockout := none } }, ?_, ?_, hns, ?_⟩
    · show s.run (.reattachLockoutExpiry id) (reattachLockoutExpiry id) = _
      rw [run_of_wf rfl, hd]
    · dsimp only
      rw [hf]
      rfl
    · dsimp only
      rw [session?_onSession _ _ _ (by intro _; rfl), reach_session?, hx]
      rfl

end Sys2Proof.Machine
end

section
/-!
PROOFS. Settings that commands keep in the configuration record or schedule for a boundary (chapters 05, 09, 10, 13, 14).
-/

set_option Elab.async false

namespace Sys2Proof.Machine

/-! ## The configuration record in its two copies -/

theorem writeConf_frame (d : Dev) (f : ConfigRec → ConfigRec) : d.writeConf f = { d with fw := (d.writeConf f).fw } := by
  unfold Dev.writeConf
  dsimp only
  split <;> split <;> rfl

/-- What is written is what is then in force: its generation is above that of the copy that stays. -/
theorem conf_writeConf (d : Dev) (f : ConfigRec → ConfigRec) :
    (d.writeConf f).conf = { f d.conf with generation := d.conf.generation + 1 } := by
  rcases h0 : d.fw.conf0 with _ | a <;> rcases h1 : d.fw.conf1 with _ | b
  case none.none => simp [Dev.writeConf, Dev.conf, h0, h1]
  case none.some => simp [Dev.writeConf, Dev.conf, h0, h1]
  case some.none => simp [Dev.writeConf, Dev.conf, h0, h1]
  case some.some =>
    by_cases hab : a.generation < b.generation
    · have hn : ¬ b.generation ≤ a.generation := by omega
      simp [Dev.writeConf, Dev.conf, h0, h1, hab, hn]
    · have hn : b.generation ≤ a.generation := by omega
      simp [Dev.writeConf, Dev.conf, h0, h1, hab, hn]

/-! ## The commands -/

theorem exec_coolantConfig {s : State} {ch : Nat} (h : s.atWork 0x0406 ch = true) (hok : coolantOk (s.body ch) = true)
    (hf : s.dev.flashOk = true) :
    exec (.coolantConfig ch) s = .next { s with dev :=
      ((s.dev.writeConf fun c => { c with coolant := (s.body ch).take 16 }).setCoolant (s.body ch)).answer ch stOk [] 0 } := by
  refine (run_atWork h rfl).trans ?_
  simp only [hok, hf, Bool.not_true, Bool.false_eq_true, if_false]

theorem exec_mirrorConfig {s : State} {ch : Nat} (h : s.atWork 0x0301 ch = true) (hm : u8 (s.body ch) 0 ≤ 9) (hf : s.dev.flashOk = true) :
    exec (.mirrorConfig ch) s = .next { s with dev :=
      (s.dev.writeConf fun c => { c with mirror := u8 (s.body ch) 0 }).answer ch stAccepted [] atNextStart } := by
  refine (run_atWork h rfl).trans ?_
  rw [if_neg (by omega), if_neg (by simp [hf])]

/-- TIMEBASE_CONFIG of the free-running mode in the state FREE. -/
theorem exec_timebaseConfig_free {s : State} {ch : Nat} (h : s.atWork 0x0404 ch = true) (hm : u8 (s.body ch) 0 = 1) (hr : u8 (s.body ch) 1 ≤ 1)
    (hz : u16 (s.body ch) 2 = 0) (hp : u32 (s.body ch) 4 ≤ 10000) (hf : s.dev.flashOk = true) (hst : s.dev.tb.st = .free) :
    let d1 := s.dev.writeConf fun c => { c with tbMode := u8 (s.body ch) 0, ppsDelay := u32 (s.body ch) 4 }
    exec (.timebaseConfig ch) s =
      .next { s with dev := Dev.answer ch stOk [] 0 { d1 with tb.freeRun := true, tb.ppsDelay := u32 (s.body ch) 4 } } := by
  intro d1
  have hst1 : d1.tb.st = .free := by
    unfold d1
    rw [writeConf_frame]
    exact hst
  have ha : d1.applyTimebase 1 (u8 (s.body ch) 1) (u32 (s.body ch) 4) = { d1 with tb.freeRun := true, tb.ppsDelay := u32 (s.body ch) 4 } := by
    unfold Dev.applyTimebase
    dsimp only
    rw [if_pos rfl, if_pos hst1]
    rfl
  refine (run_atWork h rfl).trans ?_
  dsimp only
  rw [if_neg (by omega), if_neg (by simp [hf]), ← ha]
  unfold d1
  rw [hm]

/-- A request to step CD9 while no vote has been decided for it: the request is kept, with the boundary of its vote. -/
theorem request_cd9 (d : Dev) (mhz : Nat) :
    let e := d.request .cd9 mhz
    e = { d with ck := e.ck } ∧ e.ck.req9 = some { mhz, at_ := d.voteBoundary } ∧ e.ck.cd9 = d.ck.cd9 ∧ e.ck.cd10 = d.ck.cd10 := by
  unfold Dev.request
  dsimp only
  split <;> exact ⟨rfl, rfl, rfl, rfl⟩

theorem exec_freqStepSet_cd9 {s : State} {ch : Nat} (h : s.atWork 0x0401 ch = true) (hn : u8 (s.body ch) 0 = 9) (hz : u8 (s.body ch) 1 = 0)
    (hok : stepOk .cd9 (u16 (s.body ch) 2) = true) (hs : s.dev.str.slack = false) (hc : s.dev.ck.cd9 ≠ u16 (s.body ch) 2) :
    exec (.freqStepSet ch) s = .next { s with dev :=
      (s.dev.request .cd9 (u16 (s.body ch) 2)).answer ch stAccepted [] s.dev.voteBoundary } := by
  refine (run_atWork h rfl).trans ?_
  have hstep : s.dev.step .cd9 ≠ u16 (s.body ch) 2 := hc
  simp only [hn, hz, hs, hok, hstep, and_false, if_false, if_true, ne_eq, not_true_eq_false, false_and, or_self, Bool.not_true,
    Bool.false_eq_true]

/-- Settles O15. -/
theorem settingCommands : Obligations.SettingCommands := by
  intro s ch
  dsimp only
  refine ⟨fun h hlo hhi hm hk => ?cap, fun h hm hr => ?trickle, fun h hok hf => ?coolant, fun h hm hf => ?mirror,
    fun h hm hr hz hp hf hst => ?timebase, fun h hpl hlo hhi hm he ht hth => ?rounds, fun h hn hz hok hs hc => ?step,
    fun h hj hm hr hfit es hes => ?table⟩
  case cap =>
    refine (run_atWork h rfl).trans ?_
    have hn : ¬ (u32 (s.body ch) 0 < 12500 ∨ 15000 < u32 (s.body ch) 0 ∨ u32 (s.body ch) 0 % 100 ≠ 0 ∨ 1 < u8 (s.body ch) 4) := by omega
    dsimp only
    rw [if_neg hn, if_neg (by omega), if_neg (by omega)]
    rfl
  case trickle =>
    refine (run_atWork h rfl).trans ?_
    dsimp only
    rw [if_neg (by omega)]
  case coolant =>
    refine ⟨_, exec_coolantConfig h hok hf, ?_, rfl, rfl, rfl, rfl, ?_, outcome_answer ..⟩
    · dsimp only
      rw [answer_frame, writeConf_frame]
      rfl
    · exact congrArg ConfigRec.coolant (conf_writeConf s.dev fun c => { c with coolant := (s.body ch).take 16 })
  case mirror =>
    refine ⟨_, exec_mirrorConfig h hm hf, ?_, ?_, ?_, outcome_answer ..⟩
    · dsimp only
      rw [answer_frame, writeConf_frame]
    · exact congrArg ConfigRec.mirror (conf_writeConf s.dev fun c => { c with mirror := u8 (s.body ch) 0 })
    · dsimp only
      rw [answer_frame, writeConf_frame]
  case timebase =>
    refine ⟨_, exec_timebaseConfig_free h hm hr hz hp hf hst, ?_, ?_, ?_, outcome_answer ..⟩
    · dsimp only
      rw [answer_frame, writeConf_frame]
    · dsimp only
      rw [answer_frame, writeConf_frame]
    · exact (congrArg ConfigRec.tbMode (conf_writeConf s.dev fun c => { c with tbMode := u8 (s.body ch) 0, ppsDelay := u32 (s.body ch) 4 })).trans hm
  case rounds =>
    have hnone : s.dev.gr.list.find? (·.isPlaced) = none := by
      rw [List.find?_eq_none]
      intro g hg
      simp [hpl g hg]
    refine (run_atWork h rfl).trans ?_
    dsimp only
    rw [hnone]
    dsimp only
    rw [if_neg (by omega), if_neg (by omega), if_neg (by omega)]
  case step =>
    obtain ⟨hf, hr, h9, h10⟩ := request_cd9 s.dev (u16 (s.body ch) 2)
    refine ⟨_, exec_freqStepSet_cd9 h hn hz hok hs hc, ?_, hr, h9, h10, outcome_answer ..⟩
    dsimp only
    rw [answer_frame, hf]
  case table =>
    refine (run_atWork h rfl).trans ?_
    dsimp only
    rw [if_neg (by simp [hj]), if_neg (by simp [hfit]), if_neg (by omega)]
    rw [hes]
    dsimp only
    rw [if_neg (by omega)]

end Sys2Proof.Machine
end

section
/-!
PROOFS. Graphs and regions (chapters 04, 06, 09): GRAPH_LOAD, GRAPH_UNLOAD, GRAPH_PLACE, REGION_MAP and DECODE_POOL_CONFIG.
-/

set_option Elab.async false

namespace Sys2Proof.Machine

/-- A graph command runs in its turn as another command does. -/
theorem onGraphCommand_of_turn {d : Dev} {op ch : Nat} (h : d.graphTurn ch = true) (f : Nat → List Byte → Dev → Dev) :
    d.onGraphCommand op ch f = d.onCommand op ch f := if_pos h

/-- A graph command at work in its turn answers a next state: its effect runs. -/
theorem run_graphCommand {s : State} {op ch : Nat} {i : Instr} {f : Nat → List Byte → Dev → Dev} (h : s.atWork op ch = true)
    (ht : s.dev.graphTurn ch = true) (hi : i.wf = decide (ch < 256)) :
    s.run i (fun d => d.onGraphCommand op ch f) = .next { s with dev := f (s.session ch) (s.body ch) s.dev } := by
  rw [run_of_wf (hi.trans (decide_eq_true (atWork_lt h))), onGraphCommand_of_turn ht, onCommand_atWork h]

/-! ## GRAPH_LOAD -/

/-- The device with an image loaded as a graph. -/
def Dev.withGraph (d : Dev) (session : Nat) (image : Image) : Dev :=
  { d with
    gr.list := d.gr.list ++
      [{ handle := d.gr.nextHandle, session, image, placed := none, installing := none, stale := false, pools := [], stateMem := [] }]
    gr.nextHandle := d.gr.nextHandle + 1 }

section Load

variable {s : State} {ch : Nat} (h : s.atWork 0x0100 ch = true) (ht : s.dev.graphTurn ch = true)
  (hs : s.dev.rangePopulated (u64 (s.body ch) 0) (u64 (s.body ch) 8) = false ∨ s.dev.mustSnoop (u64 (s.body ch) 0) (u64 (s.body ch) 8) = false)
include h ht hs

theorem exec_graphLoad_ok {img : Image} (hv : s.dev.validate (u64 (s.body ch) 0) (u64 (s.body ch) 8) = .ok img) :
    exec (.graphLoad ch) s = .next { s with dev :=
      (s.dev.withGraph (s.session ch) img).answer ch stOk (leBytes 4 s.dev.gr.nextHandle ++ noFail) 0 } := by
  refine (run_graphCommand h ht rfl).trans ?_
  rw [if_neg (by rcases hs with hs | hs <;> simp [hs]), hv] <;> rfl

theorem exec_graphLoad_error {f : LoadFail} (hv : s.dev.validate (u64 (s.body ch) 0) (u64 (s.body ch) 8) = .error f) :
    exec (.graphLoad ch) s = .next { s with dev := s.dev.answer ch f.status (leBytes 4 none32 ++ f.bytes) 0 } := by
  refine (run_graphCommand h ht rfl).trans ?_
  rw [if_neg (by rcases hs with hs | hs <;> simp [hs]), hv]

end Load

/-- Settles O16. -/
theorem graphLoad_statement : Obligations.GraphLoad := by
  intro s ch h ht d a n hs
  refine ⟨fun img hv => ?_, fun f hv => exec_graphLoad_error h ht hs hv, validate_misaligned _ _ _⟩
  exact ⟨_, exec_graphLoad_ok h ht hs hv, rfl, rfl, ⟨_, rfl, rfl, rfl, rfl, rfl⟩, outcome_answer ..⟩

/-! ## GRAPH_UNLOAD and GRAPH_PLACE -/

theorem exec_graphUnload {s : State} {ch : Nat} {g : Graph} (h : s.atWork 0x0101 ch = true) (ht : s.dev.graphTurn ch = true)
    (hg : s.dev.graphOf (s.session ch) (u32 (s.body ch) 0) = some g) :
    exec (.graphUnload ch) s = .next { s with dev :=
      (if s.dev.graphState g = 2 then s.dev.failGraph ch [] g else (s.dev.dropGraph g.handle).answer ch stOk [] 0) } := by
  refine (run_graphCommand h ht rfl).trans ?_
  rw [hg]

/-- What a plan is made from: its binding and generation. -/
theorem plan_eq_some {d : Dev} {draw : Nat} {g : Graph} {b : Binding} {p : Placement} (h : d.plan draw g b = some p) :
    p.binding = b ∧ p.generation = g.placed.elim 1 (·.generation + 1) := by
  unfold Dev.plan at h
  dsimp only at h
  split at h
  · cases h
    exact ⟨rfl, rfl⟩
  · cases h

theorem any_range_lt_eq_false {n m : Nat} {f : Nat → Nat} (h : ∀ k < n, f k ≤ m) : ((List.range n).any fun k => decide (m < f k)) = false := by
  rw [List.any_eq_false]
  intro k hk
  rw [decide_eq_true_eq]
  exact Nat.not_lt.mpr (h k (List.mem_range.mp hk))

theorem weightFails_nil {d : Dev} {g : Graph} (hw : g.image.weights = []) : d.weightFails g = [] := by simp [Dev.weightFails, hw]

/-- The checks of a placement, in the row order of R150. -/
theorem placeFail_eq (d : Dev) (draw : Nat) (g : Graph) (b : Binding) :
    d.placeFail draw g b = (firstFail (d.weightFails g)).or
      ((d.rackFail g).or
      ((if (d.permitted b).isEmpty || (d.plan draw g b).isNone then some (.bare 0x24) else none).or
      ((if !d.decodeOk g b then some (.bare 0x25) else none).or
      (if (List.range 16).any fun k => decide (256 < (d.readOnlyRanges (d.placedWith g) k).length) then some (.bare 0x26) else none)))) := rfl

/-- With all other checks passed, a placement fails exactly when no plan is found. -/
theorem placeFail_of_plan {d : Dev} {g : Graph} {b : Binding} (hw : g.image.weights = []) (hr : d.rackFail g = none)
    (hp : (d.permitted b).isEmpty = false) (hdec : d.decodeOk g b = true)
    (hro : ∀ k < 16, (d.readOnlyRanges (d.placedWith g) k).length ≤ 256) (draw : Nat) :
    d.placeFail draw g b = if (d.plan draw g b).isNone then some (.bare 0x24) else none := by
  rw [placeFail_eq, weightFails_nil hw, hr, hp, hdec, any_range_lt_eq_false hro, firstFail, Option.none_or, Option.none_or, Bool.false_or,
    Bool.not_true, if_neg Bool.false_ne_true, if_neg Bool.false_ne_true, Option.or_none, Option.or_none]

theorem detail_bare_ne : ¬ (LoadFail.bare 0x24).detail = 0x23 := by decide

theorem exec_graphPlace {s : State} {ch : Nat} {g : Graph} {b : Binding} (h : s.atWork 0x0102 ch = true) (ht : s.dev.graphTurn ch = true)
    (hg : s.dev.graphOf (s.session ch) (u32 (s.body ch) 0) = some g) (hst : s.dev.graphState g ≠ 2) (hi : g.installing = none)
    (hb : bindingOf g.image (s.body ch) = some b) (hw : g.image.weights = []) (hr : s.dev.rackFail g = none)
    (hp : (s.dev.permitted b).isEmpty = false) (hdec : s.dev.decodeOk g b = true)
    (hro : ∀ k < 16, (s.dev.readOnlyRanges (s.dev.placedWith g) k).length ≤ 256) :
    exec (.graphPlace ch) s = .next { s with dev :=
      (if (s.dev.plan s.dev.free g b).isNone then s.dev.draw.answer ch stNoResource (placeBody 0 0 (LoadFail.bytes (.bare 0x24))) 0
      else s.dev.draw.onGraph g.handle fun x => { x with installing := s.dev.plan s.dev.free g b }) } := by
  have hasked : s.dev.checkedWeights g = [] := by simp [Dev.checkedWeights, hw]
  refine (run_graphCommand h ht rfl).trans ?_
  have hplan := placeFail_of_plan hw hr hp hdec hro s.dev.free
  dsimp only
  rw [hg]
  dsimp only
  rw [if_neg hst, hi, if_neg (by simp), hb]
  dsimp only
  rw [hasked, List.filter_nil, if_neg (by simp), hplan]
  by_cases hn : (s.dev.plan s.dev.free g b).isNone
  · rw [if_pos hn, if_pos hn]
    dsimp only
    rw [if_neg detail_bare_ne] <;> rfl
  · rw [if_neg hn, if_neg hn]

/-- Settles O17. -/
theorem graphUnloadPlace : Obligations.GraphUnloadPlace := by
  intro s ch g ht hg
  refine ⟨fun h hst => ?_, fun h hst => ?_, fun h hst hi b hb hw hr hp hdec hro => ?place⟩
  · exact (exec_graphUnload h ht hg).trans (by rw [if_neg hst]; rfl)
  · exact ⟨_, (exec_graphUnload h ht hg).trans (by rw [if_pos hst]), rfl, congrArg (Option.map _) (outcome_answer ..)⟩
  case place =>
    have hexec := exec_graphPlace h ht hg hst hi hb hw hr hp hdec hro
    rcases hplan : s.dev.plan s.dev.free g b with _ | p
    · rw [hplan] at hexec
      refine ⟨_, hexec, rfl, fun hs => absurd hs (by simp), fun _ => ⟨rfl, outcome_answer ..⟩⟩
    · rw [hplan] at hexec
      obtain ⟨hbind, hgen⟩ := plan_eq_some hplan
      refine ⟨_, hexec, rfl, fun _ => ⟨rfl, p, hbind, hgen, ?_⟩, fun hn => absurd hn (by simp)⟩
      intro x hx hh
      obtain ⟨y, hy, rfl⟩ := List.mem_map.mp hx
      dsimp only at hh ⊢
      split
      · rfl
      · next hne => simp_all

/-! ## REGION_MAP, its unmap flag, and DECODE_POOL_CONFIG -/

/-- A whole number of 4,096 bytes, not none, is what a region asks for. -/
theorem regionOk_of_misaligned {d : Dev} {view a n : Nat} (h : a % 4096 ≠ 0 ∨ n % 4096 ≠ 0 ∨ n = 0) : d.regionOk view a n = false := by
  rcases h with h | h | h <;> simp [Dev.regionOk, h]

theorem bitOf_one_of_le_one {v : Nat} (h : v ≤ 1) : bitOf v 1 = false := by
  interval_cases v <;> rfl

theorem exec_regionUnmap {s : State} {ch : Nat} {r : Region} (h : s.atWork 0x0300 ch = true)
    (hf : u8 (s.body ch) 1 = 2 ∨ u8 (s.body ch) 1 = 3) (hv : u8 (s.body ch) 0 ≤ 1) (hz : field (s.body ch) 2 6 = 0)
    (hr : s.dev.regionOf (s.session ch) (u64 (s.body ch) 24) = some r) (hu : s.dev.regionUser r = none) :
    exec (.regionUnmap ch) s =
      .next { s with dev := Dev.answer ch stOk (leBytes 8 0) 0 { s.dev with gr.regions := s.dev.gr.regions.filter (·.handle != r.handle) } } := by
  have hbit : bitOf (u8 (s.body ch) 1) 1 = true := by rcases hf with hf | hf <;> rw [hf] <;> rfl
  refine (run_atWork h rfl).trans ?_
  simp only [hbit, hr, hu, Bool.not_true, Bool.false_eq_true, if_false]
  rw [if_neg (by omega)]

theorem exec_decodePoolConfig {s : State} {ch : Nat} {g : Graph} {tpp : Nat} (h : s.atWork 0x0207 ch = true)
    (hg : s.dev.graphOf (s.session ch) (u32 (s.body ch) 0) = some g)
    (hr : (s.dev.regionOf (s.session ch) (u64 (s.body ch) 16)).isSome = true) (hst : s.dev.graphState g ≠ 2)
    (hy : ((g.image.decls[u8 (s.body ch) 4]?).bind fun x => if x.kind = 1 then kvTokens g.image x.kvState else none) = some tpp)
    (hz : u8 (s.body ch) 5 = 0) (hz' : u32 (s.body ch) 12 = 0) (hl : 1 ≤ u16 (s.body ch) 6) (hl' : u16 (s.body ch) 6 ≤ 256)
    (hc : 1 ≤ u32 (s.body ch) 8) (hc' : u32 (s.body ch) 8 ≤ 32768) :
    let pages := u16 (s.body ch) 6 * ((u32 (s.body ch) 8 + tpp - 1) / tpp)
    let p : Pool :=
      { decl := u8 (s.body ch) 4, layers := u16 (s.body ch) 6, maxContext := u32 (s.body ch) 8, region := u64 (s.body ch) 16, pages }
    exec (.decodePoolConfig ch) s = .next { s with dev :=
      ((s.dev.onGraph g.handle fun x => { x with pools := upsert (·.decl == u8 (s.body ch) 4) p (fun _ => p) x.pools }).answer ch stOk
        (leBytes 4 pages ++ leBytes 4 tpp) 0) } := by
  refine (run_atWork h rfl).trans ?_
  have hn : ¬ (s.dev.regionOf (s.session ch) (u64 (s.body ch) 16)).isNone = true := by
    rw [Option.isNone_iff_eq_none]
    intro hnone
    rw [hnone] at hr
    cases hr
  simp only [hg, if_neg hn, if_neg hst, hy]
  rw [if_neg (by omega)]

/-- Settles O18. -/
theorem regionsAndPools : Obligations.RegionsAndPools := by
  intro s ch
  refine ⟨fun h hf hz hz' hok hlen => ?map, fun h hf hv hz r hr hu => exec_regionUnmap h hf hv hz hr hu, fun h hf hbad => ?bad,
    fun h g y tpp hg hr hst hy hk htpp hz hz' hl hl' hc hc' => ?pool⟩
  case map =>
    refine (run_atWork h rfl).trans ?_
    dsimp only
    rw [bitOf_one_of_le_one hf, if_neg Bool.false_ne_true, if_neg (by simp [hok, hz, hz']; omega), if_neg (by omega)]
  case bad =>
    refine (run_atWork h rfl).trans ?_
    dsimp only
    rw [bitOf_one_of_le_one (by omega), if_neg Bool.false_ne_true, if_pos (by simp [regionOk_of_misaligned hbad])]
    rfl
  case pool =>
    refine ⟨_, exec_decodePoolConfig h hg hr hst ?_ hz hz' hl hl' hc hc', rfl, outcome_answer ..⟩
    rw [hy, Option.bind_some, if_pos hk, htpp]

end Sys2Proof.Machine
end

section
/-!
PROOFS. Rings and streams (chapter 06): INTAKE_RING_CREATE, RESULT_RING_CREATE and the commands of a stream.
-/

set_option Elab.async false

namespace Sys2Proof.Machine

/-! ## Rings -/

theorem putIntake_frame (d : Dev) (h : Nat) : d.putIntake h = { d with mem := (d.putIntake h).mem, hg := (d.putIntake h).hg } := by
  unfold Dev.putIntake
  split
  · rw [storeRing_frame]
  · rfl

/-- A result ring's control block and its slots, cleared. -/
def Dev.putResult (r : ResultRing) (d : Dev) : Dev :=
  each (List.range r.entries) (fun k => Dev.storeRing r.host (r.array + 4096 * k) (zeros 64)) (d.storeRing r.host (r.control + 64) (r.half 0))

theorem putResult_frame (d : Dev) (r : ResultRing) : d.putResult r = { d with mem := (d.putResult r).mem, hg := (d.putResult r).hg } :=
  each_keeps (fun e : Dev => e = { d with mem := e.mem, hg := e.hg }) _ (fun k e he => by rw [storeRing_frame, he]) _ _ (by rw [storeRing_frame])

/-- The ring that INTAKE_RING_CREATE makes of its body. -/
def Dev.newIntake (d : Dev) (session : Nat) (b : List Byte) : IntakeRing :=
  { handle := d.str.nextRing, session, host := u8 b 0 == 1, control := u64 b 8, array := u64 b 16, entries := u32 b 4
    consumer := 0, producer := 0, lastCutoff := 0, fault := 0, rejected := 0, stream := none }

/-- The ring that RESULT_RING_CREATE makes of its body. -/
def Dev.newResult (d : Dev) (session : Nat) (b : List Byte) : ResultRing :=
  { handle := d.str.nextRing, session, host := u8 b 0 == 1, control := u64 b 8, array := u64 b 16, entries := u32 b 4
    vector := u16 b 2, consumed := 0, written := 0, published := 0, lastPublish := 0, badConsumed := [], stream := none }

theorem exec_intakeRingCreate {s : State} {ch : Nat} (h : s.atWork 0x0203 ch = true) (hok : s.dev.ringOk true (s.body ch) = true)
    (hn : s.dev.str.intakes.length < 1024) :
    let r := s.dev.newIntake (s.session ch) (s.body ch)
    let d1 := { s.dev with str.intakes := s.dev.str.intakes ++ [r], str.nextRing := s.dev.str.nextRing + 1 }
    exec (.intakeRingCreate ch) s = .next { s with dev := (d1.putIntake r.handle).answer ch stOk (leBytes 4 r.handle) 0 } := by
  refine (run_atWork h rfl).trans ?_
  rw [if_neg (by simp [hok]), if_neg (by omega)] <;> rfl

theorem exec_resultRingCreate {s : State} {ch : Nat} (h : s.atWork 0x0204 ch = true) (hok : s.dev.ringOk false (s.body ch) = true)
    (hn : s.dev.str.results.length < 256) :
    let r := s.dev.newResult (s.session ch) (s.body ch)
    let d1 := { s.dev with str.results := s.dev.str.results ++ [r], str.nextRing := s.dev.str.nextRing + 1 }
    exec (.resultRingCreate ch) s = .next { s with dev := (d1.putResult r).answer ch stOk (leBytes 4 r.handle) 0 } := by
  refine (run_atWork h rfl).trans ?_
  rw [if_neg (by simp [hok]), if_neg (by omega)] <;> rfl

theorem ringOk_of_misaligned {d : Dev} {intake : Bool} {b : List Byte} (h : u64 b 8 % 128 ≠ 0) : d.ringOk intake b = false := by
  simp [Dev.ringOk, h]

/-- Vector 0 and those to 256 are not for results. -/
theorem ringOk_of_low_vector {d : Dev} {b : List Byte} (h1 : 1 ≤ u16 b 2) (h2 : u16 b 2 ≤ 256) : d.ringOk false b = false := by
  have hne : u16 b 2 ≠ 0xFFFF := by omega
  have hlt : ¬ 257 ≤ u16 b 2 := by omega
  simp [Dev.ringOk, hne, hlt]

/-- Settles O19. -/
theorem ringCreate : Obligations.RingCreate := by
  intro s ch
  refine ⟨fun h hok hn => ?intake, fun h hok hn => ?result, fun h hm => ?misaligned, fun h h1 h2 => ?vector⟩
  case intake =>
    let r := s.dev.newIntake (s.session ch) (s.body ch)
    let d1 := { s.dev with str.intakes := s.dev.str.intakes ++ [r], str.nextRing := s.dev.str.nextRing + 1 }
    have hstr : (d1.putIntake r.handle).str = d1.str := by rw [putIntake_frame]
    refine ⟨_, r, exec_intakeRingCreate h hok hn, ?_, congrArg Streams.intakes hstr, rfl, rfl, rfl, rfl, rfl, rfl, rfl, outcome_answer ..⟩
    dsimp only
    rw [answer_frame, putIntake_frame]
  case result =>
    let r := s.dev.newResult (s.session ch) (s.body ch)
    let d1 := { s.dev with str.results := s.dev.str.results ++ [r], str.nextRing := s.dev.str.nextRing + 1 }
    have hstr : (d1.putResult r).str = d1.str := by rw [putResult_frame]
    refine ⟨_, r, exec_resultRingCreate h hok hn, ?_, congrArg Streams.results hstr, rfl, rfl, rfl, rfl, rfl, rfl, rfl, outcome_answer ..⟩
    dsimp only
    rw [answer_frame, putResult_frame]
  case misaligned =>
    refine (run_atWork h rfl).trans ?_
    rw [if_pos (by rw [ringOk_of_misaligned hm]; rfl)]
    rfl
  case vector =>
    refine (run_atWork h rfl).trans ?_
    rw [if_pos (by rw [ringOk_of_low_vector h1 h2]; rfl)]
    rfl

/-! ## Streams -/

/-- A new stream, with one ring to take from. -/
def Dev.streamOfOne (d : Dev) (session : Nat) (b : List Byte) : Stream :=
  { id := d.freeStream, session, graph := u32 b 0, decl := u8 b 4, result := u32 b 8, intakes := [u32 b 16], feeder := none, paused := false
    pausedNext := false, stalled := false, lastStart := none, nextSeq := 0, items := [], held := [], entering := [], slots := []
    destroying := none }

theorem newStream_of_one (d : Dev) (session : Nat) {b : List Byte} (hn : u8 b 5 = 1) (hf : u16 b 6 = 0xFFFF) :
    d.newStream session b = { d with str := (d.newStream session b).str } ∧
      (d.newStream session b).str.list = d.str.list ++ [d.streamOfOne session b] := by
  have hhs : (List.range (u8 b 5)).map (fun k => u32 b (16 + 4 * k)) = [u32 b 16] := by rw [hn]; rfl
  unfold Dev.newStream
  dsimp only
  rw [hhs, hf]
  exact ⟨rfl, rfl⟩

theorem exec_streamCreate_one {s : State} {ch : Nat} {g : Graph} {res : ResultRing} {r : IntakeRing} (h : s.atWork 0x0201 ch = true)
    (hg : s.dev.graphOf (s.session ch) (u32 (s.body ch) 0) = some g) (hp : g.isPlaced = true)
    (hres : s.dev.str.results.find? (fun r => r.handle == u32 (s.body ch) 8 && r.session == s.session ch) = some res) (hfree : res.stream = none)
    (hn : u8 (s.body ch) 5 = 1) (hf : u16 (s.body ch) 6 = 0xFFFF)
    (hr : s.dev.str.intakes.find? (fun r => r.handle == u32 (s.body ch) 16 && r.session == s.session ch) = some r) (hrs : r.stream = none)
    (hok : s.dev.streamOk g (s.body ch) = true) (hlen : s.dev.str.list.length < 256) :
    exec (.streamCreate ch) s = .next { s with dev :=
      (s.dev.newStream (s.session ch) (s.body ch)).answer ch stOk (leBytes 2 s.dev.freeStream ++ zeros 2) 0 } := by
  have hhs : (List.range (min 8 (u8 (s.body ch) 5))).map (fun k => u32 (s.body ch) (16 + 4 * k)) = [u32 (s.body ch) 16] := by rw [hn]; rfl
  refine (run_atWork h rfl).trans ?_
  simp only [hhs, hg, hres, hf, hp, hfree, hr, hrs, hok, List.all_cons, List.all_nil, List.find?_cons, List.find?_nil, Option.isSome_some,
    Option.isSome_none, Option.elim_some, Bool.and_self, beq_self_eq_true, Bool.true_or, Bool.not_true, Bool.or_self, Bool.false_eq_true, if_false]
  rw [if_neg (by omega)]

section Pause

variable {s : State} {ch : Nat} {x : Stream} (hx : s.dev.str.list.find? (fun st => st.id == u16 (s.body ch) 0 && st.session == s.session ch) = some x)
include hx

theorem run_pauseCommand {i : Instr} {op : Nat} (pause : Bool) (h : s.atWork op ch = true) (hi : i.wf = decide (ch < 256)) :
    s.run i (Dev.pauseCommand op pause ch) = .next { s with dev :=
      (if x.pausedNext = pause then s.dev.answer ch stOk [] 0
      else (s.dev.onStream (u16 (s.body ch) 0) fun st => { st with pausedNext := pause }).answer ch stAccepted [] s.dev.rd.next) } := by
  refine (run_atWork h hi).trans ?_
  dsimp only
  rw [hx]

theorem exec_streamDestroy (h : s.atWork 0x0202 ch = true) :
    exec (.streamDestroy ch) s = .next { s with dev :=
      (if !x.pausedNext then s.dev.failConflict ch [] 2 x.stateCode (u16 (s.body ch) 0)
      else s.dev.onStream (u16 (s.body ch) 0) fun st => { st with destroying := some ch }) } := by
  refine (run_atWork h rfl).trans ?_
  dsimp only
  rw [hx]

end Pause

/-- Settles O20. -/
theorem streamCommands : Obligations.StreamCommands := by
  intro s ch
  refine ⟨fun g res r h hg hp hres hfree hn hf hr hrs hok hlen => ?create, fun x hx => ?existing⟩
  case create =>
    obtain ⟨hframe, hlist⟩ := newStream_of_one s.dev (s.session ch) hn hf
    refine ⟨_, s.dev.streamOfOne (s.session ch) (s.body ch), exec_streamCreate_one h hg hp hres hfree hn hf hr hrs hok hlen, ?_, hlist,
      rfl, rfl, rfl, rfl, rfl, rfl, rfl, rfl, outcome_answer ..⟩
    dsimp only
    rw [answer_frame, hframe]
  case existing =>
    refine ⟨fun h hp => ?_, fun h hp => ?_, fun h hp => ?_, fun h hp => ?_, fun h hp => ?_⟩
    · exact (run_pauseCommand hx true h rfl).trans (by rw [hp, if_neg Bool.false_ne_true])
    · exact (run_pauseCommand hx true h rfl).trans (by rw [hp, if_pos rfl])
    · exact (run_pauseCommand hx false h rfl).trans (by rw [hp, if_neg Bool.true_eq_false.mp])
    · exact (exec_streamDestroy hx h).trans (by rw [hp]; rfl)
    · exact ⟨_, (exec_streamDestroy hx h).trans (by rw [hp] <;> rfl), rfl, congrArg (Option.map _) (outcome_answer ..)⟩

end Sys2Proof.Machine
end

section
/-!
PROOFS. The firmware update (chapter 17): the live activation of a device whose round has no length.
-/

set_option Elab.async false

namespace Sys2Proof.Machine

/-- The device once a live activation is accepted. -/
def Dev.activated (ch m : Nat) (l : Live) (d : Dev) : Dev :=
  Dev.answer ch stAccepted [] m (Dev.setStandby .booting { d with fw.update := 2, fw.live := some l })

theorem activated_live (d : Dev) (ch m : Nat) (l : Live) : (d.activated ch m l).fw.live = some l := by
  unfold Dev.activated
  rw [answer_frame, setStandby_frame]

/-- FW_ACTIVATE with mode 0, accepted: the activation's boundary is the first one 5 s away or later. -/
theorem exec_fwActivateLive {s : State} {ch : Nat} {img : SlotImage} (h : s.atWork 0x0503 ch = true) (hm : u8 (s.body ch) 0 = 0)
    (hu : s.dev.fw.update = 1) (hs : s.dev.simplex = false) (hi : (s.dev.slot s.dev.otherSlot).image = some img)
    (hl : s.dev.liveFlag img = true) (hf : s.dev.flashOk = true) :
    let m := s.dev.boundaryFrom (s.dev.tb.ns + 5000000000)
    let l : Live := { m, started := s.dev.tb.ns, ready := false, block := false, passed := false }
    exec (.fwActivateLive ch) s = .next { s with dev :=
      (s.dev.activated ch m l) } := by
  refine (run_atWork h rfl).trans ?_
  rw [if_neg (by simp [hm]), if_neg (by simp [hu, hs]), if_neg (by simp [hi, hl]), if_neg (by simp [hf])] <;> rfl

/-- Without a period every boundary is the epoch. -/
theorem boundaryFrom_of_period_zero {d : Dev} (h : d.rd.period = 0) (t : Nat) : d.boundaryFrom t = d.rd.epoch := by
  rw [Dev.boundaryFrom, h, Nat.div_zero, Nat.zero_mul, Nat.add_zero]

/-- A channel that runs FW_ACTIVATE with mode 0. -/
def activateLiveChannel : Channel :=
  { Channel.fresh 0 with st := .running, hdr := leBytes 2 0x0503 ++ zeros 62, body := zeros 960 }

/-- A device in READY with an image in the other slot to activate, whose round period is 0 and whose epoch is 0. -/
def activateLiveState : State :=
  { dev := { Dev.reset with
      hg := { HostPort.reset with devState := .ready }
      mb.chans := [activateLiveChannel]
      fw := { Firmware.reset with update := 1, standby := .current, slotB := Slot.factory }
      rd := { Dev.reset.rd with period := 0, epoch := 0 } }
    pending := [] }

theorem activateLiveState_accepted :
    activateLiveState.atWork 0x0503 0 = true ∧ u8 (activateLiveState.body 0) 0 = 0 ∧ activateLiveState.dev.fw.update = 1 ∧
      activateLiveState.dev.simplex = false ∧
      (activateLiveState.dev.slot activateLiveState.dev.otherSlot).image =
        some { version := 1, handoffMin := 0, handoff := 0, rollback := 0, length := 4096, rantilMajor := 1, rantilMinor := 0, arborMinor := 0 } ∧
      activateLiveState.dev.flashOk = true := by
  decide +kernel

/-- Refutes O21: no round period is asked of the state, and with a period of 0 the boundary of a live activation is the epoch, 0, not 5 s
or more from now. -/
theorem not_firmwareUpdate : ¬ Obligations.FirmwareUpdate := by
  intro hall
  obtain ⟨-, -, -, -, -, hlive⟩ := hall activateLiveState 0
  obtain ⟨hw, hm, hu, hs, hi, hf⟩ := activateLiveState_accepted
  have hl : ∀ x : SlotImage, x.handoffMin = 0 → activateLiveState.dev.liveFlag x = true := fun x hx => by simp [Dev.liveFlag, hx]
  obtain ⟨t, l, ht, -, -, hlv, -, hfar, -⟩ := hlive _ hw hm hu hs hi (hl _ rfl) hf
  rw [exec_fwActivateLive hw hm hu hs hi (hl _ rfl) hf] at ht
  obtain rfl := Host.Outcome.next.inj ht
  have hlm : l.m = 0 := by
    dsimp only at hlv
    rw [activated_live] at hlv
    rw [← Option.some.inj hlv]
    exact boundaryFrom_of_period_zero rfl _
  omega

end Sys2Proof.Machine
end

section
/-!
PROOFS. Licences and debug tokens (chapter 17): LICENCE_INSTALL, DEBUG_NONCE_REQUEST and DEBUG_UNLOCK.
-/

set_option Elab.async false

namespace Sys2Proof.Machine

theorem licenceOurs_take (d : Dev) (b : List Byte) :
    d.licenceOurs (b.take 256) = (u64 (b.take 256) 8 == d.fw.serial && Config.sigValid 1 (b.take 256)) := by
  rw [Dev.licenceOurs, List.take_take, Nat.min_self]

theorem licenceOurs_of_serial_ne {d : Dev} {b : List Byte} (h : u64 (b.take 256) 8 ≠ d.fw.serial) : d.licenceOurs (b.take 256) = false := by
  rw [licenceOurs_take, beq_eq_false_iff_ne.mpr h, Bool.false_and]

theorem licenceOurs_of_serial {d : Dev} {b : List Byte} (h : u64 (b.take 256) 8 = d.fw.serial) :
    d.licenceOurs (b.take 256) = Config.sigValid 1 (b.take 256) := by
  rw [licenceOurs_take, beq_iff_eq.mpr h, Bool.true_and]

/-- LICENCE_INSTALL of a well-formed record that is not there yet. -/
theorem exec_licenceInstall {s : State} {ch : Nat} (h : s.atWork 0x0504 ch = true) (hb : licenceBad ((s.body ch).take 256) = false)
    (hnew : s.dev.licenceOurs ((s.body ch).take 256) = true → s.dev.fw.licences.contains ((s.body ch).take 256) = false ∧
      s.dev.fw.licences.length < 4096 ∧ s.dev.flashOk = true) :
    let r := (s.body ch).take 256
    exec (.licenceInstall ch) s = .next { s with dev :=
      (if s.dev.licenceOurs r then
        Dev.answer ch stAccepted [] s.dev.rd.next { s.dev with
          fw.licences := s.dev.fw.licences ++ [r]
          fw.licValid := s.dev.fw.licValid + 1
          fw.featNext := s.dev.fw.featNext ||| u64 r 0x10 }
      else s.dev.fail ch stAuthFail) } := by
  refine (run_atWork h rfl).trans ?_
  dsimp only
  rw [if_neg (by simp [hb])]
  by_cases ho : s.dev.licenceOurs ((s.body ch).take 256) = true
  · obtain ⟨hc, hlen, hf⟩ := hnew ho
    rw [if_pos ho, if_neg (by simp [ho]), if_neg (by rw [hc]; exact Bool.false_ne_true), if_neg (by omega), if_neg (by simp [hf])]
  · rw [if_neg ho, if_pos (by simp [ho])]

/-- DEBUG_UNLOCK with a well-formed token of an unlock, in DEPLOYED. -/
theorem exec_debugUnlock {s : State} {ch : Nat} (h : s.atWork 0x0506 ch = true) (hz : allZero ((s.body ch).take 8) = true)
    (h0 : u8 (s.body ch) 0 = 0) :
    let t := ((s.body ch).take 136).drop 8
    u32 t 0 = 0x4B474244 → u16 t 4 = 1 → u8 t 7 = 0 → u64 t 56 = 0 → u8 t 6 = 1 → s.dev.fw.lifecycle = 1 →
      exec (.debugUnlock ch) s = .next { s with dev := (s.dev.checkToken ch t) } := by
  intro t ha hv hr hz' hk hl
  have hbad : ¬ ((!allZero ((s.body ch).take 8)) = true ∨ u32 t 0 ≠ 0x4B474244 ∨ u16 t 4 ≠ 1 ∨ u8 t 7 ≠ 0 ∨ u64 t 56 ≠ 0) := by
    simp [hz, ha, hv, hr, hz']
  have hlegal : s.dev.tokenLegal (u8 t 6) = true := by simp [Dev.tokenLegal, hk, hl]
  refine (run_atWork h rfl).trans ?_
  dsimp only
  rw [h0, if_neg (by decide), if_neg hbad, hlegal, if_neg (by decide)]

/-- Whether a token is valid: of this unit, with the nonce last given, signed. -/
theorem tokenOk_iff (d : Dev) (t : List Byte) :
    (u64 t 8 == d.fw.serial && d.fw.nonce == some (field t 16 32) && Config.sigValid 2 (t.take 128)) = true ↔
      u64 t 8 = d.fw.serial ∧ d.fw.nonce = some (field t 16 32) ∧ Config.sigValid 2 (t.take 128) = true := by
  simp only [Bool.and_eq_true, beq_iff_eq, and_assoc]

/-- A valid unlock: the lifecycle changes, and the nonce is spent. -/
theorem checkToken_of_valid {d : Dev} {t : List Byte} (ch : Nat) (hk : u8 t 6 = 1)
    (hv : u64 t 8 = d.fw.serial ∧ d.fw.nonce = some (field t 16 32) ∧ Config.sigValid 2 (t.take 128) = true) :
    d.checkToken ch t = Dev.answer ch stAccepted [] atNextStart
      { d with fw.nonce := none, fw.lifecycle := 2, fw.debugLatch := true, fw.scope := u64 t 48 } := by
  unfold Dev.checkToken Dev.useToken
  dsimp only
  rw [if_pos ((tokenOk_iff d t).mpr hv), hk] <;> rfl

/-- A token that is not valid spends the nonce as well, and its failure is remembered with the command. -/
theorem checkToken_of_not_valid {d : Dev} {t : List Byte} (ch : Nat)
    (hv : ¬ (u64 t 8 = d.fw.serial ∧ d.fw.nonce = some (field t 16 32) ∧ Config.sigValid 2 (t.take 128) = true)) :
    d.checkToken ch t = (Dev.fail ch stAuthFail { d with fw.nonce := none }).onChan ch fun c => { c with journaled := true } := by
  unfold Dev.checkToken
  dsimp only
  rw [if_neg (mt (tokenOk_iff d t).mp hv)]

/-- Settles O22. -/
theorem licencesAndTokens : Obligations.LicencesAndTokens := by
  intro s ch
  refine ⟨fun h hb hs hc hlen hf => ?_, fun h hb hs => ?_, fun h _ h0 hz => ?nonce, fun h _ hz h0 ha hv hr hz' hk hl => ?token⟩
  · refine (exec_licenceInstall h hb fun _ => ⟨hc, hlen, hf⟩).trans ?_
    dsimp only
    rw [licenceOurs_of_serial hs]
    rfl
  · have hno := licenceOurs_of_serial_ne hs
    refine (exec_licenceInstall h hb fun ho => absurd (ho.symm.trans hno) (by decide)).trans ?_
    dsimp only
    rw [hno]
    rfl
  case nonce =>
    let n := Config.random s.dev.free % 2 ^ 256
    let d1 := { s.dev with free := s.dev.free + 1, fw.nonce := some n }
    have hexec : exec (.debugNonceRequest ch) s = .next { s with dev := (d1.answer ch stOk (leBytes 32 n) 0) } := by
      refine (run_atWork h rfl).trans ?_
      dsimp only
      rw [h0, hz, if_neg (by decide), if_neg (by decide)]
      rfl
    exact ⟨_, n, hexec, rfl, Nat.mod_lt _ (by decide), outcome_answer ..⟩
  case token =>
    let t := ((s.body ch).take 136).drop 8
    refine ⟨{ s with dev := s.dev.checkToken ch t }, exec_debugUnlock h hz h0 ha hv hr hz' hk hl, ?_, fun hvalid => ?_, fun hvalid => ?_⟩
    · by_cases hvalid : u64 t 8 = s.dev.fw.serial ∧ s.dev.fw.nonce = some (field t 16 32) ∧ Config.sigValid 2 (t.take 128) = true
      · rw [checkToken_of_valid ch hk hvalid]
        rfl
      · rw [checkToken_of_not_valid ch hvalid]
        rfl
    · rw [checkToken_of_valid ch hk hvalid]
      exact ⟨rfl, outcome_answer ..⟩
    · rw [checkToken_of_not_valid ch hvalid]
      refine ⟨rfl, ?_⟩
      have hch := chan_onChan (Dev.fail ch stAuthFail { s.dev with fw.nonce := none }) ch (fun c => { c with journaled := true }) fun _ => rfl
      exact (congrArg Channel.outcome hch).trans (outcome_answer ..)

end Sys2Proof.Machine
end

section
/-!
PROOFS. CRUISER_RUN, SELFTEST_RUN and the test mode (chapters 09, 12, 18, 19).
-/

set_option Elab.async false

namespace Sys2Proof.Machine

/-! ## What answering a line operation can change (chapters 07, 09) -/

theorem sendRec_frame (d : Dev) (kind src dst : Nat) (r : Rec) :
    d.sendRec kind src dst r = { d with ba.out := (d.sendRec kind src dst r).ba.out } := by
  unfold Dev.sendRec
  split <;> rfl

theorem ackWhole_frame (d : Dev) (port src transfer : Nat) : d.ackWhole port src transfer = { d with ba := (d.ackWhole port src transfer).ba } := by
  unfold Dev.ackWhole
  split
  · split
    · rw [Dev.sendAck, sendRec_frame]
    · rfl
  · rfl

theorem answerOp_frame (d : Dev) (stack status : Nat) (data : List Byte) (r : Reply) :
    d.answerOp stack status data r = { d with ba := (d.answerOp stack status data r).ba } := by
  cases r with
  | record _ _ rq =>
    unfold Dev.answerOp Dev.respondRec
    dsimp only
    rw [sendRec_frame]
  | bulk port src transfer =>
    unfold Dev.answerOp
    dsimp only
    rw [ackWhole_frame]
    split <;> rfl
  | none => rfl

theorem answerOp_stack (d : Dev) (stack status : Nat) (data : List Byte) (r : Reply) (k : Nat) :
    (d.answerOp stack status data r).stack k = d.stack k := by
  rw [Dev.stack, answerOp_frame]
  rfl

/-- An update of a stack that keeps its number and its fence keeps every stack's fence. -/
theorem fenced_onStack (d : Dev) (p k : Nat) (f : Stack → Stack) (hs : ∀ x, (f x).stack = x.stack) (hf : ∀ x, (f x).fenced = x.fenced) :
    ((d.onStack p f).stack k).fenced = (d.stack k).fenced := by
  by_cases hk : k = p
  · rw [hk, stack_onStack d p f hs, hf]
  · rw [stack_onStack_other d p f k hs hk]

/-- Failing the operations of a stack changes the stacks and the Basin alone. -/
theorem failOps_frame (d : Dev) (stack : Nat) (mine : LineOp → Bool) :
    d.failOps stack mine = { d with mem.stackList := (d.failOps stack mine).mem.stackList, ba := (d.failOps stack mine).ba } := by
  unfold Dev.failOps
  refine each_keeps (fun e : Dev => e = { d with mem.stackList := e.mem.stackList, ba := e.ba }) _ (fun o e he => ?_) _ _ rfl
  have ha : e.answerOp stack 2 [] o.reply =
      { d with mem.stackList := (e.answerOp stack 2 [] o.reply).mem.stackList, ba := (e.answerOp stack 2 [] o.reply).ba } := by
    rw [answerOp_frame, he]
  split
  · split
    · exact ha
    · rw [he]; rfl
  · exact ha

/-- Failing the operations of a stack leaves every fence. -/
theorem failOps_fenced (d : Dev) (stack : Nat) (mine : LineOp → Bool) (k : Nat) : ((d.failOps stack mine).stack k).fenced = (d.stack k).fenced := by
  unfold Dev.failOps
  refine each_keeps (fun e : Dev => (e.stack k).fenced = (d.stack k).fenced) _ (fun o e he => ?_) _ _ ?_
  · split
    · split
      · rwa [answerOp_stack]
      · rw [fenced_onStack _ _ _ _ (fun _ => by rfl) fun _ => by rfl, he]
    · rwa [answerOp_stack]
  · exact fenced_onStack _ _ _ _ (fun _ => by rfl) fun _ => by rfl

/-! ## The unit under test is held -/

theorem stopWork_frame (d : Dev) (unit : Nat) : d.stopWork unit = { d with str.list := (d.stopWork unit).str.list } := by
  unfold Dev.stopWork
  split <;> rfl

/-- The beginning of a test marks the unit and touches its port or the streams beside. -/
theorem beginTest_frame (d : Dev) (unit : Nat) :
    d.beginTest unit = { d with
      fa.testing := insertNew unit d.fa.testing
      ba := (d.beginTest unit).ba
      str.list := (d.beginTest unit).str.list } := by
  unfold Dev.beginTest
  dsimp only
  split
  · split <;> rfl
  · split <;> rfl
  · rw [stopWork_frame]

theorem mem_insertNew {α : Type} [BEq α] [LawfulBEq α] (a : α) (l : List α) : a ∈ insertNew a l := by
  unfold insertNew
  split
  · next h => exact List.contains_iff_mem.mp h
  · exact List.mem_append_right _ List.mem_cons_self

theorem siteOut_out (d : Dev) (site : Nat) : (d.siteOut site).sp.out = insertNew site d.sp.out := rfl

/-- Holding a unit for its test leaves the count and the test interface. -/
theorem holdTested_tb_ts (d : Dev) (u : Nat) : (d.holdTested u).tb = d.tb ∧ (d.holdTested u).ts = d.ts := by
  unfold Dev.holdTested
  split
  · split
    · exact ⟨rfl, rfl⟩
    · exact ⟨rfl, rfl⟩
  · unfold Dev.degrade
    rw [log_frame, failOps_frame]
    exact ⟨rfl, rfl⟩
  · rw [setStandby_frame]
    exact ⟨rfl, rfl⟩
  · rw [beginTest_frame]
    exact ⟨rfl, rfl⟩

/-- A site under test is out of service. -/
theorem holdTested_site {d : Dev} {u : Nat} (hk : unitKind u = 5) :
    unitPlace u ∈ (d.holdTested u).sp.out ∨ d.inService (unitPlace u) = false := by
  have h : d.holdTested u = if d.inService (unitPlace u) then d.siteOut (unitPlace u) else d := by
    unfold Dev.holdTested
    rw [hk] <;> rfl
  rw [h]
  split
  · exact .inl (by rw [siteOut_out]; exact mem_insertNew _ _)
  · exact .inr (Bool.eq_false_iff.mpr ‹_›)

/-- A stack under test is fenced. -/
theorem holdTested_stack {d : Dev} {u : Nat} (hk : unitKind u = 0x0B) : ((d.holdTested u).stack (unitPlace u)).fenced = true := by
  have h : d.holdTested u =
      (((d.onStack (unitPlace u) fun s => { s with fenced := true }).failOps (unitPlace u) fun _ => true).log u 4 0x0204 0).degrade := by
    unfold Dev.holdTested
    rw [hk] <;> rfl
  have hmem : (d.holdTested u).mem = ((d.onStack (unitPlace u) fun s => { s with fenced := true }).failOps (unitPlace u) fun _ => true).mem := by
    rw [h, Dev.degrade, log_frame]
  rw [Dev.stack, hmem, ← Dev.stack, failOps_fenced, stack_onStack _ _ _ (fun _ => by rfl)]

/-- Any other unit is marked. -/
theorem holdTested_other {d : Dev} {u : Nat} (h5 : unitKind u ≠ 5) (hb : unitKind u ≠ 0x0B) (he : unitKind u ≠ 0x0E) :
    heldUnit u ∈ (d.holdTested u).fa.testing := by
  unfold Dev.holdTested
  split
  · exact absurd ‹_› h5
  · exact absurd ‹_› hb
  · exact absurd ‹_› he
  · rw [beginTest_frame]
    exact mem_insertNew _ _

/-! ## The commands -/

theorem exec_cruiserRun {s : State} {ch : Nat} (h : s.atWork 0x0605 ch = true) (he : u8 (s.body ch) 0 ≤ 16) (hc : u8 (s.body ch) 1 ≤ 3)
    (hf : u8 (s.body ch) 2 = 2) (hz : field (s.body ch) 3 5 = 0) (hn : 1 ≤ u64 (s.body ch) 16) (hn' : u64 (s.body ch) 16 ≤ 2 ^ 36)
    (hr : s.dev.scanRange (u8 (s.body ch) 0) (u64 (s.body ch) 8) (u64 (s.body ch) 16) = true)
    (hfree : s.dev.contextFree ch (u8 (s.body ch) 0) = true) (hp : s.dev.rangePopulated (u64 (s.body ch) 8) (u64 (s.body ch) 16) = true)
    (hs : s.dev.mustSnoop (u64 (s.body ch) 8) (u64 (s.body ch) 16) = false) :
    let code := u8 (s.body ch) 1
    let v := crcRun code (crcInit code) (s.dev.scanBytes (u64 (s.body ch) 8) (u64 (s.body ch) 16))
    exec (.cruiserRun ch) s = .next { s with dev :=
      (s.dev.draw.answer ch stOk (leBytes 8 v ++ leBytes 8 (crcFinal code v) ++ leBytes 8 s.dev.tb.ns) 0) } := by
  refine (run_atWork h rfl).trans ?_
  have hbad : ¬ (16 < u8 (s.body ch) 0 ∨ 3 < u8 (s.body ch) 1 ∨ 3 < u8 (s.body ch) 2 ∨ field (s.body ch) 3 5 ≠ 0 ∨ u64 (s.body ch) 16 = 0 ∨
      2 ^ 36 < u64 (s.body ch) 16 ∨ (!s.dev.scanRange (u8 (s.body ch) 0) (u64 (s.body ch) 8) (u64 (s.body ch) 16)) = true) := by
    rw [hr]
    simp only [Bool.not_true, Bool.false_eq_true, or_false]
    omega
  have hb0 : bitOf 2 0 = false := rfl
  have hb1 : bitOf 2 1 = true := rfl
  dsimp only
  rw [if_neg hbad, hfree, hs, hp, hf, hb0, hb1]
  rfl

/-- SELFTEST_RUN that begins. -/
theorem exec_selftestRun_begin {s : State} {ch dur : Nat} (h : s.atWork 0x0604 ch = true) (h8 : u8 (s.body ch) 8 = 0)
    (hno : (s.dev.ts.runs.find? fun r => r.ch == some ch && decide ((s.dev.chan ch).accepted ≤ r.since)) = none)
    (hu : selfTestUnit (u64 (s.body ch) 0) = true) (hr : s.dev.testRefused (u64 (s.body ch) 0) false = false) :
    let u := u64 (s.body ch) 0
    let r : SelfRun := { ch := some ch, unit := u, since := s.dev.tb.ns, degraded := s.dev.sp.degraded, wasOut := s.dev.unitOut u }
    exec (.selftestRun ch .pass dur) s = .next { s with dev := Dev.holdTested u { s.dev with ts.runs := s.dev.ts.runs ++ [r] } } := by
  have hclear : bitOf 0 0 = false := rfl
  refine (run_atWork h rfl).trans ?_
  dsimp only
  rw [hno]
  dsimp only
  rw [if_neg (by simp [hu, h8]), h8, hclear, hr]
  rfl

/-- SELFTEST_RUN that ends with a pass. -/
theorem exec_selftestRun_pass {s : State} {ch dur : Nat} {r : SelfRun} (h : s.atWork 0x0604 ch = true) (h8 : u8 (s.body ch) 8 = 0)
    (hr : (s.dev.ts.runs.find? fun r => r.ch == some ch && decide ((s.dev.chan ch).accepted ≤ r.since)) = some r) :
    let d0 := s.dev.reach (r.since + dur)
    let d1 := { d0 with ts.runs := d0.ts.runs.filter (· != r) ++ [{ r with ch := none }] }
    exec (.selftestRun ch .pass dur) s = .next { s with dev :=
      (d1.answer ch stOk (leBytes 1 0 ++ leBytes 1 0 ++ zeros 2 ++ leBytes 4 (dur / 1000)) 0) } := by
  have hclear : bitOf 0 0 = false := rfl
  refine (run_atWork h rfl).trans ?_
  dsimp only
  rw [hr]
  dsimp only
  rw [h8, hclear]
  rfl

/-- With no session to close nothing waits. -/
theorem prepareClose_nil (d : Dev) : d.prepareClose [] = (d, true) := by
  unfold Dev.prepareClose
  simp only [List.contains_nil, Bool.false_and, List.filter_false, each_nil, Bool.and_false, Prod.mk.injEq, true_and]
  rw [Bool.not_eq_true', List.any_eq_false]
  intro q _
  split
  · simp
  · exact Bool.false_ne_true

@[simp] theorem sendMsix_devState (d : Dev) (v : Nat) : (d.sendMsix v).hg.devState = d.hg.devState := by
  unfold Dev.sendMsix
  split <;> rfl

@[simp] theorem raiseInt_devState (d : Dev) (bit : Nat) : (d.raiseInt bit).hg.devState = d.hg.devState := by
  unfold Dev.raiseInt
  split
  · rfl
  · dsimp only
    split
    · rw [sendMsix_devState]
    · rfl

theorem setState_devState (d : Dev) (st : DevState) : (d.setState st).hg.devState = st := by
  unfold Dev.setState
  split
  · assumption
  · rw [raiseInt_devState]

/-- TEST_MODE_ENTER with selector 5 when no other session is open. -/
theorem exec_testModeEnter {s : State} {ch : Nat} (h : s.atWork 0x0700 ch = true) (hsel : u8 (s.body ch) 0 = 5)
    (hother : ∀ x ∈ s.dev.ses.list, x.id = s.session ch) :
    let d1 := s.dev.setState .test
    exec (.testModeEnter ch) s = .next { s with dev :=
      (Dev.answer ch stOk [] 0 { d1 with ts.selector := some 5, ts.entered := d1.tb.ns, ts.session := s.session ch }) } := by
  have hnil : (s.dev.ses.list.filter (·.id != s.session ch)).map (·.id) = [] := by
    rw [List.map_eq_nil_iff, List.filter_eq_nil_iff]
    intro x hx
    simp [hother x hx]
  refine (run_atWork h rfl).trans ?_
  dsimp only
  rw [hsel, if_neg (by decide), hnil]
  simp only [List.any_nil, Bool.false_eq_true, if_false, prepareClose_nil, Bool.not_true]
  rfl

/-- Settles O23. -/
theorem testCommands : Obligations.TestCommands := by
  intro s ch dur
  refine ⟨fun h he hc hf hz hn hn' hr hfree hp hs => exec_cruiserRun h he hc hf hz hn hn' hr hfree hp hs, fun h h8 => ⟨fun hno hu hr => ?begins,
    fun r hr => ?ends⟩, fun h _ hsel hother => ?enter, fun hch hr hd => ?exit⟩
  case begins =>
    refine ⟨_, exec_selftestRun_begin h h8 hno hu hr, (holdTested_tb_ts _ _).1, ?_, holdTested_site, holdTested_stack, holdTested_other⟩
    exact congrArg TestPins.runs (holdTested_tb_ts _ _).2
  case ends =>
    obtain ⟨hf, hns⟩ := reach_frame s.dev (r.since + dur)
    refine ⟨_, exec_selftestRun_pass h h8 hr, ?_, hns, ?_, outcome_answer ..⟩
    · dsimp only
      rw [answer_frame, hf]
    · dsimp only
      rw [answer_frame, hf]
  case enter =>
    refine ⟨_, exec_testModeEnter h hsel hother, ?_, setState_devState _ _, rfl, ?_, outcome_answer ..⟩
    · dsimp only
      rw [answer_frame, setState_frame]
    · dsimp only
      rw [answer_frame, setState_frame]
  case exit =>
    have hn : ¬ (s.dev.hg.devState = .safeHold ∧ (!((opInfo 0x0701).elim false fun i => s.dev.legal i.legal)) = true) := by
      rw [hd]
      simp
    show s.run (.testModeExit ch) (testModeExit ch) = _
    have hw : (Instr.testModeExit ch).wf = true := decide_eq_true hch
    rw [run_of_wf hw, testModeExit, Dev.onCommand, if_pos hr, if_neg hn]

end Sys2Proof.Machine
end

section
/-!
PROOFS. The timebase (chapter 05) and the reference clock (chapter 13): losses and returns of their inputs, the edges and frames of the
second, and the limits of a holdover.
-/

set_option Elab.async false

namespace Sys2Proof.Machine

/-! ## Changes of the timebase's state -/

theorem raiseInt_intstat {d : Dev} {bit : Nat} (h : bit < 64) : (d.raiseInt bit).hg.intstat.getLsbD bit = true := by
  have hsend : ∀ (e : Dev) v, (e.sendMsix v).hg.intstat = e.hg.intstat := fun e v => by
    unfold Dev.sendMsix
    split <;> rfl
  have hbit : (d.hg.intstat ||| ((1 : Word) <<< bit)).getLsbD bit = true := by
    rw [BitVec.getLsbD_or, BitVec.getLsbD_shiftLeft]
    simp [h]
  unfold Dev.raiseInt
  split
  · assumption
  · dsimp only
    split
    · rw [hsend]
      exact hbit
    · exact hbit

theorem setTb_frame (d : Dev) (st : TbState) (cause : Nat) :
    d.setTb st cause = { d with tb := (d.setTb st cause).tb, lg := (d.setTb st cause).lg, hg := (d.setTb st cause).hg } := by
  unfold Dev.setTb
  dsimp only
  rw [raiseInt_frame, log_frame]

theorem setTb_interrupt (d : Dev) (st : TbState) (cause : Nat) : (d.setTb st cause).hg.intstat.getLsbD 3 = true :=
  raiseInt_intstat (by decide)

/-- Into HOLDOVER: the rate correction ends and the age of the holdover goes on from where it began. -/
theorem setTb_holdover (d : Dev) (cause : Nat) :
    let e := d.setTb .holdover cause
    e.tb.st = .holdover ∧ e.tb.cause = cause ∧ e.tb.clk = d.tb.clk ∧ e.tb.pps = d.tb.pps ∧ e.tb.incr = 0 ∧
      e.tb.holdSince = some (d.tb.holdSince.getD d.tb.ns) ∧ e.tb.ns = d.tb.ns := by
  unfold Dev.setTb
  dsimp only
  rw [raiseInt_frame, log_frame]
  exact ⟨rfl, rfl, rfl, rfl, rfl, rfl, rfl⟩

theorem inputLost_of_locked {d : Dev} (h : d.tb.st = .locked) (cause : Nat) : d.inputLost cause = d.setTb .holdover cause := by
  rw [Dev.inputLost, h] <;> rfl

theorem inputLost_of_free {d : Dev} (h : d.tb.st = .free) (cause : Nat) : d.inputLost cause = d := by
  rw [Dev.inputLost, h] <;> rfl

/-- TB_PPS is lost at a given instant, in LOCKED. -/
theorem ppsLost_at {d : Dev} (h : d.tb.st = .locked) (t : Nat) :
    let e := Dev.inputLost 2 { d.reach t with tb.pps := false }
    e = { d with tb := e.tb, lg := e.lg, hg := e.hg } ∧ e.tb.st = .holdover ∧ e.tb.cause = 2 ∧ e.tb.pps = false ∧ e.tb.ns = max d.tb.ns t := by
  intro e
  obtain ⟨hf, hns⟩ := reach_frame d t
  have hst : ({ d.reach t with tb.pps := false } : Dev).tb.st = .locked := by
    unfold Dev.reach
    split <;> exact h
  have he : e = Dev.setTb .holdover 2 { d.reach t with tb.pps := false } := inputLost_of_locked hst 2
  obtain ⟨h1, h2, -, h4, -, -, h7⟩ := setTb_holdover { d.reach t with tb.pps := false } 2
  rw [he]
  refine ⟨?_, h1, h2, h4, h7.trans hns⟩
  rw [setTb_frame, hf]

/-! ## Edges and frames of the second -/

theorem steer_of_free {d : Dev} (h : d.tb.st = .free) : d.steer = d := by simp [Dev.steer, h]

theorem lockedEdge_of_free {d : Dev} (h : d.tb.st = .free) : d.lockedEdge = d := by simp [Dev.lockedEdge, h]

/-- The timebase at an edge while control is handed over: what the edge shows is kept, and nothing is judged. -/
def Dev.edgeSeen (prevHigh : Nat) (d : Dev) : Dev :=
  { d with
    tb.pps := (d.tb.lastEdge.map (d.tb.ns - ·)).elim false (fun i => decide (999999000 ≤ i) && decide (i ≤ 1000001000)) &&
      decide (100 ≤ prevHigh) && decide (prevHigh ≤ 900000000)
    tb.lastEdge := some d.tb.ns
    tb.prevFrame := d.tb.frame
    tb.frame := none }

/-- The timebase at an edge, with the offset measured and the edges of each kind counted. -/
def Dev.edgeJudged (prevHigh : Nat) (d : Dev) : Dev :=
  { d.edgeSeen prevHigh with
    tb.offset := d.edgeOffset
    tb.goodEdges := if d.tb.frame.elim true (·.unlocked) then 0 else d.tb.goodEdges
    tb.lockEdges := if d.tb.frame.elim true (·.unlocked) then 0 else d.tb.lockEdges
    tb.offEdges := if beyond d.edgeOffset 100 then d.tb.offEdges + 1 else 0
    tb.badSecs := if d.tb.lastEdge.isSome && !d.secondGood then d.tb.badSecs + 1 else 0 }

theorem tbPpsEdge_eq (prevHigh : Nat) (d : Dev) :
    tbPpsEdge prevHigh d = if d.fw.handover.isSome then d.edgeSeen prevHigh else if d.tb.freeRun then d.edgeJudged prevHigh
      else (d.edgeJudged prevHigh).lockedEdge.steer := rfl

theorem tbPpsEdge_of_free {d : Dev} (h : d.tb.st = .free) (hh : d.fw.handover = none) (prevHigh : Nat) :
    tbPpsEdge prevHigh d = d.edgeJudged prevHigh := by
  have hst : (d.edgeJudged prevHigh).tb.st = .free := h
  rw [tbPpsEdge_eq, hh, lockedEdge_of_free hst, steer_of_free hst]
  simp

/-- TB_TOD: a second valid frame of the same second, or one that is not valid, is not taken. -/
theorem tbTodFrame_of_free_run {d : Dev} {bytes : List Byte} (hv : d.frameValid bytes = true) (hf : d.tb.frame = none) (hr : d.tb.freeRun = true) :
    tbTodFrame bytes d =
      { d with tb.frame := some { unlocked := u8 bytes 3 % 2 == 0, seconds := u64 bytes 4 }, tb.lastGood := u8 bytes 3 % 2 != 0 } := by
  simp only [tbTodFrame, hv, hf, hr, Bool.true_and, Bool.not_true, Option.isSome_none, Bool.or_self, Bool.false_eq_true, if_false, true_or, if_true]
  rfl

theorem tbTodFrame_of_not_valid {d : Dev} {bytes : List Byte} (hv : d.frameValid bytes = false) :
    tbTodFrame bytes d = { d with tb.lastGood := false } := by
  simp only [tbTodFrame, hv, Bool.false_and, Bool.not_false, Bool.true_or, if_true]

/-! ## The rate correction, and how far the dies' counts may stand apart -/

/-- A value listed under a key was put there. -/
theorem valueOf_map {l : List Nat} {f : Nat → Int} {k : Nat} {v : Int} (h : valueOf k (l.map fun i => (i, f i)) = some v) : v = f k := by
  unfold valueOf at h
  obtain ⟨e, he, rfl⟩ := Option.map_eq_some_iff.mp h
  obtain ⟨i, -, rfl⟩ := List.mem_map.mp (List.mem_of_find?_eq_some he)
  have hk := List.find?_some he
  rw [show i = k by simpa using hk]

/-- A skew within bounds, or none, lies within those bounds. -/
theorem natAbs_getD_valueOf_le {l : List Nat} {f : Nat → Int} {n : Nat} (hf : ∀ i, (f i).natAbs ≤ n) (k : Nat) :
    ((valueOf k (l.map fun i => (i, f i))).getD 0).natAbs ≤ n := by
  rcases h : valueOf k (l.map fun i => (i, f i)) with _ | v
  · exact Nat.zero_le _
  · rw [Option.getD_some, valueOf_map h]
    exact hf k

theorem xtbRateCorrection_at (d : Dev) (t : Nat) :
    let e := d.reach t
    let skew := replicaDies.map fun die => (die, max (-262144) (min 262144 (Config.replica e.free die)))
    let r := { e.draw with tb.lastRate := e.tb.ns, tb.skew := skew }
    r = { d with tb := r.tb, free := r.free } ∧ r.tb.ns = max d.tb.ns t ∧ r.tb.lastRate = r.tb.ns ∧
      ∀ die, (r.replica die - ((r.tb.ns * 65536 + r.tb.frac : Nat) : Int)).natAbs ≤ 262144 := by
  intro e skew r
  obtain ⟨hf, hns⟩ := reach_frame d t
  refine ⟨?_, hns, rfl, fun die => ?_⟩
  · unfold r e Dev.draw
    rw [hf]
  · have hr : r.replica die - ((r.tb.ns * 65536 + r.tb.frac : Nat) : Int) = (valueOf die skew).getD 0 := by
      exact add_sub_cancel_left _ _
    rw [hr]
    exact natAbs_getD_valueOf_le (fun i => by omega) die

/-! ## The limits of a holdover -/

theorem tbAxis_reach (d : Dev) (t : Nat) : (d.reach t).tbAxis = d.tbAxis := by
  unfold Dev.reach
  split <;> rfl

theorem holdSince_reach (d : Dev) (t : Nat) : (d.reach t).tb.holdSince = d.tb.holdSince := by
  unfold Dev.reach
  split <;> rfl

/-- Past the limit of its age a holdover holds no barriers. -/
theorem noBarrier_of_holdAge {d : Dev} (h : d.tbAxis = 1) (ha : 10000000000 < d.holdAge) : d.noBarrier = true := by
  rw [Dev.noBarrier, h, decide_eq_true ha]
  rfl

theorem holdAge_reach {d : Dev} {h : Nat} (hs : d.tb.holdSince = some h) (age : Nat) : age ≤ (d.reach (h + age)).holdAge := by
  rw [Dev.holdAge, holdSince_reach, hs, Option.elim_some, (reach_frame d (h + age)).2]
  omega

theorem holdoverAgeLimit_of_axis {d : Dev} {h : Nat} (hs : d.tb.holdSince = some h) (ha : d.tbAxis = 1) :
    holdoverAgeLimit d = d.reach (h + 10000000001) := by
  rw [holdoverAgeLimit, hs]
  exact if_pos ha

/-! ## The offset at an edge -/

/-- The offset is the distance to the nearest full second. -/
theorem edgeOffset_bounds (d : Dev) :
    -(500000000 * 65536 : Int) < d.edgeOffset ∧ d.edgeOffset ≤ 500000000 * 65536 ∧
      (d.edgeOffset - (((d.tb.ns * 65536 + d.tb.frac : Nat) : Int) - ((d.tb.ppsDelay * 65536 : Nat) : Int))) % (65536000000000 : Int) = 0 := by
  unfold Dev.edgeOffset
  dsimp only
  generalize ((d.tb.ns * 65536 + d.tb.frac : Nat) : Int) - ((d.tb.ppsDelay * 65536 : Nat) : Int) = x
  push_cast
  split <;> omega

/-- Settles O24. -/
theorem timebaseInputs : Obligations.TimebaseInputs := by
  intro s prev bytes d
  refine ⟨fun h => ?clkLoss, fun h => ?clkFree, run_of_wf rfl _, fun e h he => ?ppsLoss, fun h => ?handover, fun h hh => ?edge,
    fun hl hv hf hr => ?frame, fun hl hv => ?badFrame, ?rate, fun h hs ha => ?age, edgeOffset_bounds d⟩
  case clkLoss =>
    have hst : ({ d with tb.clk := false } : Dev).tb.st = .locked := h
    have hd : tbClkLoss d = Dev.setTb .holdover 1 { d with tb.clk := false } := inputLost_of_locked hst 1
    obtain ⟨h1, h2, h3, -, h5, h6, -⟩ := setTb_holdover { d with tb.clk := false } 1
    refine ⟨{ s with dev := Dev.setTb .holdover 1 { d with tb.clk := false } }, ?_, ?_, h1, h2, h3, h5, h6, setTb_interrupt ..⟩
    · rw [← hd]
      exact run_of_wf rfl _
    · dsimp only
      rw [setTb_frame]
  case clkFree =>
    have hst : ({ d with tb.clk := false } : Dev).tb.st = .free := h
    have hd : tbClkLoss d = { d with tb.clk := false } := inputLost_of_free hst 1
    rw [← hd]
    exact run_of_wf rfl _
  case ppsLoss =>
    have hd : tbPpsLoss d = Dev.inputLost 2 { d.reach (e + 1050000000) with tb.pps := false } := by
      unfold tbPpsLoss
      rw [he]
    obtain ⟨hframe, h1, h2, h3, h4⟩ := ppsLost_at h (e + 1050000000)
    rw [← hd] at hframe h1 h2 h3 h4
    exact ⟨_, run_of_wf rfl _, congrArg (fun e => ({ s with dev := e } : State)) hframe, h1, h2, h3, h4⟩
  case handover =>
    have hd : tbPpsEdge prev d = d.edgeSeen prev := if_pos h
    refine ⟨{ s with dev := d.edgeSeen prev }, ?_, rfl, rfl, rfl, rfl, rfl, rfl⟩
    rw [← hd]
    exact run_of_wf rfl _
  case edge =>
    refine ⟨{ s with dev := d.edgeJudged prev }, ?_, rfl, h, rfl, rfl, rfl, rfl, rfl, rfl⟩
    rw [← tbPpsEdge_of_free h hh]
    exact run_of_wf rfl _
  case frame =>
    have hw : (Instr.tbTodFrame bytes).wf = true := beq_iff_eq.mpr hl
    rw [← tbTodFrame_of_free_run hv hf hr]
    exact run_of_wf hw _
  case badFrame =>
    have hw : (Instr.tbTodFrame bytes).wf = true := beq_iff_eq.mpr hl
    rw [← tbTodFrame_of_not_valid hv]
    exact run_of_wf hw _
  case rate =>
    obtain ⟨hframe, h1, h2, h3⟩ := xtbRateCorrection_at d (d.tb.lastRate + 10000)
    exact ⟨_, run_of_wf rfl _, congrArg (fun e => ({ s with dev := e } : State)) hframe, h1, h2, h3⟩
  case age =>
    obtain ⟨hf, hns⟩ := reach_frame d (h + 10000000001)
    refine ⟨{ s with dev := d.reach (h + 10000000001) }, ?_, ?_, hns, ?_⟩
    · rw [← holdoverAgeLimit_of_axis hs ha]
      exact run_of_wf rfl _
    · exact congrArg (fun e => ({ s with dev := e } : State)) hf
    · refine noBarrier_of_holdAge ((tbAxis_reach _ _).trans ha) ?_
      exact Nat.lt_of_lt_of_le (by decide) (holdAge_reach hs 10000000001)

/-! ## The reference clock (R390) -/

@[simp] theorem log_devState (d : Dev) (u o c v : Nat) : (d.log u o c v).hg.devState = d.hg.devState := by
  unfold Dev.log
  dsimp only
  split
  · rw [raiseInt_devState]
  · split <;> rfl

/-- What entering SAFE_HOLD leaves in force. -/
theorem safeHold_of_not_safeHold {d : Dev} (h : d.hg.devState ≠ .safeHold) (cause : Nat) :
    (d.safeHold cause).hg.devState = .safeHold ∧ (d.safeHold cause).fa.safeCause = cause ∧ (d.safeHold cause).th.alert = true := by
  unfold Dev.safeHold
  rw [if_neg h]
  dsimp only
  rw [log_devState, setState_devState]
  exact ⟨rfl, rfl, rfl⟩

/-- The end of the hold at a given instant. -/
theorem safeHold_reach {d : Dev} (h : d.hg.devState ≠ .safeHold) (t : Nat) :
    let e := (d.reach t).safeHold 3
    e.hg.devState = .safeHold ∧ e.fa.safeCause = 3 ∧ e.th.alert = true ∧ e.tb.ns = max d.tb.ns t ∧ e.mem = d.mem ∧ e.str = d.str ∧ e.gr = d.gr := by
  intro e
  obtain ⟨hf, hns⟩ := reach_frame d t
  have h' : (d.reach t).hg.devState ≠ .safeHold := by rw [hf]; exact h
  obtain ⟨h1, h2, h3⟩ := safeHold_of_not_safeHold h' 3
  have he : e = _ := safeHold_frame (d.reach t) 3
  refine ⟨h1, h2, h3, ?_, ?_, ?_, ?_⟩
  · rw [he]
    exact hns
  all_goals rw [he, hf]

/-- Settles O25. -/
theorem referenceClock : Obligations.ReferenceClock := by
  intro s
  refine ⟨fun h => ?lost, run_of_wf rfl _, fun r hr h => ?expires, fun h => ?idle⟩
  case lost =>
    have hd : refclkLoss s.dev = { s.dev with ck.refLost := some s.dev.tb.ns } := by
      unfold refclkLoss
      rw [h, Option.getD_none]
    rw [← hd]
    exact run_of_wf rfl _
  case expires =>
    have hd : refclkHoldExpiry s.dev = (s.dev.reach (r + 1000000)).safeHold 3 := by
      unfold refclkHoldExpiry
      rw [hr]
    refine ⟨{ s with dev := refclkHoldExpiry s.dev }, run_of_wf rfl _, rfl, ?_⟩
    dsimp only
    rw [hd]
    exact safeHold_reach h _
  case idle =>
    have hd : refclkHoldExpiry s.dev = s.dev := by
      unfold refclkHoldExpiry
      rw [h]
    exact (run_of_wf rfl _).trans (by rw [hd])

end Sys2Proof.Machine
end

section
/-!
PROOFS. Droops of the core regions and the vote on a frequency step-up (chapter 13).
-/

set_option Elab.async false

namespace Sys2Proof.Machine

/-! ## Droops (R391, R392) -/

section Droop

variable {d : Dev} {site stand pos : Nat}

/-- The first droop of a core. -/
theorem supplyDroop_new {mhz : Nat} (hno : (d.ck.droops.any (Droop.is site stand pos)) = false) (hlt : mhz < d.ceiling site (posDomain pos)) :
    let x : Droop := { site, stand, pos, mhz, since := d.tb.ns, sustained := false }
    supplyDroop site stand pos mhz d =
      Dev.countDroop site stand pos (fun c => { c with droops := c.droops + 1 }) { d with ck.droops := d.ck.droops ++ [x] } := by
  unfold supplyDroop
  dsimp only
  rw [if_neg (Nat.not_le.mpr hlt), hno, if_neg Bool.false_ne_true]

theorem supplyRecovery_of_droop {x : Droop} (h : d.ck.droops.find? (Droop.is site stand pos) = some x) :
    supplyRecovery site stand pos d =
      Dev.countDroop site stand pos (fun c => { c with time := c.time + (d.tb.ns - x.since) }) { d with ck.droops := d.ck.droops.erase x } := by
  unfold supplyRecovery
  rw [h]

theorem supplyRecovery_of_none (h : d.ck.droops.find? (Droop.is site stand pos) = none) : supplyRecovery site stand pos d = d := by
  unfold supplyRecovery
  rw [h]

/-- A droop that is found last in the list. -/
theorem find?_append_new {x : Droop} (hno : (d.ck.droops.any (Droop.is site stand pos)) = false) (hx : Droop.is site stand pos x = true) :
    (d.ck.droops ++ [x]).find? (Droop.is site stand pos) = some x := by
  have hnone : d.ck.droops.find? (Droop.is site stand pos) = none := by
    rw [List.find?_eq_none]
    intro y hy
    have := List.any_eq_false.mp hno y hy
    exact this
  rw [List.find?_append, hnone, Option.none_or, List.find?_cons_of_pos hx]

theorem sustainedDroop_of_new {x : Droop} (h : d.ck.droops.find? (Droop.is site stand pos) = some x) (hs : x.sustained = false) :
    let e := d.reach (x.since + 10000)
    sustainedDroop site stand pos d = Dev.countDroop site stand pos (fun c => { c with sustained := c.sustained + 1 })
      { e with ck.droops := mapIf (Droop.is site stand pos) (fun x => { x with sustained := true }) e.ck.droops } := by
  unfold sustainedDroop
  rw [h]
  exact if_neg (by rw [hs]; exact Bool.false_ne_true)

theorem sustainedDroop_at {x : Droop} (h : d.ck.droops.find? (Droop.is site stand pos) = some x) (t : Nat) :
    let e := d.reach t
    let r := Dev.countDroop site stand pos (fun c => { c with sustained := c.sustained + 1 })
      { e with ck.droops := mapIf (Droop.is site stand pos) (fun x => { x with sustained := true }) e.ck.droops }
    r = { d with ck := r.ck, tb := r.tb } ∧ r.tb.ns = max d.tb.ns t ∧
      r.ck.droops.find? (Droop.is site stand pos) = some { x with sustained := true } := by
  intro e r
  obtain ⟨hf, hns⟩ := reach_frame d t
  have hck : e.ck = d.ck := by
    unfold e
    rw [hf]
  refine ⟨?_, hns, ?_⟩
  · unfold r e Dev.countDroop
    rw [hf]
  · have hr : r.ck.droops = mapIf (Droop.is site stand pos) (fun x => { x with sustained := true }) e.ck.droops := rfl
    rw [hr, hck, find?_mapIf _ _ fun _ ha => by exact ha, h]
    rfl

end Droop

/-- Settles O26. -/
theorem droops : Obligations.Droops := by
  intro s site stand pos mhz hsite hstand hpos d top
  have hwf : (isComputeSite site && decide (stand < 133) && decide (pos < 21)) = true := by simp [hsite, hstand, hpos]
  have hw1 : (Instr.supplyDroop site stand pos mhz).wf = true := hwf
  have hw2 : (Instr.supplyRecovery site stand pos).wf = true := hwf
  have hw3 : (Instr.sustainedDroop site stand pos).wf = true := hwf
  refine ⟨fun hno hlt => ?begins, fun x hx => ⟨?recovers, fun hsus => ?sustained⟩, fun hnone => ?none⟩
  case begins =>
    have hd := supplyDroop_new hno hlt
    refine ⟨{ s with dev := supplyDroop site stand pos mhz d }, run_of_wf hw1 _, ?_, ?_, ?_, ?_, ?_⟩
    · rw [hd]
      rfl
    · rw [hd]
      rfl
    · let x : Droop := { site, stand, pos, mhz, since := d.tb.ns, sustained := false }
      have hx : Droop.is site stand pos x = true := by simp [Droop.is, x]
      have hfind := find?_append_new hno hx
      rw [hd]
      unfold Dev.oscillator
      dsimp only [Dev.countDroop]
      rw [hfind]
      exact if_congr Iff.rfl rfl (Nat.min_eq_left (Nat.le_of_lt hlt))
    · rw [hd]
      rfl
    · rw [hd]
      rfl
  case recovers =>
    refine ⟨{ s with dev := supplyRecovery site stand pos d }, run_of_wf hw2 _, ?_, ?_⟩
    · rw [supplyRecovery_of_droop hx]
      rfl
    · rw [supplyRecovery_of_droop hx]
      rfl
  case sustained =>
    obtain ⟨h1, h2, h3⟩ := sustainedDroop_at hx (x.since + 10000)
    rw [← sustainedDroop_of_new hx hsus] at h1 h2 h3
    exact ⟨_, run_of_wf hw3 _, congrArg (fun e => ({ s with dev := e } : State)) h1, h2, h3⟩
  case none =>
    exact (run_of_wf hw2 _).trans (by rw [supplyRecovery_of_none hnone])

/-! ## The vote on a step-up (R396, R398) -/

/-- The device at a point of the round: the count has moved and the point is noted. -/
def Dev.atRoundPoint (p : RoundPoint) (t : Nat) (d : Dev) : Dev := { d.reach t with rd.done := p :: d.rd.done }

theorem atRoundPoint_frame (d : Dev) (p : RoundPoint) (t : Nat) :
    d.atRoundPoint p t = { d with tb := (d.atRoundPoint p t).tb, rd.done := p :: d.rd.done } ∧ (d.atRoundPoint p t).tb.ns = max d.tb.ns t := by
  obtain ⟨hf, hns⟩ := reach_frame d t
  refine ⟨?_, hns⟩
  unfold Dev.atRoundPoint
  rw [hf]

/-- A point that is to come takes place at its instant. -/
theorem onPoint_atRoundPoint {d : Dev} {p : RoundPoint} (ha : d.rd.active = true) (hp : d.rd.done.contains p = false) (offset : Nat) (f : Dev → Dev) :
    d.onPoint p offset f = f (d.atRoundPoint p (d.rd.start + offset)) := onPoint_next d p offset f ha hp

theorem votedStep_atRoundPoint (d : Dev) (p : RoundPoint) (t : Nat) (dom : Domain) : (d.atRoundPoint p t).votedStep dom = d.votedStep dom := by
  rw [(atRoundPoint_frame d p t).1]
  cases dom <;> rfl

/-- What a control cell's sending changes. -/
theorem sendCtl_frame (d : Dev) (src dst : Nat) (m : CtlMsg) : d.sendCtl src dst m = { d with ba.out := (d.sendCtl src dst m).ba.out } := by
  unfold Dev.sendCtl
  split <;> rfl

/-- A control cell that can be sent is queued on the lowest plane allowed. -/
theorem mem_out_sendCtl {d : Dev} {src dst p : Nat} (m : CtlMsg) (hp : (d.planes src dst).head? = some p) :
    ∃ q ∈ (d.sendCtl src dst m).ba.out, q.port = src ∧ q.plane = p ∧ q.cell.dst = dst ∧ q.cell.ctl = some m := by
  unfold Dev.sendCtl
  rw [hp]
  exact ⟨_, List.mem_append_right _ (List.mem_singleton_self _), rfl, rfl, rfl, rfl⟩

/-- Sending keeps what waits. -/
theorem out_subset_sendCtl (d : Dev) (src dst : Nat) (m : CtlMsg) : d.ba.out ⊆ (d.sendCtl src dst m).ba.out := by
  unfold Dev.sendCtl
  split
  · exact List.subset_append_left ..
  · exact fun _ h => h

/-! ### The rails rise -/

/-- What the point of the voltage rise does. -/
def Dev.riseRails (d : Dev) : Dev :=
  let one := fun (dom : Domain) (d : Dev) => match d.votedStep dom with
    | some mhz => d.setRails dom (some mhz)
    | none => d
  one .cd10 (one .cd9 d)

theorem voltageRiseStart_eq (d : Dev) : voltageRiseStart d = d.onPoint .voltRise (d.rd.period - 50000) Dev.riseRails := rfl

theorem riseRails_cd9 {d : Dev} {mhz : Nat} (h9 : d.votedStep .cd9 = some mhz) (h10 : d.votedStep .cd10 = none) :
    d.riseRails = { d with ck.rails9 := some mhz } := by
  have h : ({ d with ck.rails9 := some mhz } : Dev).votedStep .cd10 = none := h10
  unfold Dev.riseRails Dev.setRails
  simp only [h9, h]

theorem riseRails_atRoundPoint {d : Dev} {mhz : Nat} (h9 : d.votedStep .cd9 = some mhz) (h10 : d.votedStep .cd10 = none) (p : RoundPoint) (t : Nat) :
    let e := (d.atRoundPoint p t).riseRails
    e = { d with tb := e.tb, rd := e.rd, ck := e.ck } ∧ e.ck.rails9 = some mhz ∧ e.ck.rails10 = d.ck.rails10 ∧ e.tb.ns = max d.tb.ns t := by
  obtain ⟨hf, hns⟩ := atRoundPoint_frame d p t
  rw [riseRails_cd9 ((votedStep_atRoundPoint ..).trans h9) ((votedStep_atRoundPoint ..).trans h10)]
  refine ⟨?_, rfl, ?_, hns⟩
  · rw [hf]
  · rw [hf]

/-! ### A site's vote -/

/-- A vote that is sent at a given instant. -/
theorem sendVote_reach (d : Dev) (site t cause : Nat) :
    let e := (d.reach t).sendCtl site d.activePort (.vote .cd9 cause)
    e = { d with tb := e.tb, ba.out := e.ba.out } ∧ e.tb.ns = max d.tb.ns t ∧
      ∀ p, (d.planes site d.activePort).head? = some p → ∃ q ∈ e.ba.out, q.port = site ∧ q.plane = p ∧ q.cell.dst = d.activePort ∧
        q.cell.ctl = some (.vote .cd9 cause) := by
  intro e
  obtain ⟨hf, hns⟩ := reach_frame d t
  refine ⟨?_, ?_, fun p hp => mem_out_sendCtl _ ?_⟩
  · unfold e
    rw [sendCtl_frame, hf]
  · unfold e
    rw [sendCtl_frame]
    exact hns
  · rw [hf]
    exact hp

/-- The parts that a vote rests on do not move with the count. -/
theorem reach_vote (d : Dev) (t site : Nat) (dom : Domain) (railOk staged : Bool) :
    (d.reach t).rd = d.rd ∧ (d.reach t).activePort = d.activePort ∧ (d.reach t).voteCause site dom railOk staged = d.voteCause site dom railOk staged := by
  rw [(reach_frame d t).1]
  refine ⟨rfl, rfl, ?_⟩
  cases dom <;> rfl

theorem frequencyStepVote_in_time {d : Dev} {site : Nat} (ha : d.rd.active = true) (hd : d.rd.done.contains .decision = false)
    (hs : (d.votedStep .cd9).isSome = true) (hv : d.voters.contains site = true)
    (hno : (d.ck.votes.any fun v => v.site == site && v.dom == .cd9) = false) (ht : d.tb.ns ≤ d.rd.start + d.rd.period - 4000) :
    frequencyStepVote site .cd9 true true d =
      (d.reach (d.rd.start + d.rd.period - 5000)).sendCtl site d.activePort (.vote .cd9 (d.voteCause site .cd9 true true)) := by
  obtain ⟨hrd, hport, hcause⟩ := reach_vote d (d.rd.start + d.rd.period - 5000) site .cd9 true true
  have hlate : ¬ d.rd.start + d.rd.period - 4000 < (d.reach (d.rd.start + d.rd.period - 5000)).tb.ns := by
    rw [(reach_frame d _).2]
    omega
  have hnone : (d.votedStep .cd9).isNone = false := by rw [Option.isNone_eq_false_iff, hs]
  unfold frequencyStepVote
  rw [ha, hd, hnone, hv, hno]
  dsimp only
  rw [hrd, if_neg hlate, hport, hcause]
  rfl

/-! ### A vote is heard -/

theorem control_vote {d : Dev} {port plane cause : Nat} {w : Nat × Nat × BCell} (hw : d.headKind port plane 5 = some w)
    (hc : w.2.2.ctl = some (.vote .cd9 cause)) (hp : port = d.activePort) (ha : d.rd.active = true) (hd : d.rd.done.contains .decision = false)
    (hno : (d.ck.votes.any fun v => v.site == w.2.2.src && v.dom == .cd9) = false) (hh : d.fw.handover = none) (hr : d.fw.rangerUp = true)
    (ht : d.tb.ns ≤ d.rd.start + d.rd.period - 4000) :
    control port plane d = { d with
      ba.recv := d.ba.recv.erase w
      ba.ctlIn := (port, .vote .cd9 cause) :: d.ba.ctlIn
      ck.votes := d.ck.votes ++ [{ site := w.2.2.src, dom := .cd9, cause }] } := by
  have hlate : decide (d.rd.start + d.rd.period - 4000 < d.tb.ns) = false := decide_eq_false (Nat.not_lt.mpr ht)
  have hear : ∀ e : Dev, e.rd = d.rd → e.tb = d.tb → e.fw = d.fw → e.ck = d.ck →
      e.hearVote w.2.2.src .cd9 cause = { e with ck.votes := e.ck.votes ++ [{ site := w.2.2.src, dom := .cd9, cause }] } := by
    intro e h1 h2 h3 h4
    unfold Dev.hearVote
    rw [h1, h2, h3, h4, ha, hd, hlate, hh, hr, hno]
    rfl
  unfold control
  rw [hw]
  dsimp only
  rw [hc]
  dsimp only
  unfold Dev.gotCtl Dev.dropCell
  dsimp only
  exact (if_pos hp).trans (hear _ rfl rfl rfl rfl)

/-! ### The decision -/

theorem logWith_frame (d : Dev) (u o c v : Nat) (conts : List (Nat × Nat)) :
    d.logWith u o c v conts = { d with lg := (d.logWith u o c v conts).lg, hg := (d.logWith u o c v conts).hg } :=
  each_keeps (fun e : Dev => e = { d with lg := e.lg, hg := e.hg }) _ (fun x e he => by rw [log_frame, he]) _ _ (log_frame ..)

/-- The decision on a step of CD9 is COMMIT exactly when no voter stands in its way. -/
theorem decideStep_cd9 {d : Dev} {mhz : Nat} (h : d.votedStep .cd9 = some mhz) :
    d.decideStep .cd9 = { d with
      ck.dec9 := some (d.notReady .cd9).isEmpty
      lg := (d.decideStep .cd9).lg
      hg := (d.decideStep .cd9).hg } := by
  unfold Dev.decideStep
  rw [h]
  dsimp only
  split
  case isTrue he => rw [he, notice_frame]; rfl
  case isFalse he => rw [Bool.eq_false_iff.mpr he, logWith_frame]; rfl

theorem decideStep_of_none {d : Dev} {dom : Domain} (h : d.votedStep dom = none) : d.decideStep dom = d := by
  unfold Dev.decideStep
  rw [h]

theorem planes_sendCtl (d : Dev) (src dst : Nat) (m : CtlMsg) : (d.sendCtl src dst m).planes = d.planes := by
  rw [sendCtl_frame]
  rfl

/-- A message that goes to several ports reaches each that a plane leads to. -/
theorem mem_out_each_sendCtl {l : List Nat} {d : Dev} {src dst p : Nat} (m : CtlMsg) (hl : dst ∈ l) (hp : (d.planes src dst).head? = some p) :
    ∃ q ∈ (each l (fun s => Dev.sendCtl src s m) d).ba.out, q.port = src ∧ q.plane = p ∧ q.cell.dst = dst ∧ q.cell.ctl = some m := by
  induction l generalizing d with
  | nil => cases hl
  | cons a l ih =>
    rw [each_cons]
    rcases List.mem_cons.mp hl with rfl | hl
    · obtain ⟨q, hq, hrest⟩ := mem_out_sendCtl m hp
      exact ⟨q, each_keeps (fun e : Dev => q ∈ e.ba.out) _ (fun s e he => out_subset_sendCtl e src s m he) _ _ hq, hrest⟩
    · exact ih hl (by rw [planes_sendCtl]; exact hp)

theorem sendDecision_frame (d : Dev) (dom : Domain) : d.sendDecision dom = { d with ba.out := (d.sendDecision dom).ba.out } := by
  unfold Dev.sendDecision
  split
  · exact each_keeps (fun e : Dev => e = { d with ba.out := e.ba.out }) _ (fun s e he => by rw [sendCtl_frame, he]) _ _ rfl
  · rfl

theorem out_subset_sendDecision (d : Dev) (dom : Domain) : d.ba.out ⊆ (d.sendDecision dom).ba.out := by
  unfold Dev.sendDecision
  split
  · exact each_keeps (fun e : Dev => d.ba.out ⊆ e.ba.out) _ (fun s e he => List.Subset.trans he (out_subset_sendCtl ..)) _ _ fun _ h => h
  · exact fun _ h => h

/-- What the point of the decision does. -/
def Dev.decideAll (d : Dev) : Dev :=
  let d1 := if d.fw.rangerUp ∧ d.fw.handover = none then (((d.decideStep .cd9).decideStep .cd10).sendDecision .cd9).sendDecision .cd10 else d
  { d1 with ck.votes := [] }

theorem frequencyStepDecision_eq (d : Dev) : frequencyStepDecision d = d.onPoint .decision (d.rd.period - 3000) Dev.decideAll := rfl

/-- A decision on CD9 alone. -/
theorem decideAll_cd9 {d : Dev} {mhz : Nat} (h9 : d.votedStep .cd9 = some mhz) (h10 : d.votedStep .cd10 = none) (hr : d.fw.rangerUp = true)
    (hh : d.fw.handover = none) :
    d.decideAll = { ((d.decideStep .cd9).sendDecision .cd9).sendDecision .cd10 with ck.votes := [] } := by
  have hnone : (d.decideStep .cd9).votedStep .cd10 = none := by
    rw [decideStep_cd9 h9]
    exact h10
  unfold Dev.decideAll
  dsimp only
  rw [if_pos ⟨hr, hh⟩, decideStep_of_none hnone]

theorem decideAll_frame {d : Dev} {mhz : Nat} (h9 : d.votedStep .cd9 = some mhz) (h10 : d.votedStep .cd10 = none) (hr : d.fw.rangerUp = true)
    (hh : d.fw.handover = none) :
    d.decideAll = { d with
      ck.dec9 := some (d.notReady .cd9).isEmpty
      ck.votes := []
      lg := d.decideAll.lg
      hg := d.decideAll.hg
      ba.out := d.decideAll.ba.out } := by
  rw [decideAll_cd9 h9 h10 hr hh, sendDecision_frame, sendDecision_frame, decideStep_cd9 h9]

/-- The decision reaches every voter that a plane leads to. -/
theorem mem_out_decideAll {d : Dev} {mhz site p : Nat} (h9 : d.votedStep .cd9 = some mhz) (h10 : d.votedStep .cd10 = none)
    (hr : d.fw.rangerUp = true) (hh : d.fw.handover = none) (hv : d.voters.contains site = true)
    (hp : (d.planes d.activePort site).head? = some p) :
    ∃ q ∈ d.decideAll.ba.out, q.port = d.activePort ∧ q.plane = p ∧ q.cell.dst = site ∧
      q.cell.ctl = some (.decision .cd9 (d.notReady .cd9).isEmpty) := by
  have hd := decideStep_cd9 h9
  have hvoters : (d.decideStep .cd9).voters = d.voters := by rw [hd]; rfl
  have hport : (d.decideStep .cd9).activePort = d.activePort := by rw [hd]; rfl
  have hplanes : (d.decideStep .cd9).planes = d.planes := by rw [hd]; rfl
  have hdec : (d.decideStep .cd9).dec .cd9 = some (d.notReady .cd9).isEmpty := by rw [hd]; rfl
  have hsend : (d.decideStep .cd9).sendDecision .cd9 =
      each d.voters (fun s => Dev.sendCtl d.activePort s (.decision .cd9 (d.notReady .cd9).isEmpty)) (d.decideStep .cd9) := by
    unfold Dev.sendDecision
    rw [hdec, hvoters, hport]
  have hp' : ((d.decideStep .cd9).planes d.activePort site).head? = some p := by rw [hplanes]; exact hp
  obtain ⟨q, hq, hrest⟩ := mem_out_each_sendCtl (.decision .cd9 (d.notReady .cd9).isEmpty) (List.contains_iff_mem.mp hv) hp'
  refine ⟨q, ?_, hrest⟩
  rw [decideAll_cd9 h9 h10 hr hh]
  exact out_subset_sendDecision _ .cd10 (by rw [hsend]; exact hq)

theorem decideAll_atRoundPoint {d : Dev} {mhz : Nat} (site : Nat) (h9 : d.votedStep .cd9 = some mhz) (h10 : d.votedStep .cd10 = none)
    (hr : d.fw.rangerUp = true) (hh : d.fw.handover = none) (p : RoundPoint) (t : Nat) :
    let e := (d.atRoundPoint p t).decideAll
    e = { d with tb := e.tb, rd := e.rd, ck := e.ck, lg := e.lg, hg := e.hg, ba.out := e.ba.out } ∧
      e.ck.dec9 = some (d.notReady .cd9).isEmpty ∧ e.ck.cd9 = d.ck.cd9 ∧ e.ck.votes = [] ∧
      ∀ p, d.voters.contains site = true → (d.planes d.activePort site).head? = some p → ∃ q ∈ e.ba.out, q.port = d.activePort ∧ q.plane = p ∧
        q.cell.dst = site ∧ q.cell.ctl = some (.decision .cd9 (d.notReady .cd9).isEmpty) := by
  obtain ⟨hf, hns⟩ := atRoundPoint_frame d p t
  have h9' := (votedStep_atRoundPoint d p t .cd9).trans h9
  have h10' := (votedStep_atRoundPoint d p t .cd10).trans h10
  have hr' : (d.atRoundPoint p t).fw.rangerUp = true := by rw [hf]; exact hr
  have hh' : (d.atRoundPoint p t).fw.handover = none := by rw [hf]; exact hh
  have hready : (d.atRoundPoint p t).notReady .cd9 = d.notReady .cd9 := by rw [hf]; rfl
  have hframe := decideAll_frame h9' h10' hr' hh'
  refine ⟨?_, ?_, ?_, ?_, fun q hv hq => ?_⟩
  · rw [hframe, hf]
  · rw [hframe, ← hready]
  · rw [hframe, hf]
  · rw [hframe]
  · have hv' : (d.atRoundPoint p t).voters.contains site = true := by rw [hf]; exact hv
    have hq' : ((d.atRoundPoint p t).planes (d.atRoundPoint p t).activePort site).head? = some q := by rw [hf]; exact hq
    have := mem_out_decideAll h9' h10' hr' hh' hv' hq'
    rwa [hready, show (d.atRoundPoint p t).activePort = d.activePort by rw [hf]; rfl] at this

/-! ### A site without the decision -/

/-- What the point that misses decisions does. -/
def Dev.nameMissing (sites : List Nat) (d : Dev) : Dev :=
  let no := d.voters.filter sites.contains
  if no.isEmpty then d
  else ({ d with ck.noDecision := no }).logWith 0 0 0x0403 no.length (no.map fun s => (siteUnit s, 0))

theorem stepDecisionMissing_of_dec {d : Dev} {commit : Bool} (h : d.ck.dec9 = some commit) (sites : List Nat) :
    stepDecisionMissing sites d = d.onPoint .missing (d.rd.period - 1000) (Dev.nameMissing sites) := by
  unfold stepDecisionMissing
  rw [if_neg (by simp [h])]
  rfl

theorem nameMissing_atRoundPoint {d : Dev} {site : Nat} (hv : d.voters.contains site = true) (p : RoundPoint) (t : Nat) :
    let e := (d.atRoundPoint p t).nameMissing [site]
    e = { d with tb := e.tb, rd := e.rd, ck := e.ck, lg := e.lg, hg := e.hg } ∧ e.ck.noDecision = d.voters.filter [site].contains := by
  obtain ⟨hf, -⟩ := atRoundPoint_frame d p t
  have hvoters : (d.atRoundPoint p t).voters = d.voters := by rw [hf]; rfl
  have hmem : site ∈ d.voters.filter [site].contains := List.mem_filter.mpr ⟨List.contains_iff_mem.mp hv, by simp⟩
  have hne : ¬ (d.voters.filter [site].contains).isEmpty = true := by
    rw [List.isEmpty_iff]
    exact List.ne_nil_of_mem hmem
  unfold Dev.nameMissing
  dsimp only
  rw [hvoters, if_neg hne, logWith_frame]
  exact ⟨by rw [hf], rfl⟩

theorem mem_filter_self {site : Nat} {l : List Nat} (h : l.contains site = true) : site ∈ l.filter [site].contains :=
  List.mem_filter.mpr ⟨List.contains_iff_mem.mp h, by simp⟩

/-- Settles O27. -/
theorem frequencyVote : Obligations.FrequencyVote := by
  rintro ⟨d, pending⟩ site mhz ha
  dsimp only at ha ⊢
  refine ⟨fun hp h9 h10 => ?rise, fun hs hd h9 hv hno ht => ?vote, fun port plane w cause hport hplane hw hc hp hd hno hh hr ht => ?hears,
    fun hd h9 h10 hr hh => ?decides, fun hm hd hv hs => ?missing⟩
  case rise =>
    have hrun : voltageRiseStart d = _ := (voltageRiseStart_eq d).trans (onPoint_atRoundPoint ha hp ..)
    obtain ⟨h1, h2, h3, h4⟩ := riseRails_atRoundPoint h9 h10 .voltRise (d.rd.start + (d.rd.period - 50000))
    rw [← hrun] at h1 h2 h3 h4
    exact ⟨_, run_of_wf rfl _, congrArg (fun e => (State.mk e pending)) h1, h2, h3, h4⟩
  case vote =>
    have hw : (Instr.frequencyStepVote site .cd9 true true).wf = true := hs
    have hrun := frequencyStepVote_in_time ha hd (by rw [h9]; rfl) hv hno ht
    obtain ⟨h1, h2, h3⟩ := sendVote_reach d site (d.rd.start + d.rd.period - 5000) (d.voteCause site .cd9 true true)
    rw [← hrun] at h1 h2 h3
    exact ⟨_, run_of_wf hw _, congrArg (fun e => (State.mk e pending)) h1, h2, h3⟩
  case hears =>
    have hwf : (Instr.control port plane).wf = true := by
      show (decide (port < 55) && decide (plane < 4)) = true
      simp only [Bool.and_eq_true, decide_eq_true_eq]
      omega
    have hrun := control_vote hw hc hp ha hd hno hh hr ht
    refine ⟨State.mk (control port plane d) pending, run_of_wf hwf _, ?_, ?_⟩
    · rw [hrun]
    · rw [hrun]
  case decides =>
    have hrun : frequencyStepDecision d = _ := (frequencyStepDecision_eq d).trans (onPoint_atRoundPoint ha hd ..)
    obtain ⟨h1, h2⟩ := decideAll_atRoundPoint site h9 h10 hr hh .decision (d.rd.start + (d.rd.period - 3000))
    rw [← hrun] at h1 h2
    exact ⟨_, run_of_wf rfl _, congrArg (fun e => (State.mk e pending)) h1, h2⟩
  case missing =>
    have hw : (Instr.stepDecisionMissing [site]).wf = true := by
      show [site].all isComputeSite = true
      simpa using hs
    have hrun : stepDecisionMissing [site] d = _ := (stepDecisionMissing_of_dec hd [site]).trans (onPoint_atRoundPoint ha hm ..)
    obtain ⟨h1, h2⟩ := nameMissing_atRoundPoint hv .missing (d.rd.start + (d.rd.period - 1000))
    rw [← hrun] at h1 h2
    refine ⟨_, run_of_wf hw _, congrArg (fun e => (State.mk e pending)) h1, h2, ?_⟩
    dsimp only
    rw [h2]
    exact mem_filter_self hv

end Sys2Proof.Machine
end

section
/-!
PROOFS. Power and temperature (chapter 14): the input supply, the limiters and the Trickle ratio.
-/

set_option Elab.async false

namespace Sys2Proof.Machine

/-! ## The input (R401) -/

theorem inputUndervoltage_of_good {d : Dev} {dv : Nat} (h : 400 ≤ dv) : inputUndervoltage dv d = { d with pw.volts := dv } := if_pos h

/-- Below 40 V the device restarts, and what is then in force is what a restart leaves. -/
theorem inputUndervoltage_of_low {d : Dev} {dv : Nat} (h : dv < 400) :
    let e := inputUndervoltage dv d
    e.pw.volts = dv ∧ e.pw.inputGood = false ∧ e.bu.running = false ∧ e.hg.devState = .bringup ∧ e.mem.cells = [] ∧
      e.fw.fuseF = d.fw.fuseF ∧ e.lg.entries = d.lg.entries := by
  unfold inputUndervoltage
  rw [if_neg (Nat.not_le.mpr h)]
  exact ⟨rfl, rfl, rfl, rfl, rfl, rfl, rfl⟩

theorem inputRestored_of_low_input {d : Dev} {dv : Nat} (h : 420 ≤ dv) (hg : d.pw.inputGood = false) (hp : d.bu.perst = false) :
    inputRestored dv d = Dev.notice 0 0 { d with
      pw.volts := dv
      pw.inputGood := true
      bu.running := true
      bu.stageStart := 0
      tb.ns := 0
      tb.frac := 0
      ts.pinsHeld := 0 } := by
  unfold inputRestored
  rw [if_neg (by simp [hg]; omega), hp]
  rfl

/-- Settles O28. -/
theorem inputSupply : Obligations.InputSupply := by
  intro s dv
  refine ⟨fun h => ?low, fun h => ?good, fun h hg hp => ?restored⟩
  case low => exact ⟨_, run_of_wf rfl _, rfl, inputUndervoltage_of_low h⟩
  case good => exact (run_of_wf rfl _).trans (by rw [inputUndervoltage_of_good h])
  case restored =>
    refine ⟨{ s with dev := inputRestored dv s.dev }, run_of_wf rfl _, ?_⟩
    dsimp only
    rw [inputRestored_of_low_input h hg hp, notice_frame]
    exact ⟨rfl, rfl, rfl, rfl⟩

/-! ## The limiters (R405, R406) -/

theorem limiter_onLimiter (d : Dev) (site : Option Nat) (f : Limiter → Limiter) (hf : ∀ l, (f l).site = l.site) :
    (d.onLimiter site f).limiter site = f (d.limiter site) := by
  refine lookup_upsert _ _ f ?_ ?_ _ <;> simp [hf, Limiter.fresh]

/-- The power axis rests on the limiters and leaves them. -/
theorem powerAxis_limiters (d : Dev) : d.powerAxis.pw.limiters = d.pw.limiters := by
  have key : ∀ (a : Nat) (e : Dev),
      (if a = e.pw.axis then e
        else
          let x := ({ e with pw.axis := a, th.alert := decide (a = 2) || e.hg.devState == DevState.safeHold } : Dev).log 0 0 0x0502 a
          if a = 0 then x else x.raiseInt 4).pw.limiters = e.pw.limiters := by
    intro a e
    split
    · rfl
    · dsimp only
      split
      · rw [log_frame]
      · rw [raiseInt_frame, log_frame]
  exact key _ d.throttleClock

theorem limiter_powerAxis (d : Dev) (site : Option Nat) : d.powerAxis.limiter site = d.limiter site := by
  rw [Dev.limiter, powerAxis_limiters]
  rfl

/-- What a limiter's step changes: the limiter, and what the power axis makes of it. -/
theorem powerAxis_onLimiter_frame (d : Dev) (site : Option Nat) (f : Limiter → Limiter) :
    let e := (d.onLimiter site f).powerAxis
    e = { d with pw := e.pw, th := e.th, lg := e.lg, hg := e.hg } := by
  dsimp only
  rw [powerAxis_frame]
  rfl

/-- The same at a given instant. -/
theorem limiter_reach (d : Dev) (site : Option Nat) (t : Nat) (f : Limiter → Limiter) (hf : ∀ l, (f l).site = l.site) :
    let e := ((d.reach t).onLimiter site f).powerAxis
    e = { d with pw := e.pw, th := e.th, lg := e.lg, hg := e.hg, tb := e.tb } ∧ e.tb.ns = max d.tb.ns t ∧ e.limiter site = f (d.limiter site) := by
  obtain ⟨h, hns⟩ := reach_frame d t
  refine ⟨?_, ?_, ?_⟩
  · rw [powerAxis_onLimiter_frame, h]
  · rw [powerAxis_onLimiter_frame]
    exact hns
  · rw [limiter_powerAxis, limiter_onLimiter _ _ _ hf, Dev.limiter, h]
    rfl

/-- A reading joins the newest thousand, and one above 1.15 of the limit adds to the skipping. -/
def Limiter.sampled (limit mw : Nat) (l : Limiter) : Limiter :=
  { l with readings := (mw :: l.readings).take 1000, skip := if limit * 115 < mw * 100 then min 16 (l.skip + 2) else l.skip }

theorem powerSample_site {d : Dev} (h : d.fw.handover = none) (site mw dv : Nat) :
    powerSample (some site) mw dv d = (d.onLimiter (some site) (Limiter.sampled (d.limitOf (some site)) mw)).powerAxis := by
  unfold powerSample
  rw [h]
  simp only [Option.isSome_none, Bool.false_eq_true, if_false, decide_eq_true_eq]
  rfl

/-- A limiter at its 10 µs step (R406). -/
def Limiter.stepped (above : Bool) (off ratio now : Nat) (l : Limiter) : Limiter :=
  { (if !above then l
    else if off < ratio then { l with trickleOff := l.trickleOff + 1 }
    else if l.skip < 12 then { l with skip := l.skip + 1 }
    else l) with lastStep := now }

theorem site_stepped (above : Bool) (off ratio now : Nat) (l : Limiter) : (l.stepped above off ratio now).site = l.site := by
  unfold Limiter.stepped
  dsimp only
  split
  · rfl
  · split
    · rfl
    · split <;> rfl

/-- Without a Trickle ratio to step down, the skipping steps. -/
theorem skip_stepped {above : Bool} {off ratio now : Nat} {l : Limiter} (h : above = true → ratio = 0 ∧ l.skip < 12) :
    (l.stepped above off ratio now).skip = if above then l.skip + 1 else l.skip := by
  unfold Limiter.stepped
  cases above
  case false => rfl
  case true =>
    obtain ⟨hr, hs⟩ := h rfl
    subst hr
    dsimp only
    rw [if_neg (by decide), if_neg (Nat.not_lt_zero _), if_pos hs, if_pos rfl]

/-- What a step of a limiter does, its comparison abstracted: the kernel would evaluate it. -/
theorem onLimiter_stepped (above : Bool) (off ratio : Nat) (site : Option Nat) (d1 : Dev) :
    (let step := fun (l : Limiter) =>
      if !above then l
      else if off < ratio then { l with trickleOff := l.trickleOff + 1 }
      else if l.skip < 12 then { l with skip := l.skip + 1 }
      else l
    (d1.onLimiter site fun l => { step l with lastStep := d1.tb.ns }).powerAxis) =
      (d1.onLimiter site (Limiter.stepped above off ratio d1.tb.ns)).powerAxis := rfl

theorem limiterStep_site {d : Dev} (h : d.fw.handover = none) (site : Nat) :
    let l := d.limiter (some site)
    let d1 := d.reach (l.lastStep + 10000)
    limiterStep (some site) d = (d1.onLimiter (some site) (Limiter.stepped (decide (d.limitOf (some site) * 98 < l.mean * 100))
      (l.trickleOff + (d.limiter none).trickleOff) d.pw.trickleRatio d1.tb.ns)).powerAxis := by
  have hn : ¬ d.fw.handover.isSome = true := by rw [h]; decide
  intro l d1
  unfold limiterStep
  rw [if_neg hn]
  exact onLimiter_stepped _ _ _ _ _

/-- A limiter at its release of 100 µs (R406). -/
def Limiter.released (under : Bool) (now : Nat) (l : Limiter) : Limiter :=
  { (if !under then l
    else if 0 < l.skip then { l with skip := l.skip - 1 }
    else { l with trickleOff := l.trickleOff - 1 }) with lastUndo := now }

theorem site_released (under : Bool) (now : Nat) (l : Limiter) : (l.released under now).site = l.site := by
  unfold Limiter.released
  dsimp only
  split
  · rfl
  · split <;> rfl

theorem released_of_skip {now : Nat} {l : Limiter} (h : 0 < l.skip) :
    (l.released true now).skip = l.skip - 1 ∧ (l.released true now).trickleOff = l.trickleOff := by
  unfold Limiter.released
  dsimp only
  rw [if_neg (by decide), if_pos h]
  exact ⟨rfl, rfl⟩

/-- What a release of a limiter does, its comparison abstracted. -/
theorem onLimiter_released (under : Bool) (site : Option Nat) (d1 : Dev) :
    (let undo := fun (l : Limiter) =>
      if !under then l
      else if 0 < l.skip then { l with skip := l.skip - 1 }
      else { l with trickleOff := l.trickleOff - 1 }
    (d1.onLimiter site fun l => { undo l with lastUndo := d1.tb.ns }).powerAxis) =
      (d1.onLimiter site (Limiter.released under d1.tb.ns)).powerAxis := rfl

theorem limiterRelease_site {d : Dev} (h : d.fw.handover = none) (site : Nat) :
    let l := d.limiter (some site)
    let d1 := d.reach (l.lastUndo + 100000)
    limiterRelease (some site) d =
      (d1.onLimiter (some site) (Limiter.released (decide (l.mean * 100 < d.limitOf (some site) * 95)) d1.tb.ns)).powerAxis := by
  have hn : ¬ d.fw.handover.isSome = true := by rw [h]; decide
  intro l d1
  unfold limiterRelease
  rw [if_neg hn]
  exact onLimiter_released _ _ _

theorem limiter_of_handover {d : Dev} (h : d.fw.handover.isSome = true) (site : Option Nat) :
    limiterStep site d = d ∧ limiterRelease site d = d := ⟨if_pos h, if_pos h⟩

/-! ## The Trickle ratio (R410) -/

theorem trickleRatio_reach (d : Dev) (t ratio : Nat) :
    let d1 := d.reach t
    let e := { d1 with pw.trickleStep := d1.tb.ns, pw.trickleRatio := ratio }
    e = { d with pw := e.pw, th := e.th, lg := e.lg, hg := e.hg, tb := e.tb } ∧ e.tb.ns = max d.tb.ns t := by
  obtain ⟨h, hns⟩ := reach_frame d t
  refine ⟨?_, hns⟩
  rw [h]

theorem trickleRatioStep_of_target {d : Dev} (ht : d.trickleTarget ≠ d.pw.trickleRatio) (hs : d.hg.devState ≠ .safeHold) (hh : d.fw.handover = none) :
    let d1 := d.reach (d.pw.trickleStep + 100000)
    trickleRatioStep d = { d1 with
      pw.trickleStep := d1.tb.ns
      pw.trickleRatio := if d.trickleTarget < d.pw.trickleRatio then d.pw.trickleRatio - 1 else d.pw.trickleRatio + 1 } := by
  have hn : ¬ (d.trickleTarget = d.pw.trickleRatio ∨ d.hg.devState = .safeHold ∨ d.fw.handover.isSome = true) := by simp [ht, hs, hh]
  have hpw : (d.reach (d.pw.trickleStep + 100000)).pw = d.pw := by rw [(reach_frame d _).1]
  unfold trickleRatioStep
  dsimp only
  rw [if_neg hn, hpw]

/-! ## The shares of the power cap (R405) -/

theorem share_mul_le (d : Dev) (p : PowerPart) : d.share p * 15000 ≤ d.pw.effCap * (p.watts * 1000) := Nat.div_mul_le_self ..

theorem lt_share_succ_mul (d : Dev) (p : PowerPart) : d.pw.effCap * (p.watts * 1000) < (d.share p + 1) * 15000 := by
  unfold Dev.share
  generalize d.pw.effCap * (p.watts * 1000) = x
  omega

/-- Parts whose share of 15 kW is at most their part of `x` stay within `x` together. -/
theorem sum_le_of_share_le (f : PowerPart → Nat) (x : Nat) (h : ∀ p : PowerPart, f p * 15000 ≤ x * (p.watts * 1000)) :
    (([PowerPart.compute, .memory, .basin, .ioRing, .conversion]).map fun p => p.number * f p).sum ≤ x * 1000 := by
  have h1 := h .compute
  have h2 := h .memory
  have h3 := h .basin
  have h4 := h .ioRing
  have h5 := h .conversion
  simp only [PowerPart.watts] at h1 h2 h3 h4 h5
  simp only [PowerPart.number, List.map_cons, List.map_nil, List.sum_cons, List.sum_nil]
  omega

/-- All parts together stay within the cap. -/
theorem sum_share_le (d : Dev) :
    (([PowerPart.compute, .memory, .basin, .ioRing, .conversion]).map fun p => p.number * d.share p).sum ≤ d.pw.effCap * 1000 :=
  sum_le_of_share_le d.share d.pw.effCap (share_mul_le d)

/-- Settles O29. -/
theorem powerLimits : Obligations.PowerLimits := by
  rintro ⟨d, pending⟩ site mw dv hs
  have hw1 : (Instr.powerSample (some site) mw dv).wf = true := hs
  have hw2 : (Instr.limiterStep (some site)).wf = true := hs
  have hw3 : (Instr.limiterRelease (some site)).wf = true := hs
  dsimp only
  refine ⟨fun hh => ?sample, fun hh => ⟨?_, ?_⟩, fun hh hcase => ?step, fun hh => ?release, fun ht hst hh => ?trickle, fun hcap => ?full,
    sum_share_le d, share_mul_le d, lt_share_succ_mul d⟩
  case sample =>
    have hd := powerSample_site hh site mw dv
    refine ⟨State.mk (powerSample (some site) mw dv d) pending, run_of_wf hw1 _, ?_, ?_, ?_⟩
    · dsimp only
      rw [hd, powerAxis_onLimiter_frame]
    · rw [hd, powerAxis_onLimiter_frame] <;> rfl
    · rw [hd, limiter_powerAxis, limiter_onLimiter _ _ _ fun _ => by rfl] <;> rfl
  · exact (run_of_wf hw2 _).trans (by rw [(limiter_of_handover hh _).1])
  · exact (run_of_wf hw3 _).trans (by rw [(limiter_of_handover hh _).2])
  case step =>
    obtain ⟨h1, h2, h3⟩ := limiter_reach d (some site) ((d.limiter (some site)).lastStep + 10000) _ (site_stepped _ _ _ _)
    rw [← limiterStep_site hh] at h1 h2 h3
    refine ⟨_, run_of_wf hw2 _, congrArg (fun e => State.mk e pending) h1, h2, ?_⟩
    dsimp only
    rw [h3, skip_stepped (fun habove => ?_)]
    · simp only [decide_eq_true_eq]
    · rcases hcase with hle | ⟨hr, hskip⟩
      · exact absurd (of_decide_eq_true habove) (Nat.not_lt.mpr hle)
      · exact ⟨hr, hskip⟩
  case release =>
    obtain ⟨h1, h2, h3⟩ := limiter_reach d (some site) ((d.limiter (some site)).lastUndo + 100000) _ (site_released _ _)
    rw [← limiterRelease_site hh] at h1 h2 h3
    refine ⟨_, run_of_wf hw3 _, congrArg (fun e => State.mk e pending) h1, h2, fun hunder hskip => ?_, fun hover => ?_⟩
    · dsimp only
      rw [h3, decide_eq_true hunder]
      exact released_of_skip hskip
    · dsimp only
      rw [h3, decide_eq_false (Nat.not_lt.mpr hover)]
      rfl
  case trickle =>
    obtain ⟨h1, h2⟩ := trickleRatio_reach d (d.pw.trickleStep + 100000)
      (if d.trickleTarget < d.pw.trickleRatio then d.pw.trickleRatio - 1 else d.pw.trickleRatio + 1)
    rw [← trickleRatioStep_of_target ht hst hh] at h1 h2
    refine ⟨_, run_of_wf rfl _, congrArg (fun e => State.mk e pending) h1, h2, ?_⟩
    dsimp only
    rw [trickleRatioStep_of_target ht hst hh]
  case full =>
    simp only [List.map_cons, List.map_nil, Dev.share, hcap, PowerPart.watts]

end Sys2Proof.Machine
end

section
/-!
PROOFS. Thermal demands (chapter 14, R411 to R415): what a sample and the timers of a throttle do, and the rate of a zone.
-/

set_option Elab.async false

namespace Sys2Proof.Machine

/-! ## The lowest of some numbers -/

/-- The lowest of a number and a list is the greatest bound of them all. -/
theorem le_foldl_min_iff {l : List Nat} {a r : Nat} : r ≤ l.foldl min a ↔ r ≤ a ∧ ∀ x ∈ l, r ≤ x := by
  induction l generalizing a with
  | nil => simp
  | cons b l ih => simp [ih, and_assoc]

theorem foldl_min_mem (l : List Nat) (a : Nat) : l.foldl min a = a ∨ l.foldl min a ∈ l := by
  induction l generalizing a with
  | nil => exact .inl rfl
  | cons b l ih =>
    rw [List.foldl_cons]
    rcases ih (min a b) with h | h
    · rw [h]
      rcases Nat.le_total a b with hab | hab
      · exact .inl (Nat.min_eq_left hab)
      · exact .inr (List.mem_cons.mpr (.inl (Nat.min_eq_right hab)))
    · exact .inr (List.mem_cons_of_mem _ h)

/-! ## Rates (R101, R415) -/

/-- The rate of a zone is the greatest number below the rates of all that act on it. -/
theorem le_zoneRate_iff (d : Dev) (site zone r : Nat) :
    r ≤ d.zoneRate site zone ↔ (∀ x ∈ d.th.throttles, x.site = site → x.zone = zone → r ≤ (16 - x.skip) * 4 / x.div) ∧
      r ≤ (16 - (d.limiter (some site)).skip) * 4 ∧ r ≤ (16 - min 16 ((d.limiter none).skip + d.pw.ramp.length)) * 4 := by
  simp only [Dev.zoneRate, le_foldl_min_iff, rate64, Nat.div_one, Nat.le_min, List.mem_map, List.mem_filter, Bool.and_eq_true, beq_iff_eq,
    forall_exists_index, and_imp, forall_apply_eq_imp_iff₂]
  constructor
  · rintro ⟨⟨hpackage, hsite⟩, hown⟩
    exact ⟨fun x hx h1 h2 => hown _ x hx h1 h2 rfl, hsite, hpackage⟩
  · rintro ⟨hown, hsite, hpackage⟩
    exact ⟨⟨hpackage, hsite⟩, fun _ x hx h1 h2 h => h ▸ hown x hx h1 h2⟩

theorem zoneRate_le (d : Dev) (site zone : Nat) : d.zoneRate site zone ≤ 64 := by
  have := ((le_zoneRate_iff d site zone _).mp (Nat.le_refl _)).2.1
  omega

theorem coreRate_le (d : Dev) (core : Nat) : d.coreRate core ≤ 64 := by
  unfold Dev.coreRate
  cases d.corePlace core with
  | none => exact Nat.zero_le _
  | some p => exact zoneRate_le ..

theorem shareRate_le_coreRate (d : Dev) {cores : List Nat} {c : Nat} (hc : c ∈ cores) : d.shareRate cores ≤ d.coreRate c :=
  (le_foldl_min_iff.mp (Nat.le_refl _)).2 _ (List.mem_map_of_mem hc)

/-- A share goes at the rate of one of its cores. -/
theorem exists_shareRate_eq (d : Dev) {cores : List Nat} (hne : cores ≠ []) : ∃ c ∈ cores, d.shareRate cores = d.coreRate c := by
  rcases foldl_min_mem (cores.map d.coreRate) 64 with h | h
  · obtain ⟨c, hc⟩ := List.exists_mem_of_ne_nil cores hne
    refine ⟨c, hc, Nat.le_antisymm (shareRate_le_coreRate d hc) ?_⟩
    rw [show d.shareRate cores = 64 from h]
    exact coreRate_le d c
  · obtain ⟨c, hc, he⟩ := List.mem_map.mp h
    exact ⟨c, hc, he.symm⟩

/-! ## A throttle's state under its updates -/

theorem find?_upsert_of_some {α : Type} {p : α → Bool} {f : α → α} {l : List α} {x : α} (fresh : α) (hf : ∀ a, p a = true → p (f a) = true)
    (h : l.find? p = some x) : (upsert p fresh f l).find? p = some (f x) := by
  induction l with
  | nil => cases h
  | cons a l ih =>
    by_cases ha : p a = true
    · rw [List.find?_cons_of_pos ha] at h
      obtain rfl := Option.some.inj h
      rw [upsert, if_pos ha, List.find?_cons_of_pos (hf a ha)]
    · rw [List.find?_cons_of_neg ha] at h
      rw [upsert, if_neg ha, List.find?_cons_of_neg ha]
      exact ih h

theorem powerAxis_throttles (d : Dev) : d.powerAxis.th.throttles = d.th.throttles ∧ d.powerAxis.th.sensors = d.th.sensors := by
  have key : ∀ (a : Nat) (e : Dev),
      let r := if a = e.pw.axis then e
        else
          let x := ({ e with pw.axis := a, th.alert := decide (a = 2) || e.hg.devState == DevState.safeHold } : Dev).log 0 0 0x0502 a
          if a = 0 then x else x.raiseInt 4
      r.th.throttles = e.th.throttles ∧ r.th.sensors = e.th.sensors := by
    intro a e
    dsimp only
    split
    · exact ⟨rfl, rfl⟩
    · split
      · rw [log_frame]
        exact ⟨rfl, rfl⟩
      · rw [raiseInt_frame, log_frame]
        exact ⟨rfl, rfl⟩
  exact key _ d.throttleClock

/-- With a throttle in force the power axis stands at THROTTLED. -/
theorem powerAxis_axis_of_throttled {d : Dev} (h : d.th.throttles.any (fun t => decide (0 < t.skip) || decide (1 < t.div)) = true) :
    d.powerAxis.pw.axis = 2 := by
  have key : ∀ e : Dev,
      (if 2 = e.pw.axis then e
        else
          let x := ({ e with pw.axis := 2, th.alert := decide (2 = 2) || e.hg.devState == DevState.safeHold } : Dev).log 0 0 0x0502 2
          if 2 = 0 then x else x.raiseInt 4).pw.axis = 2 := by
    intro e
    split
    · exact Eq.symm ‹_›
    · dsimp only
      rw [if_neg (by decide), raiseInt_frame, log_frame]
  have h' : d.throttleClock.th.throttles.any (fun t => decide (0 < t.skip) || decide (1 < t.div)) = true := h
  have := key d.throttleClock
  unfold Dev.powerAxis
  simp only [h', Bool.true_or, if_true]
  exact this

/-- A throttle's update at a given instant: what it changes, and what the throttle then is. -/
theorem throttle_reach {d : Dev} {site zone : Nat} {source : DemandSource} {x : Throttle}
    (hx : d.th.throttles.find? (Throttle.is site zone source) = some x) (t : Nat) (f : Throttle → Throttle)
    (hf : ∀ y, (f y).site = y.site ∧ (f y).zone = y.zone ∧ (f y).source = y.source) :
    let e := ((d.reach t).onThrottle site zone source f).powerAxis
    e = { d with pw := e.pw, th := e.th, lg := e.lg, hg := e.hg, tb := e.tb } ∧ e.tb.ns = max d.tb.ns t ∧
      e.th.throttles.find? (Throttle.is site zone source) = some (f x) := by
  obtain ⟨h, hns⟩ := reach_frame d t
  have his : ∀ y, Throttle.is site zone source y = true → Throttle.is site zone source (f y) = true := fun y hy => by
    obtain ⟨h1, h2, h3⟩ := hf y
    simpa only [Throttle.is, h1, h2, h3] using hy
  have hth : (d.reach t).th = d.th := by rw [h]
  refine ⟨?_, ?_, ?_⟩
  · rw [powerAxis_frame, Dev.onThrottle, h]
  · rw [powerAxis_frame]
    exact hns
  · rw [(powerAxis_throttles _).1, Dev.onThrottle, hth]
    exact find?_upsert_of_some _ his hx

/-! ## The timers (R414) -/

theorem throttleDividerTimer_of_above {d : Dev} {site zone : Nat} {source : DemandSource} {x : Throttle}
    (hx : d.th.throttles.find? (Throttle.is site zone source) = some x) (hh : d.fw.handover = none) (ha : x.above = true) (hd : x.div < 4) :
    let d1 := d.reach (x.aboveSince + 1000000)
    throttleDividerTimer site zone source d =
      (d1.onThrottle site zone source fun t => { t with div := t.div * 2, skip := 0, aboveSince := d1.tb.ns }).powerAxis := by
  unfold throttleDividerTimer
  rw [hh, hx]
  dsimp only
  rw [if_neg (by decide), if_pos ha, if_neg (Nat.not_le.mpr hd)]

/-- The throttle after its skipping has fallen. -/
def Throttle.fallen (source : DemandSource) (now : Nat) (t : Throttle) : Throttle :=
  { t with
    skip := t.skip - 1
    below2 := some now
    below5 := if t.skip = 1 ∧ t.last.any (· < demandOf source - 50) then some now else none }

theorem throttleSkipDecay_of_below {d : Dev} {site zone b : Nat} {source : DemandSource} {x : Throttle}
    (hx : d.th.throttles.find? (Throttle.is site zone source) = some x) (hh : d.fw.handover = none) (hb : x.below2 = some b) (hs : 0 < x.skip) :
    let d1 := d.reach (b + 100000)
    throttleSkipDecay site zone source d = (d1.onThrottle site zone source (Throttle.fallen source d1.tb.ns)).powerAxis := by
  unfold throttleSkipDecay
  rw [hh, hx]
  dsimp only
  rw [if_neg (by decide), hb]
  dsimp only
  rw [if_neg (Nat.pos_iff_ne_zero.mp hs)]
  rfl

theorem throttle_of_handover {d : Dev} (h : d.fw.handover.isSome = true) (site zone : Nat) (source : DemandSource) :
    throttleDividerTimer site zone source d = d ∧ throttleSkipDecay site zone source d = d := ⟨if_pos h, if_pos h⟩

/-! ## A first sample (R411, R413) -/

theorem flashTemp_other {d : Dev} {die idx : Nat} (h : die ≠ 49) (v : Int) : d.flashTemp die idx v = d := if_neg fun hc => h hc.1

/-- The first sensor sampled has no neighbours to be judged by. -/
theorem judge_first {d : Dev} (hs : d.th.sensors = []) (die idx : Nat) (v : Int) :
    d.judge die idx v = { d with th.sensors := [Sensor.fresh die idx v] } := by
  have hfind : [Sensor.fresh die idx v].find? (fun s => s.die == die && s.idx == idx) = some (Sensor.fresh die idx v) :=
    List.find?_cons_of_pos (by simp [Sensor.fresh])
  have hnear : [Sensor.fresh die idx v].filter (fun s => s.die == die && nearby die idx s.idx && !s.stale) = [] := by
    simp [Sensor.fresh, nearby]
  have hups : upsert (fun s : Sensor => s.die == die && s.idx == idx) (Sensor.fresh die idx v) (fun s => { s with reading := v, stale := false }) [] =
      [Sensor.fresh die idx v] := rfl
  unfold Dev.judge
  dsimp only
  rw [hs, hups]
  rw [hfind]
  dsimp only [Dev.neighbours]
  exact if_pos (by rw [hnear]; rfl)

/-- A Canopy value that is not above 105 °C. -/
theorem demand_canopy {d : Dev} {v : Int} (hv : v ≤ 1050) (site zone : Nat) :
    d.demand site zone .canopy v = d.onThrottle site zone .canopy (Throttle.sample v d.tb.ns) := by
  have hhot : decide (1050 < v) = false := decide_eq_false (by omega)
  unfold Dev.demand
  rw [hhot]
  rfl

theorem cooling_of_not_tripped {d : Dev} (h : d.th.tripped = none) : d.cooling = d := by
  unfold Dev.cooling
  rw [h]
  rfl

theorem sensorCount_canopy {site : Nat} (h : isComputeSite site = true) : sensorCount (0x100 + site) = 8 := by
  simp only [isComputeSite, Bool.and_eq_true, decide_eq_true_eq] at h
  obtain ⟨h1, h2⟩ := h
  have hc : isCompute (0x100 + site) = false := by
    simp only [isCompute, Bool.and_eq_false_iff, decide_eq_false_iff_not]
    omega
  have hm : isMemory (0x100 + site) = false := by
    simp only [isMemory, Bool.or_eq_false_iff, Bool.and_eq_false_iff, decide_eq_false_iff_not]
    omega
  have hs : isCompute (0x100 + site - 0x100) = true := by
    rw [Nat.add_sub_cancel_left]
    simp [isCompute, h1, h2]
  unfold sensorCount
  rw [hc, hm, if_neg Bool.false_ne_true, if_neg Bool.false_ne_true, if_neg (by omega), if_neg (by omega), if_neg (by omega),
    if_pos ⟨by omega, hs⟩]

/-- A first value at or above the demand starts the skipping. -/
theorem sample_first {v : Int} (hv : 1000 ≤ v) (site zone now : Nat) :
    let t := (Throttle.fresh site zone .canopy).sample v now
    t.site = site ∧ t.zone = zone ∧ t.source = .canopy ∧ t.skip = 1 ∧ t.div = 1 := by
  have hd : demandOf (Throttle.fresh site zone .canopy).source ≤ v := hv
  unfold Throttle.sample
  dsimp only
  rw [if_pos hd]
  exact ⟨rfl, rfl, rfl, rfl, rfl⟩

/-- The first sample of a Canopy sensor, at or above the demand: the sensor, and the throttle of its zone. -/
theorem sensorSample_first {d : Dev} {site zone : Nat} {v : Int} (hsite : isComputeSite site = true) (hz : zone < 8) (hs : d.th.sensors = [])
    (ht : d.th.throttles = []) (htr : d.th.tripped = none) (hh : d.fw.handover = none) (hlo : 1000 ≤ v) (hhi : v ≤ 1050) :
    sensorSample (0x100 + site) zone v d = Dev.powerAxis { d with
      th.sensors := [Sensor.fresh (0x100 + site) zone v]
      th.throttles := [(Throttle.fresh site zone .canopy).sample v d.tb.ns] } := by
  have hups : upsert (Throttle.is site zone .canopy) (Throttle.fresh site zone .canopy) (Throttle.sample v d.tb.ns) [] =
      [(Throttle.fresh site zone .canopy).sample v d.tb.ns] := rfl
  unfold sensorSample
  rw [hh, sensorCount_canopy hsite, if_neg (by simp; omega), flashTemp_other (by omega), judge_first hs]
  dsimp only
  rw [List.find?_cons_of_pos (by simp [Sensor.fresh])]
  dsimp only
  unfold Dev.drive
  rw [if_pos (by omega), Nat.add_sub_cancel_left, show Dev.control _ (Sensor.fresh (0x100 + site) zone v) = v from rfl, demand_canopy hhi,
    cooling_of_not_tripped]
  · rw [Dev.onThrottle]
    dsimp only
    rw [ht, hups]
  · exact htr

/-- Settles O30. -/
theorem thermalDemand : Obligations.ThermalDemand := by
  rintro ⟨d, pending⟩ site zone v hsite hz
  have hwf : (isComputeSite site && decide (zone < 8)) = true := by simp [hsite, hz]
  have hw1 : (Instr.throttleDividerTimer site zone .canopy).wf = true := hwf
  have hw2 : (Instr.throttleSkipDecay site zone .canopy).wf = true := hwf
  obtain ⟨hown, hlim, hpackage⟩ := (le_zoneRate_iff d site zone _).mp (Nat.le_refl _)
  dsimp only
  refine ⟨fun hs ht htr hh hlo hhi => ?first, fun x hx => ⟨fun hh => ⟨?_, ?_⟩, fun hh ha hd => ?divider, fun b hh hb hs => ?decay⟩, hown, hlim,
    hpackage, fun r h1 h2 h3 => (le_zoneRate_iff d site zone r).mpr ⟨h1, h2, h3⟩,
    fun cores => ⟨fun c hc => shareRate_le_coreRate d hc, exists_shareRate_eq d⟩⟩
  case first =>
    have hd := sensorSample_first hsite hz hs ht htr hh hlo hhi
    obtain ⟨h1, h2, h3, h4, h5⟩ := sample_first hlo site zone d.tb.ns
    refine ⟨State.mk (sensorSample (0x100 + site) zone v d) pending, run_of_wf rfl _, ?_, ?_, ?_, ?_⟩
    · dsimp only
      rw [hd, powerAxis_frame]
    · dsimp only
      rw [hd, (powerAxis_throttles _).2]
      rfl
    · dsimp only
      rw [hd, (powerAxis_throttles _).1]
      simp only [List.map_cons, List.map_nil, h1, h2, h3, h4, h5]
    · dsimp only
      rw [hd]
      exact powerAxis_axis_of_throttled (by simp [h4])
  · exact (run_of_wf hw1 _).trans (by rw [(throttle_of_handover hh _ _ _).1])
  · exact (run_of_wf hw2 _).trans (by rw [(throttle_of_handover hh _ _ _).2])
  case divider =>
    obtain ⟨h1, h2, h3⟩ := throttle_reach hx (x.aboveSince + 1000000) (fun t =>
      { t with div := t.div * 2, skip := 0, aboveSince := (d.reach (x.aboveSince + 1000000)).tb.ns }) fun _ => ⟨by rfl, by rfl, by rfl⟩
    rw [← throttleDividerTimer_of_above hx hh ha hd] at h1 h2 h3
    refine ⟨_, run_of_wf hw1 _, congrArg (fun e => State.mk e pending) h1, h2, ?_⟩
    dsimp only
    rw [h3]
    rfl
  case decay =>
    obtain ⟨h1, h2, h3⟩ := throttle_reach hx (b + 100000) (Throttle.fallen .canopy (d.reach (b + 100000)).tb.ns) fun _ => ⟨by rfl, by rfl, by rfl⟩
    rw [← throttleSkipDecay_of_below hx hh hb hs] at h1 h2 h3
    refine ⟨_, run_of_wf hw2 _, congrArg (fun e => State.mk e pending) h1, h2, ?_⟩
    dsimp only
    rw [h3]
    rfl

end Sys2Proof.Machine
end

section
/-!
PROOFS. The hardware shutdown and the restart after it, the coolant and the flash (chapter 14, R417 to R424).
-/

set_option Elab.async false

namespace Sys2Proof.Machine

/-! ## THERMAL_TRIP (R417, R418) -/

/-- Outside a recorded policy a trip leaves the link and the dies' reset alone. -/
theorem holdAfterTrip_frame (d : Dev) :
    d.holdAfterTrip = { d with hg := d.holdAfterTrip.hg, th.heldInReset := d.holdAfterTrip.th.heldInReset } ∧
      d.holdAfterTrip.hg.devState = d.hg.devState := by
  unfold Dev.holdAfterTrip
  split <;> exact ⟨rfl, rfl⟩

theorem holdAfterTrip_of_not_tripped {d : Dev} (h : d.th.tripped = none) : d.holdAfterTrip = d := by
  unfold Dev.holdAfterTrip
  rw [h]
  rfl

/-- SAFE_HOLD leaves all of the thermal part but ALERT#. -/
theorem safeHold_th (d : Dev) (cause : Nat) : (d.safeHold cause).th = { d.th with alert := (d.safeHold cause).th.alert } := by
  unfold Dev.safeHold
  split
  · rfl
  · dsimp only
    rw [log_frame, setState_frame]

theorem safeHold_devState (d : Dev) (cause : Nat) : (d.safeHold cause).hg.devState = .safeHold := by
  by_cases h : d.hg.devState = .safeHold
  · rw [Dev.safeHold, if_pos h]
    exact h
  · exact (safeHold_of_not_safeHold h cause).1

/-- What the shutdown does before SAFE_HOLD is entered (R418). -/
def Dev.powerOff (group : Nat) (readings : List Int) (d : Dev) : Dev :=
  { d with
    pw.diesOff := true
    op.dark := true
    sw.ports := d.sw.ports.map fun (p : FPort) => { p with st := PortSt.dark, changed := d.tb.ns, queue := [] }
    mem.cells := []
    mem.poison := []
    mem.stackList := d.mem.stackList.map fun (s : Stack) => { s with buf := [], ops := [], copies := [], jobs := [] }
    th.duty := 1000
    th.thermtrip := true
    th.tripped := some group
    th.tripRecord := readings
    th.trips := d.th.trips + 1
    th.coolSince := none
    ts.chain := d.ts.chain &&& 0x0087000000000000 }

theorem shutdown_eq (d : Dev) (group : Nat) (readings : List Int) :
    let d2 := ((d.powerOff group readings).safeHold 2).log 0 0 0x0505 group
    d.shutdown group readings = ({ d2 with th.tripWritten := d2.flashOk && !d2.th.flashHold } : Dev).holdAfterTrip := rfl

/-- After the shutdown. -/
theorem shutdown_facts (d : Dev) (group : Nat) (readings : List Int) :
    let e := d.shutdown group readings
    e.pw.diesOff = true ∧ e.op.dark = true ∧ e.mem.cells = [] ∧ e.th.thermtrip = true ∧ e.th.tripped = some group ∧
      e.th.tripRecord = readings ∧ e.th.duty = 1000 ∧ e.hg.devState = .safeHold ∧ e.th.trips = d.th.trips + 1 ∧ e.gr = d.gr ∧
      e.str = d.str := by
  intro e
  have hstate : e.hg.devState = .safeHold := by
    unfold e
    rw [shutdown_eq]
    dsimp only
    rw [(holdAfterTrip_frame _).2]
    dsimp only
    rw [log_devState, safeHold_devState]
  have he : e = { d.powerOff group readings with
      hg := e.hg, lg := e.lg, fa := e.fa, fw := e.fw
      th := { (d.powerOff group readings).th with alert := e.th.alert, tripWritten := e.th.tripWritten, heldInReset := e.th.heldInReset } } := by
    unfold e
    rw [shutdown_eq]
    dsimp only
    rw [(holdAfterTrip_frame _).1, log_frame, safeHold_frame, safeHold_th]
  rw [he] at hstate ⊢
  exact ⟨rfl, rfl, rfl, rfl, rfl, rfl, rfl, hstate, rfl, rfl, rfl⟩

/-- The readings of the group that keep a restart away, noted. -/
def Dev.noteWarm (group : Nat) (readings : List Int) (d : Dev) : Dev :=
  if !(isCompute (group / 256) || isMemory (group / 256)) && readings.any fun r => decide (700 ≤ r)
  then { d with th.coolSince := none, th.warm := insertNew group d.th.warm }
  else { d with th.warm := d.th.warm.filter (· != group) }

theorem frame_noteWarm (d : Dev) (group : Nat) (readings : List Int) :
    d.noteWarm group readings = { d with
      th.coolSince := (d.noteWarm group readings).th.coolSince
      th.warm := (d.noteWarm group readings).th.warm } := by
  unfold Dev.noteWarm
  split <;> rfl

theorem thermalTrip_of_hot {d : Dev} {group : Nat} {r : List Int} {lim : Int} (hl : tripTemp group = some lim)
    (hot : 2 ≤ (r.filter fun x => decide (lim < x)).length) :
    let d1 := d.noteWarm group r
    thermalTrip group r d = if d1.th.tripOver.contains group ∧ d1.th.tripped = none then d1.shutdown group r
      else { d1 with th.tripOver := insertNew group d1.th.tripOver } := by
  unfold thermalTrip
  rw [hl]
  dsimp only
  rw [decide_eq_true hot]
  exact if_neg (by decide)

theorem insertNew_of_not_contains {α : Type} [BEq α] {a : α} {l : List α} (h : l.contains a = false) : insertNew a l = l ++ [a] :=
  if_neg (by rw [h]; exact Bool.false_ne_true)

/-- The restart after a trip, under a policy that restarts. -/
theorem thermalPolicyRestart_of_restart {d : Dev} {g c : Nat} (ht : d.th.tripped = some g) (hc : d.th.coolSince = some c) (hp : d.th.policy = 0) :
    thermalPolicyRestart d = (d.reach (c + 60000000000)).restart false := by
  unfold thermalPolicyRestart
  rw [ht, hc]
  exact if_neg (by simp [hp])

theorem thermalPolicyRestart_of_record {d : Dev} {g c : Nat} (ht : d.th.tripped = some g) (hc : d.th.coolSince = some c) (hp : d.th.policy = 1) :
    thermalPolicyRestart d = d := by
  unfold thermalPolicyRestart
  rw [ht, hc]
  exact if_pos (.inl hp)

theorem restart_reach_facts (d : Dev) (t : Nat) :
    let e := (d.reach t).restart false
    e.hg.devState = .bringup ∧ e.th.thermtrip = false ∧ e.th.tripped = none ∧ e.th.trips = d.th.trips := by
  have htrips : ((d.reach t).restart false).th.trips = (d.reach t).th.trips := rfl
  refine ⟨rfl, rfl, rfl, htrips.trans ?_⟩
  rw [(reach_frame d t).1]

/-- Settles O31. -/
theorem thermalShutdown : Obligations.ThermalShutdown := by
  rintro ⟨d, pending⟩ group r lim hlen hl
  have hw : (Instr.thermalTrip group r).wf = true := beq_iff_eq.mpr hlen
  dsimp only
  refine ⟨fun hot hno ht => ?first, fun hot hin ht => ?second, fun g c ht hc => ⟨fun hp => ?restarts, fun hp => ?records⟩⟩
  case first =>
    have hd : thermalTrip group r d = { d.noteWarm group r with th.tripOver := d.th.tripOver ++ [group] } := by
      rw [thermalTrip_of_hot hl hot, frame_noteWarm]
      dsimp only
      rw [hno, insertNew_of_not_contains hno]
      exact if_neg (by simp)
    refine ⟨State.mk (thermalTrip group r d) pending, run_of_wf hw _, ?_, ?_⟩
    · dsimp only
      rw [hd, frame_noteWarm]
    · dsimp only
      rw [hd, frame_noteWarm]
      exact ⟨rfl, ht, rfl, rfl, rfl⟩
  case second =>
    have hd : thermalTrip group r d = (d.noteWarm group r).shutdown group r := by
      have hcond : (d.noteWarm group r).th.tripOver.contains group = true ∧ (d.noteWarm group r).th.tripped = none := by
        rw [frame_noteWarm]
        exact ⟨hin, ht⟩
      rw [thermalTrip_of_hot hl hot]
      exact if_pos hcond
    have hfacts := shutdown_facts (d.noteWarm group r) group r
    rw [← hd] at hfacts
    obtain ⟨h1, h2, h3, h4, h5, h6, h7, h8, h9, h10, h11⟩ := hfacts
    refine ⟨_, run_of_wf hw _, rfl, h1, h2, h3, h4, h5, h6, h7, h8, h9.trans ?_, h10.trans ?_, h11.trans ?_⟩
    all_goals rw [frame_noteWarm]
  case restarts =>
    have hd := thermalPolicyRestart_of_restart ht hc hp
    have hfacts := restart_reach_facts d (c + 60000000000)
    rw [← hd] at hfacts
    exact ⟨_, run_of_wf rfl _, rfl, hfacts⟩
  case records => exact (run_of_wf rfl _).trans (by rw [thermalPolicyRestart_of_record ht hc hp])

/-! ## COOLANT_POLL, CAP_DERATE_TIMER (R420, R422) -/

theorem rederate_frame (d : Dev) : d.rederate = { d with th := d.rederate.th } ∧ d.rederate.th = { d.th with
    derate := d.rederate.th.derate, derateClear := d.rederate.th.derateClear } := by
  unfold Dev.rederate
  split <;> exact ⟨rfl, rfl⟩

theorem coolLost_of_no_failure {d : Dev} (h : d.th.coolFail = (0, 0, 0)) : d.coolLost = 0 := by
  rw [Dev.coolLost, h]
  rfl

/-- The readings of a poll that reads every sensor. -/
def Dev.polled (i o f : Nat) (d : Dev) : Dev :=
  let d1 := { d with th.coolFail := (0, 0, 0), th.inlet := sign16 i, th.outlet := sign16 o, th.flow := f % 65536 }
  let low := decide (d1.th.flow < d1.th.minFlow * 10) && decide (d1.th.coolFail.2.2 < 3)
  { d1 with th.lowFlowSince := if low then some (d1.th.lowFlowSince.getD d1.tb.ns) else none }

/-- A poll that reads every sensor drives the valve within its limits. -/
theorem coolantPoll_of_reads {d : Dev} (i o f : Nat) (hh : d.fw.handover = none) (hr : d.fw.rangerUp = true) (hs : d.hg.devState = .ready)
    (hc : d.th.coolFail = (0, 0, 0)) :
    let d3 := (d.polled i o f).rederate
    coolantPoll (some i) (some o) (some f) d =
      { d3.draw with th.duty := max d3.th.dutyMin (min d3.th.dutyMax (Config.valve d3.free)) } := by
  have hlost : (d.polled i o f).coolLost = 0 := coolLost_of_no_failure rfl
  have hlost3 : (d.polled i o f).rederate.coolLost = 0 := by
    rw [(rederate_frame _).1]
    exact coolLost_of_no_failure (by rw [(rederate_frame _).2]; rfl)
  have hst : (d.polled i o f).rederate.hg.devState = .ready := by
    rw [(rederate_frame _).1]
    exact hs
  have hnew : ((List.range 3).any fun k => bitOf (d.polled i o f).coolLost k && !bitOf d.coolLost k) = false := by
    rw [hlost, coolLost_of_no_failure hc]
    rfl
  have hpoll : coolantPoll (some i) (some o) (some f) d =
      let d2 := d.polled i o f
      let d3 := (onlyIf ((List.range 3).any fun k => bitOf d2.coolLost k && !bitOf d.coolLost k) (Dev.log 0 0 0x0504 d2.coolLost) d2).rederate
      if d3.hg.devState = .bringup ∧ d3.hg.stage < 8 ∨ d3.hg.devState = .safeHold then d3
      else if d3.coolLost ≠ 0 then { d3 with th.duty := d3.th.dutyMax }
      else { d3.draw with th.duty := max d3.th.dutyMin (min d3.th.dutyMax (Config.valve d3.free)) } := by
    unfold coolantPoll
    rw [if_neg (by simp [hh, hr])]
    rfl
  rw [hpoll]
  dsimp only
  rw [hnew, onlyIf_false, if_neg (by simp [hst]), if_neg (by simp [hlost3])]

theorem capDerate_reach (d : Dev) (t : Nat) :
    let e : Dev := { d.reach t with th.derate := none, th.derateClear := none }
    e = { d with th := e.th, tb := e.tb } ∧ e.tb.ns = max d.tb.ns t ∧ e.th.derate = none := by
  obtain ⟨hf, hns⟩ := reach_frame d t
  refine ⟨?_, hns, rfl⟩
  rw [hf]

theorem capDerateTimer_of_clear {d : Dev} {c : Nat} (h : d.th.derateClear = some c) :
    capDerateTimer d = { d.reach (c + 10000000000) with th.derate := none, th.derateClear := none } := by
  unfold capDerateTimer
  rw [h]

/-! ## FLASH_WRITE_RESUME (R424) -/

/-- The held entries written, and a trip record that waited. -/
def Dev.resumeFlash (d : Dev) : Dev :=
  let d2 := { d with lg.entries := (d.lg.held ++ d.lg.entries).take 524288, lg.held := [], lg.dropped := 0, th.flashHold := false }
  let d3 := if d.lg.held.isEmpty then d2 else (d2.raiseInt 2).notice 0 d.lg.dropped
  { d3 with th.tripWritten := d3.th.tripWritten || d3.th.tripped.isSome }.holdAfterTrip

theorem flashWriteResume_of_hold {d : Dev} {c : Nat} (hh : d.th.flashHold = true) (hs : d.th.flashOkSince = some c) :
    flashWriteResume d = (d.reach (c + 10000000000)).resumeFlash := by
  unfold flashWriteResume
  rw [hh, hs]
  rfl

/-- Nothing is held: the entries stand. -/
theorem resumeFlash_of_none {d : Dev} (hl : d.lg.held = []) (ht : d.th.tripped = none) :
    d.resumeFlash = { d with th := d.resumeFlash.th, lg := d.resumeFlash.lg } ∧ d.resumeFlash.th.flashHold = false := by
  unfold Dev.resumeFlash
  dsimp only
  rw [hl, List.isEmpty_nil, if_pos rfl, holdAfterTrip_of_not_tripped]
  · exact ⟨rfl, rfl⟩
  · exact ht

/-- An entry that the flash takes joins the entries. -/
theorem log_of_flash {d : Dev} (hf : d.flashOk = true) (hh : d.th.flashHold = false) (u o c v : Nat) :
    (d.log u o c v).lg = { d.lg with
      entries := ({ number := d.lg.next, xtb := d.tb.ns, unit := u, outcome := o, code := c, value := v } :: d.lg.entries).take 524288
      next := d.lg.next + 1 } := by
  unfold Dev.log
  dsimp only
  rw [hf, hh, if_pos (by decide), raiseInt_frame]

/-- One entry is held: it is written, and one after it that counts the dropped ones. -/
theorem resumeFlash_of_one {d : Dev} {e : Event} (hl : d.lg.held = [e]) (ht : d.th.tripped = none) (hf : d.flashOk = true) :
    d.resumeFlash = { d with th := d.resumeFlash.th, lg := d.resumeFlash.lg, hg := d.resumeFlash.hg } ∧ e ∈ d.resumeFlash.lg.entries ∧
      d.resumeFlash.lg.held = [] ∧ d.resumeFlash.lg.dropped = 0 := by
  let d2 : Dev := { d with lg.entries := ([e] ++ d.lg.entries).take 524288, lg.held := [], lg.dropped := 0, th.flashHold := false }
  have hr : d.resumeFlash =
      { (d2.raiseInt 2).notice 0 d.lg.dropped with th.tripWritten := ((d2.raiseInt 2).notice 0 d.lg.dropped).th.tripWritten ||
          ((d2.raiseInt 2).notice 0 d.lg.dropped).th.tripped.isSome } := by
    unfold Dev.resumeFlash
    dsimp only
    rw [hl, if_neg (by simp), holdAfterTrip_of_not_tripped]
    rw [notice_frame, raiseInt_frame]
    exact ht
  have hlog : ((d2.raiseInt 2).notice 0 d.lg.dropped).lg = _ := log_of_flash (by rw [raiseInt_frame]; exact hf) (by rw [raiseInt_frame]) _ _ _ _
  have hlg : (d2.raiseInt 2).lg = d2.lg := by rw [raiseInt_frame]
  rw [hr]
  refine ⟨?_, ?_, ?_, ?_⟩
  · rw [notice_frame, raiseInt_frame]
  · dsimp only
    rw [hlog, hlg]
    simp [d2]
  · dsimp only
    rw [hlog, hlg]
  · dsimp only
    rw [hlog, hlg]

theorem resumeFlash_none_reach {d : Dev} (hl : d.lg.held = []) (ht : d.th.tripped = none) (t : Nat) :
    let e := (d.reach t).resumeFlash
    e = { d with th := e.th, tb := e.tb, lg := e.lg } ∧ e.th.flashHold = false ∧ e.tb.ns = max d.tb.ns t := by
  obtain ⟨hf, hns⟩ := reach_frame d t
  have hl' : (d.reach t).lg.held = [] := by rw [hf]; exact hl
  have ht' : (d.reach t).th.tripped = none := by rw [hf]; exact ht
  obtain ⟨h1, h2⟩ := resumeFlash_of_none hl' ht'
  refine ⟨?_, h2, ?_⟩
  · rw [h1, hf]
  · rw [h1]
    exact hns

theorem resumeFlash_one_reach {d : Dev} {x : Event} (hl : d.lg.held = [x]) (ht : d.th.tripped = none) (hf : d.flashOk = true) (t : Nat) :
    let e := (d.reach t).resumeFlash
    e = { d with th := e.th, tb := e.tb, lg := e.lg, hg := e.hg } ∧ x ∈ e.lg.entries ∧ e.lg.held = [] ∧ e.lg.dropped = 0 := by
  obtain ⟨hr, -⟩ := reach_frame d t
  have hl' : (d.reach t).lg.held = [x] := by rw [hr]; exact hl
  have ht' : (d.reach t).th.tripped = none := by rw [hr]; exact ht
  have hf' : (d.reach t).flashOk = true := by rw [hr]; exact hf
  obtain ⟨h1, h2⟩ := resumeFlash_of_one hl' ht' hf'
  refine ⟨?_, h2⟩
  rw [h1, hr]

/-- Settles O32. -/
theorem cooling : Obligations.Cooling := by
  rintro ⟨d, pending⟩ i o f
  dsimp only
  refine ⟨fun hh hr hs hc hduty => ?poll, fun c hc => ?derate, fun c hh hs hl ht => ?resumeNone, fun c e hh hs hl ht hf => ?resumeOne⟩
  case poll =>
    have hd := coolantPoll_of_reads i o f hh hr hs hc
    obtain ⟨hframe, hth⟩ := rederate_frame (d.polled i o f)
    refine ⟨State.mk (coolantPoll (some i) (some o) (some f) d) pending, run_of_wf rfl _, ?_, ?_⟩
    · dsimp only
      rw [hd, hframe]
      rfl
    · dsimp only
      rw [hd]
      dsimp only [Dev.draw]
      rw [hth]
      exact ⟨rfl, rfl, rfl, Nat.le_max_left _ _, Nat.max_le.mpr ⟨hduty, Nat.min_le_left _ _⟩⟩
  case derate =>
    obtain ⟨h1, h2, h3⟩ := capDerate_reach d (c + 10000000000)
    rw [← capDerateTimer_of_clear hc] at h1 h2 h3
    exact ⟨_, run_of_wf rfl _, congrArg (fun e => State.mk e pending) h1, h2, h3⟩
  case resumeNone =>
    obtain ⟨h1, h2, h3⟩ := resumeFlash_none_reach hl ht (c + 10000000000)
    rw [← flashWriteResume_of_hold hh hs] at h1 h2 h3
    exact ⟨_, run_of_wf rfl _, congrArg (fun e => State.mk e pending) h1, h2, h3⟩
  case resumeOne =>
    obtain ⟨h1, h2⟩ := resumeFlash_one_reach hl ht hf (c + 10000000000)
    rw [← flashWriteResume_of_hold hh hs] at h1 h2
    exact ⟨_, run_of_wf rfl _, congrArg (fun e => State.mk e pending) h1, h2⟩

end Sys2Proof.Machine
end

section
/-!
PROOFS. CXL.mem and the snoops of either side (chapter 11, R353 to R357; chapter 06, R196).
-/

set_option Elab.async false

namespace Sys2Proof.Machine

/-! ## CXL.mem (R353 to R355) -/

/-- What an interrupt touches of the host port: its own bit and the messages. -/
theorem raiseInt_hg (d : Dev) (bit : Nat) : d.raiseInt bit = { d with
    hg.intstat := (d.raiseInt bit).hg.intstat
    hg.msixPending := (d.raiseInt bit).hg.msixPending
    hg.msixSent := (d.raiseInt bit).hg.msixSent } := by
  have hsend : ∀ (e : Dev) v, e.sendMsix v = { e with hg.msixPending := (e.sendMsix v).hg.msixPending, hg.msixSent := (e.sendMsix v).hg.msixSent } :=
    fun e v => by
      unfold Dev.sendMsix
      split <;> rfl
  unfold Dev.raiseInt
  split
  · rfl
  · dsimp only
    split
    · rw [hsend]
    · rfl

/-- What an error bit touches of the host port. -/
theorem setErr_hg (d : Dev) (bit : Nat) : d.setErr bit = { d with
    hg.errstat := (d.setErr bit).hg.errstat
    hg.intstat := (d.setErr bit).hg.intstat
    hg.msixPending := (d.setErr bit).hg.msixPending
    hg.msixSent := (d.setErr bit).hg.msixSent } := by
  unfold Dev.setErr
  split
  · rfl
  · rw [raiseInt_hg]

theorem padTo_of_length {n : Nat} {bs : List Byte} (h : bs.length = n) : padTo n (bs.take n) = bs := by
  rw [← h, List.take_length]
  simp [padTo, zeros]

section Read

variable {d : Dev} {x : Nat}

theorem cxlMemRead_of_not_ready (h : d.cxlReady = false) : cxlMemRead x d = d := by
  unfold cxlMemRead
  rw [h]
  rfl

theorem cxlMemRead_of_ide_fault (h : d.cxlReady = true) (hi : d.hg.ide = 2) : cxlMemRead x d = d.cxlAnswer (x / 64 * 64) (zeros 64) true := by
  unfold cxlMemRead
  rw [h]
  exact if_pos hi

theorem cxlMemRead_of_out (h : d.cxlReady = true) (hi : d.hg.ide ≠ 2) (ho : d.cxlOut (x / 64 * 64) = true) :
    cxlMemRead x d = (d.setErr 4).cxlAnswer (x / 64 * 64) (zeros 64) true := by
  unfold cxlMemRead
  rw [h, if_neg (by decide), if_neg hi]
  exact if_pos ho

/-- The line is read as it stands, and tracked, when no operation is before it and the filter has room. -/
theorem cxlMemRead_of_line {st o line : Nat} {bs : List Byte} (h : d.cxlReady = true) (hi : d.hg.ide ≠ 2) (ho : d.cxlOut (x / 64 * 64) = false)
    (hp : placeOf d.mBytes (x / 64 * 64) = .hbm st o) (hl : d.hostLine (x / 64 * 64) = some line) (h1 : d.firstOp st (o / 256) = none)
    (h2 : d.firstOp (d.homeStack st o) (o / 256) = none) (hr : (d.stack st).resetting = false) (hf : d.hg.snoopFilter.length < 8388608)
    (hb : d.readBytes (x / 64 * 64) 64 = some bs) :
    cxlMemRead x d = (d.track line).cxlAnswer (x / 64 * 64) bs false := by
  unfold cxlMemRead
  dsimp only
  rw [h, if_neg (by decide), if_neg hi, ho, if_neg (by decide), hp, hl]
  dsimp only
  rw [h1, h2, hr, if_neg (by decide), if_neg fun hc => absurd hc.1 (Nat.not_le.mpr hf), hb]

end Read

section Write

variable {d : Dev} {x : Nat} {data : List Byte}

theorem cxlMemWrite_of_not_ready (h : d.cxlReady = false ∨ d.hg.ide = 2) : cxlMemWrite x data false d = d := by
  unfold cxlMemWrite
  exact if_pos (h.imp_left fun h => by rw [h]; rfl)

theorem stack_pushOp (d : Dev) (o : LineOp) : (d.pushOp o).stack o.stack = { d.stack o.stack with ops := (d.stack o.stack).ops ++ [o] } :=
  stack_onStack d _ _ fun _ => by rfl

theorem stack_pushOp_other (d : Dev) (o : LineOp) {k : Nat} (hk : k ≠ o.stack) : (d.pushOp o).stack k = d.stack k :=
  stack_onStack_other d _ _ k (fun _ => by rfl) hk

/-- A write that its home can accept becomes a line operation there. -/
theorem cxlMemWrite_of_room {st o line : Nat} (hlen : data.length = 64) (h : d.cxlReady = true) (hi : d.hg.ide ≠ 2)
    (ho : d.cxlOut (x / 64 * 64) = false) (hp : placeOf d.mBytes (x / 64 * 64) = .hbm st o) (hl : d.hostLine (x / 64 * 64) = some line)
    (hroom : d.opRoom (d.homeStack st o) 1 = true) (hr : (d.stack (d.homeStack st o)).resetting = false)
    (hf : d.fencedLine (d.homeStack st o) o = false) :
    cxlMemWrite x data false d =
      { (d.pushOp { stack := d.homeStack st o, line := o / 256, act := .store (o % 256) data, reply := .none }).cxlAnswer (x / 64 * 64) [] false with
        hg.snoopFilter := mapIf (·.1 == line) (fun e => (e.1, false)) d.hg.snoopFilter } := by
  have haccept : d.acceptWrite st o 64 true (.store (o % 256) data) .none =
      d.pushOp { stack := d.homeStack st o, line := o / 256, act := .store (o % 256) data, reply := .none } := by
    unfold Dev.acceptWrite
    dsimp only
    rw [hr, if_neg (by decide), hf, if_neg (by decide)]
    exact if_neg (by simp)
  unfold cxlMemWrite
  dsimp only
  rw [if_neg (by simp [h, hi]), ho, if_neg (by decide), hp, hl]
  dsimp only
  rw [hroom, hr, if_neg (by decide), if_neg (by decide), padTo_of_length hlen, haccept]
  rfl

end Write

/-- Settles O34. -/
theorem hostMemoryAccess : Obligations.HostMemoryAccess := by
  rintro ⟨d, pending⟩ x data hlen
  have hw : (Instr.cxlMemWrite x data false).wf = true := beq_iff_eq.mpr hlen
  dsimp only
  refine ⟨fun h => ⟨?_, ?_⟩, fun h hi => ⟨?_, ?_⟩, fun h hi ho => ?out, fun h hi ho st o line hp hl =>
    ⟨fun h1 h2 hr hf bs hb => ?reads, fun hroom hr hf => ?writes⟩⟩
  · exact (run_of_wf rfl _).trans (by rw [cxlMemRead_of_not_ready h])
  · exact (run_of_wf hw _).trans (by rw [cxlMemWrite_of_not_ready (.inl h)])
  · exact (run_of_wf hw _).trans (by rw [cxlMemWrite_of_not_ready (.inr hi)])
  · exact (run_of_wf rfl _).trans (by rw [cxlMemRead_of_ide_fault h hi]; rfl)
  case out =>
    refine ⟨State.mk (cxlMemRead x d) pending, run_of_wf rfl _, ?_, ?_, ?_⟩
    · dsimp only
      rw [cxlMemRead_of_out h hi ho, setErr_frame]
      rfl
    · rw [cxlMemRead_of_out h hi ho]
      exact getLsbD_setErr (by decide)
    · rw [cxlMemRead_of_out h hi ho]
      exact congrArg (List.cons _) (by rw [setErr_hg])
  case reads => exact (run_of_wf rfl _).trans (by rw [cxlMemRead_of_line h hi ho hp hl h1 h2 hr hf hb]; rfl)
  case writes =>
    let op : LineOp := { stack := d.homeStack st o, line := o / 256, act := .store (o % 256) data, reply := .none }
    have hd := cxlMemWrite_of_room hlen h hi ho hp hl hroom hr hf
    refine ⟨State.mk (cxlMemWrite x data false d) pending, run_of_wf hw _, ?_, ?_, ?_, ?_, fun k hk => ?_, ?_⟩
    · rw [hd]
      rfl
    · rw [hd]
      rfl
    · rw [hd]
      rfl
    · rw [hd]
      exact congrArg Stack.ops (stack_pushOp d op)
    · rw [hd]
      exact stack_pushOp_other d op hk
    · rw [hd]
      rfl

/-! ## Snoops (R355, R356) -/

theorem biSnoopResponse_of_snoop {d : Dev} {line : Nat} {sn : Snoop} (h : d.hg.snoops.find? (·.line == line) = some sn) (hr : d.hg.hostReads = []) :
    biSnoopResponse line none d = { d with
      hg.snoops := d.hg.snoops.erase sn
      hg.snoopFilter := if sn.inv then d.hg.snoopFilter.filter (·.1 != line) else mapIf (fun e => e.1 == line) (fun e => (e.1, false)) d.hg.snoopFilter } := by
  unfold biSnoopResponse
  rw [h]
  exact retryReads_of_no_reads hr

theorem biSnoop_of_none {d : Dev} {line : Nat} (h : d.hg.snoops.find? (·.line == line) = none) :
    biSnoopResponse line none d = d ∧ biSnoopTimeout line d = d := by
  unfold biSnoopResponse biSnoopTimeout
  rw [h]
  exact ⟨rfl, rfl⟩

theorem loseCommand_of_not_running {c : Channel} (h : c.st ≠ .running) (line : Nat) (d : Dev) : d.loseCommand line c = d :=
  if_neg fun hc => h hc.1

/-- An update that changes nothing at each of some entries changes nothing. -/
theorem each_of_forall_eq {α β : Type} {l : List α} {f : α → β → β} {b : β} (h : ∀ a ∈ l, f a b = b) : each l f b = b := by
  induction l with
  | nil => rfl
  | cons a l ih =>
    rw [each_cons, h a List.mem_cons_self]
    exact ih fun x hx => h x (List.mem_cons_of_mem _ hx)

/-- What a snoop without an answer makes of the host port, once the count stands at its end (R356). -/
def Dev.loseSnoop (line : Nat) (sn : Snoop) (d : Dev) : Dev :=
  let d1 := d.setErr 0
  let waiting := d1.hg.hostReads.filter fun r => r.dev && (d1.tracked true r.addr r.len).contains line
  let d1b := { d1 with hg.snoopLost := if d1.ba.recv.any (d1.awaitsLine line) then insertNew line d1.hg.snoopLost else d1.hg.snoopLost }
  let d2 := each d1b.mb.chans (Dev.loseCommand line) d1b
  let d3 := { d2 with hg.snoops := d2.hg.snoops.erase sn, hg.snoopFilter := d2.hg.snoopFilter.filter (·.1 != line) }
  (each waiting (fun r d => (d.dropRead r).readDone r.purpose .failed) d3).retryReads

theorem biSnoopTimeout_of_snoop {d : Dev} {line : Nat} {sn : Snoop} (h : d.hg.snoops.find? (·.line == line) = some sn) :
    biSnoopTimeout line d = (d.reach (sn.sent + 1000000)).loseSnoop line sn := by
  unfold biSnoopTimeout
  rw [h]
  rfl

/-- With no command at work and no read outstanding, the lost snoop touches the host port alone. -/
theorem loseSnoop_of_idle {d : Dev} (hc : ∀ c ∈ d.mb.chans, c.st ≠ .running) (hr : d.hg.hostReads = []) (line : Nat) (sn : Snoop) :
    let e := d.loseSnoop line sn
    e = { d with hg := e.hg } ∧ e.hg.errstat.getLsbD 0 = true ∧ e.hg.snoops = d.hg.snoops.erase sn ∧
      e.hg.snoopFilter = d.hg.snoopFilter.filter (·.1 != line) := by
  let d1 := d.setErr 0
  let d1b := { d1 with hg.snoopLost := if d1.ba.recv.any (d1.awaitsLine line) then insertNew line d1.hg.snoopLost else d1.hg.snoopLost }
  have hd1 : d1 = _ := setErr_hg d 0
  have hreads : d1.hg.hostReads = [] := by rw [hd1]; exact hr
  have hchans : d1b.mb.chans = d.mb.chans := by
    show d1.mb.chans = _
    rw [hd1]
  have hlose : each d1b.mb.chans (Dev.loseCommand line) d1b = d1b :=
    each_of_forall_eq fun c hmem => loseCommand_of_not_running (hc c (hchans ▸ hmem)) line d1b
  have he : d.loseSnoop line sn = { d1b with hg.snoops := d1b.hg.snoops.erase sn, hg.snoopFilter := d1b.hg.snoopFilter.filter (·.1 != line) } := by
    have hunfold : d.loseSnoop line sn =
        let d2 := each d1b.mb.chans (Dev.loseCommand line) d1b
        (each (d1.hg.hostReads.filter fun (r : HostRead) => r.dev && (d1.tracked true r.addr r.len).contains line)
          (fun (r : HostRead) (d : Dev) => (d.dropRead r).readDone r.purpose .failed)
          { d2 with hg.snoops := d2.hg.snoops.erase sn, hg.snoopFilter := d2.hg.snoopFilter.filter (·.1 != line) }).retryReads := rfl
    rw [hunfold, hreads, hlose]
    exact retryReads_of_no_reads hreads
  rw [he]
  refine ⟨?_, getLsbD_setErr (by decide), ?_, ?_⟩
  · dsimp only [d1b]
    rw [hd1]
  · dsimp only [d1b]
    rw [hd1]
  · dsimp only [d1b]
    rw [hd1]

theorem loseSnoop_reach {d : Dev} (hc : ∀ c ∈ d.mb.chans, c.st ≠ .running) (hr : d.hg.hostReads = []) (line : Nat) (sn : Snoop) (t : Nat) :
    let e := (d.reach t).loseSnoop line sn
    e = { d with hg := e.hg, tb := e.tb } ∧ e.tb.ns = max d.tb.ns t ∧ e.hg.errstat.getLsbD 0 = true ∧ e.hg.snoops = d.hg.snoops.erase sn ∧
      e.hg.snoopFilter = d.hg.snoopFilter.filter (·.1 != line) := by
  obtain ⟨hf, hns⟩ := reach_frame d t
  have hc' : ∀ c ∈ (d.reach t).mb.chans, c.st ≠ .running := by rw [hf]; exact hc
  have hr' : (d.reach t).hg.hostReads = [] := by rw [hf]; exact hr
  have hhg : (d.reach t).hg = d.hg := by rw [hf]
  obtain ⟨h1, h2, h3, h4⟩ := loseSnoop_of_idle hc' hr' line sn
  refine ⟨?_, ?_, h2, h3.trans (by rw [hhg]), h4.trans (by rw [hhg])⟩
  · rw [h1, hf]
  · rw [h1]
    exact hns

/-! ## Reads of a result ring's consumed field (R196) -/

theorem leNat_leBytes (n v : Nat) : leNat (leBytes n v) = v % 2 ^ (8 * n) := by
  induction n generalizing v with
  | zero => simp [leBytes, leNat, Nat.mod_one]
  | succ n ih =>
    have hp : 2 ^ (8 * (n + 1)) = 256 * 2 ^ (8 * n) := by rw [Nat.mul_succ, Nat.pow_add, Nat.mul_comm]
    rw [leBytes, leNat, ih, hp, Nat.mod_mul]
    simp

/-- Nothing waits for the window. -/
theorem windowReady_of_not_waiting {d : Dev} (h : d.str.waiting = false) : d.windowReady = d := by
  unfold Dev.windowReady
  rw [h]
  rfl

/-- The slots that are reclaimed in the host's memory. -/
theorem reclaim_host_frame {d : Dev} {r : ResultRing} (hh : r.host = true) (upTo : Nat) :
    d.reclaim r upTo = { d with hg.hostMem := (d.reclaim r upTo).hg.hostMem } := by
  refine each_keeps (fun e : Dev => e = { d with hg.hostMem := e.hg.hostMem }) _ (fun k e he => ?_) _ _ rfl
  dsimp only
  rw [hh]
  unfold Dev.storeRing
  rw [if_pos rfl]
  split
  · rw [he]
    rfl
  · exact he

/-- A legal consumed value frees the slots up to it. -/
theorem gotConsumed_of_le {d : Dev} {h v : Nat} {q : ResultRing} (hq : d.str.results.find? (·.handle == h) = some q) (hlt : q.consumed < v)
    (hle : v ≤ q.published) : d.gotConsumed h (some v) = (d.reclaim q v).onResult h fun r => { r with consumed := v } := by
  unfold Dev.gotConsumed
  rw [hq]
  dsimp only
  rw [decide_eq_false (Nat.not_lt.mpr hle), Nat.min_eq_left hle, if_neg (Nat.not_le.mpr hlt)]
  exact congrArg (Dev.onResult h _) (congrArg (Dev.reclaim q v) (if_neg Bool.false_ne_true))

theorem gotConsumed_failed {d : Dev} {h : Nat} {q : ResultRing} (hq : d.str.results.find? (·.handle == h) = some q) :
    d.gotConsumed h none = d.notice 0 0 := by
  unfold Dev.gotConsumed
  rw [hq]

theorem log_hostReads (d : Dev) (u o c v : Nat) : (d.log u o c v).hg.hostReads = d.hg.hostReads := by
  unfold Dev.log
  dsimp only
  split
  · rw [raiseInt_hg]
  · split <;> rfl

/-- A read outstanding that ends without data. -/
def Dev.failRead (r : HostRead) (d : Dev) : Dev := ((d.dropRead r).setErr 1).readDone r.purpose .failed

section ConsumedRead

variable {d : Dev} {line h : Nat} {r : HostRead} {q : ResultRing} (hr : d.hg.hostReads.find? (fun r => !r.dev && r.addr == line) = some r)
  (hp : r.purpose = .consumed h) (hq : d.str.results.find? (·.handle == h) = some q) (hw : d.str.waiting = false)
include hr hp hq hw

theorem cxlCacheReadComplete_consumed {v : Nat} (ho : d.hostOk = true) (hlen : r.len = 8) (hlt : q.consumed < v) (hle : v ≤ q.published)
    (hv : v < 2 ^ 64) (hh : q.host = true) :
    let e := cxlCacheReadComplete line (leBytes 8 v) d
    e = { d with hg := e.hg, str := e.str } ∧ e.hg.hostReads = d.hg.hostReads.erase r ∧ e.hg.devCache = d.hg.devCache ∧
      e.str.results.find? (·.handle == h) = some { q with consumed := v } := by
  have hbytes : padTo r.len ((leBytes 8 v).take r.len) = leBytes 8 v := by
    rw [hlen]
    exact padTo_of_length (length_leBytes 8 v)
  have hval : leNat (leBytes 8 v) = v := by rw [leNat_leBytes]; exact Nat.mod_eq_of_lt hv
  have he : cxlCacheReadComplete line (leBytes 8 v) d = ((d.dropRead r).reclaim q v).onResult h fun r => { r with consumed := v } := by
    have hgot : (d.dropRead r).gotConsumed h (some v) = _ := gotConsumed_of_le hq hlt hle
    have hwait : (((d.dropRead r).reclaim q v).onResult h fun r => { r with consumed := v }).str.waiting = false := by
      rw [reclaim_frame]
      exact hw
    unfold cxlCacheReadComplete
    rw [hr]
    dsimp only
    rw [if_neg (by simp [ho]), hp, hbytes]
    unfold Dev.readDone
    dsimp only
    rw [Option.map_some, hval, hgot, windowReady_of_not_waiting hwait]
  rw [he]
  refine ⟨?_, ?_, ?_, ?_⟩
  · rw [reclaim_host_frame hh]
    rfl
  · rw [reclaim_host_frame hh]
    rfl
  · rw [reclaim_host_frame hh]
    rfl
  · have hres : ((d.dropRead r).reclaim q v).str.results = d.str.results := by rw [reclaim_frame]; rfl
    show (mapIf (·.handle == h) (fun r => { r with consumed := v }) ((d.dropRead r).reclaim q v).str.results).find? (·.handle == h) = _
    rw [hres, find?_mapIf _ _ fun _ ha => by exact ha, hq]
    rfl

omit hr in
/-- A read of a consumed field that fails is recorded, and nothing is freed. -/
theorem failRead_consumed :
    let e := d.failRead r
    e = { d with hg := e.hg, lg := e.lg } ∧ e.hg.hostReads = d.hg.hostReads.erase r ∧ e.hg.errstat.getLsbD 1 = true := by
  have hstr : ((d.dropRead r).setErr 1).str = d.str := by rw [setErr_frame]; rfl
  have he : d.failRead r = ((d.dropRead r).setErr 1).notice 0 0 := by
    have hgot : ((d.dropRead r).setErr 1).gotConsumed h none = _ := gotConsumed_failed (by rw [hstr]; exact hq)
    have hwait : (((d.dropRead r).setErr 1).notice 0 0).str.waiting = false := by
      rw [notice_frame]
      exact (congrArg Streams.waiting hstr).trans hw
    unfold Dev.failRead Dev.readDone
    rw [hp]
    dsimp only
    rw [Option.map_none, hgot, windowReady_of_not_waiting hwait]
  rw [he]
  refine ⟨?_, ?_, ?_⟩
  · rw [notice_frame, setErr_frame]
    rfl
  · rw [Dev.notice, log_hostReads, setErr_hg]
    rfl
  · rw [Dev.notice, log_errstat]
    exact getLsbD_setErr (by decide)

theorem cxlCacheReadTimeout_of_read : cxlCacheReadTimeout line d = (d.reach (r.issued + 100000)).failRead r := by
  unfold cxlCacheReadTimeout
  rw [hr]
  rfl

omit hr in
theorem failRead_reach (t : Nat) :
    let e := (d.reach t).failRead r
    e = { d with hg := e.hg, tb := e.tb, lg := e.lg } ∧ e.tb.ns = max d.tb.ns t ∧ e.hg.hostReads = d.hg.hostReads.erase r ∧
      e.hg.errstat.getLsbD 1 = true := by
  obtain ⟨hf, hns⟩ := reach_frame d t
  have hq' : (d.reach t).str.results.find? (·.handle == h) = some q := by rw [hf]; exact hq
  have hw' : (d.reach t).str.waiting = false := by rw [hf]; exact hw
  obtain ⟨h1, h2, h3⟩ := failRead_consumed hp hq' hw'
  have hreads : (d.reach t).hg.hostReads = d.hg.hostReads := by rw [hf]
  refine ⟨?_, ?_, h2.trans (by rw [hreads]), h3⟩
  · rw [h1, hf]
  · rw [h1]
    exact hns

end ConsumedRead

/-- Settles O35. -/
theorem hostSnoops : Obligations.HostSnoops := by
  rintro ⟨d, pending⟩ line sn r q h v
  dsimp only
  refine ⟨fun hs hr => ?response, fun hs => ⟨?_, ?_⟩, fun hs hc hr => ?timeout, run_of_wf rfl _, fun hr hp ho hq hw =>
    ⟨fun hlen hh hlt hle hv => ?complete, ?readTimeout⟩⟩
  case response =>
    have hd := biSnoopResponse_of_snoop hs hr
    refine ⟨State.mk (biSnoopResponse line none d) pending, run_of_wf rfl _, ?_, ?_, ?_⟩
    all_goals rw [hd] <;> rfl
  · exact (run_of_wf rfl _).trans (by rw [(biSnoop_of_none hs).1])
  · exact (run_of_wf rfl _).trans (by rw [(biSnoop_of_none hs).2])
  case timeout =>
    obtain ⟨h1, h2⟩ := loseSnoop_reach hc hr line sn (sn.sent + 1000000)
    rw [← biSnoopTimeout_of_snoop hs] at h1 h2
    exact ⟨_, run_of_wf rfl _, congrArg (fun e => State.mk e pending) h1, h2⟩
  case complete =>
    obtain ⟨h1, h2⟩ := cxlCacheReadComplete_consumed hr hp hq hw ho hlen hlt hle hv hh
    exact ⟨_, run_of_wf rfl _, congrArg (fun e => State.mk e pending) h1, h2⟩
  case readTimeout =>
    obtain ⟨h1, h2⟩ := failRead_reach hp hq hw (r.issued + 100000)
    rw [← cxlCacheReadTimeout_of_read hr hp hq hw] at h1 h2
    exact ⟨_, run_of_wf rfl _, congrArg (fun e => State.mk e pending) h1, h2⟩

end Sys2Proof.Machine
end

section
/-!
PROOFS. Lines in the line buffer (chapter 09, R285, R290, R293) and the arithmetic of an atomic at its home (R65, R294, R297).
-/

set_option Elab.async false

namespace Sys2Proof.Machine

/-! ## The one operation of a line -/

/-- A list whose one element of a kind is `a` loses the whole kind by erasing `a`. -/
theorem erase_eq_filter_of_filter_eq_singleton {α : Type} [DecidableEq α] (p : α → Bool) {a : α} {l : List α} (h : l.filter p = [a]) :
    l.erase a = l.filter fun x => !p x := by
  induction l with
  | nil => rfl
  | cons b l ih =>
    cases hb : p b with
    | true =>
      rw [List.filter_cons_of_pos hb, List.cons.injEq] at h
      obtain ⟨rfl, hl⟩ := h
      rw [List.erase_cons_head, List.filter_cons_of_neg (by simp [hb]), eq_comm, List.filter_eq_self]
      intro x hx
      simpa using List.filter_eq_nil_iff.mp hl x hx
    | false =>
      rw [List.filter_cons_of_neg (by simp [hb])] at h
      have hab : b ≠ a := by
        rintro rfl
        have hm : b ∈ l.filter p := h ▸ List.mem_singleton_self b
        rw [List.mem_filter, hb] at hm
        exact absurd hm.2 (by decide)
      rw [List.erase_cons_tail (by simpa using hab), List.filter_cons_of_pos (by simp [hb]), ih h]

/-- The bytes that an operation leaves in its line of the buffer. -/
def updatedBuf (d : Dev) (stack line : Nat) (act : LineAct) : List BufLine :=
  mapIf (·.line == line) (fun b => { b with data := (act.apply (d.lineData stack line)).1, touched := d.tb.ns }) (d.stack stack).buf

/-- The one operation of a line leaves the queue and changes the line in the buffer. -/
def Dev.updateOne (stack line : Nat) (act : LineAct) (d : Dev) : Dev :=
  (d.dropOp { stack, line, act, reply := .none }).onStack stack fun s =>
    { s with buf := mapIf (·.line == line) (fun b => { b with data := (act.apply (d.lineData stack line)).1, touched := d.tb.ns }) s.buf }

theorem applyOp_of_silent {d : Dev} {stack line : Nat} {act : LineAct} (ha : act ≠ .poison) (hp : d.partner stack (line * 256) = none) :
    d.applyOp { stack, line, act, reply := .none } = d.updateOne stack line act := by
  have hfin : ∀ (e : Dev) data, e.partner stack (line * 256) = none → e.finishOp { stack, line, act, reply := .none } data = e := fun e data he => by
    unfold Dev.finishOp
    dsimp only
    rw [he]
    rfl
  unfold Dev.applyOp Dev.updateOne
  cases act with
  | poison => exact absurd rfl ha
  | store off data => exact hfin _ _ hp
  | atomic op ty off x y posted => exact hfin _ _ hp
  | read off len => exact hfin _ _ hp

section One

variable {d : Dev} {stack line : Nat} {act : LineAct}

theorem updateOne_frame (d : Dev) (stack line : Nat) (act : LineAct) :
    d.updateOne stack line act = { d with mem.stackList := (d.updateOne stack line act).mem.stackList } := rfl

theorem stack_updateOne (h : (d.stack stack).ops.filter (·.line == line) = [{ stack, line, act, reply := .none }]) :
    (d.updateOne stack line act).stack stack =
      { d.stack stack with ops := (d.stack stack).ops.filter (·.line != line), buf := updatedBuf d stack line act } := by
  unfold Dev.updateOne
  rw [stack_onStack _ _ _ fun _ => by rfl, Dev.dropOp, stack_onStack _ _ _ fun _ => by rfl, erase_eq_filter_of_filter_eq_singleton _ h]
  rfl

theorem stack_updateOne_other {k : Nat} (hk : k ≠ stack) : (d.updateOne stack line act).stack k = d.stack k := by
  unfold Dev.updateOne
  rw [stack_onStack_other _ _ _ _ (fun _ => by rfl) hk, Dev.dropOp, stack_onStack_other _ _ _ _ (fun _ => by rfl) hk]

theorem firstOp_of_filter_nil (h : (d.stack stack).ops.filter (·.line == line) = []) : d.firstOp stack line = none := by
  rw [Dev.firstOp, List.find?_eq_none]
  exact fun x hx => List.filter_eq_nil_iff.mp h x hx

theorem serveReads_of_firstOp_none (h : d.firstOp stack line = none) (poisoned : Bool) (n : Nat) : d.serveReads poisoned stack line n = d := by
  cases n with
  | zero => rfl
  | succ n => simp only [Dev.serveReads, h]

/-- LINE_UPDATE with one operation of its line and no mirror. -/
theorem lineUpdate_of_one (ha : act ≠ .poison) (hin : d.inBuf stack line = true) (hs : d.lineServed stack line = true)
    (hp : d.partner stack (line * 256) = none) (hops : (d.stack stack).ops.filter (·.line == line) = [{ stack, line, act, reply := .none }]) :
    lineUpdate stack line d = d.updateOne stack line act := by
  have hgroup : updateGroup ((d.stack stack).ops.filter (·.line == line)) = [{ stack, line, act, reply := .none }] := by rw [hops]; rfl
  have hfirst : (d.updateOne stack line act).firstOp stack line = none := by
    refine firstOp_of_filter_nil ?_
    rw [stack_updateOne hops, List.filter_filter, List.filter_eq_nil_iff]
    simp
  unfold lineUpdate
  rw [hin, hs, hgroup]
  show (if (d.applyOp _).inBuf stack line = true then (d.applyOp _).serveReads false stack line 1024 else d.applyOp _) = _
  rw [applyOp_of_silent ha hp, serveReads_of_firstOp_none hfirst, ite_self]

end One

/-! ## Lines enter and leave the buffer -/

section Lines

variable {d : Dev} {stack line : Nat}

theorem lineFillComplete_of_no_op (h : d.firstOp stack line = none) (outcome : ReadOutcome) : lineFillComplete stack line outcome d = d := by
  unfold lineFillComplete
  rw [h]
  rfl

theorem serveReads_of_no_read {o : LineOp} (h : d.firstOp stack line = some o) (ho : ∀ off n, o.act ≠ .read off n) (poisoned : Bool) (n : Nat) :
    d.serveReads poisoned stack line n = d := by
  cases n with
  | zero => rfl
  | succ n =>
    rw [Dev.serveReads, h]
    dsimp only
    split
    · next off len hact => exact absurd hact (ho off len)
    · rfl

/-- A line enters the buffer as the stack holds it. -/
theorem lineFillComplete_of_room {o : LineOp} (h : d.firstOp stack line = some o) (ho : ∀ off n, o.act ≠ .read off n) (hin : d.inBuf stack line = false)
    (hs : d.lineServed stack line = true) (hp : d.linePoison stack line = false) (hroom : (d.stack stack).buf.length < 512) :
    lineFillComplete stack line .clean d =
      d.onStack stack fun s => { s with buf := s.buf ++ [{ stack, line, data := d.lineData stack line, touched := d.tb.ns }] } := by
  have hbuf : d.bufRoom stack line = true := by
    unfold Dev.bufRoom
    simp [hroom]
  have hread : d.readLine stack line .clean = (d, true) := by
    unfold Dev.readLine
    rw [hp]
    rfl
  have hevict : d.evict stack = d := if_pos hroom
  unfold lineFillComplete
  rw [h, hin, hs, hbuf, hread]
  dsimp only
  rw [serveReads_of_no_read h ho, h, Dev.fillBuf, hin, hevict]
  rfl

theorem lineUpdate_of_not_inBuf (h : d.inBuf stack line = false) : lineUpdate stack line d = d := by
  unfold lineUpdate
  rw [h]
  rfl

theorem writeBack_of_find? {b : BufLine} (h : (d.stack stack).buf.find? (·.line == line) = some b) :
    d.writeBack stack line =
      { d.onStack stack (fun s => { s with buf := s.buf.filter (·.line != line) }) with
        mem.cells := cellsWrite d.mem.cells (hbmKey stack (line * 256)) b.data } := by
  unfold Dev.writeBack
  rw [h]
  rfl

/-- The facts of a line written back at an instant of its own. -/
theorem writeBack_reach {b : BufLine} (h : (d.stack stack).buf.find? (·.line == line) = some b) (t : Nat) :
    let e := (d.reach t).writeBack stack line
    e = { d with mem := e.mem, tb := e.tb } ∧ e.tb.ns = max d.tb.ns t ∧ e.mem.cells = cellsWrite d.mem.cells (hbmKey stack (line * 256)) b.data ∧
      e.stack stack = { d.stack stack with buf := (d.stack stack).buf.filter (·.line != line) } := by
  obtain ⟨hd, hns⟩ := reach_frame d t
  have hst : ∀ k, (d.reach t).stack k = d.stack k := fun k => by rw [hd]; rfl
  have hcells : (d.reach t).mem.cells = d.mem.cells := by rw [hd]
  have hbuf : ((d.reach t).stack stack).buf.find? (·.line == line) = some b := by rw [hst, h]
  have hw := writeBack_of_find? hbuf
  dsimp only
  refine ⟨?_, ?_, ?_, ?_⟩
  · rw [hw, hd]
    rfl
  · rw [hw]
    exact hns
  · rw [hw, hcells]
  · rw [hw]
    exact (stack_onStack _ _ _ fun _ => by rfl).trans (by rw [hst])

theorem lineWriteback_of_buf {b : BufLine} (h : (d.stack stack).buf.find? (·.line == line) = some b) (hf : d.firstOp stack line = none)
    (hs : d.lineServed stack line = true) : lineWriteback stack line d = (d.reach (b.touched + 1000)).writeBack stack line := by
  unfold lineWriteback
  rw [h, hf, hs]
  rfl

theorem lineWriteback_of_no_buf (h : (d.stack stack).buf.find? (·.line == line) = none) : lineWriteback stack line d = d := by
  unfold lineWriteback
  rw [h]

/-! ## Mirror copies -/

theorem mirrorCopyAck_of_no_copy (h : (d.stack stack).copies.filter (·.1 == line) = []) : mirrorCopyAck stack line d = d := by
  unfold mirrorCopyAck
  rw [h]
  dsimp only
  split
  · rfl
  · rfl

/-- The odd copy becomes the even one's bytes. -/
theorem mirrorCopyAck_of_one {p : Nat} (hp : d.partner stack (line * 256) = some p) (hc : (d.stack stack).copies = [(line, .none, 0, [])])
    (hf : d.fencedLine p (line * 256) = false) (hr : (d.stack p).resetting = false) :
    mirrorCopyAck stack line d = (d.copyLine stack p line).onStack stack fun s => { s with copies := s.copies.filter (·.1 != line) } := by
  have hmine : (d.stack stack).copies.filter (·.1 == line) = [(line, .none, 0, [])] := by rw [hc]; simp
  unfold mirrorCopyAck
  rw [hmine, hp]
  dsimp only
  rw [hf, hr]
  rfl

theorem copies_copyLine (d : Dev) (src dst line k : Nat) : ((d.copyLine src dst line).stack k).copies = (d.stack k).copies := by
  unfold Dev.copyLine
  show ((d.onStack dst _).stack k).copies = _
  by_cases hk : k = dst
  · rw [hk, stack_onStack _ _ _ fun _ => by rfl]
  · rw [stack_onStack_other _ _ _ _ (fun _ => by rfl) hk]

/-! ## Scrubbing -/

theorem scrubRead_of_good (hin : d.inBuf stack line = false) (hs : d.lineServed stack line = true) (hr : d.mem.ready = true)
    (hb : line * 256 < stackBytes) (hp : d.linePoison stack line = false) :
    scrubRead stack line .clean d = d ∧ scrubRead stack line .corrected d =
      (d.onStack stack fun s => { s with corrected := s.corrected + 1 }).corrected (channelUnit stack (pseudoChannel line / 2)) 1 := by
  unfold scrubRead Dev.readLine
  rw [hin, hs, hr, decide_eq_false (Nat.not_le.mpr hb), hp]
  exact ⟨rfl, rfl⟩

end Lines

/-- Settles O44. -/
theorem lineOperations : Obligations.LineOperations := by
  rintro ⟨d, pending⟩ stack line hstack hline
  have hw : (decide (stack < 16) && decide (line < 312500000)) = true := by simp [hstack, hline]
  have hfill : (Instr.lineFillComplete stack line .clean).wf = true := hw
  have hupdate : (Instr.lineUpdate stack line).wf = true := hw
  have hback : (Instr.lineWriteback stack line).wf = true := hw
  have hack : (Instr.mirrorCopyAck stack line).wf = true := hw
  have hscrub : ∀ o, (Instr.scrubRead stack line o).wf = true := fun _ => hw
  dsimp only
  refine ⟨fun h => ?_, fun o h ho hin hs hp hroom => ?fill, fun h => ?_, fun off data hin hs hp hops => ?update, fun b h hf hs => ?writeback,
    fun h => ?_, fun h => ?_, fun p hp hc hf hr => ?mirror, fun hin hs hr hb hp => ?scrub⟩
  · exact (run_of_wf hfill _).trans (by rw [lineFillComplete_of_no_op h])
  case fill =>
    have hd := lineFillComplete_of_room h ho hin hs hp hroom
    refine ⟨State.mk (lineFillComplete stack line .clean d) pending, run_of_wf hfill _, ⟨?_, ?_, fun k hk => ?_⟩, ?_, ?_⟩ <;> rw [hd]
    · rfl
    · rfl
    · exact stack_onStack_other _ _ _ _ (fun _ => by rfl) hk
    · rfl
    · exact stack_onStack _ _ _ fun _ => by rfl
  · exact (run_of_wf hupdate _).trans (by rw [lineUpdate_of_not_inBuf h])
  case update =>
    have hd := lineUpdate_of_one (by simp) hin hs hp hops
    refine ⟨State.mk (lineUpdate stack line d) pending, run_of_wf hupdate _, ⟨?_, ?_, fun k hk => ?_⟩, ?_, ?_, ?_⟩ <;> dsimp only <;> rw [hd]
    · rfl
    · rfl
    · exact stack_updateOne_other hk
    · rfl
    · rw [stack_updateOne hops]
    · rw [stack_updateOne hops]
      rfl
  case writeback =>
    have hb := writeBack_reach h (b.touched + 1000)
    dsimp only at hb
    rw [← lineWriteback_of_buf h hf hs] at hb
    obtain ⟨h1, h2, h3, h4⟩ := hb
    exact ⟨_, run_of_wf hback _, congrArg (fun e => State.mk e pending) h1, h2, h3, h4⟩
  · exact (run_of_wf hback _).trans (by rw [lineWriteback_of_no_buf h])
  · exact (run_of_wf hack _).trans (by rw [mirrorCopyAck_of_no_copy h])
  case mirror =>
    have hd := mirrorCopyAck_of_one hp hc hf hr
    refine ⟨State.mk (mirrorCopyAck stack line d) pending, run_of_wf hack _, ?_, ?_, ?_⟩ <;> dsimp only <;> rw [hd]
    · rfl
    · rfl
    · rw [stack_onStack _ _ _ fun _ => by rfl]
      dsimp only
      rw [copies_copyLine, hc]
      simp
  case scrub =>
    obtain ⟨h1, h2⟩ := scrubRead_of_good hin hs hr hb hp
    refine ⟨(run_of_wf (hscrub _) _).trans (by rw [h1]), State.mk (scrubRead stack line .corrected d) pending, run_of_wf (hscrub _) _, ?_, ?_, ?_⟩ <;> dsimp only <;> rw [h2]
    · rfl
    · rfl
    · exact stack_onStack _ _ _ fun _ => by rfl

/-! ## Atomics -/

theorem toSigned_eq_toInt (w v : Nat) (hw : 0 < w) : toSigned w v = (BitVec.ofNat w v).toInt := by
  rw [BitVec.toInt_eq_toNat_cond, BitVec.toNat_ofNat, toSigned]
  have hpow : 2 ^ w = 2 * 2 ^ (w - 1) := by
    obtain ⟨n, rfl⟩ : ∃ n, w = n + 1 := ⟨w - 1, by omega⟩
    rw [Nat.pow_succ, Nat.mul_comm, Nat.add_sub_cancel]
  have hiff : v % 2 ^ w < 2 ^ (w - 1) ↔ 2 * (v % 2 ^ w) < 2 ^ w := by omega
  simp only [hiff]

section Arithmetic

variable {ty : AtomicTy} (old x y : Nat)

theorem atomicNew_add (h : ty ≠ .fp32) : atomicNew .add ty old x y = (old + x) % 2 ^ (8 * ty.bytes) := by
  rw [Nat.mul_comm]
  cases ty with
  | fp32 => exact absurd rfl h
  | int32 | int64 | uint32 | uint64 | cas128 => rfl

theorem atomicNew_cas : atomicNew .cas ty old x y = if old = y then x % 2 ^ (8 * ty.bytes) else old := by
  rw [Nat.mul_comm]
  rfl

theorem atomicNew_min_signed (h : ty = .int32 ∨ ty = .int64) : atomicNew .min ty old x y =
    if (BitVec.ofNat (8 * ty.bytes) x).toInt < (BitVec.ofNat (8 * ty.bytes) old).toInt then x % 2 ^ (8 * ty.bytes) else old := by
  rcases h with rfl | rfl
  · rw [← toSigned_eq_toInt _ _ (by decide), ← toSigned_eq_toInt _ _ (by decide)]
    rfl
  · rw [← toSigned_eq_toInt _ _ (by decide), ← toSigned_eq_toInt _ _ (by decide)]
    rfl

theorem atomicNew_max_signed (h : ty = .int32 ∨ ty = .int64) : atomicNew .max ty old x y =
    if (BitVec.ofNat (8 * ty.bytes) old).toInt < (BitVec.ofNat (8 * ty.bytes) x).toInt then x % 2 ^ (8 * ty.bytes) else old := by
  rcases h with rfl | rfl
  · rw [← toSigned_eq_toInt _ _ (by decide), ← toSigned_eq_toInt _ _ (by decide)]
    rfl
  · rw [← toSigned_eq_toInt _ _ (by decide), ← toSigned_eq_toInt _ _ (by decide)]
    rfl

theorem atomicNew_unsigned (hf : ty ≠ .fp32) (h : ¬(ty = .int32 ∨ ty = .int64)) :
    atomicNew .min ty old x y = min old (x % 2 ^ (8 * ty.bytes)) ∧ atomicNew .max ty old x y = max old (x % 2 ^ (8 * ty.bytes)) := by
  rw [Nat.mul_comm]
  cases ty with
  | fp32 => exact absurd rfl hf
  | int32 => exact absurd (.inl rfl) h
  | int64 => exact absurd (.inr rfl) h
  | uint32 | uint64 | cas128 => exact ⟨rfl, rfl⟩

end Arithmetic

/-- Settles O60. -/
theorem atomicArithmetic : Obligations.AtomicArithmetic := by
  rintro ⟨d, pending⟩ stack line off x y op ty posted hstack hline hty
  have hw : (Instr.lineUpdate stack line).wf = true := by simp [Instr.wf, hstack, hline]
  dsimp only
  intro hin hs hp hops
  have hd := lineUpdate_of_one (by simp) hin hs hp hops
  refine ⟨State.mk (lineUpdate stack line d) pending, atomicNew op ty (field (d.lineData stack line) off ty.bytes) x y, run_of_wf hw _,
    ?_, ?_, ?_, ?_, ?_, ?_, ?_, ?_, ?_, ?_⟩
  · dsimp only
    rw [hd]
    rfl
  · dsimp only
    rw [hd]
    rfl
  · dsimp only
    rw [hd, stack_updateOne hops]
  · dsimp only
    rw [hd, stack_updateOne hops]
    rfl
  · rintro rfl
    exact atomicNew_add _ _ _ hty
  · rintro rfl
    exact atomicNew_cas _ _ _
  · rintro rfl h
    exact atomicNew_min_signed _ _ _ h
  · rintro rfl h
    exact atomicNew_max_signed _ _ _ h
  · rintro rfl h
    exact (atomicNew_unsigned _ _ _ hty h).1
  · rintro rfl h
    exact (atomicNew_unsigned _ _ _ hty h).2

end Sys2Proof.Machine
end

section
/-!
PROOFS. What a store within one line makes the device read (chapter 09, R276, R286, R290, R293, R304; chapter 03).
-/

set_option Elab.async false

namespace Sys2Proof.Machine

/-! ## Addresses (R276, R277) -/

theorem shiftRight_add_of_line {a i : Nat} (h : a % 256 + i < 256) : (a + i) >>> 12 = a >>> 12 := by
  simp only [Nat.shiftRight_eq_div_pow]
  omega

theorem low_add_of_line {a i : Nat} (h : a % 256 + i < 256) : (a + i) &&& 0xFFF = (a &&& 0xFFF) + i := by
  have hand : ∀ x : Nat, x &&& 0xFFF = x % 4096 := fun x => Nat.and_two_pow_sub_one_eq_mod x 12
  rw [hand, hand]
  omega

theorem page_or_low (p a : Nat) : (p <<< 12 ||| (a &&& 0xFFF)) = p * 4096 + a % 4096 := by
  have hand : a &&& 0xFFF = a % 4096 := Nat.and_two_pow_sub_one_eq_mod a 12
  rw [hand, ← Nat.shiftLeft_add_eq_or_of_lt (Nat.mod_lt a (by decide)), Nat.shiftLeft_eq]

/-- The offset of a mirrored address in its stack, and of one that is not mirrored. -/
theorem mapInterleaved_snd (a n : Nat) : (mapInterleaved a (mirrorUnit * n)).2 =
    if a < mirrorUnit * n then a / 32768 * 4096 + a % 4096
    else mirrorUnit * n / 8 + (a / 4096 - mirrorUnit * n / 4096) / 16 * 4096 + a % 4096 := by
  unfold mapInterleaved
  dsimp only
  split
  · dsimp only
    rw [page_or_low, Nat.shiftRight_eq_div_pow, Nat.shiftRight_eq_div_pow, Nat.div_div_eq_div_mul]
  · have hpage : ∀ x, mirrorUnit * n / 8 + x <<< 12 = (mirrorUnit * n / 32768 + x) <<< 12 := fun x => by
      simp only [Nat.shiftLeft_eq, mirrorUnit]
      omega
    dsimp only
    rw [hpage, page_or_low, Nat.shiftRight_eq_div_pow, Nat.shiftRight_eq_div_pow, Nat.shiftRight_eq_div_pow, Nat.add_mul]
    congr 2
    simp only [mirrorUnit]
    omega

theorem mapInterleaved_fst_lt (a m : Nat) : (mapInterleaved a m).1 < 16 := by
  have h8 : ∀ x : Nat, x &&& 7 < 8 := fun x => Nat.and_lt_two_pow x (by decide : 7 < 2 ^ 3)
  have h16 : ∀ x : Nat, x &&& 0xF < 16 := fun x => Nat.and_lt_two_pow x (by decide : 0xF < 2 ^ 4)
  unfold mapInterleaved
  dsimp only
  split
  · have := h8 ((a >>> 12) ^^^ fold ((a >>> 12) >>> 3))
    dsimp only
    omega
  · exact h16 _

theorem mapInterleaved_add {a i : Nat} (h : a % 256 + i < 256) (n : Nat) :
    mapInterleaved (a + i) (mirrorUnit * n) = ((mapInterleaved a (mirrorUnit * n)).1, (mapInterleaved a (mirrorUnit * n)).2 + i) := by
  have hside : a + i < mirrorUnit * n ↔ a < mirrorUnit * n := by
    unfold mirrorUnit
    omega
  refine Prod.ext ?_ ?_
  · unfold mapInterleaved
    dsimp only
    simp only [shiftRight_add_of_line h, hside]
    split <;> rfl
  · rw [mapInterleaved_snd, mapInterleaved_snd]
    simp only [hside]
    split
    · omega
    · omega

/-- A place `i` bytes further. -/
def Place.shift (i : Nat) : Place → Place
  | .hbm s o => .hbm s (o + i)
  | .scratch s o => .scratch s (o + i)
  | .mmio o => .mmio (o + i)
  | .nowhere => .nowhere

theorem mmioPage_add {o i : Nat} (h : o % 256 + i < 256) : mmioPage (o + i) = mmioPage o := by
  have hpage : (o + i) / 0x1000 = o / 0x1000 := by omega
  unfold mmioPage
  rw [hpage]

/-- The bytes of a line lie in one place. -/
theorem placeOf_add {a i : Nat} (h : a % 256 + i < 256) (n : Nat) : placeOf (mirrorUnit * n) (a + i) = (placeOf (mirrorUnit * n) a).shift i := by
  have h1 : a + i < 0x100000000000 ↔ a < 0x100000000000 := by omega
  have h2 : a + i < hbmBytes - mirrorUnit * n ↔ a < hbmBytes - mirrorUnit * n := by
    unfold hbmBytes mirrorUnit
    omega
  have h3 : a + i < 0x120000000000 ↔ a < 0x120000000000 := by omega
  have h4 : 0x200000000000 ≤ a + i ∧ a + i < 0x200000000000 + 48 * 0x40000000 ↔ 0x200000000000 ≤ a ∧ a < 0x200000000000 + 48 * 0x40000000 := by omega
  have h5 : 0x300000000000 ≤ a + i ∧ a + i < 0x300001000000 ↔ 0x300000000000 ≤ a ∧ a < 0x300001000000 := by omega
  unfold placeOf
  dsimp only
  by_cases c1 : a < 0x100000000000
  · rw [if_pos (h1.mpr c1), if_pos c1]
    by_cases c2 : a < hbmBytes - mirrorUnit * n
    · rw [if_pos (h2.mpr c2), if_pos c2, mapInterleaved_add h]
      rfl
    · rw [if_neg (h2.not.mpr c2), if_neg c2]
      rfl
  rw [if_neg (h1.not.mpr c1), if_neg c1]
  by_cases c3 : a < 0x120000000000
  · have ho : (a + i - 0x100000000000) % 0x2000000000 = (a - 0x100000000000) % 0x2000000000 + i := by omega
    have hs : (a + i - 0x100000000000) / 0x2000000000 = (a - 0x100000000000) / 0x2000000000 := by omega
    have hb : (a - 0x100000000000) % 0x2000000000 + i < stackBytes ↔ (a - 0x100000000000) % 0x2000000000 < stackBytes := by
      unfold stackBytes
      omega
    rw [if_pos (h3.mpr c3), if_pos c3, ho, hs]
    by_cases c4 : (a - 0x100000000000) % 0x2000000000 < stackBytes
    · rw [if_pos (hb.mpr c4), if_pos c4]
      rfl
    · rw [if_neg (hb.not.mpr c4), if_neg c4]
      rfl
  rw [if_neg (h3.not.mpr c3), if_neg c3]
  by_cases c5 : 0x200000000000 ≤ a ∧ a < 0x200000000000 + 48 * 0x40000000
  · have ho : (a + i - 0x200000000000) % 0x40000000 = (a - 0x200000000000) % 0x40000000 + i := by omega
    have hs : (a + i - 0x200000000000) / 0x40000000 = (a - 0x200000000000) / 0x40000000 := by omega
    rw [if_pos (h4.mpr c5), if_pos c5, ho, hs]
    split <;> rfl
  rw [if_neg (h4.not.mpr c5), if_neg c5]
  by_cases c6 : 0x300000000000 ≤ a ∧ a < 0x300001000000
  · have ho : a + i - 0x300000000000 = a - 0x300000000000 + i := by omega
    rw [if_pos (h5.mpr c6), if_pos c6, ho, mmioPage_add (by omega)]
    split <;> rfl
  rw [if_neg (h5.not.mpr c6), if_neg c6]
  rfl

/-- The place of device memory: a stack and an offset within it, in the line of the address. -/
theorem placeOf_hbm {a n s o : Nat} (h : placeOf (mirrorUnit * n) a = .hbm s o) : s < 16 ∧ o < stackBytes ∧ o % 256 = a % 256 := by
  unfold placeOf at h
  dsimp only at h
  split at h
  · split at h
    · next hlt =>
      rw [Place.hbm.injEq] at h
      obtain ⟨rfl, rfl⟩ := h
      refine ⟨mapInterleaved_fst_lt _ _, ?_⟩
      rw [mapInterleaved_snd]
      unfold hbmBytes at hlt
      unfold stackBytes
      unfold mirrorUnit at *
      split <;> omega
    · cases h
  split at h
  · split at h
    · next hlt =>
      rw [Place.hbm.injEq] at h
      obtain ⟨rfl, rfl⟩ := h
      exact ⟨by omega, hlt, by omega⟩
    · cases h
  split at h
  · split at h <;> cases h
  split at h
  · split at h <;> cases h
  · cases h

theorem placeOf_scratch {a m s o : Nat} (h : placeOf m a = .scratch s o) : o < 0x40000000 ∧ o % 256 = a % 256 := by
  unfold placeOf at h
  dsimp only at h
  split at h
  · split at h <;> cases h
  split at h
  · split at h <;> cases h
  split at h
  · split at h
    · rw [Place.scratch.injEq] at h
      obtain ⟨rfl, rfl⟩ := h
      omega
    · cases h
  split at h
  · split at h <;> cases h
  · cases h

/-! ## The bytes of a line -/

theorem getElem?_cellsRead (m : List Host.Cell) (a n j : Nat) (h : j < n) : (cellsRead m a n)[j]? = some (cellGet m (a + j)) := by
  induction n generalizing a j with
  | zero => omega
  | succ n ih =>
    cases j with
    | zero => rfl
    | succ j =>
      rw [cellsRead, List.getElem?_cons_succ, ih _ _ (by omega)]
      congr 2
      omega

theorem getElem?_patch {bs v : List Byte} {off j : Nat} (hfit : off + v.length ≤ bs.length) :
    ((patch bs off v)[j]?).getD 0 = if off ≤ j then (v[j - off]?).getD ((bs[j]?).getD 0) else (bs[j]?).getD 0 := by
  have hlen : (bs.take off).length = off := by rw [List.length_take]; omega
  unfold patch
  rw [List.append_assoc, List.getElem?_append, hlen]
  by_cases h1 : j < off
  · rw [if_pos h1, if_neg (by omega), List.getElem?_take_of_lt h1]
  rw [if_neg h1, if_pos (by omega), List.getElem?_append]
  by_cases h2 : j - off < v.length
  · rw [if_pos h2, List.getElem?_eq_getElem h2]
    rfl
  · have hj : off + v.length + (j - off - v.length) = j := by omega
    rw [if_neg h2, List.getElem?_drop, hj, List.getElem?_eq_none (by omega : v.length ≤ j - off)]
    rfl

/-- A byte of a stack: that of its line in the buffer, or that of the stack. -/
def Dev.byteAt (d : Dev) (s o : Nat) : Byte := ((d.lineData s (o / 256))[o % 256]?).getD 0

/-- Memory in its canonical form, with whole lines in the buffers. -/
def Dev.lineForm (d : Dev) : Prop := d.formed ∧ ∀ k ∈ d.mem.stackList, ∀ x ∈ k.buf, x.data.length = 256

theorem readByte_hbm {d : Dev} {a s o : Nat} (hd : d.pw.diesOff = false) (h : placeOf d.mBytes a = .hbm s o) :
    d.readByte a = (d.goodCopy s o).map fun g => d.byteAt g o := by
  unfold Dev.readByte
  rw [hd, h]
  dsimp only
  cases d.goodCopy s o <;> rfl

theorem stack_mem_or_fresh (d : Dev) (k : Nat) : d.stack k ∈ d.mem.stackList ∨ d.stack k = Stack.fresh k := by
  unfold Dev.stack lookup
  cases h : d.mem.stackList.find? (·.stack == k) with
  | none => exact .inr rfl
  | some x => exact .inl (List.mem_of_find?_eq_some h)

theorem buf_length {d : Dev} (h : d.lineForm) {k : Nat} {x : BufLine} (hx : x ∈ (d.stack k).buf) : x.data.length = 256 := by
  rcases stack_mem_or_fresh d k with hm | hf
  · exact h.2 _ hm x hx
  · rw [hf] at hx
    exact absurd hx List.not_mem_nil

theorem length_lineData {d : Dev} (h : d.lineForm) (k l : Nat) : (d.lineData k l).length = 256 := by
  unfold Dev.lineData
  split
  · next b hb => exact buf_length h (List.mem_of_find?_eq_some hb)
  · exact length_cellsRead _ _ _

theorem find?_mapIf_other {α : Type} (p q : α → Bool) (f : α → α) (hp : ∀ a, p a = true → q a = false) (hf : ∀ a, p a = true → q (f a) = false) (l : List α) :
    (mapIf p f l).find? q = l.find? q := by
  induction l with
  | nil => rfl
  | cons a l ih =>
    unfold mapIf at ih ⊢
    rw [List.map_cons, List.find?_cons, List.find?_cons, ih]
    cases ha : p a with
    | true => rw [if_pos rfl, hp a ha, hf a ha]
    | false => rw [if_neg (by decide)]

/-- What a part of a line in its buffer or in its stack makes each byte. -/
theorem byteAt_pokeLine {d : Dev} (h : d.lineForm) {line off : Nat} {data : List Byte} (hfit : off + data.length ≤ 256) (hline : line * 256 + 256 ≤ stackBytes)
    (s k y : Nat) (hy : y < stackBytes) : (d.pokeLine s line off data).byteAt k y =
      if k = s ∧ y / 256 = line ∧ off ≤ y % 256 then (data[y % 256 - off]?).getD (d.byteAt k y) else d.byteAt k y := by
  unfold stackBytes at hline hy
  unfold Dev.pokeLine
  extract_lets here up
  have hup : ∀ b, here b = true → here (up b) = true := fun b hb => hb
  split
  · next hany =>
    have hcells : (d.onStack s fun x => { x with buf := mapIf here up x.buf }).mem.cells = d.mem.cells := rfl
    by_cases hk : k = s
    · subst hk
      unfold Dev.byteAt Dev.lineData
      rw [stack_onStack _ _ _ fun _ => by rfl, hcells]
      dsimp only
      by_cases hl : y / 256 = line
      · obtain ⟨b, hb⟩ : ∃ b, (d.stack k).buf.find? here = some b := Option.isSome_iff_exists.mp (by rw [List.find?_isSome, ← List.any_eq_true]; exact hany)
        have hlen : b.data.length = 256 := buf_length h (List.mem_of_find?_eq_some hb)
        subst hl
        rw [find?_mapIf here up hup, hb]
        dsimp only [Option.map_some, up]
        rw [getElem?_patch (by omega)]
        simp
      · have hother : ∀ b : BufLine, here b = true → (b.stack == k && b.line == y / 256) = false := fun b hb => by
          simp only [here, Bool.and_eq_true, beq_iff_eq] at hb
          simp only [Bool.and_eq_false_imp, beq_iff_eq, beq_eq_false_iff_ne]
          omega
        rw [find?_mapIf_other here _ up hother (fun b hb => hother b hb), if_neg (by omega)]
    · unfold Dev.byteAt Dev.lineData
      rw [stack_onStack_other _ _ _ _ (fun _ => by rfl) hk, hcells, if_neg (by omega)]
  · next hany =>
    unfold Dev.byteAt Dev.lineData
    show ((match (d.stack k).buf.find? _ with | some b => b.data | none => _)[y % 256]?).getD 0 = _
    cases hf : (d.stack k).buf.find? fun b => b.stack == k && b.line == y / 256 with
    | some b =>
      have hne : ¬ (k = s ∧ y / 256 = line ∧ off ≤ y % 256) := by
        rintro ⟨rfl, rfl, _⟩
        exact hany (List.any_eq_true.mpr ⟨b, List.mem_of_find?_eq_some hf, List.find?_some hf⟩)
      rw [if_neg hne]
    | none =>
      have hy0 : y / 256 * 256 + y % 256 = y := by omega
      dsimp only
      rw [getElem?_cellsRead _ _ _ _ (Nat.mod_lt _ (by decide)), getElem?_cellsRead _ _ _ _ (Nat.mod_lt _ (by decide)), Option.getD_some, Option.getD_some,
        cellGet_cellsWrite _ _ _ _ h.1]
      unfold hbmKey
      rw [Nat.add_assoc _ (y / 256 * 256), hy0]
      by_cases hin : k = s ∧ y / 256 = line ∧ off ≤ y % 256
      · obtain ⟨rfl, rfl, hoff⟩ := hin
        have hidx : 0x100000000000 + 0x2000000000 * k + y - (0x100000000000 + 0x2000000000 * k + (y / 256 * 256 + off)) = y % 256 - off := by omega
        rw [if_pos (by omega), if_pos ⟨rfl, rfl, hoff⟩, hidx]
      · rw [if_neg hin]
        split
        · rw [List.getElem?_eq_none (by omega)]
          rfl
        · rfl

/-! ## What a store leaves (R286, R290, R293) -/

/-- The parts of a stack that say whether it serves. -/
def Dev.serves (d : Dev) (k : Nat) : Bool × List FencedCh := ((d.stack k).fenced, (d.stack k).channels)

theorem fencedLine_of_serves {d e : Dev} (h : ∀ k, e.serves k = d.serves k) : e.fencedLine = d.fencedLine := by
  funext k o
  have hk := h k
  unfold Dev.serves at hk
  rw [Prod.mk.injEq] at hk
  unfold Dev.fencedLine
  dsimp only
  rw [hk.1, hk.2]

theorem serves_onStack {d : Dev} (s k : Nat) (f : Stack → Stack) (hs : ∀ x, (f x).stack = x.stack) (hf : ∀ x, (f x).fenced = x.fenced)
    (hc : ∀ x, (f x).channels = x.channels) : (d.onStack s f).serves k = d.serves k := by
  unfold Dev.serves
  by_cases hk : k = s
  · rw [hk, stack_onStack _ _ _ hs, hf, hc]
  · rw [stack_onStack_other _ _ _ _ hs hk]

theorem serves_pokeLine (d : Dev) (s line off : Nat) (data : List Byte) (k : Nat) : (d.pokeLine s line off data).serves k = d.serves k := by
  unfold Dev.pokeLine
  dsimp only
  split
  · exact serves_onStack _ _ _ (fun _ => by rfl) (fun _ => by rfl) fun _ => by rfl
  · rfl

theorem pokeLine_poison (d : Dev) (s line off : Nat) (data : List Byte) : (d.pokeLine s line off data).mem.poison = d.mem.poison := by
  unfold Dev.pokeLine
  dsimp only
  split <;> rfl

theorem pokeLine_mirror (d : Dev) (s line off : Nat) (data : List Byte) : (d.pokeLine s line off data).mem.mirror = d.mem.mirror := by
  unfold Dev.pokeLine
  dsimp only
  split <;> rfl

theorem mem_upsert {α : Type} {p : α → Bool} {fresh x : α} {f : α → α} {l : List α} (h : x ∈ upsert p fresh f l) :
    x ∈ l ∨ x = f fresh ∨ ∃ a ∈ l, x = f a := by
  induction l with
  | nil => exact .inr (.inl (List.mem_singleton.mp h))
  | cons a l ih =>
    unfold upsert at h
    split at h
    · rcases List.mem_cons.mp h with rfl | hm
      · exact .inr (.inr ⟨a, List.mem_cons_self, rfl⟩)
      · exact .inl (List.mem_cons_of_mem _ hm)
    · rcases List.mem_cons.mp h with rfl | hm
      · exact .inl List.mem_cons_self
      · rcases ih hm with hl | hf | ⟨b, hb, rfl⟩
        · exact .inl (List.mem_cons_of_mem _ hl)
        · exact .inr (.inl hf)
        · exact .inr (.inr ⟨b, List.mem_cons_of_mem _ hb, rfl⟩)

theorem length_patch {bs v : List Byte} {off : Nat} (h : off + v.length ≤ bs.length) : (patch bs off v).length = bs.length := by
  simp only [patch, List.length_append, List.length_take, List.length_drop]
  omega

theorem lineForm_pokeLine {d : Dev} (h : d.lineForm) {off : Nat} {data : List Byte} (hfit : off + data.length ≤ 256) (s line : Nat) :
    (d.pokeLine s line off data).lineForm := by
  refine ⟨pokeLine_formed _ _ _ _ _ h.1, ?_⟩
  unfold Dev.pokeLine
  extract_lets here up
  split
  · intro k hk x hx
    have hmap : ∀ l : List BufLine, (∀ b ∈ l, b.data.length = 256) → ∀ b ∈ mapIf here up l, b.data.length = 256 := fun l hl b hb => by
      obtain ⟨c, hc, rfl⟩ := List.mem_map.mp hb
      split
      · exact (length_patch (by rw [hl c hc]; exact hfit)).trans (hl c hc)
      · exact hl c hc
    rcases mem_upsert hk with hm | rfl | ⟨a, ha, rfl⟩
    · exact h.2 k hm x hx
    · exact absurd hx List.not_mem_nil
    · exact hmap _ (h.2 a ha) x hx
  · exact h.2

theorem linePoison_unpoison (d : Dev) (s line k l : Nat) (hline : line < 0x20000000) (hl : l < 0x20000000) :
    (d.unpoison s line).linePoison k l = if k = s ∧ l = line then false else d.linePoison k l := by
  have hkey : ∀ k l, hbmKey k (l * 256) / 256 = 0x1000000000 + 0x20000000 * k + l := fun k l => by
    unfold hbmKey
    omega
  unfold Dev.linePoison Dev.unpoison
  dsimp only
  rw [hkey, hkey, Bool.eq_iff_iff, List.contains_iff_mem, List.mem_filter]
  split
  · next h =>
    obtain ⟨rfl, rfl⟩ := h
    simp
  · next h =>
    have hne : 0x1000000000 + 0x20000000 * k + l ≠ 0x1000000000 + 0x20000000 * s + line := by omega
    simp [hne]

/-- A store at one copy clears the poison of a line that it covers, and writes a line that has none. -/
theorem storeCopy_cases (d : Dev) (s o : Nat) (data : List Byte) :
    (o % 256 = 0 ∧ data.length = 256 ∧ d.storeCopy s o data = (d.unpoison s (o / 256)).pokeLine s (o / 256) (o % 256) data) ∨
    (¬(o % 256 = 0 ∧ data.length = 256) ∧ d.linePoison s (o / 256) = true ∧ d.storeCopy s o data = d) ∨
    (¬(o % 256 = 0 ∧ data.length = 256) ∧ d.linePoison s (o / 256) = false ∧ d.storeCopy s o data = d.pokeLine s (o / 256) (o % 256) data) := by
  unfold Dev.storeCopy
  dsimp only
  by_cases hw : o % 256 = 0 ∧ data.length = 256
  · exact .inl ⟨hw.1, hw.2, by rw [if_pos hw, hw.1]⟩
  · rw [if_neg hw]
    cases hp : d.linePoison s (o / 256) with
    | true => exact .inr (.inl ⟨hw, rfl, if_pos rfl⟩)
    | false => exact .inr (.inr ⟨hw, rfl, if_neg (by decide)⟩)

theorem storeCopy_keeps (P : Dev → Prop) {d : Dev} (h : P d) (s o : Nat) (data : List Byte) (hu : ∀ e, P e → P (e.unpoison s (o / 256)))
    (hp : ∀ e, P e → P (e.pokeLine s (o / 256) (o % 256) data)) : P (d.storeCopy s o data) := by
  rcases storeCopy_cases d s o data with ⟨_, _, he⟩ | ⟨_, _, he⟩ | ⟨_, _, he⟩ <;> rw [he]
  · exact hp _ (hu _ h)
  · exact h
  · exact hp _ h

section Copy

variable {d : Dev} {s o : Nat} {data : List Byte}

theorem lineForm_storeCopy (h : d.lineForm) (hfit : o % 256 + data.length ≤ 256) (s : Nat) : (d.storeCopy s o data).lineForm :=
  storeCopy_keeps Dev.lineForm h _ _ _ (fun _ he => he) fun _ he => lineForm_pokeLine he hfit _ _

theorem serves_storeCopy (d : Dev) (s o : Nat) (data : List Byte) (k : Nat) : (d.storeCopy s o data).serves k = d.serves k :=
  storeCopy_keeps (fun e => e.serves k = d.serves k) rfl _ _ _ (fun _ he => he) fun _ he => (serves_pokeLine _ _ _ _ _ k).trans he

theorem storeCopy_mirror (d : Dev) (s o : Nat) (data : List Byte) : (d.storeCopy s o data).mem.mirror = d.mem.mirror :=
  storeCopy_keeps (fun e => e.mem.mirror = d.mem.mirror) rfl _ _ _ (fun _ he => he) fun _ he => (pokeLine_mirror _ _ _ _ _).trans he

theorem linePoison_pokeLine (d : Dev) (s line off : Nat) (data : List Byte) : (d.pokeLine s line off data).linePoison = d.linePoison := by
  funext k l
  unfold Dev.linePoison
  rw [pokeLine_poison]

theorem linePoison_storeCopy (ho : o < stackBytes) (data : List Byte) (k : Nat) {l : Nat} (hl : l < 0x20000000) :
    (d.storeCopy s o data).linePoison k l = if (o % 256 = 0 ∧ data.length = 256) ∧ k = s ∧ l = o / 256 then false else d.linePoison k l := by
  unfold stackBytes at ho
  rcases storeCopy_cases d s o data with ⟨h0, hlen, he⟩ | ⟨hw, _, he⟩ | ⟨hw, _, he⟩ <;> rw [he]
  · rw [linePoison_pokeLine, linePoison_unpoison _ _ _ _ _ (by omega) hl]
    simp only [h0, hlen, and_self, true_and]
  · rw [if_neg fun h => hw h.1]
  · rw [linePoison_pokeLine, if_neg fun h => hw h.1]

theorem byteAt_storeCopy_other (h : d.lineForm) (hfit : o % 256 + data.length ≤ 256) (ho : o < stackBytes) {k y : Nat} (hy : y < stackBytes)
    (hne : k ≠ s ∨ y < o ∨ o + data.length ≤ y) : (d.storeCopy s o data).byteAt k y = d.byteAt k y := by
  have hline : o / 256 * 256 + 256 ≤ stackBytes := by
    unfold stackBytes at ho ⊢
    omega
  refine (storeCopy_keeps (fun e => e.lineForm ∧ e.byteAt k y = d.byteAt k y) ⟨h, rfl⟩ _ _ _ (fun e he => he) fun e he => ?_).2
  obtain ⟨hf, hb⟩ := he
  refine ⟨lineForm_pokeLine hf hfit _ _, ?_⟩
  rw [byteAt_pokeLine hf hfit hline s k y hy, hb]
  split
  · rw [List.getElem?_eq_none (by omega)]
    rfl
  · rfl

theorem byteAt_storeCopy_same (h : d.lineForm) (hfit : o % 256 + data.length ≤ 256) (ho : o < stackBytes) {i : Nat} (hi : i < data.length)
    (hp : (d.storeCopy s o data).linePoison s (o / 256) = false) : (d.storeCopy s o data).byteAt s (o + i) = data[i] := by
  have hline : o / 256 * 256 + 256 ≤ stackBytes := by
    unfold stackBytes at ho ⊢
    omega
  have hpoke : ∀ e : Dev, e.lineForm → (e.pokeLine s (o / 256) (o % 256) data).byteAt s (o + i) = data[i] := fun e he => by
    have hidx : (o + i) % 256 - o % 256 = i := by omega
    rw [byteAt_pokeLine he hfit hline s s (o + i) (by omega), if_pos ⟨rfl, by omega, by omega⟩, hidx, List.getElem?_eq_getElem hi]
    rfl
  rcases storeCopy_cases d s o data with ⟨_, _, he⟩ | ⟨_, hbad, he⟩ | ⟨_, _, he⟩
  · rw [he]
    exact hpoke _ h
  · rw [he, hbad] at hp
    cases hp
  · rw [he]
    exact hpoke _ h

/-- A store at both copies is at most one at each. -/
theorem storeLine_keeps (P : Dev → Prop) {d : Dev} (h : P d) (s o : Nat) (data : List Byte)
    (hc : ∀ k e, k = s ∨ d.partner s o = some k → P e → P (e.storeCopy k o data)) : P (d.storeLine s o data) := by
  unfold Dev.storeLine
  extract_lets d1
  have h1 : P d1 := by
    unfold d1
    split
    · exact h
    · exact hc s d (.inl rfl) h
  split
  · next p hp =>
    split
    · exact h1
    · exact hc p d1 (.inr hp) h1
  · exact h1

end Copy

/-! ## What serves a read -/

/-- A copy serves a line when it is neither fenced nor poisoned. -/
def Dev.sound (d : Dev) (k o : Nat) : Bool := !(d.fencedLine k o || d.linePoison k (o / 256))

theorem goodCopy_eq (d : Dev) (s o : Nat) : d.goodCopy s o =
    if d.sound s o = true then some s else (d.partner s o).bind fun p => if d.sound p o = true then some p else none := by
  unfold Dev.goodCopy Dev.sound
  dsimp only
  split
  · rfl
  · cases d.partner s o with
    | none => rfl
    | some p =>
      rw [Option.bind_some]
      cases hb : (d.fencedLine p o || d.linePoison p (o / 256)) <;> simp [hb]

theorem goodCopy_some {d : Dev} {s o g : Nat} (h : d.goodCopy s o = some g) : d.sound g o = true ∧ (g = s ∨ d.partner s o = some g) := by
  rw [goodCopy_eq] at h
  split at h
  · next hs =>
    cases h
    exact ⟨hs, .inl rfl⟩
  · cases hp : d.partner s o with
    | none =>
      rw [hp] at h
      cases h
    | some p =>
      rw [hp, Option.bind_some] at h
      split at h
      · next hs =>
        cases h
        exact ⟨hs, .inr rfl⟩
      · cases h

theorem goodCopy_isSome {d : Dev} {s o g : Nat} (hg : d.sound g o = true) (h : g = s ∨ d.partner s o = some g) : (d.goodCopy s o).isSome = true := by
  rw [goodCopy_eq]
  split
  · rfl
  · next hs =>
    rcases h with rfl | hp
    · exact absurd hg hs
    · rw [hp, Option.bind_some, if_pos hg]
      rfl

theorem goodCopy_congr {d e : Dev} {s o : Nat} (hm : e.mem.mirror = d.mem.mirror) (h : ∀ g, g = s ∨ d.partner s o = some g → e.sound g o = d.sound g o) :
    e.goodCopy s o = d.goodCopy s o := by
  have hp : e.partner s o = d.partner s o := by
    unfold Dev.partner Dev.mBytes
    rw [hm]
  rw [goodCopy_eq, goodCopy_eq, hp, h s (.inl rfl)]
  cases hpart : d.partner s o with
  | none => rfl
  | some p => rw [Option.bind_some, Option.bind_some, h p (.inr hpart)]

/-! ## A store within a line -/

/-- A store within a line, at the place of its address. -/
def Dev.storeHere (a : Nat) (data : List Byte) (d : Dev) : Dev :=
  match placeOf d.mBytes a with
  | .hbm s o => d.storeLine s o data
  | .scratch s o => if d.scratchOk s o then { d with mem.cells := cellsWrite d.mem.cells (scratchKey s o) data } else d
  | _ => d

theorem store_of_line {d : Dev} {a : Nat} {data : List Byte} (hd : d.pw.diesOff = false) (hfit : a % 256 + data.length ≤ 256) (hne : data ≠ []) :
    d.store a data = (d.takeLines a data.length).storeHere a data := by
  have hn : min (256 - a % 256) data.length = data.length := by omega
  have hempty : data.isEmpty = false := by
    cases data with
    | nil => exact absurd rfl hne
    | cons b bs => rfl
  have hrest : ∀ (fuel a : Nat) (e : Dev), Dev.storeFuel fuel a [] e = e := fun fuel a e => by
    cases fuel <;> rfl
  unfold Dev.store
  rw [if_neg (by rw [hd]; decide), Dev.storeFuel, if_neg (by rw [hempty]; decide)]
  dsimp only
  rw [hn, List.take_length, List.drop_length, hrest]
  rfl

theorem xor_one_lt {s : Nat} (h : s < 16) : s ^^^ 1 < 16 :=
  have h4 : s < 2 ^ 4 := h
  Nat.xor_lt_two_pow h4 (by decide)

theorem partner_lt {d : Dev} {s o p : Nat} (h : d.partner s o = some p) : o < d.mBytes / 8 ∧ p = s ^^^ 1 := by
  unfold Dev.partner at h
  split at h
  · next ho => exact ⟨ho, (Option.some.inj h).symm⟩
  · cases h

theorem partner_comm {d : Dev} {s o p : Nat} (h : d.partner s o = some p) : d.partner p o = some s := by
  obtain ⟨ho, rfl⟩ := partner_lt h
  unfold Dev.partner
  rw [if_pos ho, Nat.xor_assoc, Nat.xor_self, Nat.xor_zero]

theorem partner_ne {d : Dev} {s o p : Nat} (h : d.partner s o = some p) : p ≠ s := by
  obtain ⟨_, rfl⟩ := partner_lt h
  intro he
  have hx := congrArg (s ^^^ ·) he
  simp only [← Nat.xor_assoc, Nat.xor_self, Nat.zero_xor] at hx
  exact absurd hx (by decide)

/-- The bytes of a line have one mirror. -/
theorem partner_add (d : Dev) (s : Nat) {o i : Nat} (h : o % 256 + i < 256) : d.partner s (o + i) = d.partner s o := by
  have hiff : o + i < d.mBytes / 8 ↔ o < d.mBytes / 8 := by
    unfold Dev.mBytes mirrorUnit
    omega
  unfold Dev.partner
  simp only [hiff]

section Line

variable {d : Dev} {s o : Nat} {data : List Byte}

theorem storeLine_mirror (d : Dev) (s o : Nat) (data : List Byte) : (d.storeLine s o data).mem.mirror = d.mem.mirror :=
  storeLine_keeps (fun e => e.mem.mirror = d.mem.mirror) rfl _ _ _ fun _ _ _ he => (storeCopy_mirror _ _ _ _).trans he

theorem serves_storeLine (d : Dev) (s o : Nat) (data : List Byte) (k : Nat) : (d.storeLine s o data).serves k = d.serves k :=
  storeLine_keeps (fun e => e.serves k = d.serves k) rfl _ _ _ fun _ _ _ he => (serves_storeCopy _ _ _ _ k).trans he

/-- A store poisons no line. -/
theorem linePoison_storeLine_of_clean (ho : o < stackBytes) (data : List Byte) {k l : Nat} (hl : l < 0x20000000) (h : d.linePoison k l = false) :
    (d.storeLine s o data).linePoison k l = false :=
  storeLine_keeps (fun e => e.linePoison k l = false) h _ _ _ fun _ _ _ he => by
    rw [linePoison_storeCopy ho data k hl]
    split
    · rfl
    · exact he

theorem sound_storeLine_of_sound (ho : o < stackBytes) (data : List Byte) {k y : Nat} (hy : y < stackBytes) (h : d.sound k y = true) :
    (d.storeLine s o data).sound k y = true := by
  unfold stackBytes at hy
  unfold Dev.sound at h ⊢
  rw [fencedLine_of_serves (serves_storeLine d s o data)]
  simp only [Bool.not_eq_true', Bool.or_eq_false_iff] at h ⊢
  exact ⟨h.1, linePoison_storeLine_of_clean ho data (by omega) h.2⟩

/-- A byte at which nothing is stored, in either copy. -/
def Dev.spared (d : Dev) (s o n k y : Nat) : Prop := (k ≠ s ∧ d.partner s o ≠ some k) ∨ y < o ∨ o + n ≤ y

theorem byteAt_storeLine_of_spared (h : d.lineForm) (hfit : o % 256 + data.length ≤ 256) (ho : o < stackBytes) {k y : Nat} (hy : y < stackBytes)
    (hs : d.spared s o data.length k y) : (d.storeLine s o data).byteAt k y = d.byteAt k y := by
  refine (storeLine_keeps (fun e => e.lineForm ∧ e.byteAt k y = d.byteAt k y) ⟨h, rfl⟩ _ _ _ fun c e hc he => ?_).2
  refine ⟨lineForm_storeCopy he.1 hfit _, (byteAt_storeCopy_other he.1 hfit ho hy ?_).trans he.2⟩
  rcases hs with ⟨hks, hkp⟩ | hlt
  · left
    rintro rfl
    exact hc.elim hks hkp
  · exact .inr hlt

theorem sound_storeLine_of_spared (ho : o < stackBytes) {k y : Nat} (hy : y < stackBytes)
    (hs : d.spared s o data.length k y) : (d.storeLine s o data).sound k y = d.sound k y := by
  unfold stackBytes at hy
  have hp : (d.storeLine s o data).linePoison k (y / 256) = d.linePoison k (y / 256) :=
    storeLine_keeps (fun e => e.linePoison k (y / 256) = d.linePoison k (y / 256)) rfl _ _ _ fun c e hc he => by
      rw [linePoison_storeCopy ho data k (by omega), if_neg, he]
      rintro ⟨⟨h0, hlen⟩, rfl, hline⟩
      rcases hs with ⟨hks, hkp⟩ | hlt
      · exact hc.elim hks hkp
      · omega
  unfold Dev.sound
  rw [fencedLine_of_serves (serves_storeLine d s o data), hp]

/-- What a sound copy holds after a store at both copies. -/
theorem byteAt_storeLine_of_sound (h : d.lineForm) (hfit : o % 256 + data.length ≤ 256) (ho : o < stackBytes) {i g : Nat} (hi : i < data.length)
    (hg : g = s ∨ d.partner s o = some g) (hsound : (d.storeLine s o data).sound g o = true) : (d.storeLine s o data).byteAt g (o + i) = data[i] := by
  have hfence := fencedLine_of_serves (serves_storeLine d s o data)
  unfold Dev.sound at hsound
  rw [hfence, Bool.not_eq_true', Bool.or_eq_false_iff] at hsound
  obtain ⟨hgf, hgp⟩ := hsound
  have hl : o / 256 < 0x20000000 := by
    unfold stackBytes at ho
    omega
  have hy : o + i < stackBytes := by
    unfold stackBytes at ho ⊢
    omega
  unfold Dev.storeLine at hgp ⊢
  cases hpart : d.partner s o with
  | none =>
    rw [hpart] at hgp hg
    obtain rfl : g = s := hg.resolve_right (by simp)
    dsimp only at hgp ⊢
    rw [hgf] at hgp ⊢
    exact byteAt_storeCopy_same h hfit ho hi hgp
  | some p =>
    have hne : p ≠ s := partner_ne hpart
    rw [hpart] at hgp hg
    dsimp only at hgp ⊢
    rcases hg with rfl | hgp'
    · rw [hgf] at hgp ⊢
      have hfirst : (d.storeCopy g o data).linePoison g (o / 256) = false := by
        revert hgp
        split
        · exact id
        · rw [linePoison_storeCopy ho data g hl, if_neg (fun h => hne h.2.1.symm)]
          exact id
      have hbyte := byteAt_storeCopy_same h hfit ho hi hfirst
      split
      · exact hbyte
      · exact (byteAt_storeCopy_other (lineForm_storeCopy h hfit _) hfit ho hy (.inl hne.symm)).trans hbyte
    · cases hgp'
      rw [hgf] at hgp ⊢
      have hform : (if d.fencedLine s o = true then d else d.storeCopy s o data).lineForm := by
        split
        · exact h
        · exact lineForm_storeCopy h hfit _
      exact byteAt_storeCopy_same hform hfit ho hi hgp

end Line

/-! ## Scratch -/

theorem readByte_scratch {d : Dev} {a s o : Nat} (hd : d.pw.diesOff = false) (h : placeOf d.mBytes a = .scratch s o) :
    d.readByte a = if d.scratchOk s o && !d.mem.poison.contains (scratchKey s o / 256) then some (cellGet d.mem.cells (scratchKey s o)) else none := by
  unfold Dev.readByte
  rw [if_neg (by rw [hd]; decide), h]

/-- A store into a stack leaves what lies beyond the stacks. -/
theorem storeLine_beyond {d : Dev} (h : d.lineForm) {s o : Nat} {data : List Byte} (hfit : o % 256 + data.length ≤ 256) (hs : s < 16) (ho : o < stackBytes)
    {x : Nat} (hx : 0x120000000000 ≤ x) :
    cellGet (d.storeLine s o data).mem.cells x = cellGet d.mem.cells x ∧ (d.storeLine s o data).mem.poison.contains (x / 256) = d.mem.poison.contains (x / 256) := by
  unfold stackBytes at ho
  refine (storeLine_keeps (fun e => e.lineForm ∧ cellGet e.mem.cells x = cellGet d.mem.cells x ∧ e.mem.poison.contains (x / 256) = d.mem.poison.contains (x / 256))
    ⟨h, rfl, rfl⟩ _ _ _ fun k e hk he => ?_).2
  have hk16 : k < 16 := by
    rcases hk with rfl | hp
    · exact hs
    · obtain ⟨_, rfl⟩ := partner_lt hp
      exact xor_one_lt hs
  refine ⟨lineForm_storeCopy he.1 hfit _, storeCopy_keeps (fun e => (e.lineForm ∧ cellGet e.mem.cells x = cellGet d.mem.cells x) ∧
    e.mem.poison.contains (x / 256) = d.mem.poison.contains (x / 256)) ⟨⟨he.1, he.2.1⟩, he.2.2⟩ _ _ _ (fun e he => ⟨he.1, ?_⟩) (fun e he => ⟨⟨lineForm_pokeLine he.1.1 hfit _ _, ?_⟩, ?_⟩) |>.imp_left And.right⟩
  · rw [← he.2, Bool.eq_iff_iff, List.contains_iff_mem, List.contains_iff_mem]
    unfold Dev.unpoison hbmKey
    dsimp only
    rw [List.mem_filter, and_iff_left]
    simp only [bne_iff_ne]
    omega
  · unfold Dev.pokeLine
    dsimp only
    split
    · exact he.1.2
    · dsimp only
      rw [cellGet_cellsWrite _ _ _ _ he.1.1.1, ← he.1.2]
      unfold hbmKey
      split
      · rw [List.getElem?_eq_none (by omega)]
        rfl
      · rfl
  · rw [pokeLine_poison]
    exact he.2

/-! ## The store of a device -/

theorem lineForm_takeLines {d : Dev} (h : d.lineForm) (a n : Nat) : (d.takeLines a n).lineForm := by
  have hm := takeLines_mem d a n
  unfold Dev.lineForm Dev.formed at h ⊢
  rw [hm]
  exact h

theorem readByte_takeLines (d : Dev) (a n x : Nat) : (d.takeLines a n).readByte x = d.readByte x := by
  refine readByte_mem _ _ (takeLines_mem d a n) ?_ ?_ x <;> rw [takeLines_frame]

theorem mBytes_storeHere (a : Nat) (data : List Byte) (d : Dev) : (d.storeHere a data).mBytes = d.mBytes := by
  unfold Dev.storeHere Dev.mBytes
  split
  · rw [storeLine_mirror]
  · split <;> rfl
  · rfl

theorem diesOff_storeHere (a : Nat) (data : List Byte) (d : Dev) : (d.storeHere a data).pw.diesOff = d.pw.diesOff := by
  unfold Dev.storeHere
  split
  · rw [storeLine_frame]
  · split <;> rfl
  · rfl

section Here

variable {d : Dev} {a : Nat} {data : List Byte}

theorem readByte_storeHere_same (h : d.lineForm) (hd : d.pw.diesOff = false) (hfit : a % 256 + data.length ≤ 256)
    (hr : ∀ j, j < data.length → d.readByte (a + j) ≠ none) {i : Nat} (hi : i < data.length) : (d.storeHere a data).readByte (a + i) = some data[i] := by
  have hplace : placeOf d.mBytes (a + i) = (placeOf d.mBytes a).shift i := placeOf_add (by omega) _
  have hm := mBytes_storeHere a data d
  have hd' := (diesOff_storeHere a data d).trans hd
  have hri := hr i hi
  cases hp : placeOf d.mBytes a with
  | hbm s o =>
    rw [hp] at hplace
    obtain ⟨_, ho, hmod⟩ := placeOf_hbm hp
    have hfit' : o % 256 + data.length ≤ 256 := by rwa [hmod]
    have hy : o + i < stackBytes := by
      unfold stackBytes at ho ⊢
      omega
    have hhere : d.storeHere a data = d.storeLine s o data := by
      unfold Dev.storeHere
      rw [hp]
    rw [readByte_hbm hd hplace] at hri
    rw [readByte_hbm hd' (by rw [hm]; exact hplace), hhere]
    have hpart : ∀ e : Dev, e.partner s (o + i) = e.partner s o := fun e => partner_add e s (by omega)
    have hsame : (d.storeLine s o data).partner s o = d.partner s o := by
      unfold Dev.partner Dev.mBytes
      rw [storeLine_mirror]
    obtain ⟨g0, hg0⟩ : ∃ g, d.goodCopy s (o + i) = some g := Option.ne_none_iff_exists'.mp fun hn => hri (by rw [hn]; rfl)
    obtain ⟨hsound0, hwhere0⟩ := goodCopy_some hg0
    obtain ⟨g, hg⟩ := Option.isSome_iff_exists.mp (goodCopy_isSome (sound_storeLine_of_sound ho data hy hsound0)
      (by rwa [hpart, hsame, ← hpart]))
    obtain ⟨hsound, hwhere⟩ := goodCopy_some hg
    have hline : (o + i) / 256 = o / 256 := by omega
    have hsoundo : (d.storeLine s o data).sound g o = true := by
      unfold Dev.sound Dev.fencedLine at hsound ⊢
      rw [hline] at hsound
      exact hsound
    rw [hpart, hsame] at hwhere
    rw [hg, Option.map_some, byteAt_storeLine_of_sound h hfit' ho hi hwhere hsoundo]
  | scratch s o =>
    rw [hp] at hplace
    obtain ⟨hlt, hmod⟩ := placeOf_scratch hp
    have hok : d.scratchOk s (o + i) = d.scratchOk s o := by
      have hline : (o + i) / 256 = o / 256 := by omega
      have hway : o + i < (d.site s).ways * 0x4000000 ↔ o < (d.site s).ways * 0x4000000 := by omega
      unfold Dev.scratchOk
      simp only [hline, hway]
    rw [readByte_scratch hd hplace, hok] at hri
    have hcond : (d.scratchOk s o && !d.mem.poison.contains (scratchKey s (o + i) / 256)) = true := by
      by_contra hc
      exact hri (if_neg hc)
    have hsok : d.scratchOk s o = true := (Bool.and_eq_true_iff.mp hcond).1
    have hhere : d.storeHere a data = { d with mem.cells := cellsWrite d.mem.cells (scratchKey s o) data } := by
      unfold Dev.storeHere
      rw [hp]
      exact if_pos hsok
    have hidx : scratchKey s (o + i) - scratchKey s o = i := by
      unfold scratchKey
      omega
    have hle : scratchKey s o ≤ scratchKey s (o + i) := by
      unfold scratchKey
      omega
    rw [readByte_scratch hd' (by rw [hm]; exact hplace), hhere]
    refine (if_pos ?_).trans ?_
    · exact (congrArg (· && _) hok).trans hcond
    · rw [cellGet_cellsWrite _ _ _ _ h.1, if_pos hle, hidx, List.getElem?_eq_getElem hi]
      rfl
  | mmio o =>
    rw [hp] at hplace
    refine absurd ?_ hri
    unfold Dev.readByte
    rw [hd, hplace]
    rfl
  | nowhere =>
    rw [hp] at hplace
    refine absurd ?_ hri
    unfold Dev.readByte
    rw [hd, hplace]
    rfl

end Here

/-- Settles O56. -/
theorem storeReads : Obligations.StoreReads := by
  intro d a i data b hwf hlen hfit hr hb
  have hi : i < data.length := (List.getElem?_eq_some_iff.mp hb).1
  have hd : d.pw.diesOff = false := by
    by_contra hoff
    refine hr i hi ?_
    unfold Dev.readByte
    exact if_pos (by simpa using hoff)
  rw [store_of_line hd hfit (List.ne_nil_of_length_pos (by omega)),
    readByte_storeHere_same (lineForm_takeLines ⟨hwf, hlen⟩ _ _) (by rw [takeLines_frame]; exact hd) hfit
      (fun j hj => by rw [readByte_takeLines]; exact hr j hj) hi, ← hb, List.getElem?_eq_getElem hi]

/-! ## Bytes that a store spares -/

section Frame

variable {d : Dev} {a x : Nat} {data : List Byte}

/-- The copies of a byte of the stacks at which nothing is stored. -/
theorem spared_of_places {s o k y : Nat} (hfit : a % 256 + data.length ≤ 256) (ha : placeOf d.mBytes a = .hbm s o) (hx : placeOf d.mBytes x = .hbm k y)
    (h1 : ∀ i, i < data.length → placeOf d.mBytes x ≠ placeOf d.mBytes (a + i))
    (h2 : ∀ i s o p, i < data.length → placeOf d.mBytes (a + i) = .hbm s o → d.partner s o = some p → placeOf d.mBytes x ≠ .hbm p o)
    {g : Nat} (hg : g = k ∨ d.partner k y = some g) : d.spared s o data.length g y := by
  obtain ⟨_, _, hmod⟩ := placeOf_hbm ha
  have hat : ∀ i, i < data.length → placeOf d.mBytes (a + i) = .hbm s (o + i) := fun i hi => by
    have hshift : placeOf d.mBytes (a + i) = (placeOf d.mBytes a).shift i := placeOf_add (by omega) _
    rw [hshift, ha]
    rfl
  by_contra hn
  unfold Dev.spared at hn
  have hy : o ≤ y ∧ y < o + data.length := by omega
  obtain ⟨i, hi, rfl⟩ : ∃ i, i < data.length ∧ y = o + i := ⟨y - o, by omega, by omega⟩
  have hpart : ∀ c, d.partner c (o + i) = d.partner c o := fun c => partner_add d c (by omega)
  have hk : k ≠ s := by
    rintro rfl
    exact h1 i hi (hx.trans (hat i hi).symm)
  have hkp : d.partner s o ≠ some k := fun hp => h2 i s (o + i) k hi (hat i hi) (by rw [hpart, hp]) hx
  have hgs : g = s ∨ d.partner s o = some g := by
    by_contra hne
    rw [not_or] at hne
    exact hn (.inl hne)
  rcases hg with rfl | hg
  · exact hgs.elim hk hkp
  · rw [hpart] at hg
    have hgk := partner_comm hg
    rcases hgs with rfl | hgp
    · exact hkp hgk
    · have hs := partner_comm hgp
      rw [hs] at hgk
      exact hk (Option.some.inj hgk).symm

theorem readByte_storeLine_spared (h : d.lineForm) (hd : d.pw.diesOff = false) (hfit : a % 256 + data.length ≤ 256)
    (h1 : ∀ i, i < data.length → placeOf d.mBytes x ≠ placeOf d.mBytes (a + i))
    (h2 : ∀ i s o p, i < data.length → placeOf d.mBytes (a + i) = .hbm s o → d.partner s o = some p → placeOf d.mBytes x ≠ .hbm p o)
    {s o : Nat} (ha : placeOf d.mBytes a = .hbm s o) : (d.storeLine s o data).readByte x = d.readByte x := by
  obtain ⟨hs, ho, hmod⟩ := placeOf_hbm ha
  have hfit' : o % 256 + data.length ≤ 256 := by rwa [hmod]
  have hm : (d.storeLine s o data).mBytes = d.mBytes := by
    unfold Dev.mBytes
    rw [storeLine_mirror]
  have hd' : (d.storeLine s o data).pw.diesOff = false := by rw [storeLine_frame]; exact hd
  cases hx : placeOf d.mBytes x with
  | hbm k y =>
    obtain ⟨_, hy, _⟩ := placeOf_hbm hx
    have hspared : ∀ g, g = k ∨ d.partner k y = some g → d.spared s o data.length g y := fun g hg => spared_of_places hfit ha hx h1 h2 hg
    have hgood := goodCopy_congr (storeLine_mirror d s o data) fun g hg => sound_storeLine_of_spared ho hy (hspared g hg)
    rw [readByte_hbm hd hx, readByte_hbm hd' (by rw [hm]; exact hx), hgood]
    cases hg : d.goodCopy k y with
    | none => rfl
    | some g => rw [Option.map_some, Option.map_some, byteAt_storeLine_of_spared h hfit' ho hy (hspared g (goodCopy_some hg).2)]
  | scratch k y =>
    obtain ⟨hcell, hpoison⟩ := storeLine_beyond h hfit' hs ho (show 0x120000000000 ≤ scratchKey k y by unfold scratchKey; omega)
    have hok : (d.storeLine s o data).scratchOk k y = d.scratchOk k y := by
      unfold Dev.scratchOk Dev.site
      rw [storeLine_frame]
    rw [readByte_scratch hd hx, readByte_scratch hd' (by rw [hm]; exact hx), hcell, hpoison, hok]
  | mmio y =>
    unfold Dev.readByte
    rw [hm, hx, hd, hd']
  | nowhere =>
    unfold Dev.readByte
    rw [hm, hx, hd, hd']

/-- The bytes of a store in a site's scratch. -/
def Dev.writeScratch (s o : Nat) (data : List Byte) (d : Dev) : Dev := { d with mem.cells := cellsWrite d.mem.cells (scratchKey s o) data }

/-- A write of scratch changes no line of a stack, and no other byte of scratch. -/
theorem readByte_scratch_spared (h : d.lineForm) (hd : d.pw.diesOff = false) (hfit : a % 256 + data.length ≤ 256)
    (h1 : ∀ i, i < data.length → placeOf d.mBytes x ≠ placeOf d.mBytes (a + i)) {s o : Nat} (ha : placeOf d.mBytes a = .scratch s o) :
    (d.writeScratch s o data).readByte x = d.readByte x := by
  obtain ⟨hlt, hmod⟩ := placeOf_scratch ha
  have hcells : ∀ z, (∀ i, i < data.length → z ≠ scratchKey s o + i) →
      cellGet (d.writeScratch s o data).mem.cells z = cellGet d.mem.cells z := fun z hz => by
    unfold Dev.writeScratch
    dsimp only
    rw [cellGet_cellsWrite _ _ _ _ h.1]
    split
    · next hle =>
      have hlen : data.length ≤ z - scratchKey s o := by
        by_contra hc
        exact hz (z - scratchKey s o) (by omega) (by omega)
      rw [List.getElem?_eq_none hlen]
      rfl
    · rfl
  cases hx : placeOf d.mBytes x with
  | hbm k y =>
    have hx' : placeOf (d.writeScratch s o data).mBytes x = _ := hx
    have hd' : (d.writeScratch s o data).pw.diesOff = false := hd
    obtain ⟨hk, hy, _⟩ := placeOf_hbm hx
    rw [readByte_hbm hd hx, readByte_hbm hd' hx']
    have hgood : (d.writeScratch s o data).goodCopy k y = d.goodCopy k y := rfl
    rw [hgood]
    cases hg : d.goodCopy k y with
    | none => rfl
    | some g =>
      have hg16 : g < 16 := by
        rcases (goodCopy_some hg).2 with rfl | hp
        · exact hk
        · obtain ⟨_, rfl⟩ := partner_lt hp
          exact xor_one_lt hk
      rw [Option.map_some, Option.map_some]
      congr 1
      unfold Dev.byteAt Dev.lineData
      show ((match (d.stack g).buf.find? _ with | some b => b.data | none => _)[y % 256]?).getD 0 = _
      cases (d.stack g).buf.find? fun b => b.stack == g && b.line == y / 256 with
      | some b => rfl
      | none =>
        dsimp only
        rw [getElem?_cellsRead _ _ _ _ (Nat.mod_lt _ (by decide)), getElem?_cellsRead _ _ _ _ (Nat.mod_lt _ (by decide)), hcells]
        intro i hi
        unfold stackBytes at hy
        unfold hbmKey scratchKey
        omega
  | scratch k y =>
    have hx' : placeOf (d.writeScratch s o data).mBytes x = _ := hx
    have hd' : (d.writeScratch s o data).pw.diesOff = false := hd
    rw [readByte_scratch hd hx, readByte_scratch hd' hx']
    show (if d.scratchOk k y && !d.mem.poison.contains _ then some (cellGet (d.writeScratch s o data).mem.cells _) else none) = _
    rw [hcells]
    intro i hi he
    obtain ⟨hy, _⟩ := placeOf_scratch hx
    unfold scratchKey at he
    obtain rfl : k = s := by omega
    obtain rfl : y = o + i := by omega
    refine h1 i hi (hx.trans ?_)
    have hshift : placeOf d.mBytes (a + i) = (placeOf d.mBytes a).shift i := placeOf_add (by omega) _
    rw [hshift, ha]
    rfl
  | mmio y =>
    unfold Dev.readByte
    show (if d.pw.diesOff = true then none else match placeOf d.mBytes x with | .hbm s o => _ | .scratch s o => _ | _ => none) = _
    rw [hx]
  | nowhere =>
    unfold Dev.readByte
    show (if d.pw.diesOff = true then none else match placeOf d.mBytes x with | .hbm s o => _ | .scratch s o => _ | _ => none) = _
    rw [hx]

end Frame

/-- Settles O57. -/
theorem storeFrame : Obligations.StoreFrame := by
  intro d a x data hwf hlen hfit h1 h2
  cases hoff : d.pw.diesOff with
  | true =>
    unfold Dev.store
    rw [if_pos hoff]
  | false =>
    by_cases hne : data = []
    · subst hne
      unfold Dev.store Dev.storeFuel
      rw [if_neg (by rw [hoff]; decide)]
      exact readByte_takeLines _ _ _ _
    have hm : (d.takeLines a data.length).mBytes = d.mBytes := mBytes_mem _ _ (takeLines_mem _ _ _)
    have hp : (d.takeLines a data.length).partner = d.partner := by
      funext s o
      unfold Dev.partner
      rw [hm]
    have hwhole : d.lineForm := ⟨hwf, hlen⟩
    have hform := lineForm_takeLines hwhole a data.length
    have hoff' : (d.takeLines a data.length).pw.diesOff = false := by rw [takeLines_frame]; exact hoff
    rw [store_of_line hoff hfit hne, ← readByte_takeLines d a data.length x]
    rw [← hm] at h1 h2
    rw [← hp] at h2
    unfold Dev.storeHere
    cases ha : placeOf (d.takeLines a data.length).mBytes a with
    | hbm s o => exact readByte_storeLine_spared hform hoff' hfit h1 h2 ha
    | scratch s o =>
      dsimp only
      split
      · exact readByte_scratch_spared hform hoff' hfit h1 ha
      · rfl
    | mmio o => rfl
    | nowhere => rfl

end Sys2Proof.Machine
end

section
/-!
PROOFS. What crosses a link (R217, R313, R317, R318): symbols and lanes, levels, alignment bits, frames, markers, dead lanes.
-/

set_option Elab.async false

namespace Sys2Proof.Machine

/-! ## Symbols and lanes (R217) -/

theorem bitsOf_four (v j : Nat) : bitsOf v (4 * j + 3) (4 * j) = v / 16 ^ j % 16 := by
  have hw : 4 * j + 3 - 4 * j + 1 = 4 := by omega
  rw [bitsOf, hw, Nat.pow_mul]
  rfl

theorem codeSymbols_spec (bytes : List Byte) : (codeSymbols bytes).length = 36 ∧ (∀ j, j < 32 → (codeSymbols bytes)[j]? = some (leNat bytes / 16 ^ j % 16)) ∧
    ∀ i, i < 4 → (codeSymbols bytes)[32 + i]? = some ((Config.s144Check (leNat bytes)).toNat / 16 ^ i % 16) := by
  unfold codeSymbols
  refine ⟨by simp, fun j hj => ?_, fun i hi => ?_⟩
  · rw [List.getElem?_append_left (by simpa using hj), List.getElem?_map, List.getElem?_range hj, Option.map_some, bitsOf_four]
  · rw [List.getElem?_append_right (by simp), List.length_map, List.length_range, Nat.add_sub_cancel_left, List.getElem?_map, List.getElem?_range hi,
      Option.map_some, bitsOf_four]

/-- How many symbols of codeword `c` ride a lane. -/
def symbolsOn (lane c : Nat) : Nat := (List.range 36).countP fun j => symbolLane c j == lane

theorem length_filter_zipIdx {α : Type} (w : List α) (p : Nat → Bool) : ((w.zipIdx).filter fun s => p s.2).length = (List.range w.length).countP p := by
  rw [← List.countP_eq_length_filter, List.range_eq_range', ← List.zipIdx_map_snd, List.countP_map]
  rfl

theorem length_laneSymbols (lane : Nat) {ws : List (List Nat)} (h : ∀ w ∈ ws, w.length = 36) :
    (laneSymbols lane ws).length = ((List.range ws.length).map (symbolsOn lane)).sum := by
  unfold laneSymbols
  rw [List.length_flatten, List.map_map, List.range_eq_range', ← List.zipIdx_map_snd, List.map_map]
  congr 1
  refine List.map_congr_left fun w hw => ?_
  have hlen : w.1.length = 36 := h _ (List.fst_mem_of_mem_zipIdx hw)
  rw [Function.comp_apply, Function.comp_apply, List.length_map, length_filter_zipIdx w.1 fun j => symbolLane w.2 j == lane, hlen]
  rfl

theorem symbolsOn_add (lane n r : Nat) : symbolsOn lane (16 * n + r) = symbolsOn lane r := by
  unfold symbolsOn
  congr 1
  funext j
  have hlane : symbolLane (16 * n + r) j = symbolLane r j := by
    unfold symbolLane
    omega
  rw [hlane]

theorem sum_symbolsOn_sixteen : ∀ lane < 16, ((List.range 16).map (symbolsOn lane)).sum = 36 := by decide +kernel

/-- Sixteen codewords put 36 symbols on every lane. -/
theorem sum_symbolsOn {lane : Nat} (h : lane < 16) (n : Nat) : ((List.range (16 * n)).map (symbolsOn lane)).sum = 36 * n := by
  induction n with
  | zero => rfl
  | succ n ih =>
    have hstep : (List.range 16).map (symbolsOn lane ∘ (16 * n + ·)) = (List.range 16).map (symbolsOn lane) :=
      List.map_congr_left fun r _ => symbolsOn_add lane n r
    rw [Nat.mul_succ, List.range_add, List.map_append, List.sum_append, List.map_map, ih, hstep, sum_symbolsOn_sixteen lane h]
    rfl

theorem mem_laneSymbols {lane : Nat} {ws : List (List Nat)} {c j x : Nat} (h : (ws[c]?).bind (·[j]?) = some x) (hl : (j + c) % 16 = lane) :
    x ∈ laneSymbols lane ws := by
  obtain ⟨w, hw, hx⟩ := Option.bind_eq_some_iff.mp h
  refine List.mem_flatten.mpr ⟨_, List.mem_map.mpr ⟨(w, c), ?_, rfl⟩, List.mem_map.mpr ⟨(x, j), List.mem_filter.mpr ⟨?_, ?_⟩, rfl⟩⟩
  · exact List.mem_zipIdx_iff_getElem?.mpr hw
  · exact List.mem_zipIdx_iff_getElem?.mpr hx
  · simpa [symbolLane] using hl

/-! ## Levels and alignment bits (R313, R317) -/

theorem pam4_injective : ∀ a < 16, ∀ b < 16, pam4 a = pam4 b → a = b := by decide +kernel

/-- An element of the `i`-th of equally long parts. -/
theorem getElem?_flatten_range {α : Type} (f : Nat → List α) {n i k w : Nat} (hi : i < n) (hw : ∀ j ≤ i, (f j).length = w) (hk : k < w) :
    (((List.range n).map f).flatten)[w * i + k]? = (f i)[k]? := by
  induction i generalizing f n with
  | zero =>
    obtain ⟨m, rfl⟩ : ∃ m, n = m + 1 := ⟨n - 1, by omega⟩
    rw [List.range_succ_eq_map, List.map_cons, List.flatten_cons, Nat.mul_zero, Nat.zero_add, List.getElem?_append_left (by rw [hw 0 (Nat.le_refl _)]; exact hk)]
  | succ i ih =>
    obtain ⟨m, rfl⟩ : ∃ m, n = m + 1 := ⟨n - 1, by omega⟩
    have hsub : w * (i + 1) + k - w = w * i + k := by
      rw [Nat.mul_succ]
      omega
    rw [List.range_succ_eq_map, List.map_cons, List.flatten_cons, List.getElem?_append_right (by rw [hw 0 (Nat.zero_le _), Nat.mul_succ]; omega),
      hw 0 (Nat.zero_le _), hsub, List.map_map]
    exact ih (f ∘ Nat.succ) (by omega) fun j hj => hw (j + 1) (by omega)

theorem length_symbolBits (s : Nat) : (symbolBits s).length = 4 := rfl

theorem length_flatten_symbolBits (syms : List Nat) : ((syms.map symbolBits).flatten).length = 4 * syms.length := by
  induction syms with
  | nil => rfl
  | cons s syms ih =>
    rw [List.map_cons, List.flatten_cons, List.length_append, ih, length_symbolBits, List.length_cons]
    omega

theorem lineBits_spec {lane : Nat} {syms : List Nat} {i : Nat} (hi : 4 * (i + 1) ≤ syms.length) :
    (lineBits lane syms)[17 * i + 16]? = (alignBits lane)[(i + 1) % 16]? ∧
    ∀ k, k < 16 → (lineBits lane syms)[17 * i + k]? = ((syms.map symbolBits).flatten)[16 * i + k]? := by
  have hlen := length_flatten_symbolBits syms
  unfold lineBits
  generalize (syms.map symbolBits).flatten = bits at hlen ⊢
  dsimp only
  have htake : ∀ j ≤ i, ((bits.drop (16 * j)).take 16).length = 16 := fun j hj => by
    rw [List.length_take, List.length_drop]
    omega
  have hpart : ∀ j ≤ i, ((bits.drop (16 * j)).take 16 ++ [(alignBits lane).getD ((j + 1) % 16) false]).length = 17 := fun j hj => by
    rw [List.length_append, htake j hj]
    rfl
  have halign : (alignBits lane).length = 16 := rfl
  refine ⟨?_, fun k hk => ?_⟩
  · have hbit : (alignBits lane)[(i + 1) % 16]? = some ((alignBits lane).getD ((i + 1) % 16) false) := by
      rw [List.getD_eq_getElem?_getD, List.getElem?_eq_getElem (by rw [halign]; omega)]
      rfl
    rw [getElem?_flatten_range (fun j => (bits.drop (16 * j)).take 16 ++ [(alignBits lane).getD ((j + 1) % 16) false]) (by omega) hpart (by decide),
      List.getElem?_append_right (by rw [htake i (Nat.le_refl _)]), htake i (Nat.le_refl _), hbit]
    rfl
  · rw [getElem?_flatten_range (fun j => (bits.drop (16 * j)).take 16 ++ [(alignBits lane).getD ((j + 1) % 16) false]) (by omega) hpart (by omega),
      List.getElem?_append_left (by rw [htake i (Nat.le_refl _)]; exact hk), List.getElem?_take_of_lt hk, List.getElem?_drop]

/-! ## Frames and markers (R318) -/

theorem length_inWords (b : List Byte) : (inWords b).length = (b.length + 15) / 16 := by simp [inWords]

theorem length_of_mem_inWords {b w : List Byte} (h : w ∈ inWords b) : w.length = 16 := by
  obtain ⟨i, _, rfl⟩ := List.mem_map.mp h
  simp only [List.length_append, List.length_take, length_zeros]
  omega

/-- A word of 16 bytes, with zeros behind the last byte. -/
def wordAt (b : List Byte) (i : Nat) : List Byte := (b.drop (16 * i)).take 16 ++ zeros (16 - ((b.drop (16 * i)).take 16).length)

theorem wordAt_succ (b : List Byte) (i : Nat) : wordAt b (i + 1) = wordAt (b.drop 16) i := by
  have hadd : 16 * (i + 1) = 16 + 16 * i := by omega
  unfold wordAt
  rw [List.drop_drop, hadd]

theorem flatten_wordAt (n : Nat) (b : List Byte) (h1 : b.length ≤ 16 * n) (h2 : 16 * n < b.length + 16) :
    ((List.range n).map (wordAt b)).flatten = b ++ zeros (16 * n - b.length) := by
  induction n generalizing b with
  | zero =>
    obtain rfl : b = [] := List.eq_nil_of_length_eq_zero (by omega)
    rfl
  | succ n ih =>
    rw [List.range_succ_eq_map, List.map_cons, List.flatten_cons, List.map_map]
    have hrest : ((List.range n).map (wordAt b ∘ Nat.succ)) = (List.range n).map (wordAt (b.drop 16)) := List.map_congr_left fun i _ => wordAt_succ b i
    rw [hrest]
    by_cases hlen : 16 ≤ b.length
    · have htake : (b.take 16).length = 16 := by rw [List.length_take]; omega
      have hzero : zeros (16 - (b.take 16).length) = [] := by rw [htake]; rfl
      rw [ih (b.drop 16) (by rw [List.length_drop]; omega) (by rw [List.length_drop]; omega), List.length_drop, wordAt, Nat.mul_zero, List.drop_zero, hzero,
        List.append_nil, ← List.append_assoc, List.take_append_drop]
      congr 2
      omega
    · obtain rfl : n = 0 := by omega
      rw [wordAt, Nat.mul_zero, List.drop_zero, List.take_of_length_le (by omega)]
      simp

theorem flatten_inWords (b : List Byte) : (inWords b).flatten = b ++ zeros (16 * ((b.length + 15) / 16) - b.length) :=
  flatten_wordAt _ b (by omega) (by omega)

theorem length_frameHeader (f : Frame) : (frameHeader f).length = 32 := by simp [frameHeader]

section Words

variable (port key : Nat) (f : Frame)

theorem length_frameWords : (frameWords port key f).length = 2 + (f.payload.length + 15) / 16 + (if f.enc then 1 else 0) := by
  unfold frameWords
  cases f.enc <;> simp [length_inWords, length_frameHeader, Nat.add_assoc]

theorem length_of_mem_frameWords : ∀ w ∈ frameWords port key f, w.length = 16 := by
  intro w hw
  unfold frameWords at hw
  rcases List.mem_append.mp hw with hw | hw
  · rcases List.mem_append.mp hw with hw | hw
    · exact length_of_mem_inWords hw
    · exact length_of_mem_inWords hw
  · split at hw
    · rw [List.mem_singleton.mp hw]
      simp
    · exact absurd hw List.not_mem_nil

theorem take_flatten_frameWords (h : f.enc = false) : (frameWords port key f).flatten.take (32 + f.payload.length) = frameHeader f ++ f.payload := by
  unfold frameWords
  have hheader : (inWords (frameHeader f)).flatten = frameHeader f := by
    rw [flatten_inWords, length_frameHeader]
    exact List.append_nil _
  have hlen : (frameHeader f ++ f.payload).length = 32 + f.payload.length := by rw [List.length_append, length_frameHeader]
  simp only [h, Bool.false_eq_true, if_false, List.append_nil, List.flatten_append]
  rw [hheader, flatten_inWords, ← List.append_assoc, ← hlen, List.take_left']
  rfl

end Words

theorem field_of_prefix (pre mid post : List Byte) (n : Nat) (hn : mid.length = n) : field (pre ++ mid ++ post) pre.length n = leNat mid := by
  unfold field
  rw [List.append_assoc, List.drop_left, ← hn, List.take_left]

theorem markerWord_spec (rq rs start seq : Nat) (rest : List (List Byte)) (credit : Nat × Nat) :
    let m := markerWord rq rs start seq
    m.length = 16 ∧ m.head? = some 0xFE ∧ u16 m 2 = start % 65536 ∧ u32 m 4 = seq % 2 ^ 32 ∧ (interval m rest credit).length = 1024 ∧
    (interval m rest credit).head? = some m := by
  dsimp only
  refine ⟨by simp [markerWord], rfl, ?_, ?_, ?_, rfl⟩
  · have h := field_of_prefix (leBytes 1 0xFE ++ leBytes 1 (rq % 16 + 16 * (rs % 16))) (leBytes 2 start) (leBytes 4 seq ++ zeros 8) 2 (length_leBytes _ _)
    rw [leNat_leBytes, ← List.append_assoc] at h
    exact h
  · have h := field_of_prefix (leBytes 1 0xFE ++ leBytes 1 (rq % 16 + 16 * (rs % 16)) ++ leBytes 2 start) (leBytes 4 seq) (zeros 8) 4 (length_leBytes _ _)
    rw [leNat_leBytes] at h
    exact h
  · simp only [interval, List.length_append, List.length_cons, List.length_take, List.length_replicate]
    omega

/-! ## Dead lanes (R217) -/

theorem two_le_length_of_mem {α : Type} {l : List α} {a b : α} (ha : a ∈ l) (hb : b ∈ l) (hne : a ≠ b) : 2 ≤ l.length := by
  match l with
  | [] => exact absurd ha List.not_mem_nil
  | [x] => exact absurd ((List.mem_singleton.mp ha).trans (List.mem_singleton.mp hb).symm) hne
  | x :: y :: l => simp

/-- A codeword has at least two symbols on every lane. -/
theorem two_symbols (c : Nat) {l : Nat} (h : l < 16) : ∃ i j, i < 36 ∧ j < 36 ∧ i ≠ j ∧ symbolLane c i = l ∧ symbolLane c j = l := by
  refine ⟨(l + 16 - c % 16) % 16, (l + 16 - c % 16) % 16 + 16, by omega, by omega, by omega, ?_, ?_⟩ <;>
  · unfold symbolLane
    omega

/-- A lane that is dead makes two symbols of every codeword wrong. -/
theorem two_le_wrong (dead : Nat → Bool) {l : Nat} (h : l < 16) (hd : dead l = true) (c : Nat) (wrong : List Nat) :
    2 ≤ ((wrong ++ (List.range 36).filter fun j => dead (symbolLane c j)).eraseDups).length := by
  obtain ⟨i, j, hi, hj, hne, hil, hjl⟩ := two_symbols c h
  have hmem : ∀ x, x < 36 → symbolLane c x = l → x ∈ (wrong ++ (List.range 36).filter fun j => dead (symbolLane c j)).eraseDups := fun x hx hxl =>
    List.mem_eraseDups.mpr (List.mem_append_right _ (List.mem_filter.mpr ⟨List.mem_range.mpr hx, by rw [hxl]; exact hd⟩))
  exact two_le_length_of_mem (hmem i hi hil) (hmem j hj hjl) hne

theorem wrongSymbols_of_dead {d : Dev} {src dst plane l : Nat} (wrong : List (Nat × Nat)) (hl : l < 16) (h : d.laneLive src dst plane l = false) :
    (d.wrongSymbols src dst plane wrong).length = 258 ∧ ∀ e ∈ d.wrongSymbols src dst plane wrong, 2 ≤ e := by
  have hdead : l ∈ (List.range 16).filter fun l => !d.laneLive src dst plane l := List.mem_filter.mpr ⟨List.mem_range.mpr hl, by rw [h]; rfl⟩
  have hne : ((List.range 16).filter fun l => !d.laneLive src dst plane l).isEmpty = false := by
    cases hc : (List.range 16).filter fun l => !d.laneLive src dst plane l with
    | nil =>
      rw [hc] at hdead
      exact absurd hdead List.not_mem_nil
    | cons => rfl
  unfold Dev.wrongSymbols
  dsimp only
  rw [hne]
  refine ⟨by simp, fun e he => ?_⟩
  obtain ⟨c, _, rfl⟩ := List.mem_map.mp he
  exact two_le_wrong (fun l => ((List.range 16).filter fun l => !d.laneLive src dst plane l).contains l) hl (List.contains_iff_mem.mpr hdead) _ _

theorem fibreWrong_of_dead {d : Dev} {port c l : Nat} (wrong : List Nat) (hl : l < 16) (hf : (d.fport port).faultLane ≠ l) (hc : (d.fport port).calLane ≠ l)
    (hn : (d.fport port).calNow ≠ some l) (h : (d.ring { port := 64 + port, plane := 0, side := .rx, idx := l }).locked = false) :
    2 ≤ d.fibreWrong port c wrong := by
  unfold Dev.fibreWrong
  dsimp only
  refine two_le_wrong (fun l => !(d.ring { port := fibreOptic port, plane := 0, side := .rx, idx := if (d.fport port).faultLane = l then 17
    else if (d.fport port).calLane = l ∨ (d.fport port).calNow = some l then 16 else l }).locked) hl ?_ _ _
  rw [if_neg hf, if_neg (not_or.mpr ⟨hc, hn⟩), fibreOptic, h]
  rfl

/-- Settles O47. -/
theorem linkCodewords : Obligations.LinkCodewords := by
  refine ⟨fun bytes _ => codeSymbols_spec bytes, fun lane ws hl hw => ⟨fun hlen => ?_, fun c j x h hj => mem_laneSymbols h hj⟩,
    fun a b ha hb => pam4_injective a ha b hb, by decide, fun lane syms i _ hi => lineBits_spec hi,
    fun port key f => ⟨length_frameWords port key f, length_of_mem_frameWords port key f, take_flatten_frameWords port key f⟩, markerWord_spec,
    fun id hp hi d => ⟨?_, rfl⟩, fun d src dst plane l wrong hl h => wrongSymbols_of_dead wrong hl h,
    fun d port c l wrong hl hf hc hn h => fibreWrong_of_dead wrong hl hf hc hn h⟩
  · rw [length_laneSymbols lane hw, hlen]
    exact sum_symbolsOn hl 64
  · unfold Dev.wantedIdentity
    rw [if_pos hi, Option.map_some, if_neg (by omega)]

end Sys2Proof.Machine
end

section
/-!
PROOFS. The memory's own faults and resets (chapter 09, R285, R287, R300, R302, R303, R304, R309).
-/

set_option Elab.async false

namespace Sys2Proof.Machine

/-! ## What stays of a stack while its operations and lines go -/

/-- A part of a stack that its pending operations and its lines in the buffer do not touch. -/
def QueueFree {α : Type} (g : Stack → α) : Prop := ∀ x o b, g { x with ops := o, buf := b } = g x

theorem stack_congr {d e : Dev} (h : e.mem.stackList = d.mem.stackList) (k : Nat) : e.stack k = d.stack k := by
  unfold Dev.stack
  rw [h]

theorem field_onStack {α : Type} {g : Stack → α} (d : Dev) (s k : Nat) {f : Stack → Stack} (hs : ∀ x, (f x).stack = x.stack) (hf : ∀ x, g (f x) = g x) :
    g ((d.onStack s f).stack k) = g (d.stack k) := by
  by_cases hk : k = s
  · rw [hk, stack_onStack _ _ _ hs, hf]
  · rw [stack_onStack_other _ _ _ _ hs hk]

section Fields

variable {α : Type} {g : Stack → α} (hg : QueueFree g)
include hg

theorem field_dropOp (d : Dev) (o : LineOp) (k : Nat) : g ((d.dropOp o).stack k) = g (d.stack k) :=
  field_onStack d _ _ (fun _ => by rfl) fun x => hg x _ x.buf

theorem field_filterBuf (d : Dev) (s k : Nat) (p : BufLine → Bool) :
    g ((d.onStack s fun x => { x with buf := x.buf.filter p }).stack k) = g (d.stack k) :=
  field_onStack d _ _ (fun _ => by rfl) fun x => hg x x.ops _

theorem field_writeBack (d : Dev) (s line k : Nat) : g ((d.writeBack s line).stack k) = g (d.stack k) := by
  unfold Dev.writeBack
  split
  · exact field_filterBuf hg d s k _
  · rfl

theorem field_fillBuf (d : Dev) (s line : Nat) (data : List Byte) (k : Nat) : g ((d.fillBuf s line data).stack k) = g (d.stack k) := by
  unfold Dev.fillBuf
  split
  · rfl
  · refine (field_onStack _ _ _ (fun _ => by rfl) fun x => hg x x.ops _).trans ?_
    unfold Dev.evict
    dsimp only
    split
    · rfl
    · split
      · exact field_writeBack hg d s _ k
      · rfl

theorem field_poisonAll (d : Dev) (s line k : Nat) : g ((d.poisonAll s line).stack k) = g (d.stack k) := by
  unfold Dev.poisonAll
  dsimp only
  split
  · exact (field_filterBuf hg _ _ k _).trans (field_filterBuf hg d s k _)
  · exact field_filterBuf hg d s k _

theorem field_drainPoisoned (d : Dev) (s line n k : Nat) : g ((d.drainPoisoned s line n).stack k) = g (d.stack k) := by
  induction n generalizing d with
  | zero => rfl
  | succ n ih =>
    unfold Dev.drainPoisoned
    split
    · split
      · exact field_fillBuf hg _ _ _ _ k
      · split
        · rw [ih, answerOp_stack, field_poisonAll hg, field_dropOp hg]
        · rw [ih, answerOp_stack, field_dropOp hg]
    · rfl

theorem field_failOps (d : Dev) (s : Nat) (mine : LineOp → Bool) (k : Nat) : g ((d.failOps s mine).stack k) = g (d.stack k) := by
  unfold Dev.failOps
  refine each_keeps (fun e : Dev => g (e.stack k) = g (d.stack k)) _ (fun o e he => ?_) _ _ ?_
  · split
    · split
      · rwa [answerOp_stack]
      · exact (field_onStack e _ _ (fun _ => by rfl) fun x => hg x _ x.buf).trans he
    · rwa [answerOp_stack]
  · exact field_onStack d _ _ (fun _ => by rfl) fun x => hg x _ _

end Fields

theorem queueFree_channels : QueueFree Stack.channels := fun _ _ _ => rfl
theorem queueFree_timeouts : QueueFree Stack.timeouts := fun _ _ _ => rfl
theorem queueFree_fenced : QueueFree Stack.fenced := fun _ _ _ => rfl
theorem queueFree_jobs : QueueFree Stack.jobs := fun _ _ _ => rfl

/-! ## Frames of the line operations -/

theorem writeBack_frame (d : Dev) (s line : Nat) : d.writeBack s line = { d with mem := (d.writeBack s line).mem } := by
  unfold Dev.writeBack
  split <;> rfl

theorem fillBuf_frame (d : Dev) (s line : Nat) (data : List Byte) : d.fillBuf s line data = { d with mem := (d.fillBuf s line data).mem } := by
  have hevict : d.evict s = { d with mem := (d.evict s).mem } := by
    unfold Dev.evict
    dsimp only
    split
    · rfl
    · split
      · exact writeBack_frame d s _
      · rfl
  unfold Dev.fillBuf
  split
  · rfl
  · rw [hevict]
    rfl

theorem poisonAll_frame (d : Dev) (s line : Nat) : d.poisonAll s line = { d with mem := (d.poisonAll s line).mem } := by
  unfold Dev.poisonAll
  dsimp only
  split <;> rfl

theorem drainPoisoned_frame (d : Dev) (s line n : Nat) :
    d.drainPoisoned s line n = { d with mem := (d.drainPoisoned s line n).mem, ba := (d.drainPoisoned s line n).ba } := by
  induction n generalizing d with
  | zero => rfl
  | succ n ih =>
    unfold Dev.drainPoisoned
    split
    · split
      · rw [fillBuf_frame]
        rfl
      · split
        · rw [ih, answerOp_frame, poisonAll_frame]
          rfl
        · rw [ih, answerOp_frame]
          rfl
    · rfl

/-! ## Fences (R302, R304) -/

/-- What a fence changes besides the stacks: the Basin, the log, the defects, and what the loss of the minimum configuration changes. -/
def fenceOf (d e : Dev) : Dev :=
  { d with mem.stackList := e.mem.stackList, ba := e.ba, lg := e.lg, hg := e.hg, sp := e.sp, bu := e.bu, fa := e.fa, th := e.th, fw := e.fw }

theorem fenceOf_self (d : Dev) : d = fenceOf d d := rfl

section FenceOf

variable {d e : Dev} (h : e = fenceOf d e)
include h

theorem fenceOf_trans {x : Dev} (hx : x = fenceOf e x) : x = fenceOf d x := by
  rw [hx, h]
  rfl

theorem fenceOf_log (u o c v : Nat) : e.log u o c v = fenceOf d (e.log u o c v) := fenceOf_trans h (by rw [fenceOf, log_frame])

theorem fenceOf_fdm (u t c v : Nat) : e.fdm u t c v = fenceOf d (e.fdm u t c v) := fenceOf_trans h (by rw [fenceOf, fdm_frame])

theorem fenceOf_failOps (s : Nat) (mine : LineOp → Bool) : e.failOps s mine = fenceOf d (e.failOps s mine) :=
  fenceOf_trans h (by rw [fenceOf, failOps_frame])

theorem fenceOf_degrade : e.degrade = fenceOf d e.degrade := fenceOf_trans h rfl

theorem fenceOf_onStack (s : Nat) (f : Stack → Stack) : e.onStack s f = fenceOf d (e.onStack s f) := fenceOf_trans h rfl

theorem fenceOf_fenceStack (s : Nat) : e.fenceStack s = fenceOf d (e.fenceStack s) := by
  unfold Dev.fenceStack
  split
  · exact h
  · exact fenceOf_trans (fenceOf_degrade (fenceOf_fdm (fenceOf_log (fenceOf_failOps (fenceOf_onStack h _ _) _ _) _ _ _ _) _ _ _ _)) (by rw [fenceOf, checkMinimum_frame])

theorem fenceOf_fenceChannel (s channel : Nat) : e.fenceChannel s channel = fenceOf d (e.fenceChannel s channel) := by
  unfold Dev.fenceChannel
  split
  · exact h
  · extract_lets d1 d2 u d3
    have h3 : d3 = fenceOf d d3 := fenceOf_degrade (fenceOf_fdm (fenceOf_log (fenceOf_failOps (fenceOf_onStack h _ _) _ _) _ _ _ _) _ _ _ _)
    split
    · exact fenceOf_fenceStack h3 s
    · exact h3

theorem fenceOf_fenceForRetrain (s channel : Nat) : e.fenceForRetrain s channel = fenceOf d (e.fenceForRetrain s channel) := by
  unfold Dev.fenceForRetrain
  split
  · exact h
  · exact fenceOf_onStack (fenceOf_fenceChannel h _ _) _ _

end FenceOf

/-- A stack that is not fenced yet is fenced, and the device degraded; its channels stay. -/
theorem fenceStack_spec {d : Dev} {s : Nat} (h : (d.stack s).fenced = false) :
    ((d.fenceStack s).stack s).fenced = true ∧ (d.fenceStack s).sp.degraded = true ∧ ((d.fenceStack s).stack s).channels = (d.stack s).channels := by
  unfold Dev.fenceStack
  rw [if_neg (by rw [h]; decide)]
  dsimp only
  rw [checkMinimum_frame, Dev.degrade, fdm_frame, log_frame]
  refine ⟨?_, rfl, ?_⟩
  · exact (field_failOps queueFree_fenced _ s _ s).trans (by rw [stack_onStack _ _ _ fun _ => by rfl])
  · exact (field_failOps queueFree_channels _ s _ s).trans (by rw [stack_onStack _ _ _ fun _ => by rfl])

theorem channels_fenceStack (d : Dev) (s : Nat) : ((d.fenceStack s).stack s).channels = (d.stack s).channels := by
  cases h : (d.stack s).fenced with
  | true =>
    unfold Dev.fenceStack
    rw [if_pos h]
  | false => exact (fenceStack_spec h).2.2

theorem channels_fenceChannel {d : Dev} {s channel : Nat} (hf : (d.stack s).fenced = false) (hc : (d.stack s).channels.any (·.channel == channel) = false) :
    ((d.fenceChannel s channel).stack s).channels = (d.stack s).channels ++ [{ channel, retrain := false, returns := false }] := by
  unfold Dev.fenceChannel
  rw [if_neg (by rw [hf, hc]; decide)]
  extract_lets d1 d2 u d3
  have h3 : (d3.stack s).channels = (d.stack s).channels ++ [{ channel, retrain := false, returns := false }] := by
    unfold d3
    rw [Dev.degrade, fdm_frame, log_frame]
    exact (field_failOps queueFree_channels _ s _ s).trans (by unfold d1; rw [stack_onStack _ _ _ fun _ => by rfl])
  split
  · rw [channels_fenceStack, h3]
  · exact h3

theorem any_mapIf_channel (l : List FencedCh) (channel : Nat) (f : FencedCh → FencedCh) (hf : ∀ c, (f c).channel = c.channel) :
    (mapIf (fun c => c.channel == channel) f l).any (·.channel == channel) = l.any (·.channel == channel) := by
  induction l with
  | nil => rfl
  | cons c l ih =>
    unfold mapIf at ih ⊢
    rw [List.map_cons, List.any_cons, List.any_cons, ih]
    split
    · rw [hf]
    · rfl

theorem any_channels_fenceForRetrain {d : Dev} {s : Nat} (hf : (d.stack s).fenced = false) (channel : Nat) :
    ((d.fenceForRetrain s channel).stack s).channels.any (·.channel == channel) = true := by
  unfold Dev.fenceForRetrain
  cases hc : (d.stack s).channels.any (·.channel == channel) with
  | true => rwa [if_pos (by rw [hf]; rfl)]
  | false =>
    rw [if_neg (by rw [hf]; decide), stack_onStack _ _ _ fun _ => by rfl]
    dsimp only
    rw [any_mapIf_channel _ _ _ fun _ => by rfl, channels_fenceChannel hf hc]
    simp

/-! ## Counts of parity errors and timeouts -/

theorem countOf_bump (k n : Nat) (l : List (Nat × Nat)) : countOf k (bump k n l) = countOf k l + n := by
  unfold countOf bump
  induction l with
  | nil => simp [upsert]
  | cons a l ih =>
    unfold upsert
    cases ha : a.1 == k with
    | true => simp [ha]
    | false =>
      rw [if_neg (by decide), List.find?_cons, ha, List.find?_cons, ha]
      exact ih

section Parity

variable {d : Dev} {s channel : Nat}

theorem parityAlert_below (hr : (d.stack s).resetting = false) (hf : (d.stack s).fenced = false) (h : countOf channel (d.stack s).parity < 3) :
    parityAlert s channel d = d.onStack s fun x => { x with parity := bump channel 1 x.parity } := by
  unfold parityAlert
  rw [if_neg (by rw [hr, hf]; decide)]
  dsimp only
  rw [stack_onStack _ _ _ fun _ => by rfl, countOf_bump, if_neg (by omega)]

theorem parityAlert_fourth (hr : (d.stack s).resetting = false) (hf : (d.stack s).fenced = false) (h : countOf channel (d.stack s).parity = 3) :
    parityAlert s channel d = (d.onStack s fun x => { x with parity := bump channel 1 x.parity }).fenceForRetrain s channel := by
  unfold parityAlert
  rw [if_neg (by rw [hr, hf]; decide)]
  dsimp only
  rw [stack_onStack _ _ _ fun _ => by rfl, countOf_bump, h, if_pos (by decide)]

theorem channelTimeout_of_no_op {line : Nat} (h : d.firstOp s line = none) : channelTimeout s line d = d := by
  unfold channelTimeout
  dsimp only
  rw [h]
  rfl

theorem channelTimeout_below {line : Nat} {o : LineOp} (h : d.firstOp s line = some o) (hin : d.inBuf s line = false) (hs : d.lineServed s line = true)
    (hroom : d.bufRoom s line = true) (hc : countOf (pseudoChannel line / 2) (d.stack s).timeouts < 2) :
    channelTimeout s line d = (d.drainPoisoned s line 1024).onStack s fun x => { x with timeouts := bump (pseudoChannel line / 2) 1 x.timeouts } := by
  unfold channelTimeout
  dsimp only
  rw [h, hin, hs, hroom, if_neg (by simp), stack_onStack _ _ _ fun _ => by rfl, field_drainPoisoned queueFree_timeouts, countOf_bump, if_neg (by omega)]

end Parity

/-! ## Tests and repairs (R285, R287) -/

theorem failed_fdm (d : Dev) (u t c v : Nat) : (d.fdm u t c v).sp.failed = d.sp.failed := by
  unfold Dev.fdm
  dsimp only
  split
  · rfl
  · split
    · rfl
    · split <;> rfl

/-- The first transient of a unit while no other is remembered. -/
theorem transient_first {d : Dev} (h : d.fa.transients = []) (u : Nat) :
    let e := d.transient u
    e = { d with sp := e.sp, bu := e.bu, lg := e.lg, hg := e.hg, fa := e.fa } ∧ e.fa.transients = [(u, d.tb.ns)] ∧
      e.fa.resume = insertNew u d.fa.resume ∧ e.sp.failed = d.sp.failed := by
  have hn : (([(u, d.tb.ns)] : List (Nat × Nat)).filter (·.1 == u)).length = 1 := by simp
  have he : d.transient u =
      { (({ d with fa.transients := [(u, d.tb.ns)] } : Dev).fdm u 5 1 1).log u 1 0x0201 1 with
        fa.resume := insertNew u (({ d with fa.transients := [(u, d.tb.ns)] } : Dev).fdm u 5 1 1).fa.resume } := by
    unfold Dev.transient
    rw [h]
    dsimp only [List.filter_nil, List.nil_append]
    rw [hn]
    exact if_neg (by decide)
  dsimp only
  rw [he, log_frame, fdm_frame]
  exact ⟨rfl, rfl, rfl, failed_fdm _ _ _ _ _⟩

theorem rowTestComplete_pass {d : Dev} {unit : Nat} (h : (d.stack (unitPlace unit)).testing.contains unit = true) (spareRow : Bool) :
    rowTestComplete unit true spareRow d =
      (d.onStack (unitPlace unit) fun s => { s with testing := s.testing.filter (· != unit) }).transient unit := by
  unfold rowTestComplete
  dsimp only
  rw [if_pos h]
  rfl

theorem rowTestComplete_fail {d : Dev} {unit : Nat} (h : (d.stack (unitPlace unit)).testing.contains unit = true) :
    let d1 := d.onStack (unitPlace unit) fun s => { s with testing := s.testing.filter (· != unit) }
    rowTestComplete unit false false d = ({ d1.log unit 2 0x0202 0 with sp.failed := insertNew unit d.sp.failed } : Dev).notice unit 0 := by
  unfold rowTestComplete
  dsimp only
  rw [if_pos h]
  rfl

theorem mem_insertNew_self {α : Type} [BEq α] [LawfulBEq α] (a : α) (l : List α) : a ∈ insertNew a l := by
  unfold insertNew
  split
  · next h => exact List.contains_iff_mem.mp h
  · simp

theorem channelRetrainComplete_idle {d : Dev} {s : Nat} (hh : (d.stack s).hotFence = none) (hc : (d.stack s).channels = []) (channel : Nat) (p : Bool) :
    channelRetrainComplete s channel p d = d := by
  unfold channelRetrainComplete
  dsimp only
  rw [hh, Option.isSome_none, Bool.false_and]
  simp only [Bool.false_eq_true, if_false]
  rw [hc]
  rfl

theorem channelRetrainComplete_pass {d : Dev} {s channel : Nat} (hh : (d.stack s).hotFence = none)
    (hc : (d.stack s).channels = [{ channel, retrain := true, returns := false }]) :
    let d1 := d.transient (channelUnit s channel)
    channelRetrainComplete s channel true d = d1.onStack s fun x =>
      { x with channels := mapIf (·.channel == channel) (fun c => { c with retrain := false, returns := !d1.sp.failed.contains (channelUnit s channel) }) x.channels } := by
  have hany : (([{ channel, retrain := true, returns := false }] : List FencedCh).any fun c => c.channel == channel && c.retrain) = true := by simp
  unfold channelRetrainComplete
  dsimp only
  rw [hh, Option.isSome_none, Bool.false_and]
  simp only [Bool.false_eq_true, if_false]
  rw [hc, hany]
  rfl

/-! ## Temperatures (R303) -/

theorem stackTempRead_cool {d : Dev} {s : Nat} {report : Int} {die : List Int} (hp : (report - median die).natAbs ≤ 120) (hr : report ≤ 1050)
    (hm : median die ≤ 1050) :
    ∃ f : Stack → Stack, ∃ halved : List Nat, stackTempRead s report die d = ({ d.onStack s f with th.halved := halved } : Dev).powerAxis ∧
      (∀ x, (f x).stack = x.stack ∧ (f x).fenced = x.fenced ∧ (f x).ctlTemp = max report (median die)) ∧
      (f (d.stack s)).refresh2 = if 850 < max report (median die) then true else if max report (median die) < 820 then false else (d.stack s).refresh2 := by
  have hbad : ¬ 120 < (report - median die).natAbs := by omega
  have hcool : ¬ 1050 < max report (median die) := by omega
  unfold stackTempRead controlTemp
  dsimp only
  rw [if_neg hbad, if_neg (by decide : ¬ 3 ≤ 0), if_neg fun h => hcool h.1]
  exact ⟨_, _, rfl, fun x => ⟨rfl, rfl, rfl⟩, rfl⟩

/-! ## Jobs (R300) -/

theorem field_store {α : Type} {g : Stack → α} (hg : QueueFree g) (d : Dev) (a : Nat) (data : List Byte) (k : Nat) :
    g ((d.store a data).stack k) = g (d.stack k) := by
  have hpoke : ∀ (e : Dev) s line off data, g ((e.pokeLine s line off data).stack k) = g (e.stack k) := fun e s line off data => by
    unfold Dev.pokeLine
    dsimp only
    split
    · exact field_onStack e _ _ (fun _ => by rfl) fun x => hg x x.ops _
    · rfl
  have hcopy : ∀ (e : Dev) s o data, g ((e.storeCopy s o data).stack k) = g (e.stack k) := fun e s o data =>
    storeCopy_keeps (fun x => g (x.stack k) = g (e.stack k)) rfl _ _ _ (fun _ hx => hx) fun x hx => (hpoke x _ _ _ _).trans hx
  have hline : ∀ (e : Dev) s o data, g ((e.storeLine s o data).stack k) = g (e.stack k) := fun e s o data =>
    storeLine_keeps (fun x => g (x.stack k) = g (e.stack k)) rfl _ _ _ fun c x _ hx => (hcopy x c _ _).trans hx
  have hfuel : ∀ n a data (e : Dev), g ((e.storeFuel n a data).stack k) = g (e.stack k) := fun n => by
    induction n with
    | zero => exact fun _ _ _ => rfl
    | succ n ih =>
      intro a data e
      unfold Dev.storeFuel
      split
      · rfl
      · rw [ih]
        dsimp only
        split
        · exact hline _ _ _ _
        · split <;> rfl
        · rfl
  unfold Dev.store
  split
  · rfl
  · rw [hfuel, stack_congr (congrArg Mem.stackList (takeLines_mem d a data.length))]

theorem foldl_keeps {α β : Type} (P : β → Prop) (f : β → α → β) (hf : ∀ b a, P b → P (f b a)) (l : List α) (b : β) (h : P b) : P (l.foldl f b) := by
  induction l generalizing b with
  | nil => exact h
  | cons a l ih => exact ih _ (hf b a h)

theorem jobOut_spec {α : Type} {g : Stack → α} (hg : QueueFree g) (d : Dev) (a : Nat) (data : List Byte) (k : Nat) :
    (d.jobOut a data).1 = { d with mem := (d.jobOut a data).1.mem, hg := (d.jobOut a data).1.hg } ∧ g ((d.jobOut a data).1.stack k) = g (d.stack k) := by
  unfold Dev.jobOut
  dsimp only
  split
  · exact ⟨store_frame d a data, field_store hg d a data k⟩
  · exact ⟨rfl, rfl⟩

theorem jobRun_spec {α : Type} {g : Stack → α} (hg : QueueFree g) (d : Dev) (s : Nat) (j : GrJob) (k : Nat) :
    (d.jobRun s j).1 = { d with mem := (d.jobRun s j).1.mem, hg := (d.jobRun s j).1.hg } ∧ g ((d.jobRun s j).1.stack k) = g (d.stack k) := by
  unfold Dev.jobRun
  dsimp only
  refine foldl_keeps (fun acc : Dev × JobEnd => acc.1 = { d with mem := acc.1.mem, hg := acc.1.hg } ∧ g (acc.1.stack k) = g (d.stack k)) _
    (fun acc bag hacc => ?_) _ _ ⟨rfl, rfl⟩
  split
  · next bs _ =>
    obtain ⟨hframe, hfield⟩ := jobOut_spec hg acc.1 (u64 j.desc 0x30 + bag * u32 j.desc 4 * 4) bs k
    dsimp only
    refine ⟨?_, hfield.trans hacc.2⟩
    rw [hframe, hacc.1]
  · exact hacc

theorem popJob_frame (d : Dev) (s : Nat) : d.popJob s = { d with mem.stackList := (d.popJob s).mem.stackList, ba := (d.popJob s).ba } := by
  unfold Dev.popJob
  dsimp only
  split
  · rw [answerOp_frame]
    rfl
  · rfl

theorem jobs_popJob {d : Dev} {s : Nat} {j : GrJob} {rest : List GrJob} (h : (d.stack s).jobs = j :: rest) : ((d.popJob s).stack s).jobs = rest := by
  have hjobs : ((d.onStack s fun x => { x with jobs := (d.stack s).jobs.tail }).stack s).jobs = rest := by
    rw [stack_onStack _ _ _ fun _ => by rfl, h]
    rfl
  unfold Dev.popJob
  dsimp only
  split
  · rwa [answerOp_stack]
  · exact hjobs

/-- The job at the front, run or poisoned, before its response. -/
theorem jobEnd_spec {d : Dev} {s : Nat} {j : GrJob} {rest : List GrJob} (h : (d.stack s).jobs = j :: rest) :
    let d1 := d.popJob s
    let r := if !j.ok || (d.stack s).fenced then (d1, JobEnd.poison) else d1.jobRun s j
    r.1 = { d with mem := r.1.mem, ba := r.1.ba, hg := r.1.hg } ∧ (r.1.stack s).jobs = rest ∧ (j.ok = false → r.1.mem.cells = d.mem.cells) := by
  intro d1 r
  have h1 : d1 = { d with mem := d1.mem, ba := d1.ba } := by
    unfold d1
    rw [popJob_frame]
  have hcells : d1.mem.cells = d.mem.cells := by
    unfold d1
    rw [popJob_frame]
  unfold r
  split
  · refine ⟨?_, jobs_popJob h, fun _ => hcells⟩
    dsimp only
    rw [h1]
  · next hc =>
    obtain ⟨hframe, hjobs⟩ := jobRun_spec queueFree_jobs d1 s j s
    refine ⟨?_, hjobs.trans (jobs_popJob h), fun hok => absurd ?_ hc⟩
    · rw [hframe, h1]
    · rw [hok]
      rfl

theorem gatherReduceJobComplete_spec {d : Dev} {s : Nat} {j : GrJob} {rest : List GrJob} (h : (d.stack s).jobs = j :: rest) (hr : (d.stack s).resetting = false) :
    let e := gatherReduceJobComplete s d
    e = { d with mem := e.mem, ba := e.ba, hg := e.hg } ∧ (e.stack s).jobs = rest ∧ (j.ok = false → e.mem.cells = d.mem.cells) := by
  obtain ⟨h1, h2, h3⟩ := jobEnd_spec h
  unfold gatherReduceJobComplete
  rw [h]
  dsimp only
  rw [if_neg (by rw [hr]; decide)]
  split
  · rw [sendRec_frame]
    refine ⟨?_, h2, h3⟩
    dsimp only
    rw [h1]
  · exact ⟨h1, h2, h3⟩

/-! ## Cistern resets (R309) -/

theorem copyLine_frame (d : Dev) (src dst line : Nat) : d.copyLine src dst line = { d with mem := (d.copyLine src dst line).mem } := rfl

theorem copyBack_frame (d : Dev) (s : Nat) : d.copyBack s = { d with mem := (d.copyBack s).mem } := by
  unfold Dev.copyBack
  extract_lets p m inPart _ d1 bad d2
  have h2 : d2 = { d with mem := d2.mem } := each_keeps (fun e : Dev => e = { d with mem := e.mem }) _ (fun l e he => by rw [he]; rfl) _ _ rfl
  exact each_keeps (fun e : Dev => e = { d with mem := e.mem }) _ (fun l e he => by rw [copyLine_frame, he]) _ _ h2

theorem cisternResetComplete_spec {d : Dev} {s : Nat} (hr : (d.stack s).resetting = true) (hn : d.fa.now = none) :
    let e := cisternResetComplete s d
    e = { d with mem := e.mem } ∧ (e.stack s).resetting = false := by
  have hfa : ((d.copyBack s).onStack s fun x => { x with resetting := false }).fa.now = none := by
    rw [copyBack_frame]
    exact hn
  have hd : cisternResetComplete s d = (d.copyBack s).onStack s fun x => { x with resetting := false } := by
    unfold cisternResetComplete
    rw [if_pos hr, Dev.dieReady, hfa]
  dsimp only
  rw [hd, stack_onStack _ _ _ fun _ => by rfl]
  refine ⟨?_, rfl⟩
  rw [copyBack_frame]
  rfl

/-- Settles O45. -/
theorem memoryFaults : Obligations.MemoryFaults := by
  rintro ⟨d, pending⟩ stack channel line unit report die hs hc hline hdie
  have hstack : decide (stack < 16) = true := decide_eq_true hs
  have htimeout : (Instr.channelTimeout stack line).wf = true := by simp [Instr.wf, hs, hline]
  have hparity : (Instr.parityAlert stack channel).wf = true := by simp [Instr.wf, hs, hc]
  have hretrain : ∀ p, (Instr.channelRetrainComplete stack channel p).wf = true := fun p => by simp [Instr.wf, hs, hc]
  have htemp : (Instr.stackTempRead stack report die).wf = true := by simp [Instr.wf, hs, hdie]
  have hactivity : (Instr.ieee1500Activity stack).wf = true := hstack
  have hjob : (Instr.gatherReduceJobComplete stack).wf = true := hstack
  have hreset : (Instr.cisternReset stack).wf = true := hstack
  have hready : (Instr.cisternResetComplete stack).wf = true := hstack
  dsimp only
  refine ⟨fun h => ?_, fun h => ?_, fun h => ?_, fun h => ?rowFail, fun h ht => ?rowPass, fun h => ?_, fun o h hin hsv hroom hcount => ?timeout,
    fun hr hf => ⟨fun h => ?_, fun h => ?fourth⟩, fun hh hch ht hfail => ?retrain, fun hh hch p => ?_, fun hf => ?_, fun hf => ?fence,
    fun hp hr hm => ?temp, fun h => ?_, fun j rest hj hr => ?job, fun hr => ?_, fun hr => ?cistern, fun hr hn => ?ready, fun hr => ?_⟩
  · exact (run_of_wf rfl _).trans (by rw [softPprComplete, if_pos h])
  · exact (run_of_wf rfl _).trans (by rw [softPprComplete, if_neg (by rw [h]; decide)])
  · exact (run_of_wf rfl _).trans (by rw [rowTestComplete, if_neg (by rw [h]; decide)])
  case rowFail =>
    have hd := rowTestComplete_fail h
    dsimp only at hd
    rw [notice_frame, log_frame] at hd
    refine ⟨State.mk (rowTestComplete unit false false d) pending, run_of_wf rfl _, ?_, ?_, ?_, ?_⟩ <;> dsimp only <;> rw [hd]
    · rfl
    · exact mem_insertNew_self _ _
    · rfl
    · exact congrArg Stack.testing (stack_onStack d _ (fun s => { s with testing := s.testing.filter (· != unit) }) fun _ => by rfl)
  case rowPass =>
    have ht' : (d.onStack (unitPlace unit) fun s => { s with testing := s.testing.filter (· != unit) }).fa.transients = [] := ht
    obtain ⟨h1, h2, h3, _⟩ := transient_first ht' unit
    rw [← rowTestComplete_pass h true] at h1 h2 h3
    exact ⟨_, run_of_wf rfl _, congrArg (fun e => State.mk e pending) (h1.trans (by rw [h1]; rfl)), h2, h3⟩
  · exact (run_of_wf htimeout _).trans (by rw [channelTimeout_of_no_op h])
  case timeout =>
    have hd := channelTimeout_below h hin hsv hroom hcount
    refine ⟨State.mk (channelTimeout stack line d) pending, run_of_wf htimeout _, ?_, ?_, ?_⟩ <;> dsimp only <;> rw [hd]
    · rw [drainPoisoned_frame]
      rfl
    · rw [stack_onStack _ _ _ fun _ => by rfl]
      dsimp only
      rw [field_drainPoisoned queueFree_timeouts]
    · rw [stack_onStack _ _ _ fun _ => by rfl]
      dsimp only
      rw [field_drainPoisoned queueFree_channels]
  · exact (run_of_wf hparity _).trans (by rw [parityAlert_below hr hf h])
  case fourth =>
    have hd := parityAlert_fourth hr hf h
    have hframe := fenceOf_fenceForRetrain (fenceOf_onStack (fenceOf_self d) stack fun x => { x with parity := bump channel 1 x.parity }) stack channel
    rw [← hd] at hframe
    refine ⟨State.mk (parityAlert stack channel d) pending, run_of_wf hparity _, congrArg (fun e => State.mk e pending) (hframe.trans (by rw [hframe]; rfl)), ?_, ?_⟩
    · dsimp only
      rw [hframe]
      rfl
    · dsimp only
      rw [hd]
      exact any_channels_fenceForRetrain (by rw [stack_onStack _ _ _ fun _ => by rfl]; exact hf) channel
  case retrain =>
    have hd := channelRetrainComplete_pass hh hch
    obtain ⟨h1, _, _, h4⟩ := transient_first ht (channelUnit stack channel)
    have hst : (d.transient (channelUnit stack channel)).stack stack = d.stack stack := stack_congr (by rw [h1]) stack
    refine ⟨State.mk (channelRetrainComplete stack channel true d) pending, run_of_wf (hretrain _) _, ?_, ?_⟩ <;> dsimp only <;> dsimp only at hd <;> rw [hd]
    · rw [h1]
      rfl
    · rw [stack_onStack _ _ _ fun _ => by rfl]
      dsimp only
      rw [hst, hch, h4, hfail]
      simp [mapIf]
  · exact (run_of_wf (hretrain p) _).trans (by rw [channelRetrainComplete_idle hh hch])
  · exact (run_of_wf hactivity _).trans (by rw [Dev.fenceStack, if_pos hf])
  case fence =>
    have hframe := fenceOf_fenceStack (fenceOf_self d) stack
    obtain ⟨h1, h2, _⟩ := fenceStack_spec hf
    refine ⟨State.mk (d.fenceStack stack) pending, run_of_wf hactivity _, congrArg (fun e => State.mk e pending) (hframe.trans (by rw [hframe]; rfl)), h1, h2, ?_,
      fun o => ?_⟩
    · dsimp only
      rw [hframe]
      rfl
    · unfold Dev.fencedLine
      dsimp only
      rw [h1]
      rfl
  case temp =>
    obtain ⟨f, halved, hd, hf, href⟩ := stackTempRead_cool hp hr hm
    refine ⟨State.mk (stackTempRead stack report die d) pending, run_of_wf htemp _, ?_⟩
    have hst : (stackTempRead stack report die d).stack stack = f (d.stack stack) := by
      rw [hd, powerAxis_frame]
      exact stack_onStack d stack f fun x => (hf x).1
    dsimp only
    rw [hst]
    obtain ⟨_, hfenced, htemp⟩ := hf (d.stack stack)
    refine ⟨?_, ?_, htemp, hfenced, href⟩
    · rw [hd, powerAxis_frame]
      rfl
    · rw [hd, powerAxis_frame]
      rfl
  · refine (run_of_wf hjob _).trans ?_
    unfold gatherReduceJobComplete
    split
    · rfl
    · next j rest hj =>
      rcases h with hn | hr
      · rw [hn] at hj
        cases hj
      · rw [if_pos hr]
  case job =>
    obtain ⟨h1, h2, h3⟩ := gatherReduceJobComplete_spec hj hr
    exact ⟨_, run_of_wf hjob _, congrArg (fun e => State.mk e pending) h1, h2, h3⟩
  · exact (run_of_wf hreset fun e => if (e.stack stack).resetting = true then e else e.resetCistern stack).trans (by dsimp only; rw [if_pos hr])
  case cistern =>
    have hif : (if (d.stack stack).resetting = true then d else d.resetCistern stack) = d.resetCistern stack := if_neg (by rw [hr]; decide)
    refine ⟨State.mk (d.resetCistern stack) pending, (run_of_wf hreset fun e => if (e.stack stack).resetting = true then e else e.resetCistern stack).trans (by dsimp only; rw [hif]), rfl, rfl, fun k hk => ?_, ?_⟩
    · exact stack_onStack_other _ _ _ _ (fun _ => by rfl) hk
    · have hst : (d.resetCistern stack).stack stack = { d.stack stack with
          resetting := true, keys := (d.stack stack).keys + 1, ops := [], buf := [], copies := [], jobs := [], repairing := [], testing := [] } :=
        stack_onStack _ _ _ fun _ => by rfl
      dsimp only
      rw [hst]
      exact ⟨rfl, rfl, rfl, rfl, rfl⟩
  case ready =>
    obtain ⟨h1, h2⟩ := cisternResetComplete_spec hr hn
    exact ⟨_, run_of_wf hready _, congrArg (fun e => State.mk e pending) h1, h2⟩
  · exact (run_of_wf hready _).trans (by rw [cisternResetComplete, if_neg (by rw [hr]; decide)])

end Sys2Proof.Machine
end

section
/-!
PROOFS. What a fault report changes (chapter 18, R490, R492), shared by the operations that report one.
-/

set_option Elab.async false

namespace Sys2Proof.Machine

theorem beginTest_ports (d : Dev) (unit : Nat) :
    d.beginTest unit = { d with
      fa.testing := insertNew unit d.fa.testing
      ba.ports := (d.beginTest unit).ba.ports
      str.list := (d.beginTest unit).str.list } := by
  unfold Dev.beginTest
  dsimp only
  split
  · split <;> rfl
  · split <;> rfl
  · rw [stopWork_frame]

theorem abandonRecovery_frame (d : Dev) :
    d.abandonRecovery = { d with
      fa := d.abandonRecovery.fa, sp := d.abandonRecovery.sp, str := d.abandonRecovery.str, gr := d.abandonRecovery.gr
      lg := d.abandonRecovery.lg, hg := d.abandonRecovery.hg, th := d.abandonRecovery.th, fw := d.abandonRecovery.fw } := by
  unfold Dev.abandonRecovery
  split
  · rw [isolate_frame]
  · rfl

/-- What the report of a unit's fault changes. -/
theorem reportFault_unit_frame (d : Dev) (u : Nat) :
    let e := d.reportFault u .unit
    e = { d with fa := e.fa, sp := e.sp, str := e.str, gr := e.gr, lg := e.lg, hg := e.hg, th := e.th, fw := e.fw, ba.ports := e.ba.ports } := by
  unfold Dev.reportFault
  dsimp only
  split
  · rfl
  split
  · rfl
  split
  · split
    · rw [abandonRecovery_frame]
    · rw [abandonRecovery_frame]
  split
  · rw [safeHold_frame]
  · split
    · rw [beginTest_ports]
    · rfl

/-- No recovery runs and no report waits. -/
def Dev.calm (d : Dev) : Prop := d.fa.isolated = [] ∧ d.fa.queue = [] ∧ d.fa.now = none

theorem reportFault_calm {d : Dev} (h : d.calm) (u : Nat) :
    (d.reportFault u .unit = if testable u = true then ({ d with fa.queue := [{ unit := u, kind := .unit }] } : Dev).beginTest u
      else { d with fa.queue := [{ unit := u, kind := .unit }] }) ∧
    d.reportFault u .die = { d with fa.queue := [{ unit := u, kind := .die }] } := by
  obtain ⟨hi, hq, hn⟩ := h
  unfold Dev.reportFault
  dsimp only
  rw [hi, hq, hn]
  refine ⟨?_, rfl⟩
  simp

/-- A report of a unit while all is calm joins the queue, and a unit that can be tested is tested at once. -/
theorem reportFault_calm_frame {d : Dev} (h : d.calm) (u : Nat) :
    let e := d.reportFault u .unit
    e = { d with fa.queue := [{ unit := u, kind := .unit }], fa.testing := e.fa.testing, ba.ports := e.ba.ports, str.list := e.str.list } ∧
      (testable u = true → u ∈ e.fa.testing) := by
  dsimp only
  rw [(reportFault_calm h u).1]
  split
  · rw [beginTest_ports]
    exact ⟨rfl, fun _ => mem_insertNew _ _⟩
  · next ht => exact ⟨rfl, fun h => absurd h ht⟩

end Sys2Proof.Machine
end

section
/-!
PROOFS. Lasers, tuning and calibration (chapter 08, R250, R251, R253 to R256, R259, R260, R264, R269 to R271, R273).
-/

set_option Elab.async false

namespace Sys2Proof.Machine

/-! ## What a loss of light changes -/

/-- What locating a loss changes besides the ports. -/
def lossOf (d e : Dev) : Dev :=
  { d with op.ports := e.op.ports, op.rings := e.op.rings, ba.ports := e.ba.ports, sp := e.sp, bu := e.bu, lg := e.lg, hg := e.hg }

theorem lossOf_self (d : Dev) : d = lossOf d d := rfl

section LossOf

variable {d e : Dev} (h : e = lossOf d e)
include h

theorem lossOf_trans {x : Dev} (hx : x = lossOf e x) : x = lossOf d x := by
  rw [hx, h]
  rfl

theorem lossOf_notice (u v : Nat) : e.notice u v = lossOf d (e.notice u v) := lossOf_trans h (by rw [lossOf, notice_frame])

theorem lossOf_fdm (u t c v : Nat) : e.fdm u t c v = lossOf d (e.fdm u t c v) := lossOf_trans h (by rw [lossOf, fdm_frame])

theorem lossOf_onPort (p q : Nat) (f : PlanePort → PlanePort) : e.onPort p q f = lossOf d (e.onPort p q f) := lossOf_trans h rfl

theorem lossOf_onOptic (p q : Nat) (f : OptPort → OptPort) : e.onOptic p q f = lossOf d (e.onOptic p q f) := lossOf_trans h rfl

theorem lossOf_onRing (id : RingId) (f : Ring → Ring) : e.onRing id f = lossOf d (e.onRing id f) := lossOf_trans h rfl

theorem lossOf_each {α : Type} (l : List α) {f : α → Dev → Dev} (hf : ∀ a e, e = lossOf d e → f a e = lossOf d (f a e)) : each l f e = lossOf d (each l f e) :=
  each_keeps (fun x : Dev => x = lossOf d x) f hf l e h

theorem lossOf_retirePort (p q : Nat) : e.retirePort p q = lossOf d (e.retirePort p q) := by
  unfold Dev.retirePort
  split
  · exact h
  · exact lossOf_onPort (lossOf_onPort h _ _ _) _ _ _

theorem lossOf_steerPort (p q : Nat) : e.steerPort p q = lossOf d (e.steerPort p q) := by
  unfold Dev.steerPort
  extract_lets _ _ d0 d1
  have h0 : d0 = lossOf d d0 := by
    unfold d0
    split
    · exact lossOf_trans (lossOf_fdm h _ _ _ _) rfl
    · exact h
  have h1 : d1 = lossOf d d1 := lossOf_onPort h0 _ _ _
  split
  · exact lossOf_trans h1 rfl
  · exact lossOf_retirePort h1 _ _

theorem lossOf_locateLoss (p q line : Nat) : e.locateLoss p q line = lossOf d (e.locateLoss p q line) := by
  unfold Dev.locateLoss
  extract_lets r d1 d2
  have h2 : d2 = lossOf d d2 := lossOf_notice (lossOf_onOptic h _ _ _) _ _
  split
  · exact lossOf_steerPort h2 _ _
  · exact h2

theorem lossOf_abortCal (p q : Nat) : e.abortCal p q = lossOf d (e.abortCal p q) := by
  unfold Dev.abortCal
  split
  · refine lossOf_onOptic ?_ _ _ _
    split
    · exact lossOf_onPort h _ _ _
    · exact h
  · exact h

theorem lossOf_recheck (w : Nat) : e.recheck w = lossOf d (e.recheck w) :=
  lossOf_each h _ fun _ _ ha => lossOf_each ha _ fun _ _ hb => lossOf_onRing hb _ _

end LossOf

/-! ## The holds of ports -/

/-- A change of the ports that loses no hold of a comb, and neither brings a port back nor takes its retirement back. -/
def PortsKept (d e : Dev) : Prop :=
  ∀ a b, (.comb ∈ (d.pport a b).holds → .comb ∈ (e.pport a b).holds) ∧ (e.pport a b).retired = (d.pport a b).retired ∧
    ((d.pport a b).retiring = true → (e.pport a b).retiring = true)

theorem pport_congr {d e : Dev} (h : e.ba.ports = d.ba.ports) (a b : Nat) : e.pport a b = d.pport a b := by
  unfold Dev.pport
  rw [h]

theorem portsKept_of_ports {d e : Dev} (h : e.ba.ports = d.ba.ports) : PortsKept d e := fun a b => by
  rw [pport_congr h]
  exact ⟨id, rfl, id⟩

theorem PortsKept.trans {d e x : Dev} (h1 : PortsKept d e) (h2 : PortsKept e x) : PortsKept d x := fun a b =>
  ⟨fun h => (h2 a b).1 ((h1 a b).1 h), (h2 a b).2.1.trans (h1 a b).2.1, fun h => (h2 a b).2.2 ((h1 a b).2.2 h)⟩

theorem portsKept_onPort (d : Dev) (p q : Nat) {f : PlanePort → PlanePort} (hs : ∀ x, (f x).port = x.port ∧ (f x).plane = x.plane)
    (hc : ∀ x, .comb ∈ x.holds → .comb ∈ (f x).holds) (hr : ∀ x, (f x).retired = x.retired) (hg : ∀ x, x.retiring = true → (f x).retiring = true) :
    PortsKept d (d.onPort p q f) := fun a b => by
  by_cases hab : a = p ∧ b = q
  · obtain ⟨rfl, rfl⟩ := hab
    rw [pport_onPort _ _ _ _ hs]
    exact ⟨hc _, hr _, hg _⟩
  · rw [pport_onPort_other _ _ _ _ _ _ hs (by omega)]
    exact ⟨id, rfl, id⟩

theorem mem_insertNew_of_mem {α : Type} [BEq α] {a b : α} {l : List α} (h : a ∈ l) : a ∈ insertNew b l := by
  unfold insertNew
  split
  · exact h
  · exact List.mem_append_left _ h

theorem portsKept_holdPort (d : Dev) (hold : Hold) (p q : Nat) : PortsKept d (d.holdPort hold p q) :=
  portsKept_onPort d p q (fun _ => ⟨rfl, rfl⟩) (fun _ h => mem_insertNew_of_mem h) (fun _ => rfl) fun _ h => h

theorem portsKept_freePort (d : Dev) {hold : Hold} (hh : hold ≠ .comb) (p q : Nat) : PortsKept d (d.freePort hold p q) :=
  portsKept_onPort d p q (fun _ => ⟨rfl, rfl⟩) (fun _ h => List.mem_filter.mpr ⟨h, by simpa using hh.symm⟩) (fun _ => rfl) fun _ h => h

theorem portsKept_retirePort (d : Dev) (p q : Nat) : PortsKept d (d.retirePort p q) := by
  unfold Dev.retirePort
  split
  · exact portsKept_of_ports rfl
  · exact (portsKept_holdPort d .switchPort p q).trans (portsKept_onPort _ p q (fun _ => ⟨rfl, rfl⟩) (fun _ h => h) (fun _ => rfl) fun _ _ => rfl)

theorem portsKept_locateLoss (d : Dev) (p q line : Nat) : PortsKept d (d.locateLoss p q line) := by
  have hsteer : ∀ e : Dev, PortsKept e (e.steerPort p q) := fun e => by
    unfold Dev.steerPort
    extract_lets _ _ d0 d1
    have h0 : d0.ba.ports = e.ba.ports := by
      unfold d0
      split
      · show (e.fdm _ 1 1 1).ba.ports = _
        rw [fdm_frame]
      · rfl
    have h1 : PortsKept e d1 := (portsKept_of_ports h0).trans (portsKept_holdPort _ _ _ _)
    split
    · exact h1
    · exact h1.trans (portsKept_retirePort _ _ _)
  unfold Dev.locateLoss
  extract_lets r d1 d2
  have h2 : PortsKept d d2 := portsKept_of_ports (by unfold d2; rw [notice_frame]; rfl)
  split
  · exact h2.trans (hsteer _)
  · exact h2

theorem portsKept_abortCal (d : Dev) (p q : Nat) : PortsKept d (d.abortCal p q) := by
  unfold Dev.abortCal
  split
  · split
    · exact portsKept_freePort d (by decide) p q
    · exact portsKept_of_ports rfl
  · exact portsKept_of_ports rfl

theorem portsKept_each {α : Type} (l : List α) {f : α → Dev → Dev} (hf : ∀ a e, PortsKept e (f a e)) (d : Dev) : PortsKept d (each l f d) :=
  each_keeps (fun e => PortsKept d e) f (fun a e he => he.trans (hf a e)) l d (portsKept_of_ports rfl)

/-- What each step brings about for its own element, and no step takes back, holds for every element at the end. -/
theorem each_forall {α β : Type} (P : β → Prop) (Q : α → β → Prop) {f : α → β → β} (hP : ∀ a b, P b → P (f a b)) (hkeep : ∀ a c b, Q a b → Q a (f c b))
    {l : List α} (hself : ∀ a ∈ l, ∀ b, P b → Q a (f a b)) {b : β} (h : P b) : ∀ a ∈ l, Q a (each l f b) := by
  induction l generalizing b with
  | nil => exact fun a ha => absurd ha List.not_mem_nil
  | cons c l ih =>
    intro a ha
    rw [each_cons]
    rcases List.mem_cons.mp ha with rfl | hm
    · exact each_keeps (Q a) f (fun c b => hkeep a c b) l _ (hself a List.mem_cons_self b h)
    · exact ih (fun x hx => hself x (List.mem_cons_of_mem _ hx)) (hP c b h) a hm

/-! ## A comb fails (R250, R251) -/

theorem comb_holdPort (d : Dev) (p q : Nat) : .comb ∈ ((d.holdPort .comb p q).pport p q).holds := by
  rw [Dev.holdPort, pport_onPort _ _ _ _ fun _ => by exact ⟨rfl, rfl⟩]
  exact mem_insertNew _ _

theorem givesCells_of_comb {d : Dev} {p q : Nat} (h : .comb ∈ (d.pport p q).holds) : d.givesCells p q = false := by
  unfold Dev.givesCells
  rw [List.contains_iff_mem.mpr h, Bool.not_true, Bool.and_false, Bool.false_and]

/-- The switch to the hot spare begins: the well remembers it and every fed port is held. -/
theorem startSwitch_spec (d : Dev) (scheduled : Bool) (w : Nat) :
    let e := d.startSwitch scheduled w
    let f := fun x : Wellhead => { x with switching := some d.tb.ns, scheduled, spareUsed := true, moveNext := false, biasNext := false }
    e = lossOf (d.onWell w f) e ∧ e.well w = f (d.well w) ∧ ∀ p ∈ fedPorts w, .comb ∈ (e.pport p (w % 4)).holds := by
  intro e f
  have hframe : e = lossOf (d.onWell w f) e :=
    lossOf_recheck (lossOf_each (lossOf_self _) _ fun p x hx => lossOf_onPort (lossOf_abortCal hx _ _) _ _ _) w
  refine ⟨hframe, ?_, ?_⟩
  · have hwell : e.well w = (d.onWell w f).well w := by
      rw [hframe]
      rfl
    rw [hwell, well_onWell _ _ _ fun _ => by rfl]
  · intro p hp
    have hports : e.ba.ports = (each (fedPorts w) (fun p d => (d.abortCal p (w % 4)).holdPort .comb p (w % 4)) (d.onWell w f)).ba.ports := by
      have hrec : ∀ x : Dev, (x.recheck w).ba.ports = x.ba.ports := fun x =>
        each_keeps (fun y : Dev => y.ba.ports = x.ba.ports) _ (fun a y hy =>
          each_keeps (fun z : Dev => z.ba.ports = x.ba.ports) _ (fun b z hz => by exact hz) _ y hy) _ x rfl
      exact hrec _
    rw [pport_congr hports]
    exact each_forall (fun _ => True) (fun p (x : Dev) => .comb ∈ (x.pport p (w % 4)).holds) (fun _ _ _ => trivial)
      (fun a c x hx => ((portsKept_abortCal x c (w % 4)).trans (portsKept_holdPort _ _ _ _) a (w % 4)).1 hx) (fun a _ x _ => comb_holdPort _ _ _) trivial p hp

/-- No granted cell of a well's ports is left. -/
theorem loseGranted_matches (d : Dev) (w : Nat) : ∀ m ∈ (d.loseGranted w).ba.matches_, m.plane = w % 4 → m.src ∉ fedPorts w := by
  have hdiscard : ∀ t p (e : Dev), (e.discard t p).ba.matches_ = e.ba.matches_ := fun t p e => by
    unfold Dev.discard
    extract_lets n d1
    split
    · rw [reportFault_unit_frame]
      rfl
    · rfl
  unfold Dev.loseGranted
  extract_lets granted one
  refine each_keeps (fun e : Dev => ∀ m ∈ e.ba.matches_, m.plane = w % 4 → m.src ∉ fedPorts w) _ (fun m e he => ?_) _ _ ?_
  · unfold one
    split
    · next q _ =>
      have hsame : (each m.dsts (fun t => Dev.discard t m.plane) { e with ba.out := e.ba.out.erase q }).ba.matches_ = e.ba.matches_ :=
        each_keeps (fun x : Dev => x.ba.matches_ = e.ba.matches_) _ (fun t x hx => (hdiscard t m.plane x).trans hx) _ _ rfl
      rw [hsame]
      exact he
    · exact he
  · intro m hm hplane hsrc
    obtain ⟨_, hng⟩ := List.mem_filter.mp hm
    have hg : granted m = true := by
      unfold granted
      rw [hplane, beq_self_eq_true, Bool.true_and]
      exact List.contains_iff_mem.mpr hsrc
    rw [hg] at hng
    cases hng

theorem loseGranted_of_none {d : Dev} {w : Nat} (h : ∀ m ∈ d.ba.matches_, m.plane = w % 4 → m.src ∉ fedPorts w) : d.loseGranted w = d := by
  have hng : ∀ m ∈ d.ba.matches_, (m.plane == w % 4 && (fedPorts w).contains m.src) = false := fun m hm => by
    by_contra hc
    rw [Bool.not_eq_false, Bool.and_eq_true, beq_iff_eq] at hc
    exact h m hm hc.1 (List.contains_iff_mem.mp hc.2)
  have hnone : (d.ba.matches_.filter fun m => m.plane == w % 4 && (fedPorts w).contains m.src) = [] :=
    List.filter_eq_nil_iff.mpr fun m hm => by rw [hng m hm]; decide
  have hall : (d.ba.matches_.filter fun m => !(m.plane == w % 4 && (fedPorts w).contains m.src)) = d.ba.matches_ :=
    List.filter_eq_self.mpr fun m hm => by rw [hng m hm]; rfl
  unfold Dev.loseGranted
  dsimp only
  rw [hnone, hall]
  rfl

section Comb

variable {d : Dev} {w : Nat}

theorem combFailure_idle (h : d.op.dark = true ∨ (d.well w).switching.isSome = true) : combFailure w d = d := if_pos h

/-- The device after the failure is recorded and the granted cells are lost. -/
def Dev.combLost (w : Nat) (d : Dev) : Dev := ((d.fdm (combUnit (0x80 + w) (d.well w).source) 1 5 1).notice (combUnit (0x80 + w) (d.well w).source) 0).loseGranted w

theorem combFailure_of_lit (hd : d.op.dark = false) (hs : (d.well w).switching = none) :
    combFailure w d = if (d.well w).spareUsed then each (fedPorts w) (fun p d => d.retirePort p (w % 4)) (d.combLost w)
      else each (fedPorts w) (fun p d => d.locateLoss p (w % 4) (d.darkLine p (w % 4))) ((d.combLost w).startSwitch false w) := by
  refine if_neg ?_
  rw [hd, hs]
  decide

theorem combFailure_matches (hd : d.op.dark = false) (hs : (d.well w).switching = none) :
    ∀ m ∈ (combFailure w d).ba.matches_, m.plane = w % 4 → m.src ∉ fedPorts w := by
  have hlost : ∀ m ∈ (d.combLost w).ba.matches_, m.plane = w % 4 → m.src ∉ fedPorts w := loseGranted_matches _ w
  rw [combFailure_of_lit hd hs]
  split
  · have hf := lossOf_each (lossOf_self (d.combLost w)) (fedPorts w) fun p e he => lossOf_retirePort he p (w % 4)
    rw [hf]
    exact hlost
  · have hf := lossOf_each (startSwitch_spec (d.combLost w) false w).1 (fedPorts w) fun p e he => lossOf_locateLoss he p (w % 4) (e.darkLine p (w % 4))
    rw [hf]
    exact hlost

theorem combLost_of_none (h : ∀ m ∈ d.ba.matches_, m.plane = w % 4 → m.src ∉ fedPorts w) : d.combLost w = lossOf d (d.combLost w) := by
  have hf := lossOf_notice (lossOf_fdm (lossOf_self d) (combUnit (0x80 + w) (d.well w).source) 1 5 1) (combUnit (0x80 + w) (d.well w).source) 0
  have hsame : d.combLost w = (d.fdm (combUnit (0x80 + w) (d.well w).source) 1 5 1).notice (combUnit (0x80 + w) (d.well w).source) 0 := by
    refine loseGranted_of_none ?_
    rw [hf]
    exact h
  rw [hsame]
  exact hf

/-- With the hot spare free, the well switches over and its ports are held. -/
theorem combFailure_spare (hd : d.op.dark = false) (hs : (d.well w).switching = none) (hm : ∀ m ∈ d.ba.matches_, m.plane = w % 4 → m.src ∉ fedPorts w)
    (hu : (d.well w).spareUsed = false) :
    let e := combFailure w d
    e = { d with op := e.op, ba := e.ba, sp := e.sp, bu := e.bu, lg := e.lg, hg := e.hg } ∧ (e.well w).switching = some d.tb.ns ∧ (e.well w).spareUsed = true ∧
      ∀ p ∈ fedPorts w, e.givesCells p (w % 4) = false := by
  intro e
  obtain ⟨h1, h2, h3⟩ := startSwitch_spec (d.combLost w) false w
  have he : e = each (fedPorts w) (fun p d => d.locateLoss p (w % 4) (d.darkLine p (w % 4))) ((d.combLost w).startSwitch false w) := by
    unfold e
    rw [combFailure_of_lit hd hs, hu]
    rfl
  have hframe : e = lossOf ((d.combLost w).startSwitch false w) e := by
    rw [he]
    exact lossOf_each (lossOf_self _) _ fun p x hx => lossOf_locateLoss hx p (w % 4) (x.darkLine p (w % 4))
  have hlost := combLost_of_none hm
  have hwell : e.well w = ((d.combLost w).startSwitch false w).well w := by
    rw [hframe]
    rfl
  refine ⟨?_, ?_, ?_, fun p hp => givesCells_of_comb ?_⟩
  · rw [hframe, h1, hlost]
    rfl
  · rw [hwell, h2, hlost]
    rfl
  · rw [hwell, h2]
  · have hkept := portsKept_each (fedPorts w) (fun p x => portsKept_locateLoss x p (w % 4) (x.darkLine p (w % 4))) ((d.combLost w).startSwitch false w)
    rw [he]
    exact (hkept p (w % 4)).1 (h3 p hp)

theorem retiring_retirePort {e : Dev} {p q : Nat} (h : (e.pport p q).retired = false) : ((e.retirePort p q).pport p q).retiring = true := by
  unfold Dev.retirePort
  rw [if_neg (by rw [h]; decide), pport_onPort _ _ _ _ fun _ => by exact ⟨rfl, rfl⟩]

/-- Without a spare the well's ports retire. -/
theorem combFailure_retire (hd : d.op.dark = false) (hs : (d.well w).switching = none) (hm : ∀ m ∈ d.ba.matches_, m.plane = w % 4 → m.src ∉ fedPorts w)
    (hu : (d.well w).spareUsed = true) :
    let e := combFailure w d
    e = { d with op := e.op, ba := e.ba, sp := e.sp, bu := e.bu, lg := e.lg, hg := e.hg } ∧ (e.well w).switching = none ∧
      ∀ p ∈ fedPorts w, (d.pport p (w % 4)).retired = false → (e.pport p (w % 4)).retiring = true := by
  intro e
  have he : e = each (fedPorts w) (fun p d => d.retirePort p (w % 4)) (d.combLost w) := by
    unfold e
    rw [combFailure_of_lit hd hs, hu]
    rfl
  have hlost := combLost_of_none hm
  have hframe : e = lossOf d e := by
    rw [he]
    exact lossOf_each hlost _ fun p x hx => lossOf_retirePort hx p (w % 4)
  refine ⟨?_, ?_, fun p hp hr => ?_⟩
  · rw [hframe]
    rfl
  · rw [hframe]
    exact hs
  · have hports : (d.combLost w).ba.ports = d.ba.ports := by
      have hf : (d.combLost w) = (d.fdm (combUnit (0x80 + w) (d.well w).source) 1 5 1).notice (combUnit (0x80 + w) (d.well w).source) 0 := by
        refine loseGranted_of_none ?_
        rw [notice_frame, fdm_frame]
        exact hm
      rw [hf, notice_frame, fdm_frame]
    have hstart : ((d.combLost w).pport p (w % 4)).retired = false := by rw [pport_congr hports]; exact hr
    rw [he]
    exact each_forall (PortsKept (d.combLost w)) (fun p x => ((d.combLost w).pport p (w % 4)).retired = false → (x.pport p (w % 4)).retiring = true)
      (fun a x hx => hx.trans (portsKept_retirePort x a (w % 4))) (fun a c x hx ha => (portsKept_retirePort x c (w % 4) a (w % 4)).2.2 (hx ha))
      (fun a _ x hx ha => retiring_retirePort ((hx a (w % 4)).2.1.trans ha)) (portsKept_of_ports rfl) p hp hstart

end Comb

/-! ## The switch is complete (R251) -/

theorem combSwitchComplete_idle {d : Dev} {w : Nat} (h : (d.well w).switching = none) : combSwitchComplete w d = d := by
  unfold combSwitchComplete
  rw [h]

/-- A well whose source changes while its ports come back. -/
def Dev.switched (w : Nat) (d : Dev) : Dev :=
  each (fedPorts w) (fun p d => d.freePort .comb p (w % 4))
    (d.onWell w fun x => { x with switching := none, source := 1 - x.source, bias := x.spareBias, spareBias := x.bias })

theorem switched_spec (d : Dev) (w : Nat) : d.switched w = { d with op := (d.switched w).op, ba := (d.switched w).ba } ∧
    (d.switched w).well w = { d.well w with switching := none, source := 1 - (d.well w).source, bias := (d.well w).spareBias, spareBias := (d.well w).bias } := by
  have hf : d.switched w = lossOf (d.onWell w fun x => { x with switching := none, source := 1 - x.source, bias := x.spareBias, spareBias := x.bias }) (d.switched w) :=
    lossOf_each (lossOf_self _) _ fun p x hx => lossOf_onPort hx _ _ _
  have hba : ∀ e : Dev, each (fedPorts w) (fun p d => d.freePort .comb p (w % 4)) e = { e with ba.ports := (each (fedPorts w) (fun p d => d.freePort .comb p (w % 4)) e).ba.ports } :=
    fun e => each_keeps (fun x : Dev => x = { e with ba.ports := x.ba.ports }) _ (fun p x hx => by rw [hx]; rfl) _ _ rfl
  refine ⟨?_, ?_⟩
  · unfold Dev.switched
    rw [hba]
    rfl
  · have hwell := congrArg (fun x : Dev => x.well w) hf
    refine hwell.trans ?_
    exact well_onWell d w (fun x => { x with switching := none, source := 1 - x.source, bias := x.spareBias, spareBias := x.bias }) fun _ => by rfl

theorem combSwitchComplete_of_switching {d : Dev} {w t : Nat} (h : (d.well w).switching = some t) :
    combSwitchComplete w d = (if (d.well w).scheduled then d.reach (t + 20000) else d).switched w := by
  unfold combSwitchComplete
  rw [h]
  rfl

theorem switched_reach (d : Dev) (w t : Nat) (c : Bool) :
    let e := (if c = true then d.reach t else d).switched w
    e = { d with op := e.op, ba := e.ba, tb := e.tb } ∧ e.tb.ns = (if c = true then max d.tb.ns t else d.tb.ns) ∧
      e.well w = { d.well w with switching := none, source := 1 - (d.well w).source, bias := (d.well w).spareBias, spareBias := (d.well w).bias } := by
  dsimp only
  cases c with
  | false =>
    obtain ⟨h1, h2⟩ := switched_spec d w
    simp only [Bool.false_eq_true, if_false]
    exact ⟨by rw [h1], by rw [h1], h2⟩
  | true =>
    obtain ⟨hr, hns⟩ := reach_frame d t
    obtain ⟨h1, h2⟩ := switched_spec (d.reach t) w
    have hwell : (d.reach t).well w = d.well w := by rw [hr]; rfl
    rw [hwell] at h2
    simp only [if_true]
    refine ⟨?_, by rw [h1]; exact hns, h2⟩
    rw [h1, hr]

/-! ## Rings (R253 to R256) -/

section Ring

variable {d : Dev} {id : RingId}

theorem tuningLoopUpdate_idle (h : d.lit id.port = false ∨ d.fw.handover.isSome = true) (c : Bool) (step dT : Int) : tuningLoopUpdate id c step dT d = d := by
  refine if_pos (h.imp_left fun h => ?_)
  rw [h]
  rfl

theorem tuningLoopUpdate_inWindow (hl : d.lit id.port = true) (hh : d.fw.handover = none) (step dT : Int) :
    let steered := (d.ring id).rest + d.feedforward id dT
    tuningLoopUpdate id true step dT d = d.onRing id fun r => { r with
      code := clampCode id.idx (r.code + (max (-4) (min 4 step) + nearestInt steered 2000)), rest := steered - 2000 * nearestInt steered 2000, out := 0 } := by
  have hn : ¬ ((!d.lit id.port) = true ∨ d.fw.handover.isSome = true) := by rw [hl, hh]; decide
  unfold tuningLoopUpdate
  rw [if_neg hn]
  exact if_neg fun h => absurd h.1 (by simp)

theorem laneIdentityCheck_dark (h : d.lit id.port = false) (v : Option Nat) : laneIdentityCheck id v d = d := by
  unfold laneIdentityCheck
  dsimp only
  rw [h]
  exact if_pos (.inr rfl)

/-- The right identity on a ring in lock confirms it. -/
theorem laneIdentityCheck_right {v : Nat} (hl : d.lit id.port = true) (hw : d.wantedIdentity id = some v) (hlock : (d.ring id).locked = true)
    (hr : (d.optic id.port id.plane).relockSince = none) :
    laneIdentityCheck id (some v) d = d.onRing id fun r => { r with locked := true, checked := true, sweeps := 0, out := 0 } := by
  have hr' : ((d.onRing id fun r => { r with locked := true, checked := true, sweeps := 0, out := 0 }).optic id.port id.plane).relockSince.isSome = false := by
    show (d.optic id.port id.plane).relockSince.isSome = false
    rw [hr]
    rfl
  unfold laneIdentityCheck
  dsimp only
  rw [hw, hl, hlock]
  simp only [Bool.not_true, Bool.false_eq_true, or_false, reduceCtorEq, if_false, Option.isSome_some, true_and, if_true, hr', false_and]

/-- A wrong identity, the first time: the ring sweeps from its set-point. -/
theorem laneIdentityCheck_wrong {v : Nat} (hl : d.lit id.port = true) (hw : d.wantedIdentity id = some v) (hs : (d.ring id).sweeps = 0) :
    let e := laneIdentityCheck id (some (v + 1)) d
    e = { d with op := e.op, ba := e.ba, lg := e.lg, hg := e.hg } ∧ e.ring id = { d.ring id with
      locked := false, checked := false, sweeps := 1, rest := 0, code := clampCode id.idx (nearestInt (setPoint200 (d.ring id).sets none (d.portTemp id.port)) 200) } := by
  have hne : ¬ ((some (v + 1)).isSome = true ∧ some (v + 1) = some v) := by simp
  have he : laneIdentityCheck id (some (v + 1)) d =
      (let d1 := ((d.notice (ringUnit id) (v + 1)).onRing id fun r => { r with locked := false, checked := false, sweeps := r.sweeps + 1 }).sweepFrom id
      if isCalSpare id then d1.abortCal id.port id.plane else d1) := by
    unfold laneIdentityCheck
    dsimp only
    rw [hw, hl, if_neg (by simp), if_neg hne, hs, if_pos rfl]
    rfl
  have habort : ∀ x : Dev, x.abortCal id.port id.plane = { x with op.ports := (x.abortCal id.port id.plane).op.ports, ba.ports := (x.abortCal id.port id.plane).ba.ports } :=
    fun x => by
      unfold Dev.abortCal
      split
      · split <;> rfl
      · rfl
  have hring : (((d.notice (ringUnit id) (v + 1)).onRing id fun r => { r with locked := false, checked := false, sweeps := r.sweeps + 1 }).sweepFrom id).ring id =
      { d.ring id with locked := false, checked := false, sweeps := 1, rest := 0
                       code := clampCode id.idx (nearestInt (setPoint200 (d.ring id).sets none (d.portTemp id.port)) 200) } := by
    have hr : (d.notice (ringUnit id) (v + 1)).ring id = d.ring id := by rw [notice_frame]; rfl
    have hp : ((d.notice (ringUnit id) (v + 1)).onRing id fun r => { r with locked := false, checked := false, sweeps := r.sweeps + 1 }).portTemp id.port =
        d.portTemp id.port := by rw [notice_frame]; rfl
    unfold Dev.sweepFrom
    dsimp only
    rw [ring_onRing _ _ _ fun _ => by rfl, ring_onRing _ _ _ fun _ => by rfl, hr, hp, hs]
  dsimp only
  rw [he]
  dsimp only
  split
  · rw [habort]
    refine ⟨?_, hring⟩
    rw [notice_frame]
    rfl
  · refine ⟨?_, hring⟩
    rw [notice_frame]
    rfl

end Ring

/-! ## Ports that do not relock, monitors (R259, R264) -/

theorem retirePort_frame (d : Dev) (p q : Nat) : d.retirePort p q = { d with ba.ports := (d.retirePort p q).ba.ports } := by
  unfold Dev.retirePort
  split <;> rfl

/-- A port that does not relock in time retires, whatever the instant. -/
theorem relock_reach {d : Dev} {p q : Nat} (hr : (d.pport p q).retired = false) (t : Nat) :
    let e := ((d.reach t).onOptic p q fun o => { o with relockSince := none }).retirePort p q
    e = { d with op := e.op, ba := e.ba, tb := e.tb } ∧ e.tb.ns = max d.tb.ns t ∧ (e.pport p q).retiring = true ∧ (e.optic p q).relockSince = none := by
  obtain ⟨hd, hns⟩ := reach_frame d t
  have hport : (((d.reach t).onOptic p q fun o => { o with relockSince := none }).pport p q).retired = false := by
    rw [hd]
    exact hr
  dsimp only
  refine ⟨?_, ?_, retiring_retirePort hport, ?_⟩
  · rw [retirePort_frame, hd]
    rfl
  · rw [retirePort_frame]
    exact hns
  · rw [retirePort_frame]
    show ((((d.reach t).onOptic p q fun o => { o with relockSince := none })).optic p q).relockSince = none
    rw [optic_onOptic _ _ _ _ fun _ => by exact ⟨rfl, rfl⟩]

theorem valueOf_upsert (line : Nat) (levels : List Int) (l : List (Nat × List Int)) :
    valueOf line (upsert (·.1 == line) (line, levels) (fun _ => (line, levels)) l) = some levels := by
  induction l with
  | nil => simp [upsert, valueOf]
  | cons a l ih =>
    unfold upsert
    split
    · simp [valueOf]
    · next ha =>
      unfold valueOf at ih ⊢
      rw [Bool.not_eq_true] at ha
      rw [List.find?_cons, ha]
      exact ih

/-! ## Ageing (R251, R264) -/

/-- What the ageing of the combs changes. -/
def ageOf (d e : Dev) : Dev := { lossOf d e with op.wells := e.op.wells }

theorem ageOf_of_loss {d e x : Dev} (h : e = ageOf d e) (hx : x = lossOf e x) : x = ageOf d x := by
  rw [hx, h]
  rfl

theorem ageOf_onWell {d e : Dev} (h : e = ageOf d e) (w : Nat) (f : Wellhead → Wellhead) : e.onWell w f = ageOf d (e.onWell w f) := by
  rw [h]
  rfl

theorem ageOf_ageComb {d e : Dev} (h : e = ageOf d e) (w : Nat) : e.ageComb w = ageOf d (e.ageComb w) := by
  unfold Dev.ageComb
  extract_lets x m d1 noted d2
  have h1 : d1 = ageOf d d1 := by
    unfold d1
    split
    · exact ageOf_onWell h _ _
    · exact h
  have hn : noted = ageOf d noted := onlyIf_keeps (fun y : Dev => y = ageOf d y) (!x.alarm) (Dev.notice (combUnit (0x80 + w) x.source) 0)
    (fun y hy => ageOf_of_loss hy (lossOf_notice (lossOf_self y) _ _)) _ (ageOf_onWell h1 w fun x => { x with alarm := true })
  have h2 : d2 = ageOf d d2 := by
    unfold d2
    split
    · split
      · exact hn
      · exact ageOf_onWell hn _ _
    · exact h1
  exact each_keeps (fun y : Dev => y = ageOf d y) _ (fun a y hy => ageOf_of_loss hy (lossOf_locateLoss (lossOf_self y) _ _ _)) _ _ h2

/-- What the ageing of the engines' combs changes. -/
def engineAgeOf (d e : Dev) : Dev := { d with sw := e.sw, lg := e.lg, hg := e.hg }

theorem engineAgeOf_onComb {d e : Dev} (h : e = engineAgeOf d e) (engine source : Nat) (f : SwComb → SwComb) :
    e.onComb engine source f = engineAgeOf d (e.onComb engine source f) := by
  rw [h]
  rfl

theorem engineAgeOf_notice {d e : Dev} (h : e = engineAgeOf d e) (u v : Nat) : e.notice u v = engineAgeOf d (e.notice u v) := by
  rw [h, engineAgeOf, notice_frame]
  rfl

theorem engineAgeOf_ageEngine {d e : Dev} (h : e = engineAgeOf d e) (engine : Nat) : e.ageEngine engine = engineAgeOf d (e.ageEngine engine) := by
  unfold Dev.ageEngine
  extract_lets one
  refine each_keeps (fun y : Dev => y = engineAgeOf d y) _ (fun source y hy => ?_) _ _ h
  unfold one
  split
  · exact hy
  · extract_lets low c d1 noted
    have h1 : d1 = engineAgeOf d d1 := by
      unfold d1
      split
      · exact engineAgeOf_onComb hy _ _ _
      · exact hy
    have hn : noted = engineAgeOf d noted := onlyIf_keeps (fun z : Dev => z = engineAgeOf d z) (!c.alarm) (Dev.notice (combUnit (51 + engine) source) 0)
      (fun z hz => engineAgeOf_notice hz _ _) _ (engineAgeOf_onComb h1 engine source fun c => { c with alarm := true })
    split
    · exact hy
    · split
      · split
        · exact engineAgeOf_onComb hn _ _ _
        · exact hn
      · exact h1

theorem ageEngines_frame (d : Dev) : d.ageEngines = engineAgeOf d d.ageEngines :=
  each_keeps (fun y : Dev => y = engineAgeOf d y) _ (fun engine _ hy => engineAgeOf_ageEngine hy engine) _ d rfl

/-- The parts of an ageing check put together. -/
theorem ageing_parts {d d1 a e : Dev} {n : Nat} (hd : d1 = { d with tb := d1.tb }) (ha : a = ageOf { d1 with op.lastAgeing := n } a) (he : e = engineAgeOf a e) :
    e = { d with op := e.op, sw := e.sw, ba := e.ba, sp := e.sp, bu := e.bu, tb := e.tb, lg := e.lg, hg := e.hg } ∧ e.tb = d1.tb ∧ e.op.lastAgeing = n := by
  refine ⟨?_, ?_, ?_⟩
  · rw [he, engineAgeOf, ha, ageOf, lossOf, hd]
  · rw [he, engineAgeOf, ha, ageOf, lossOf]
  · rw [he, engineAgeOf, ha, ageOf, lossOf]

theorem ageing_reach {d e : Dev} {t : Nat} (he : e = (each (List.range 8) Dev.ageComb { d.reach t with op.lastAgeing := (d.reach t).tb.ns }).ageEngines) :
    e = { d with op := e.op, sw := e.sw, ba := e.ba, sp := e.sp, bu := e.bu, tb := e.tb, lg := e.lg, hg := e.hg } ∧ e.tb.ns = max d.tb.ns t ∧
      e.op.lastAgeing = e.tb.ns := by
  obtain ⟨hd, hns⟩ := reach_frame d t
  generalize d.reach t = d1 at he hd hns ⊢
  have hs : e = engineAgeOf (each (List.range 8) Dev.ageComb { d1 with op.lastAgeing := d1.tb.ns }) e := by
    rw [he]
    exact ageEngines_frame _
  have ha := each_keeps (fun y : Dev => y = ageOf { d1 with op.lastAgeing := d1.tb.ns } y) _ (fun w y hy => ageOf_ageComb hy w) (List.range 8)
    { d1 with op.lastAgeing := d1.tb.ns } rfl
  obtain ⟨h1, h2, h3⟩ := ageing_parts hd ha hs
  exact ⟨h1, by rw [h2]; exact hns, by rw [h2]; exact h3⟩

theorem laserAgeingCheck_light {d : Dev} (hd : d.op.dark = false) (hh : d.fw.handover = none) :
    laserAgeingCheck d = (each (List.range 8) Dev.ageComb { d.reach (d.op.lastAgeing + 1000000000) with
      op.lastAgeing := (d.reach (d.op.lastAgeing + 1000000000)).tb.ns }).ageEngines := by
  have hn : ¬ (d.op.dark = true ∨ d.fw.handover.isSome = true) := by
    rw [hd, hh]
    decide
  exact if_neg hn

/-! ## Calibration (R269 to R271, R273) -/

/-- A move at a slot changes the optics alone, and keeps what a port says of its calibration. -/
theorem atSlot_spec (d : Dev) (m : OpticMove) (h : ∀ a b c e f, m ≠ .spare a b c e f) (p q : Nat) :
    d.atSlot m = { d with op := (d.atSlot m).op } ∧ ((d.atSlot m).optic p q).cal = (d.optic p q).cal ∧
      ((d.atSlot m).optic p q).accepted = (d.optic p q).accepted ∧ ((d.atSlot m).optic p q).lastCal = (d.optic p q).lastCal := by
  have hspares : ∀ (o : OptPort) a b side, (o.setSpares a b side).port = o.port ∧ (o.setSpares a b side).plane = o.plane ∧ (o.setSpares a b side).cal = o.cal ∧
      (o.setSpares a b side).accepted = o.accepted ∧ (o.setSpares a b side).lastCal = o.lastCal := fun o a b side => by
    cases side <;> exact ⟨rfl, rfl, rfl, rfl, rfl⟩
  cases m with
  | spare port plane side lane relocks => exact absurd rfl (h _ _ _ _ _)
  | code id c =>
    unfold Dev.atSlot
    dsimp only
    split
    · exact ⟨rfl, rfl, rfl, rfl⟩
    · exact ⟨rfl, rfl, rfl, rfl⟩
  | back port plane side lane =>
    unfold Dev.atSlot
    dsimp only
    split
    · exact ⟨rfl, rfl, rfl, rfl⟩
    · unfold Dev.opticNow
      dsimp only
      split
      · refine ⟨rfl, ?_⟩
        by_cases hpq : p = port ∧ q = plane
        · obtain ⟨rfl, rfl⟩ := hpq
          rw [optic_onOptic _ _ _ _ fun o => by exact ⟨(hspares o _ _ _).1, (hspares o _ _ _).2.1⟩]
          exact (hspares _ _ _ _).2.2
        · rw [optic_onOptic_other _ _ _ _ _ _ (fun o => by exact ⟨(hspares o _ _ _).1, (hspares o _ _ _).2.1⟩) (by omega)]
          exact ⟨rfl, rfl, rfl⟩
      · exact ⟨rfl, rfl, rfl, rfl⟩

theorem acceptRing_spec (d : Dev) (id : RingId) (a b : RingMeas) (t : Int) :
    d.acceptRing id a b t = { d with op := (d.acceptRing id a b t).op } ∧ ∀ p q, ((d.acceptRing id a b t).optic p q) = d.optic p q := by
  unfold Dev.acceptRing Dev.atSlot
  dsimp only
  split <;> exact ⟨rfl, fun _ _ => rfl⟩

theorem laneBack_spec (d : Dev) {port : Nat} (hp : port < 55) (plane pos : Nat) (side : Side) (p q : Nat) :
    d.laneBack port plane pos side = { d with op := (d.laneBack port plane pos side).op } ∧ ((d.laneBack port plane pos side).optic p q).cal = (d.optic p q).cal ∧
      ((d.laneBack port plane pos side).optic p q).accepted = (d.optic p q).accepted ∧ ((d.laneBack port plane pos side).optic p q).lastCal = (d.optic p q).lastCal := by
  unfold Dev.laneBack
  dsimp only
  rw [if_neg (by omega : ¬ 64 ≤ port)]
  split
  · exact atSlot_spec d _ (fun _ _ _ _ _ => by simp) p q
  · exact ⟨rfl, rfl, rfl, rfl⟩

section Calibration

variable {d : Dev} {port plane : Nat} (a b c e : RingMeas) (temp : Int)

theorem calibration_idle (h : ∀ pos, (d.optic port plane).cal = some pos → d.measures port plane pos = false) :
    calibrationMeasurementComplete port plane a b c e temp d = d := by
  unfold calibrationMeasurementComplete
  split
  · rfl
  · next pos hpos => rw [h pos hpos]; rfl

/-- The device whose port has taken two measurements that agree: the rings are accepted, the port's record turns to the next position, and its lanes come back. -/
def Dev.taken (d1 : Dev) (port plane pos : Nat) (a b c e : RingMeas) (temp : Int) (f : OptPort → OptPort) : Dev :=
  (({ ((d1.acceptRing { port, plane, side := .tx, idx := pos } a b temp).acceptRing { port, plane, side := .rx, idx := pos } c e temp).onOptic port plane f with
    op.dirty := true } : Dev).laneBack port plane pos .tx).laneBack port plane pos .rx

theorem calibration_taken {pos : Nat} (hp : port < 55) (hc : (d.optic port plane).cal = some pos) (hm : d.measures port plane pos = true)
    (hagree : (agree a b && agree c e) = true) :
    ∃ f : OptPort → OptPort, (∀ o, (f o).port = o.port ∧ (f o).plane = o.plane ∧ (f o).cal = none ∧ (f o).accepted = (o.accepted + 1) % 65536 ∧ (f o).lastCal = d.tb.ns) ∧
      calibrationMeasurementComplete port plane a b c e temp d = (d.freePort .calibration port plane).taken port plane pos a b c e temp f := by
  unfold calibrationMeasurementComplete
  rw [hc]
  dsimp only
  rw [hm, hagree, if_neg (by decide), if_pos rfl, if_pos hp]
  refine ⟨_, fun o => ?_, rfl⟩
  dsimp only
  split <;> exact ⟨rfl, rfl, rfl, rfl, rfl⟩

/-- Two measurements that agree are accepted. -/
theorem calibration_agree {pos : Nat} (hp : port < 55) (hc : (d.optic port plane).cal = some pos) (hm : d.measures port plane pos = true)
    (hagree : (agree a b && agree c e) = true) :
    let x := calibrationMeasurementComplete port plane a b c e temp d
    x = { d with op := x.op, ba := x.ba } ∧ (x.optic port plane).cal = none ∧ (x.optic port plane).accepted = ((d.optic port plane).accepted + 1) % 65536 ∧
      (x.optic port plane).lastCal = d.tb.ns := by
  obtain ⟨f, hf, hx⟩ := calibration_taken a b c e temp hp hc hm hagree
  rw [hx]
  unfold Dev.taken
  generalize hd1 : d.freePort .calibration port plane = d1
  have h1 : d1 = { d with ba := d1.ba } := by rw [← hd1]; rfl
  have o0 : d1.optic port plane = d.optic port plane := by rw [h1]; rfl
  obtain ⟨f1, o1⟩ := acceptRing_spec d1 { port, plane, side := .tx, idx := pos } a b temp
  generalize d1.acceptRing { port, plane, side := .tx, idx := pos } a b temp = d2 at f1 o1 ⊢
  obtain ⟨f2, o2⟩ := acceptRing_spec d2 { port, plane, side := .rx, idx := pos } c e temp
  generalize d2.acceptRing { port, plane, side := .rx, idx := pos } c e temp = d3 at f2 o2 ⊢
  have hopt : d3.optic port plane = d.optic port plane := ((o2 port plane).trans (o1 port plane)).trans o0
  have h4 : (({ d3.onOptic port plane f with op.dirty := true } : Dev).optic port plane) = f (d.optic port plane) := by
    refine Eq.trans ?_ (congrArg f hopt)
    exact optic_onOptic _ _ _ _ fun o => ⟨(hf o).1, (hf o).2.1⟩
  have h5 : ({ d3.onOptic port plane f with op.dirty := true } : Dev) = { d with op := { (d3.onOptic port plane f).op with dirty := true }, ba := d1.ba } := by
    rw [f2, f1, h1]
    rfl
  generalize ({ d3.onOptic port plane f with op.dirty := true } : Dev) = d4 at h4 h5 ⊢
  obtain ⟨-, -, hcal, hacc, hlast⟩ := hf (d.optic port plane)
  obtain ⟨g1, p1, p2, p3⟩ := laneBack_spec d4 hp plane pos .tx port plane
  obtain ⟨g2, q1, q2, q3⟩ := laneBack_spec (d4.laneBack port plane pos .tx) hp plane pos .rx port plane
  dsimp only
  rw [q1, q2, q3, p1, p2, p3, h4]
  refine ⟨?_, hcal, hacc, hlast⟩
  rw [g2, g1, h5]

/-- Two measurements that disagree are counted; below the third the next position follows. -/
theorem calibration_disagree {pos : Nat} (hp : port < 55) (hc : (d.optic port plane).cal = some pos) (hm : d.measures port plane pos = true)
    (hagree : (agree a b && agree c e) = false) (hcount : countOf pos (d.optic port plane).disagree < 2) :
    let x := calibrationMeasurementComplete port plane a b c e temp d
    x = { d with op := x.op, ba := x.ba } ∧ (x.optic port plane).cal = none ∧ (x.optic port plane).disagreed = ((d.optic port plane).disagreed + 1) % 65536 ∧
      (x.optic port plane).disagree = bump pos 1 (d.optic port plane).disagree := by
  unfold calibrationMeasurementComplete
  rw [hc]
  dsimp only
  rw [hm, hagree, if_neg (by decide), if_neg (by decide), if_pos hp]
  have hopt : (d.freePort .calibration port plane).optic port plane = d.optic port plane := rfl
  rw [optic_onOptic _ _ _ _ fun o => by dsimp only; split <;> exact ⟨rfl, rfl⟩, hopt]
  dsimp only
  rw [countOf_bump, if_neg (by omega), if_neg (by omega : ¬ 64 ≤ port), optic_onOptic _ _ _ _ fun o => by dsimp only; split <;> exact ⟨rfl, rfl⟩, hopt]
  refine ⟨rfl, ?_, rfl, rfl⟩
  dsimp only
  split <;> rfl

end Calibration

/-- The store of the calibration, whatever the instant. -/
theorem storeCal_reach (d : Dev) (t : Nat) :
    let e := (d.reach t).storeCal
    e = { d with op := e.op, tb := e.tb } ∧ e.tb.ns = max d.tb.ns t ∧ e.op.lastWrite = e.tb.ns ∧
      (d.op.dirty = true → d.flashOk = true → e.op.dirty = false ∧ e.op.stored = d.op.rings.map fun r => (r.id, r.sets)) ∧
      (d.flashOk = false → e.op.stored = d.op.stored ∧ e.op.dirty = d.op.dirty) := by
  obtain ⟨hd, hns⟩ := reach_frame d t
  have hop : (d.reach t).op = d.op := by rw [hd]
  have hflash : (d.reach t).flashOk = d.flashOk := by rw [hd]; rfl
  unfold Dev.storeCal
  rw [hop, hflash]
  dsimp only
  split
  · next hc =>
    refine ⟨by rw [hd], hns, rfl, fun _ _ => ⟨rfl, rfl⟩, fun hf => ?_⟩
    rw [hf, Bool.and_false] at hc
    cases hc
  · next hc =>
    refine ⟨by rw [hd], hns, rfl, fun hdirty hf => ?_, fun _ => ⟨hop ▸ rfl, hop ▸ rfl⟩⟩
    rw [hdirty, hf] at hc
    exact absurd rfl hc

/-- Settles O46. -/
theorem opticsAtWork : Obligations.OpticsAtWork := by
  rintro ⟨d, pending⟩ w port plane line id step dT sample hw hp hq hline hid hlevels hsrc
  have hwell : decide (w < 8) = true := decide_eq_true hw
  have hfail : (Instr.combFailure w).wf = true := hwell
  have hswitch : (Instr.combSwitchComplete w).wf = true := hwell
  have htune : (Instr.tuningLoopUpdate id true step dT).wf = true := hid
  have hident : ∀ v, (Instr.laneIdentityCheck id v).wf = true := fun _ => hid
  have hrelock : (Instr.relockTimeout port plane).wf = true := by simp [Instr.wf, hp, hq]
  have hsample : (Instr.opticalMonitorSample port plane line sample).wf = true := by simp [Instr.wf, opticWf, hp, hq, hline, hlevels, hsrc]
  have hcal : ∀ a b c e t, (Instr.calibrationMeasurementComplete port plane a b c e t).wf = true := fun _ _ _ _ _ => by simp [Instr.wf, opticWf, hp, hq]
  dsimp only
  refine ⟨fun h => ⟨?_, ?_⟩, fun h => ⟨?_, ?_⟩, fun h => ⟨?_, ?_, ?_, ?_⟩, fun hd hs => ⟨_, run_of_wf hfail _, rfl, combFailure_matches hd hs⟩,
    fun hd hs hm => ?comb, fun h => ?_, fun t0 h => ?switch, fun hl hh => ?tune, fun v hl hwant hlock hr => ?right, fun v hl hwant hs => ?wrong, fun h => ?_,
    fun t0 h hr => ?relock, fun hh => ?sample, fun hd hh => ?ageing, fun a b c e t h => ?_, fun a b c e t pos hc hm => ?calibration, fun hh => ?store⟩
  · exact (run_of_wf hfail _).trans (by rw [combFailure_idle (.inl h)])
  · exact (run_of_wf rfl _).trans (by rw [laserAgeingCheck, if_pos (.inl h)])
  · exact (run_of_wf htune _).trans (by rw [tuningLoopUpdate_idle (.inl h)])
  · exact (run_of_wf (hident none) _).trans (by rw [laneIdentityCheck_dark h])
  · exact (run_of_wf htune _).trans (by rw [tuningLoopUpdate_idle (.inr h)])
  · exact (run_of_wf rfl _).trans (by rw [laserAgeingCheck, if_pos (.inr h)])
  · exact (run_of_wf hsample _).trans (by rw [opticalMonitorSample]; dsimp only; rw [if_pos h])
  · exact (run_of_wf rfl _).trans (by rw [calibrationStoreWrite, if_pos h])
  case comb =>
    cases hu : (d.well w).spareUsed with
    | false =>
      obtain ⟨h1, h2, h3, h4⟩ := combFailure_spare hd hs hm hu
      exact ⟨_, run_of_wf hfail _, congrArg (fun e => State.mk e pending) h1, fun _ => ⟨h2, h3, h4⟩, fun h => absurd h (by decide)⟩
    | true =>
      obtain ⟨h1, h2, h3⟩ := combFailure_retire hd hs hm hu
      exact ⟨_, run_of_wf hfail _, congrArg (fun e => State.mk e pending) h1, fun h => absurd h (by decide), fun _ => ⟨h2, h3⟩⟩
  · exact (run_of_wf hswitch _).trans (by rw [combSwitchComplete_idle h])
  case switch =>
    obtain ⟨h1, h2, h3⟩ := switched_reach d w (t0 + 20000) (d.well w).scheduled
    rw [← combSwitchComplete_of_switching h] at h1 h2 h3
    exact ⟨_, run_of_wf hswitch _, congrArg (fun e => State.mk e pending) h1, h2, h3⟩
  case tune =>
    have hd := tuningLoopUpdate_inWindow hl hh step dT
    refine ⟨State.mk (tuningLoopUpdate id true step dT d) pending, run_of_wf htune _, ?_, ?_⟩ <;> dsimp only <;> rw [hd]
    · rfl
    · exact ring_onRing _ _ _ fun _ => by rfl
  case right =>
    have hd := laneIdentityCheck_right hl hwant hlock hr
    refine ⟨State.mk (laneIdentityCheck id (some v) d) pending, run_of_wf (hident _) _, ?_, ?_⟩ <;> dsimp only <;> rw [hd]
    · rfl
    · exact ring_onRing _ _ _ fun _ => by rfl
  case wrong =>
    obtain ⟨h1, h2⟩ := laneIdentityCheck_wrong hl hwant hs
    exact ⟨_, run_of_wf (hident _) _, congrArg (fun e => State.mk e pending) h1, h2⟩
  · refine (run_of_wf hrelock _).trans ?_
    unfold relockTimeout
    rw [h]
  case relock =>
    have hd : relockTimeout port plane d = ((d.reach (t0 + 1000000)).onOptic port plane fun o => { o with relockSince := none }).retirePort port plane := by
      unfold relockTimeout
      rw [h]
    obtain ⟨h1, h2, h3, h4⟩ := relock_reach hr (t0 + 1000000)
    rw [← hd] at h1 h2 h3 h4
    exact ⟨_, run_of_wf hrelock _, congrArg (fun e => State.mk e pending) h1, h2, h3, h4⟩
  case sample =>
    have hopen : ¬ d.fw.handover.isSome = true := by rw [hh]; decide
    refine ⟨State.mk (opticalMonitorSample port plane line sample d) pending, run_of_wf hsample _, ?_⟩
    unfold opticalMonitorSample
    dsimp only
    rw [if_neg hopen, optic_onOptic _ _ _ _ fun _ => by exact ⟨rfl, rfl⟩]
    refine ⟨rfl, valueOf_upsert _ _ _, rfl, fun hsums h1 h2 => ?_⟩
    rw [h1, h2, Bool.or_true, Bool.and_true, if_pos rfl, hsums]
    simp [upsert]
  case ageing =>
    obtain ⟨h1, h2, h3⟩ := ageing_reach (laserAgeingCheck_light hd hh)
    exact ⟨_, run_of_wf rfl _, congrArg (fun e => State.mk e pending) h1, h2, h3⟩
  · exact (run_of_wf (hcal a b c e t) _).trans (by rw [calibration_idle a b c e t h])
  case calibration =>
    refine ⟨State.mk (calibrationMeasurementComplete port plane a b c e t d) pending, run_of_wf (hcal a b c e t) _, fun hagree => ?_, fun hagree hcount => ?_⟩
    · obtain ⟨h1, h2⟩ := calibration_agree a b c e t hp hc hm hagree
      exact ⟨congrArg (fun e => State.mk e pending) h1, h2⟩
    · obtain ⟨h1, h2⟩ := calibration_disagree a b c e t hp hc hm hagree hcount
      exact ⟨congrArg (fun e => State.mk e pending) h1, h2⟩
  case store =>
    have hd : calibrationStoreWrite d = (d.reach (d.op.lastWrite + 3600000000000)).storeCal := if_neg (by rw [hh]; decide)
    obtain ⟨h1, h2⟩ := storeCal_reach d (d.op.lastWrite + 3600000000000)
    rw [← hd] at h1 h2
    exact ⟨_, run_of_wf rfl _, congrArg (fun e => State.mk e pending) h1, h2⟩

end Sys2Proof.Machine
end

section
/-!
PROOFS. The Ranger duplex (chapters 12 and 17, R385, R474 to R478).
-/

set_option Elab.async false

namespace Sys2Proof.Machine

/-! ## Handovers (R476, R477) -/

theorem assertHandover_of_not_bringup {d : Dev} (h : d.hg.devState ≠ .bringup) (c : Nat) : d.assertHandover c = d.handover c := if_neg h

theorem handover_of_down {d : Dev} (h : d.fw.rangerUp = false) (c : Nat) : d.handover c = d := by
  unfold Dev.handover
  rw [h]
  rfl

/-- The standby's state is written; no other part of the firmware's record, and not the device's state. -/
theorem setStandby_spec (d : Dev) (st : Standby) :
    (d.setStandby st).fw = { d.fw with standby := st } ∧ (d.setStandby st).hg.devState = d.hg.devState := by
  unfold Dev.setStandby
  dsimp only
  split
  · exact ⟨rfl, rfl⟩
  · exact ⟨by rw [log_frame], log_devState _ _ _ _ _⟩

theorem handover_current {d : Dev} (hup : d.fw.rangerUp = true) (hs : d.fw.standby = .current) (hl : d.fw.live = none) (c : Nat) :
    let x := d.handover c
    x = { d with fw := x.fw, lg := x.lg, hg := x.hg } ∧
      x.fw = { d.fw with rangerB := !d.fw.rangerB, handover := some d.tb.ns, handoverCause := c, standby := .selfTest } ∧ x.hg.devState = d.hg.devState := by
  have hd : d.handover c = ({ d.log (rangerUnit d.activePort) 0 0x0301 c with
      fw.rangerB := !d.fw.rangerB, fw.handover := some d.tb.ns, fw.handoverCause := c } : Dev).setStandby .selfTest := by
    unfold Dev.handover
    rw [hup, if_neg (by decide), if_pos hs, hl]
    rfl
  obtain ⟨hfw, hst⟩ := setStandby_spec ({ d.log (rangerUnit d.activePort) 0 0x0301 c with
      fw.rangerB := !d.fw.rangerB, fw.handover := some d.tb.ns, fw.handoverCause := c } : Dev) .selfTest
  rw [← hd] at hfw hst
  refine ⟨?_, ?_, ?_⟩
  · rw [hd, setStandby_frame, log_frame]
  · dsimp only
    rw [hfw, log_frame]
  · exact hst.trans (log_devState _ _ _ _ _)

theorem handover_alone {d : Dev} (hup : d.fw.rangerUp = true) (hs : d.fw.standby ≠ .current) (hsh : d.hg.devState ≠ .safeHold) (c : Nat) :
    let x := d.handover c
    x.hg.devState = .safeHold ∧ x.fa.safeCause = 1 ∧ x.fw.rangerUp = false ∧ x.hg.mbReady = false ∧ x.mem = d.mem := by
  have hd : d.handover c = { (d.setStandby .selfTest).safeHold 1 with fw.rangerUp := false, hg.mbReady := false } := by
    unfold Dev.handover
    rw [hup, if_neg (by decide), if_neg hs]
  have hsh' : (d.setStandby .selfTest).hg.devState ≠ .safeHold := by
    rw [(setStandby_spec d .selfTest).2]
    exact hsh
  obtain ⟨h1, h2, -⟩ := safeHold_of_not_safeHold hsh' 1
  dsimp only
  rw [hd]
  refine ⟨h1, h2, rfl, rfl, ?_⟩
  rw [safeHold_frame, setStandby_frame]

/-- After a handover by a test the new Ranger takes over, with fresh readings. -/
theorem handoverComplete_test {d : Dev} {t0 : Nat} (h : d.fw.handover = some t0) (hc : d.fw.handoverCause = 5) (hb : d.hg.devState ≠ .bringup) (hm : d.mb.chans = []) :
    handoverComplete d = (Dev.takeOverMailbox (d.tb.ns - t0) { d with fw.handover := none }).freshReadings := by
  unfold handoverComplete
  rw [h]
  dsimp only
  rw [if_pos hc]
  refine if_neg fun hn => hb ?_
  have := hn.1
  unfold Dev.freshReadings Dev.takeOverMailbox at this
  dsimp only at this
  rw [hm] at this
  exact this

theorem takeOver_idle {d : Dev} (hm : d.mb.chans = []) (gap : Nat) :
    Dev.takeOverMailbox gap d = { d with gr.list := d.gr.list.map fun g => { g with installing := none }, sw.leaving := none,
                                         ses.list := d.ses.list.map fun x => { x with lastDoorbell := x.lastDoorbell + gap } } := by
  unfold Dev.takeOverMailbox
  dsimp only
  rw [hm]
  rfl

/-! ## The standby (R474, R475) -/

theorem loseStandby_idle {d : Dev} (hl : d.fw.live = none) (st : Standby) : d.loseStandby st = d.setStandby st := by
  unfold Dev.loseStandby
  dsimp only
  rw [(setStandby_spec d st).1]
  dsimp only
  rw [hl]
  rfl

theorem standbyResync_idle {d : Dev} (hs : d.fw.standby = .stale ∨ d.fw.standby = .booting) (hup : d.fw.rangerUp = true) (hl : d.fw.live = none) :
    standbyResyncComplete d = d.setStandby .current := by
  have hn : ¬ ((d.fw.standby ≠ .stale ∧ d.fw.standby ≠ .booting) ∨ (!d.fw.rangerUp) = true) := by
    rw [hup]
    rcases hs with hs | hs <;> rw [hs] <;> decide
  unfold standbyResyncComplete
  rw [if_neg hn]
  dsimp only
  rw [(setStandby_spec d .current).1]
  dsimp only
  rw [hl]

theorem unitKind_otherRanger (d : Dev) : unitKind (rangerUnit d.otherPort) = 0x0E := by
  unfold Dev.otherPort
  split <;> decide

/-- A lasting fault of a Ranger is recorded, and nothing else follows. -/
theorem lasting_ranger {d : Dev} {u : Nat} (hu : unitKind u = 0x0E) (why : Nat) :
    d.lasting u why = { ((d.log u 2 0x0202 why).fdm u 1 1 1) with sp.failed := insertNew u d.sp.failed } := by
  unfold Dev.lasting
  dsimp only
  rw [hu]
  rfl

section RomTest

variable {d : Dev}

/-- The parts that the end of a standby's test may write. -/
def romOf (d e : Dev) : Dev := { d with fw := e.fw, lg := e.lg, hg := e.hg, fa := e.fa, sp := e.sp, bu := e.bu }

theorem romTest_eq (hs : d.fw.standby = .selfTest) (hup : d.fw.rangerUp = true) (pass : Bool) :
    rangerRomSelfTestComplete (!d.fw.rangerB) pass d =
      let d1 := if pass then d.transient (rangerUnit d.otherPort) else d.lasting (rangerUnit d.otherPort) 0
      ({ d1 with fa.resume := d1.fa.resume.filter (· != rangerUnit d.otherPort) } : Dev).setStandby
        (if (!pass || d1.sp.failed.contains (rangerUnit d.otherPort)) = true then .bad else .booting) := by
  have hn : ¬ (d.fw.standby ≠ .selfTest ∨ (!d.fw.rangerB) = d.fw.rangerB ∨ (!d.fw.rangerUp) = true) := by
    rw [hs, hup]
    cases d.fw.rangerB <;> decide
  exact if_neg hn

theorem romTest_pass (hs : d.fw.standby = .selfTest) (hup : d.fw.rangerUp = true) (ht : d.fa.transients = []) (hf : d.sp.failed = []) :
    let x := rangerRomSelfTestComplete (!d.fw.rangerB) true d
    x = romOf d x ∧ x.fw.standby = .booting := by
  obtain ⟨h1, -, -, h2⟩ := transient_first ht (rangerUnit d.otherPort)
  dsimp only
  rw [romTest_eq hs hup true]
  dsimp only
  rw [if_pos rfl, h2, hf]
  refine ⟨?_, congrArg (·.standby) (setStandby_spec _ _).1⟩
  rw [romOf, setStandby_frame, h1]

theorem romTest_fail (hs : d.fw.standby = .selfTest) (hup : d.fw.rangerUp = true) :
    let x := rangerRomSelfTestComplete (!d.fw.rangerB) false d
    x = romOf d x ∧ x.fw.standby = .bad := by
  dsimp only
  rw [romTest_eq hs hup false]
  dsimp only
  rw [Bool.not_false, Bool.true_or, if_pos rfl, if_neg Bool.false_ne_true, lasting_ranger (unitKind_otherRanger d)]
  refine ⟨?_, congrArg (·.standby) (setStandby_spec _ _).1⟩
  rw [romOf, setStandby_frame, fdm_frame, log_frame]

end RomTest

/-! ## Live activation (R478) -/

theorem handoffBlock_reach (d e : Dev) (t : Nat) (l : Live) (move : StepReq → StepReq)
    (he : e = { d.reach t with fw.live := some l, ck.req9 := (d.reach t).ck.req9.map move, ck.req10 := (d.reach t).ck.req10.map move }) :
    e = { d with fw.live := some l, ck := e.ck, tb := e.tb } ∧ e.tb.ns = max d.tb.ns t ∧ e.ck.req9 = d.ck.req9.map move := by
  obtain ⟨hd, hns⟩ := reach_frame d t
  rw [he]
  refine ⟨?_, hns, ?_⟩ <;> rw [hd]

theorem handoffBlockWrite_next {d : Dev} {l : Live} (hl : d.fw.live = some l) (hr : l.ready = true) (hp : l.passed = false) (hm : l.m ≤ d.rd.next) (hb : l.block = false) :
    ∃ move : StepReq → StepReq, (∀ r, d.rd.next < (move r).at_ ∨ d.rd.period = 0) ∧
      handoffBlockWrite d = { d.reach (d.rd.next - 40000) with
        fw.live := some { l with block := true }
        ck.req9 := (d.reach (d.rd.next - 40000)).ck.req9.map move
        ck.req10 := (d.reach (d.rd.next - 40000)).ck.req10.map move } := by
  have hnext : d.liveNext = true := by
    unfold Dev.liveNext
    rw [hl, Option.elim_some, hr, hp, decide_eq_true hm]
    rfl
  refine ⟨fun r => if r.at_ ≤ d.rd.next then { r with at_ := d.rd.next + d.rd.period } else r, fun r => ?_, ?_⟩
  · dsimp only
    split
    · show d.rd.next < d.rd.next + d.rd.period ∨ _
      omega
    · left
      omega
  · unfold handoffBlockWrite
    rw [hl]
    dsimp only
    rw [hnext, hb, if_neg (by decide), show (d.reach (d.rd.next - 40000)).rd = d.rd by rw [(reach_frame d _).1]]

theorem liveActivationTimeout_waiting {d : Dev} {l : Live} (hl : d.fw.live = some l) (hr : l.ready = false) :
    liveActivationTimeout d = (d.reach (l.started + 10000000000)).abandonLive := by
  unfold liveActivationTimeout
  rw [hl]
  dsimp only
  rw [hr, if_neg Bool.false_ne_true]

theorem abandonLive_reach {d x : Dev} {t : Nat} (hx : x = (d.reach t).abandonLive) :
    x = { d with fw := x.fw, lg := x.lg, hg := x.hg, tb := x.tb } ∧ x.fw = { d.fw with live := none, update := 1 } ∧ x.tb.ns = max d.tb.ns t := by
  obtain ⟨hd, hns⟩ := reach_frame d t
  unfold Dev.abandonLive at hx
  rw [notice_frame] at hx
  refine ⟨?_, ?_, ?_⟩ <;> rw [hx]
  · rw [hd]
  · rw [hd]
  · exact hns

/-- What every cause of a handover is, outside bring-up. -/
theorem cause_exec {s : State} (hb : s.dev.hg.devState ≠ .bringup) {c : Instr × Nat}
    (hc : c ∈ [(Instr.rangerHandover .lockstep, 1), (.rangerHandover .sram, 2), (.rangerHandover .watchdog, 3), (.rangerHandover .periodic, 4),
      (.rangerWatchdogExpiry, 3), (.rangerPeriodicSelfTest false, 4)]) :
    exec c.1 s = .next { s with dev := s.dev.handover c.2 } := by
  have h := assertHandover_of_not_bringup hb
  simp only [List.mem_cons, List.not_mem_nil, or_false] at hc
  rcases hc with rfl | rfl | rfl | rfl | rfl | rfl
  · exact (run_of_wf rfl (Dev.assertHandover 1)).trans (by rw [h])
  · exact (run_of_wf rfl (Dev.assertHandover 2)).trans (by rw [h])
  · exact (run_of_wf rfl (Dev.assertHandover 3)).trans (by rw [h])
  · exact (run_of_wf rfl (Dev.assertHandover 4)).trans (by rw [h])
  · exact (run_of_wf rfl (Dev.assertHandover 3)).trans (by rw [h])
  · exact (run_of_wf rfl (Dev.assertHandover 4)).trans (by rw [h])

/-- Settles O54. -/
theorem rangerDuplex : Obligations.RangerDuplex := by
  rintro ⟨d, pending⟩
  dsimp only
  refine ⟨run_of_wf rfl _, fun hb hup c hc => ?down, fun hb hup => ⟨fun hs hl c hc => ?passes, fun hs hsh c hc => ?alone⟩, fun h => ?_, fun t0 h hc hb hm => ?complete,
    fun h => ?_, fun hs hup hl => ?lost, fun h1 h2 => ?_, fun hs hup hl => ?resync, fun h b p => ?_, fun hs hup ht hf => ⟨?pass, ?fail⟩, fun h => ⟨?_, ?_⟩,
    fun l hl hr hp hm hb => ?block, fun l hl hr => ?abandon⟩
  case down => exact (cause_exec hb hc).trans (by rw [handover_of_down hup])
  case passes =>
    obtain ⟨h1, h2, h3⟩ := handover_current hup hs hl c.2
    refine ⟨_, cause_exec hb hc, congrArg (fun e => State.mk e pending) h1, ?_, ?_, ?_, ?_, h3⟩ <;> dsimp only <;> rw [h2]
  case alone => exact ⟨_, cause_exec hb hc, rfl, handover_alone hup hs hsh c.2⟩
  · exact (run_of_wf rfl handoverComplete).trans (by unfold handoverComplete; dsimp only; rw [h])
  case complete =>
    have hd := handoverComplete_test h hc hb hm
    rw [takeOver_idle (by exact hm)] at hd
    refine ⟨State.mk (handoverComplete d) pending, run_of_wf rfl _, ?_, ?_, ?_, ?_, ?_⟩ <;> dsimp only <;> rw [hd]
    · rfl
    · exact List.forall_mem_map.mpr fun _ _ => rfl
    · exact List.forall_mem_map.mpr fun _ _ => rfl
    · rfl
    · exact List.forall_mem_map.mpr fun _ _ => rfl
  · exact (run_of_wf rfl journalHeartbeatMissed).trans (by unfold journalHeartbeatMissed; rw [if_neg fun hn => h hn.1])
  case lost =>
    have hd : journalHeartbeatMissed d = d.setStandby .stale := (if_pos ⟨hs, hup⟩).trans (loseStandby_idle hl _)
    refine ⟨State.mk (journalHeartbeatMissed d) pending, run_of_wf rfl _, ?_, ?_, ?_⟩ <;> dsimp only <;> rw [hd]
    · rw [setStandby_frame]
    · rw [(setStandby_spec d _).1]
    · rw [Dev.simplex, (setStandby_spec d _).1]
      rfl
  · exact (run_of_wf rfl standbyResyncComplete).trans (by unfold standbyResyncComplete; rw [if_pos (.inl ⟨h1, h2⟩)])
  case resync =>
    have hd := standbyResync_idle hs hup hl
    refine ⟨State.mk (standbyResyncComplete d) pending, run_of_wf rfl _, ?_, ?_, ?_⟩ <;> dsimp only <;> rw [hd]
    · rw [setStandby_frame]
    · rw [(setStandby_spec d _).1]
    · rw [Dev.simplex, (setStandby_spec d _).1]
      rfl
  · exact (run_of_wf rfl (rangerRomSelfTestComplete b p)).trans (by unfold rangerRomSelfTestComplete; rw [if_pos (.inl h)])
  case pass =>
    obtain ⟨h1, h2⟩ := romTest_pass hs hup ht hf
    exact ⟨_, run_of_wf rfl (rangerRomSelfTestComplete (!d.fw.rangerB) true), congrArg (fun e => State.mk e pending) h1, h2⟩
  case fail =>
    obtain ⟨h1, h2⟩ := romTest_fail hs hup
    exact ⟨_, run_of_wf rfl (rangerRomSelfTestComplete (!d.fw.rangerB) false), congrArg (fun e => State.mk e pending) h1, h2⟩
  · exact (run_of_wf rfl handoffBlockWrite).trans (by unfold handoffBlockWrite; dsimp only; rw [h])
  · exact (run_of_wf rfl liveActivationTimeout).trans (by unfold liveActivationTimeout; dsimp only; rw [h])
  case block =>
    obtain ⟨move, hmove, hd⟩ := handoffBlockWrite_next hl hr hp hm hb
    obtain ⟨h1, h2, h3⟩ := handoffBlock_reach d _ _ _ move hd
    refine ⟨State.mk (handoffBlockWrite d) pending, run_of_wf rfl handoffBlockWrite, congrArg (fun e => State.mk e pending) h1, h2, fun r hr => ?_⟩
    obtain ⟨r0, -, rfl⟩ := Option.map_eq_some_iff.mp (h3.symm.trans hr)
    exact hmove r0
  case abandon =>
    obtain ⟨h1, h2, h3⟩ := abandonLive_reach (liveActivationTimeout_waiting hl hr)
    refine ⟨_, run_of_wf rfl liveActivationTimeout, congrArg (fun e => State.mk e pending) h1, ?_, ?_, ?_, h3⟩ <;> dsimp only <;> rw [h2]

end Sys2Proof.Machine
end

section
/-!
PROOFS. Bring-up (chapter 15, R427, R428, R432, R435 to R437, R443, R444).
-/

set_option Elab.async false

namespace Sys2Proof.Machine

/-! ## The outcome of a stage (R432) -/

/-- The severity among causes of at most FAIL, one of which is FAIL. -/
theorem worst_fail {cs : List (Nat × Nat × Nat)} (hle : ∀ c ∈ cs, c.1 ≤ 3) (h3 : ∃ c ∈ cs, c.1 = 3) : (worst cs).1 = 3 := by
  have key : ∀ (cs : List (Nat × Nat × Nat)) (a : Nat × Nat × Nat), (∀ c ∈ cs, c.1 ≤ 3) → a.1 ≤ 3 → (a.1 = 3 ∨ ∃ c ∈ cs, c.1 = 3) →
      (cs.foldl (fun a c => if a.1 < c.1 then c else a) a).1 = 3 := by
    intro cs
    induction cs with
    | nil =>
      intro a _ _ h
      simpa using h
    | cons c cs ih =>
      intro a hle ha h
      have hc := hle c (.head _)
      rw [List.foldl_cons]
      refine ih _ (fun x hx => hle x (.tail _ hx)) ?_ ?_
      · split <;> assumption
      · rcases h with h | ⟨x, hx, h⟩
        · exact .inl (by rw [if_neg (by omega)]; exact h)
        · rcases List.mem_cons.mp hx with rfl | hx
          · exact .inl (by split <;> omega)
          · exact .inr ⟨x, hx, h⟩
  exact key cs _ hle (by decide) (.inr h3)

theorem mem_causeIf {c : Bool} {r code unit : Nat} {x : Nat × Nat × Nat} : x ∈ causeIf c r code unit ↔ c = true ∧ x = (r, code, unit) := by
  cases c <;> simp [causeIf]

/-- A stage that fails is reported, and the power leaves the dies (R444). -/
theorem finish_fail (e : StageEnd) (hle : ∀ c ∈ e.causes, c.1 ≤ 3) (h3 : ∃ c ∈ e.causes, c.1 = 3) :
    ∃ c u report, e.finish = (Dev.bringLog 3 c u 3 { e.dev with
      sp.degraded := !e.dev.fullCapacity
      hg.stageLog := e.dev.hg.stageLog ++ [(e.dev.hg.stage, report)] }).failStage := by
  have hw : ∀ more, (∀ c ∈ more, c.1 ≤ 3) → (worst (e.causes ++ more)).1 = 3 := fun more hm =>
    worst_fail (fun c hc => (List.mem_append.mp hc).elim (hle c) (hm c)) (h3.imp fun c hc => ⟨List.mem_append_left _ hc.1, hc.2⟩)
  have hmin : ∀ b, ∀ c ∈ causeIf b 3 0x7F 0, c.1 ≤ 3 := fun b c hc => by
    rw [(mem_causeIf.mp hc).2]
  unfold StageEnd.finish
  extract_lets _ _ d k w result report _ d1
  have hres : result = 3 := if_pos (hw _ (hmin _))
  rw [if_pos hres]
  refine ⟨w.2.1, w.2.2, report, ?_⟩
  unfold d1
  rw [hres]
  rfl

/-- A stage that finds nothing is reported, and the next one begins; after the last the device is at work. -/
theorem finish_good (e : StageEnd) (hc : e.causes = []) (hm : 2 ≤ e.dev.hg.stage → ({ e.dev with sp.degraded := !e.dev.fullCapacity } : Dev).minimumOk = true) :
    ∃ c u report result, e.finish =
      let d1 := Dev.bringLog 0 c u result { e.dev with
        sp.degraded := !e.dev.fullCapacity
        hg.stageLog := e.dev.hg.stageLog ++ [(e.dev.hg.stage, report)] }
      if e.dev.hg.stage < 9 then d1.beginStage (e.dev.hg.stage + 1)
      else Dev.setState (if d1.fw.lifecycle = 2 then .debug else .ready) { d1 with bu.running := false, bu.badEnd := false } := by
  unfold StageEnd.finish
  extract_lets _ _ d k w result report _ d1
  have hw : w = (0, 0, 0) := by
    unfold w
    rw [hc, List.nil_append]
    by_cases h : 2 ≤ k
    · rw [show d.minimumOk = true from hm h, Bool.not_true, Bool.and_false]
      rfl
    · rw [decide_eq_false h]
      rfl
  have hres : result ≠ 3 := by
    unfold result
    rw [hw, if_neg (by decide)]
    split <;> decide
  rw [if_neg hres]
  refine ⟨w.2.1, w.2.2, report, result, ?_⟩
  have h1 : d1 = Dev.bringLog 0 w.2.1 w.2.2 result { d with hg.stageLog := d.hg.stageLog ++ [(k, report)] } := by
    unfold d1
    rw [if_neg hres]
  by_cases h9 : k < 9
  · rw [if_pos h9, h1]
    exact (if_pos h9).symm
  · rw [if_neg h9]
    refine Eq.trans ?_ (if_neg h9).symm
    exact congrArg (fun x : Dev => Dev.setState (if x.fw.lifecycle = 2 then .debug else .ready) { x with bu.running := false, bu.badEnd := false }) h1

/-- What a failed stage leaves. -/
def StageFailed (d t : Dev) : Prop :=
  t.hg.stageFail = true ∧ t.hg.devState = d.hg.devState ∧ t.bu.running = false ∧ t.pw.diesOff = true ∧ t.op.dark = true ∧ t.mem.cells = [] ∧
    t.hg.memActive = false ∧ t.th.duty = 1000 ∧ t.hg.stage = d.hg.stage ∧ t.fw.fuseF = d.fw.fuseF

theorem stageFailed_finish (e : StageEnd) (hle : ∀ c ∈ e.causes, c.1 ≤ 3) (h3 : ∃ c ∈ e.causes, c.1 = 3) : StageFailed e.dev e.finish := by
  obtain ⟨c, u, report, h⟩ := finish_fail e hle h3
  rw [h]
  exact ⟨rfl, rfl, rfl, rfl, rfl, rfl, rfl, rfl, rfl, rfl⟩

/-! ## The stages (R428, R443) -/

theorem log_stage (d : Dev) (u o c v : Nat) : (d.log u o c v).hg.stage = d.hg.stage := by
  have h : ∀ (e : Dev) b, (e.raiseInt b).hg.stage = e.hg.stage := fun e b => by
    unfold Dev.raiseInt Dev.sendMsix
    split
    · rfl
    · dsimp only
      split
      · split <;> rfl
      · rfl
  unfold Dev.log
  dsimp only
  split
  · rw [h]
  · split <;> rfl

section Stages

variable {d : Dev} (f : StageFindings)

theorem stageEnd_zero (h : d.hg.stage = 0) : stageEnd f d = stage0 f d := by
  unfold stageEnd
  rw [h]
  rfl

theorem stageEnd_nine (h : d.hg.stage = 9) : stageEnd f d = stage9 d := by
  unfold stageEnd
  rw [h]
  rfl

variable {f}

theorem stage0_causes_le : ∀ c ∈ (stage0 f d).causes, c.1 ≤ 3 := by
  intro c hc
  simp only [stage0, List.mem_append, mem_causeIf] at hc
  rcases hc with ((⟨-, rfl⟩ | ⟨-, rfl⟩) | ⟨-, rfl⟩) | ⟨-, rfl⟩ <;> exact Nat.le_of_lt_succ (by dsimp only; omega)

theorem stage0_fuses (h : f.fuseOk = false) : ∃ c ∈ (stage0 f d).causes, c.1 = 3 :=
  ⟨(3, 0x03, 0), by simp [stage0, mem_causeIf, h], rfl⟩

/-- S0 without a finding: S1 begins. -/
theorem stage0_good (hs : d.hg.stage = 0) (hr : f.rails = 0) (hf : f.fuseOk = true) (ha : f.romA = true) (hb : f.romB = true) :
    let t := (stage0 f d).finish
    t = { d with hg := t.hg, bu := t.bu, ts := t.ts, th := t.th, fw := t.fw, sp := t.sp } ∧ t.hg.stage = 1 ∧ t.hg.devState = d.hg.devState ∧
      t.hg.stageLog.length = d.hg.stageLog.length + 1 ∧ t.bu.stageStart = d.tb.ns ∧ t.fw.rangerB = false ∧ t.fw.standby = .current ∧ t.ts.i3cAddr = 0x40 + d.ts.i3ca := by
  have hstage : (stage0 f d).dev.hg.stage = 0 := hs
  obtain ⟨c, u, report, result, h⟩ := finish_good (stage0 f d) (by simp [stage0, hr, hf, ha, hb, causeIf]) fun h2 => absurd h2 (by rw [hstage]; decide)
  rw [hstage] at h
  dsimp only at h ⊢
  rw [if_pos (by decide)] at h
  rw [h]
  refine ⟨rfl, rfl, rfl, List.length_append, rfl, ?_, ?_, rfl⟩
  · show (!f.romA && f.romB) = false
    rw [ha]
    rfl
  · show (if f.romA && f.romB then Standby.current else .unused) = .current
    rw [ha, hb]
    rfl

theorem confirmImage_frame (d : Dev) :
    d.confirmImage = { d with fw := { d.fw with boot0 := d.confirmImage.fw.boot0, boot1 := d.confirmImage.fw.boot1, update := d.confirmImage.fw.update
                                                fuseF := d.confirmImage.fw.fuseF } } := by
  have hboot : ∀ (g : BootRec → BootRec) (d : Dev), Dev.writeBoot g d = { d with fw := { d.fw with boot0 := (Dev.writeBoot g d).fw.boot0, boot1 := (Dev.writeBoot g d).fw.boot1 } } := by
    intro g d
    unfold Dev.writeBoot
    extract_lets r new second
    split <;> rfl
  unfold Dev.confirmImage
  dsimp only
  split
  · unfold onlyIf
    split
    · rw [hboot]
    · rfl
  · rfl

/-- What S9 sets before its log entries. -/
def Dev.readied (d : Dev) : Dev :=
  { d with ck.cd9 := 1950, ck.cd10 := 1950, pw.trickleOn := true, pw.trickleLevel := 12, pw.trickleStep := d.tb.ns, fw.features := d.fw.featNext, fw.featNext := 0 }

/-- The parts S9 may write. -/
def readyOf (d e : Dev) : Dev :=
  { d with ck := { d.ck with cd9 := 1950, cd10 := 1950, swallow := e.ck.swallow }, pw := { d.pw with trickleOn := true, trickleLevel := 12, trickleStep := d.tb.ns },
           fw := { d.fw with features := d.fw.featNext, featNext := 0, boot0 := e.fw.boot0, boot1 := e.fw.boot1, update := e.fw.update, fuseF := e.fw.fuseF },
           lg := e.lg, hg := e.hg }

theorem readyOf_notice {e : Dev} (h : e = readyOf d e) (u v : Nat) : e.notice u v = readyOf d (e.notice u v) := by
  have h2 : e.notice u v = { e with lg := (e.notice u v).lg, hg := (e.notice u v).hg } := notice_frame _ _ _
  generalize e.notice u v = x at h2 ⊢
  rw [h2, h]
  rfl

theorem stage9_dev_frame (d : Dev) : (stage9 d).dev = readyOf d (stage9 d).dev ∧ (stage9 d).dev.hg.stage = d.hg.stage ∧ (stage9 d).dev.hg.devState = d.hg.devState := by
  have hfix : d.readied.confirmImage.fixSwallow = readyOf d d.readied.confirmImage.fixSwallow := by
    unfold Dev.fixSwallow
    rw [confirmImage_frame d.readied]
    rfl
  have hst : d.readied.confirmImage.fixSwallow.hg = d.hg := by
    unfold Dev.fixSwallow
    rw [confirmImage_frame d.readied]
    rfl
  refine each_keeps (fun e : Dev => e = readyOf d e ∧ e.hg.stage = d.hg.stage ∧ e.hg.devState = d.hg.devState) _ (fun x e h => ?_) _ _ ⟨hfix, ?_, ?_⟩
  · obtain ⟨h1, h2, h3⟩ := h
    refine ⟨readyOf_notice h1 _ _, ?_, (log_devState _ _ _ _ _).trans h3⟩
    exact (log_stage _ _ _ _ _).trans h2
  · exact congrArg (·.stage) hst
  · exact congrArg (·.devState) hst

/-- S9: the device is READY, or in DEBUG. -/
theorem stage9_good (hs : d.hg.stage = 9) (hm : d.minimumOk = true) :
    let t := (stage9 d).finish
    t.hg.devState = (if d.fw.lifecycle = 2 then .debug else .ready) ∧ t.ck.cd9 = 1950 ∧ t.ck.cd10 = 1950 ∧ t.pw.trickleOn = true ∧
      t.pw.trickleLevel = 12 ∧ t.bu.running = false ∧ t.fw.features = d.fw.featNext ∧ t.mem = d.mem ∧ t.tb = d.tb ∧ t.str = d.str := by
  obtain ⟨hd, hst, -⟩ := stage9_dev_frame d
  have hmin : ({ (stage9 d).dev with sp.degraded := !(stage9 d).dev.fullCapacity } : Dev).minimumOk = true := by
    rw [← hm, hd]
    rfl
  obtain ⟨c, u, report, result, h⟩ := finish_good (stage9 d) rfl fun _ => hmin
  rw [hst, hs] at h
  dsimp only at h ⊢
  rw [if_neg (by decide)] at h
  generalize (stage9 d).finish = t at h ⊢
  subst h
  refine ⟨(setState_devState _ _).trans ?_, ?_⟩
  · unfold Dev.bringLog
    dsimp only
    rw [hd, readyOf]
  · rw [setState_frame]
    unfold Dev.bringLog
    dsimp only
    rw [hd, readyOf]
    exact ⟨rfl, rfl, rfl, rfl, rfl, rfl, rfl, rfl, rfl⟩

theorem bringupStageTimeout_bringing (hb : d.bringing = true) (h9 : d.hg.stage ≠ 9) :
    bringupStageTimeout d = StageEnd.finish { dev := d.reach (d.bu.stageStart + d.stageMax), causes := [(3, 0x7E, 0)], excluded := 0, detail := [0, 0, 0, 0] } :=
  have hn : ¬ ((!d.bringing || d.hg.stage == 9) = true) := by simp [hb, h9]
  if_neg hn

/-- A stage that has failed at a given instant. -/
theorem stageFailed_reach {x : Dev} {t : Nat}
    (hx : x = StageEnd.finish { dev := d.reach t, causes := [(3, 0x7E, 0)], excluded := 0, detail := [0, 0, 0, 0] }) :
    StageFailed d x ∧ x.tb.ns = max d.tb.ns t := by
  obtain ⟨hd, hns⟩ := reach_frame d t
  generalize d.reach t = d1 at hx hd hns
  have hle : ∀ c ∈ [((3 : Nat), (0x7E : Nat), (0 : Nat))], c.1 ≤ 3 := by simp
  obtain ⟨c, u, report, h⟩ := finish_fail { dev := d1, causes := [(3, 0x7E, 0)], excluded := 0, detail := [0, 0, 0, 0] } hle ⟨_, .head _, rfl⟩
  rw [← hx] at h
  refine ⟨?_, ?_⟩ <;> rw [h]
  · have hst : d1.hg = d.hg ∧ d1.fw = d.fw := by
      rw [hd]
      exact ⟨rfl, rfl⟩
    exact ⟨rfl, congrArg (·.devState) hst.1, rfl, rfl, rfl, rfl, rfl, rfl, congrArg (·.stage) hst.1, congrArg (·.fuseF) hst.2⟩
  · exact hns

end Stages

/-! ## Positions (R435, R437) -/

theorem isCompute_bounds {p : Nat} (h : isCompute p = true) : 8 ≤ p ∧ p ≤ 39 := by
  simpa [isCompute] using h

theorem corePosition_compute {d : Dev} {p : Nat} (h : isCompute p = true) : d.corePosition p = false := by
  obtain ⟨h1, h2⟩ := isCompute_bounds h
  unfold Dev.corePosition Dev.activePort
  have h48 : (p == 48) = false := by simp; omega
  rw [h48]
  split <;> simp <;> omega

/-- A compute die that is excluded: the list and the log of bring-up. -/
theorem excludePosition_compute {d : Dev} {p : Nat} (h : isCompute p = true) (hx : d.bu.excluded.contains p = false) :
    let e := d.excludePosition p
    e = { d with bu := e.bu } ∧ e.bu.excluded = d.bu.excluded ++ [p] ∧ e.bu.replied = d.bu.replied ∧ e.bu.answered = d.bu.answered := by
  obtain ⟨h1, h2⟩ := isCompute_bounds h
  have hother : ∀ e : Dev, p ≠ e.otherPort := fun e => by
    unfold Dev.otherPort
    split <;> omega
  unfold Dev.excludePosition
  dsimp only
  rw [hx, if_neg (by decide), if_neg (by omega), if_neg (by omega), if_neg (hother _)]
  exact ⟨rfl, rfl, rfl, rfl⟩

section Positions

variable {d : Dev} {p : Nat}

theorem discovery_open (hb : d.hg.devState = .bringup) (hs : d.hg.stage = 3) (hr : d.bu.running = true) (hp : positions.contains p = true)
    (hre : d.bu.replied.contains p = false) (hx : d.bu.excluded.contains p = false) :
    ¬ (d.hg.devState ≠ .bringup ∨ d.hg.stage ≠ 3 ∨ (!d.bu.running) = true ∨ (!positions.contains p) = true ∨ d.bu.replied.contains p = true ∨
      d.bu.excluded.contains p = true) := by
  rw [hr, hp, hre, hx]
  simp [hb, hs]

theorem loadedDies_compute (h : isCompute p = true) (hx : d.bu.excluded.contains p = false) : d.loadedDies.contains p = true := by
  obtain ⟨h1, h2⟩ := isCompute_bounds h
  have hmem : p ∈ computeSites := by
    have : computeSites = (List.range 32).map (· + 8) := by decide
    rw [this]
    exact List.mem_map.mpr ⟨p - 8, List.mem_range.mpr (by omega), by omega⟩
  have hx' : p ∉ d.bu.excluded := by simpa using hx
  unfold Dev.loadedDies
  rw [List.contains_iff_mem]
  refine List.mem_filter.mpr ⟨List.mem_append_left _ (List.mem_append_left _ hmem), ?_⟩
  simpa using hx'

theorem exclude_reach (h : isCompute p = true) (hx : d.bu.excluded.contains p = false) {x : Dev} {t : Nat} (hd : x = (d.reach t).excludePosition p) :
    x = { d with bu := x.bu, tb := x.tb } ∧ x.bu.excluded = d.bu.excluded ++ [p] ∧ x.tb.ns = max d.tb.ns t := by
  obtain ⟨hr, hns⟩ := reach_frame d t
  have hx' : (d.reach t).bu.excluded.contains p = false := by
    rw [hr]
    exact hx
  obtain ⟨h1, h2, -⟩ := excludePosition_compute h hx'
  rw [← hd] at h1 h2
  refine ⟨?_, ?_, ?_⟩
  · rw [h1, hr]
  · rw [h2, hr]
  · rw [h1]
    exact hns

theorem discoveryTimeout_open (h : isCompute p = true) (ho : ¬ (d.hg.devState ≠ .bringup ∨ d.hg.stage ≠ 3 ∨ (!d.bu.running) = true ∨
      (!positions.contains p) = true ∨ d.bu.replied.contains p = true ∨ d.bu.excluded.contains p = true)) :
    discoveryTimeout p d = (d.reach (d.bu.stageStart + 10000000)).excludePosition p := by
  unfold discoveryTimeout
  rw [if_neg ho]
  dsimp only
  rw [corePosition_compute h, if_neg Bool.false_ne_true]

theorem stewardTimeout_open (h : ¬ (d.hg.devState ≠ .bringup ∨ d.hg.stage ≠ 4 ∨ (!d.bu.running) = true ∨ d.bu.stewards.contains p = true ∨ (!d.loadedDies.contains p) = true)) :
    stewardStartTimeout p d = (d.reach (d.bu.stageStart + 1000000000)).excludePosition p := if_neg h

end Positions

theorem not_bringing {d : Dev} (h : d.bringing = false) (f : StageFindings) : bringupStageComplete f d = d ∧ bringupStageTimeout d = d := by
  unfold bringupStageComplete bringupStageTimeout
  rw [h]
  exact ⟨rfl, rfl⟩

theorem devState_of_bringing {d : Dev} (h : d.bringing = true) : d.hg.devState = .bringup := by
  simp only [Dev.bringing, Bool.and_eq_true, beq_iff_eq] at h
  exact h.1.1.1.1

/-- Settles O55. -/
theorem bringUp : Obligations.BringUp := by
  rintro ⟨d, pending⟩ f p kind id1 id2
  dsimp only
  have hcomplete : ∀ {x}, d.bringing = true → (stageEnd f d).finish = x → exec (.bringupStageComplete f) ⟨d, pending⟩ = .next ⟨x, pending⟩ := fun hb hx =>
    (run_of_wf rfl (bringupStageComplete f)).trans (by unfold bringupStageComplete; dsimp only; rw [hb, if_pos rfl, hx])
  refine ⟨fun h => ⟨?_, ?_⟩, fun hb hs hr hf ha hb' => ?s0, fun hb hs hf => ?s0bad, fun hb hs hm => ?s9, fun hb hs => ?timeout, fun h => ⟨?_, ?_⟩,
    fun hb hs hr hp hre hx => ⟨fun hm => ?agrees, fun hm hc => ?differs, fun hc => ?silent⟩, fun hp hs => ?_, fun hb hs hr hst hx hc => ?steward⟩
  · exact (run_of_wf rfl (bringupStageComplete f)).trans (by rw [(not_bringing h f).1])
  · exact (run_of_wf rfl bringupStageTimeout).trans (by rw [(not_bringing h f).2])
  case s0 =>
    obtain ⟨h1, h2, h3, h4⟩ := stage0_good hs hr hf ha hb'
    exact ⟨State.mk (stage0 f d).finish pending, hcomplete hb (congrArg StageEnd.finish (stageEnd_zero f hs)), congrArg (fun e => State.mk e pending) h1, h2, h3.trans (devState_of_bringing hb), h4⟩
  case s0bad =>
    obtain ⟨h1, h2, h3⟩ := stageFailed_finish (stage0 f d) stage0_causes_le (stage0_fuses hf)
    exact ⟨State.mk (stage0 f d).finish pending, hcomplete hb (congrArg StageEnd.finish (stageEnd_zero f hs)), rfl, h1, h2.trans (devState_of_bringing hb), h3⟩
  case s9 => exact ⟨State.mk (stage9 d).finish pending, hcomplete hb (congrArg StageEnd.finish (stageEnd_nine f hs)), rfl, stage9_good hs hm⟩
  case timeout =>
    obtain ⟨⟨h1, h2, h3⟩, h4⟩ := stageFailed_reach (bringupStageTimeout_bringing hb hs)
    exact ⟨_, run_of_wf rfl bringupStageTimeout, ⟨rfl, h1, h2.trans (devState_of_bringing hb), h3⟩, h4⟩
  · exact (run_of_wf rfl (discoveryResponse p kind id1 id2)).trans (by unfold discoveryResponse; rw [if_pos (h.imp id Or.inl)])
  · exact (run_of_wf rfl (discoveryTimeout p)).trans (by unfold discoveryTimeout; rw [if_pos (h.imp id Or.inl)])
  case agrees =>
    refine (run_of_wf rfl (discoveryResponse p kind id1 id2)).trans ?_
    unfold discoveryResponse
    rw [if_neg (discovery_open hb hs hr hp hre hx), if_pos hm]
  case differs =>
    have hd : discoveryResponse p kind id1 id2 d = Dev.excludePosition p { d with bu.replied := d.bu.replied ++ [p] } := by
      unfold discoveryResponse
      rw [if_neg (discovery_open hb hs hr hp hre hx), if_neg hm]
      dsimp only
      rw [corePosition_compute hc, if_neg Bool.false_ne_true]
    obtain ⟨h1, h2, h3, h4⟩ := @excludePosition_compute { d with bu.replied := d.bu.replied ++ [p] } p hc hx
    rw [← hd] at h1 h2 h3 h4
    exact ⟨_, run_of_wf rfl (discoveryResponse p kind id1 id2), congrArg (fun e => State.mk e pending) h1, h2, h3, h4⟩
  case silent =>
    obtain ⟨h1, h2, h3⟩ := exclude_reach hc hx (discoveryTimeout_open hc (discovery_open hb hs hr hp hre hx))
    exact ⟨_, run_of_wf rfl (discoveryTimeout p), congrArg (fun e => State.mk e pending) h1, h2, h3⟩
  · exact (run_of_wf (by simpa [Instr.wf] using hp) (stewardStartTimeout p)).trans (by unfold stewardStartTimeout; rw [if_pos (.inr (.inl hs))])
  case steward =>
    have hp : p < 55 := by
      have := isCompute_bounds hc
      omega
    have ho : ¬ (d.hg.devState ≠ .bringup ∨ d.hg.stage ≠ 4 ∨ (!d.bu.running) = true ∨ d.bu.stewards.contains p = true ∨ (!d.loadedDies.contains p) = true) := by
      rw [hr, hst, loadedDies_compute hc hx]
      simp [hb, hs]
    obtain ⟨h1, h2, h3⟩ := exclude_reach hc hx (stewardTimeout_open ho)
    exact ⟨_, run_of_wf (by simpa [Instr.wf] using hp) (stewardStartTimeout p), congrArg (fun e => State.mk e pending) h1, h2, h3⟩

end Sys2Proof.Machine
end

section
/-!
PROOFS. The recovery of a site that the minimum configuration needs (chapter 18, R496, R498).
-/

set_option Elab.async false

namespace Sys2Proof.Machine

/-- A device in READY with 24 sites in service, the least it may have, and a recovery of one of them under way. -/
def leastSitesState : State :=
  { dev := { Dev.reset with
      hg := { HostPort.reset with devState := .ready }
      fw := { Firmware.reset with rangerUp := true, standby := .current }
      sp.out := [32, 33, 34, 35, 36, 37, 38, 39]
      fa.now := some { report := { unit := siteUnit 8, kind := .unit }, started := 0, retest := false } }
    pending := [] }

theorem leastSitesState_minimumOk : leastSitesState.dev.siteCount = 24 ∧ leastSitesState.dev.minimumOk = true := by
  decide +kernel

theorem leastSitesState_alert : leastSitesState.dev.th.alert = false ∧ (recoveryTimeout leastSitesState.dev).th.alert = true := by
  decide +kernel

/-- Refutes O53: the end of a recovery by its 100 ms isolates the site, and when the minimum configuration is lost by it the device enters
SAFE_HOLD and asserts ALERT#, which is no part that the statement lets a timeout change. -/
theorem not_faultRecovery : ¬ Obligations.FaultRecovery := by
  intro hall
  obtain ⟨-, -, -, -, -, -, -, htimeout, -⟩ := hall leastSitesState 0 0 (by decide)
  obtain ⟨t, ht, hframe, -⟩ := htimeout _ rfl
  obtain rfl := Host.Outcome.next.inj ((run_of_wf rfl recoveryTimeout).symm.trans ht)
  obtain ⟨hbefore, hafter⟩ := leastSitesState_alert
  have halert : (recoveryTimeout leastSitesState.dev).th.alert = leastSitesState.dev.th.alert := congrArg (fun s : State => s.dev.th.alert) hframe
  rw [hbefore, hafter] at halert
  exact Bool.noConfusion halert

end Sys2Proof.Machine
end

section
/-!
PROOFS. Resets of a compute site and what a lowered core waits for (chapters 03 and 13, R52, R84, R100, R103, R104, R107, R389).
-/

set_option Elab.async false

namespace Sys2Proof.Machine

/-! ## The reset of an Understory (R103) -/

section Understory

variable (d : Dev) (site : Nat)

theorem faultItems_frame (lost : Bool) : d.faultItems site lost = { d with str := (d.faultItems site lost).str } := rfl

/-- What is in flight of a site ends, and its setpoints are kept. -/
def Dev.siteCleared (d : Dev) (site : Nat) : Dev := (((d.poisonSite site).faultItems site true).dropPort site).retain site

theorem siteCleared_frame :
    d.siteCleared site = { d with
      cs := (d.poisonSite site).cs, str := (d.siteCleared site).str, ba := (d.siteCleared site).ba
      ck.retained := d.ck.retained.filter (·.1 != site) ++ [(site, .cd9, d.setpoint site .cd9), (site, .cd10, d.setpoint site .cd10)] } := by
  have key : ∀ e : Dev, e = { d.poisonSite site with str := e.str } → (e.dropPort site).retain site = { d with
      cs := (d.poisonSite site).cs, str := ((e.dropPort site).retain site).str, ba := ((e.dropPort site).retain site).ba
      ck.retained := d.ck.retained.filter (·.1 != site) ++ [(site, .cd9, d.setpoint site .cd9), (site, .cd10, d.setpoint site .cd10)] } := by
    intro e he
    rw [he]
    rfl
  exact key _ (faultItems_frame _ _ _)

/-- The Canopy is stopped, and the caches of the site are empty. -/
def Dev.siteHalted (d0 : Dev) (site : Nat) : Dev :=
  let halt := fun (g : Standing) => g.src == site || g.dst == site
  ({ d0.stopCanopy site .usReset with ba.standing := mapIf halt (fun g => { g with stopped := true }) d0.ba.standing } : Dev).onSite site
    fun s => { s with cache := [], fills := [] }

theorem siteHalted_spec :
    let e := d.siteHalted site
    e = { d with cs := e.cs, ba := e.ba } ∧ (e.site site).phase = .usReset ∧ (e.site site).cache = [] ∧ e.cs.parked = d.cs.parked ∧
      e.cs.transfers = d.cs.transfers := by
  have hsite : (d.siteHalted site).site site = { d.site site with phase := .usReset, programs := [], cache := [], fills := [] } := by
    refine (site_onSite _ _ _ fun _ => by exact rfl).trans ?_
    have h := site_onSite d site (fun s => { s with phase := .usReset, programs := [] }) fun _ => by exact rfl
    exact congrArg (fun s : Site => { s with cache := [], fills := [] }) h
  exact ⟨rfl, by rw [hsite], by rw [hsite], rfl, rfl⟩

theorem resetUnderstory_spec :
    let e := d.resetUnderstory site
    e = { d with cs := e.cs, str := e.str, ba := e.ba, mem := e.mem, ck.retained := e.ck.retained } ∧ (e.site site).phase = .usReset ∧
      (site, .cd9, d.setpoint site .cd9) ∈ e.ck.retained ∧ (site, .cd10, d.setpoint site .cd10) ∈ e.ck.retained ∧ (e.site site).cache = [] ∧
      e.mem.cells = cellsClear d.mem.cells (scratchKey site 0) (scratchKey (site + 1) 0) ∧ e.mem.stackList = d.mem.stackList ∧
      (∀ x ∈ e.cs.parked, x.t.site ≠ site) ∧ ∀ x ∈ e.cs.transfers, x.t.site ≠ site := by
  obtain ⟨hhalt, hphase, hcache, hparked, htransfers⟩ := siteHalted_spec (d.siteCleared site) site
  have hclear := siteCleared_frame d site
  have hd : d.resetUnderstory site = { (d.siteCleared site).siteHalted site with
      mem.cells := cellsClear ((d.siteCleared site).siteHalted site).mem.cells (scratchKey site 0) (scratchKey (site + 1) 0)
      mem.poison := ((d.siteCleared site).siteHalted site).mem.poison.filter
        fun l => !(decide (scratchKey site 0 ≤ l * 256) && decide (l * 256 < scratchKey (site + 1) 0)) } := rfl
  generalize d.siteCleared site = c at hhalt hphase hcache hparked htransfers hclear hd
  generalize c.siteHalted site = x at hhalt hphase hcache hparked htransfers hd
  dsimp only
  rw [hd]
  refine ⟨?_, hphase, ?_, ?_, hcache, ?_, ?_, fun y hy => ?_, fun y hy => ?_⟩
  · rw [hhalt, hclear]
  · rw [hhalt, hclear]
    exact List.mem_append_right _ (.head _)
  · rw [hhalt, hclear]
    exact List.mem_append_right _ (.tail _ (.head _))
  · rw [hhalt, hclear]
  · rw [hhalt, hclear]
  · rw [hparked, hclear] at hy
    simpa [Dev.poisonSite] using (List.mem_filter.mp hy).2
  · rw [htransfers, hclear] at hy
    simpa [Dev.poisonSite] using (List.mem_filter.mp hy).2

end Understory

/-! ## The Canopy (R104, R107) -/

theorem resetCanopy_spec (d : Dev) (site : Nat) :
    let e := d.resetCanopy site
    e = { d with cs := e.cs, str := e.str } ∧ (e.site site).phase = .cpReset ∧ (e.site site).cache = (d.site site).cache ∧ ∀ x ∈ e.cs.parked, x.t.site ≠ site := by
  have hsite : (d.resetCanopy site).site site = { d.site site with phase := .cpReset, programs := [], fills := (d.site site).fills.map fun f => (f.1, []) } := by
    refine (site_onSite _ _ _ fun _ => by exact rfl).trans ?_
    have h := site_onSite (d.faultItems site false) site (fun s => { s with phase := .cpReset, programs := [] }) fun _ => by exact rfl
    exact congrArg (fun s : Site => { s with fills := s.fills.map fun (f : Nat × List Thread) => (f.1, []) }) h
  have hframe : ∀ e : Dev, e = { d with str := e.str } →
      let x := (e.stopCanopy site .cpReset).onSite site fun s => { s with fills := s.fills.map fun f => (f.1, []) }
      let y : Dev := { x with cs.parked := x.cs.parked.filter (·.t.site != site), cs.transfers := x.cs.transfers.filter (·.t.site != site)
                              cs.waiting := x.cs.waiting.filter (·.1.site != site), cs.finished := x.cs.finished.filter (·.t.site != site)
                              cs.lost := x.cs.lost.filter (·.1.site != site) }
      y = { d with cs := y.cs, str := y.str } ∧ ∀ z ∈ y.cs.parked, z.t.site ≠ site := by
    intro e he x y
    refine ⟨?_, fun z hz => ?_⟩
    · unfold y x
      rw [he]
      rfl
    · simpa using (List.mem_filter.mp hz).2
  obtain ⟨h1, h2⟩ := hframe (d.faultItems site false) (faultItems_frame d site false)
  exact ⟨h1, by rw [hsite], by rw [hsite], h2⟩

theorem sendCell_frame (c : BCell) (d : Dev) : d.sendCell c = { d with ba.out := (d.sendCell c).ba.out } := by
  unfold Dev.sendCell
  split <;> rfl

theorem sendReload_frame (d : Dev) (site : Nat) : d.sendReload site = { d with ba.out := (d.sendReload site).ba.out } := by
  refine each_keeps (fun e : Dev => e = { d with ba.out := e.ba.out }) _ (fun payload e he => ?_) _ d rfl
  have h : Dev.sendCopy d.activePort site payload e = { e with ba.out := (Dev.sendCopy d.activePort site payload e).ba.out } := sendCell_frame _ _
  rw [h, he]

theorem understoryReady_idle {d : Dev} {site : Nat} (h : (d.site site).phase = .usReset) (hn : d.fa.now = none) :
    let e := understoryReady site d
    e = { d with cs := e.cs, ba := { d.ba with out := e.ba.out }, ck.retained := d.ck.retained.filter (·.1 != site) } ∧
      e.site site = { d.site site with phase := .reloading } := by
  have hready : ∀ x : Dev, x.fa.now = none → x.dieReady site = x := fun x hx => by
    unfold Dev.dieReady
    rw [hx]
  have hd : understoryReady site d = Dev.sendReload site
      { d.onSite site (fun s => { s with phase := .reloading }) with ck.retained := d.ck.retained.filter (·.1 != site) } := by
    unfold understoryReady
    rw [if_pos h]
    dsimp only
    rw [hready _ (by exact hn)]
    rfl
  dsimp only
  rw [hd, sendReload_frame]
  exact ⟨rfl, site_onSite d site _ fun _ => by rfl⟩

/-- What loading the programs keeps. -/
theorem loadPrograms_spec (d : Dev) (site : Nat) :
    let e := d.loadPrograms
    e = { d with cs.sites := e.cs.sites } ∧ (e.site site).phase = (d.site site).phase ∧ (e.site site).stand = (d.site site).stand ∧
      (e.site site).standPoison = (d.site site).standPoison := by
  unfold Dev.loadPrograms
  generalize computeSites = sites
  refine each_keeps (fun e : Dev => e = { d with cs.sites := e.cs.sites } ∧ (e.site site).phase = (d.site site).phase ∧
    (e.site site).stand = (d.site site).stand ∧ (e.site site).standPoison = (d.site site).standPoison) _ (fun s e he => ?_) _ d ⟨rfl, rfl, rfl, rfl⟩
  split
  · obtain ⟨h1, h2⟩ := he
    refine ⟨?_, ?_⟩
    · have hf : ∀ f, e.onSite s f = { e with cs.sites := (e.onSite s f).cs.sites } := fun _ => rfl
      rw [hf, h1]
    · by_cases hs : site = s
      · subst hs
        rw [site_onSite _ _ _ fun _ => by exact rfl]
        exact h2
      · rw [site_onSite_other _ _ _ _ (fun _ => by exact rfl) hs]
        exact h2
  · exact he

theorem canopyReload_spec {d : Dev} {site : Nat} (h : (d.site site).phase = .reloading ∨ (d.site site).phase = .cpReset) :
    let e := canopyReloadComplete site d
    e = { d with cs := e.cs } ∧ (e.site site).phase = .resuming ∧ (e.site site).stand = d.placedContents site ∧ (e.site site).standPoison = [] ∧
      e.cs.sr = d.cs.sr.map fun e => if e.1 / 2500 + 8 = site then (e.1, e.2.1, srInit e.2.1 e.1) else e := by
  have hd : canopyReloadComplete site d = ((d.onSite site fun s => { s with phase := .resuming, stand := d.placedContents site, standPoison := [] }).restartGenerators
      fun c => c / 2500 + 8 == site).loadPrograms := if_pos h
  have hs := site_onSite d site (fun s => { s with phase := .resuming, stand := d.placedContents site, standPoison := [] }) fun _ => by exact rfl
  obtain ⟨h1, h2, h3, h4⟩ := loadPrograms_spec ((d.onSite site fun s => { s with phase := .resuming, stand := d.placedContents site, standPoison := [] }).restartGenerators
      fun c => c / 2500 + 8 == site) site
  rw [← hd] at h1 h2 h3 h4
  refine ⟨by rw [h1]; rfl, h2.trans (congrArg (·.phase) hs), h3.trans (congrArg (·.stand) hs), h4.trans (congrArg (·.standPoison) hs), ?_⟩
  rw [h1]
  refine List.map_congr_left fun x _ => ?_
  simp only [beq_iff_eq]

/-! ## CHIME_LOSS (R389) -/

theorem chimeLoss_site {d : Dev} {site : Nat} (hs : isComputeSite site = true) (hf : d.faultsTaken = true) (hc : d.calm) :
    chimeLoss site d = { d with ck.chimeLost := insertNew site d.ck.chimeLost, fa.queue := [{ unit := siteUnit site, kind := .die }] } := by
  have hb : 8 ≤ site ∧ site ≤ 39 := by simpa [isComputeSite] using hs
  have hports : ∀ e : Dev, site ≠ e.activePort ∧ site ≠ e.otherPort := fun e => by
    unfold Dev.activePort Dev.otherPort
    split <;> omega
  have hdie : dieUnit site = siteUnit site := if_pos hs
  have ht : ({ d with ck.chimeLost := insertNew site d.ck.chimeLost } : Dev).faultsTaken = true := hf
  unfold chimeLoss
  dsimp only
  rw [ht, if_neg (by decide), if_neg (by omega), if_neg (by omega), if_neg (hports _).1, if_neg (hports _).2, hdie]
  exact (reportFault_calm (by exact hc) _).2

theorem chimeLoss_untaken {d : Dev} {site : Nat} (hf : d.faultsTaken = false) : chimeLoss site d = { d with ck.chimeLost := insertNew site d.ck.chimeLost } := by
  have ht : ({ d with ck.chimeLost := insertNew site d.ck.chimeLost } : Dev).faultsTaken = false := hf
  unfold chimeLoss
  dsimp only
  rw [ht]
  rfl

/-- Settles O40. -/
theorem computeResets : Obligations.ComputeResets := by
  rintro ⟨d, pending⟩ site stand pos hs hst hp
  dsimp only
  have hreload : (Instr.canopyReloadComplete site).wf = true := hs
  have hreset : (Instr.understoryReset site).wf = true := hs
  have hready : (Instr.understoryReady site).wf = true := hs
  have hcanopy : (Instr.canopyReset site).wf = true := hs
  have hlower : (Instr.coreAgeingLower site stand pos).wf = true := by simp [Instr.wf, hs, hst, hp]
  have hchime : (Instr.chimeLoss site).wf = true := by
    have hb : 8 ≤ site ∧ site ≤ 39 := by simpa [isComputeSite] using hs
    have h55 : site < 55 := by omega
    simp [Instr.wf, h55]
  refine ⟨run_of_wf hlower (coreAgeingLower site stand pos), fun h => ⟨?_, ?_⟩, fun h => ?reset, fun h hn => ?ready, fun h => ?_, fun h1 h2 => ?canopy, fun h => ?reload,
    fun h1 h2 => ?_, fun h => ?_, fun h hi hq hn => ?_⟩
  · exact (run_of_wf hreset (understoryReset site)).trans (by unfold understoryReset; dsimp only; rw [if_pos h])
  · exact (run_of_wf hcanopy (canopyReset site)).trans (by unfold canopyReset; dsimp only; rw [if_pos (.inl h)])
  case reset =>
    have hd : understoryReset site d = d.resetUnderstory site := if_neg h
    obtain ⟨h1, h2⟩ := resetUnderstory_spec d site
    rw [← hd] at h1 h2
    exact ⟨_, run_of_wf hreset (understoryReset site), congrArg (fun e => State.mk e pending) h1, h2⟩
  case ready =>
    obtain ⟨h1, h2⟩ := understoryReady_idle h hn
    refine ⟨State.mk (understoryReady site d) pending, run_of_wf hready (understoryReady site), congrArg (fun e => State.mk e pending) ?_, h2, ?_⟩
    · dsimp only
      rw [h1]
    · dsimp only
      rw [h1]
  · exact (run_of_wf hready (understoryReady site)).trans (by unfold understoryReady; dsimp only; rw [if_neg h])
  case canopy =>
    have hd : canopyReset site d = d.resetCanopy site := if_neg fun hn => hn.elim h1 h2
    obtain ⟨h3, h4⟩ := resetCanopy_spec d site
    rw [← hd] at h3 h4
    exact ⟨_, run_of_wf hcanopy (canopyReset site), congrArg (fun e => State.mk e pending) h3, h4⟩
  case reload =>
    obtain ⟨h1, h2⟩ := canopyReload_spec h
    exact ⟨_, run_of_wf hreload (canopyReloadComplete site), congrArg (fun e => State.mk e pending) h1, h2⟩
  · exact (run_of_wf hreload (canopyReloadComplete site)).trans (by unfold canopyReloadComplete; dsimp only; rw [if_neg fun hn => hn.elim h1 h2])
  · exact (run_of_wf hchime (chimeLoss site)).trans (by rw [chimeLoss_untaken h])
  · exact (run_of_wf hchime (chimeLoss site)).trans (by rw [chimeLoss_site hs h ⟨hi, hq, hn⟩])

end Sys2Proof.Machine
end

section
/-!
PROOFS. Request records at their home (chapters 07 and 09, R281, R292 to R294, R300, R345, R355).
-/

set_option Elab.async false

namespace Sys2Proof.Machine

/-- The device but for what its receive buffers hold. -/
def recvOf (d e : Dev) : Dev := { d with ba.recv := e.ba.recv }

theorem dropRec_frame (d : Dev) (port plane kind : Nat) : d.dropRec port plane kind = recvOf d (d.dropRec port plane kind) := by
  unfold Dev.dropRec
  split
  · dsimp only
    split <;> rfl
  · rfl

section Requests

variable {d : Dev} {port plane : Nat} {r : Rec}

theorem serve_none (h : d.headRec port plane 3 = none) (op : Nat) (mine ready : Rec → Bool) (f : Rec → Dev → Dev) : d.serve port plane op mine ready f = d := by
  unfold Dev.serve
  rw [h]

/-- A record that its home can serve is taken from the buffer and given to the operation. -/
theorem serve_sound (h : d.headRec port plane 3 = some (r, false)) (hroom : d.rspRoomTo port r.port = true) {op : Nat} (hop : r.op = op)
    {mine ready : Rec → Bool} (hm : mine r = true) (hr : ready r = true) (f : Rec → Dev → Dev) :
    d.serve port plane op mine ready f = f r (d.dropRec port plane 3) := by
  unfold Dev.serve
  rw [h]
  dsimp only
  rw [if_pos ⟨hop, hm, hroom⟩, if_neg Bool.false_ne_true, if_pos hr]

/-- The operation of a record has joined the queue of a stack's lines, and nothing else of the device memory has changed. -/
def Taken (d t : Dev) (port plane : Nat) (r : Rec) (k o : Nat) (act : LineAct) : Prop :=
  t = { d with ba.recv := t.ba.recv, mem := t.mem, hg := t.hg } ∧ t.mem.cells = d.mem.cells ∧ t.mem.poison = d.mem.poison ∧ (∀ x, x ≠ k → t.stack x = d.stack x) ∧
    t.stack k = { d.stack k with ops := (d.stack k).ops ++ [{ stack := k, line := o / 256, act, reply := .record port plane r }] }

theorem taken_pushOp {e : Dev} (he : e = recvOf d e) (k o : Nat) (act : LineAct) :
    Taken d (e.pushOp { stack := k, line := o / 256, act, reply := .record port plane r }) port plane r k o act := by
  have hstack : ∀ x, e.stack x = d.stack x := fun x => by
    rw [he]
    rfl
  refine ⟨?_, ?_, ?_, fun x hx => ?_, ?_⟩
  · rw [he]
    rfl
  · rw [he]
    rfl
  · rw [he]
    rfl
  · rw [stack_pushOp_other e _ hx, hstack]
  · rw [stack_pushOp e { stack := k, line := o / 256, act, reply := .record port plane r }, hstack]

/-- No line of a range is one whose snoop was lost when none was. -/
theorem rangeLost_of_none (h : d.hg.snoopLost = []) (a n : Nat) : d.rangeLost a n = false := by
  unfold Dev.rangeLost
  rw [h]
  rfl

theorem acceptRead_push {st o : Nat} (hf : d.fencedLine st o = false) (hr : (d.stack st).resetting = false) (hb : d.inBuf st (o / 256) = false) (n : Nat) (reply : Reply) :
    d.acceptRead st o n reply = d.pushOp { stack := st, line := o / 256, act := .read (o % 256) n, reply } := by
  unfold Dev.acceptRead
  dsimp only
  rw [hf, Bool.not_false, if_pos rfl, hr, if_neg Bool.false_ne_true, hb, Bool.false_and, if_neg Bool.false_ne_true]

theorem acceptWrite_push {st o n : Nat} (hf : d.fencedLine (d.homeStack st o) o = false) (hr : (d.stack (d.homeStack st o)).resetting = false)
    (hro : d.readOnly (d.homeStack st o) o n = false) (fromHost : Bool) (act : LineAct) (reply : Reply) :
    d.acceptWrite st o n fromHost act reply = d.pushOp { stack := d.homeStack st o, line := o / 256, act, reply } := by
  unfold Dev.acceptWrite
  dsimp only
  rw [hr, if_neg Bool.false_ne_true, hf, if_neg Bool.false_ne_true, hro, Bool.and_false, if_neg Bool.false_ne_true]

theorem not_atEngine {port : Nat} (h : port < 51) : atEngine port = false := decide_eq_false (by omega)

/-- A write that waits for no line of the host is served. -/
theorem whenTaken_free (hport : port < 51) {st o : Nat} (hbm : d.hbmAt port r.address = some (st, o)) {op n : Nat} (ht : d.tracked false (r.address % 2 ^ 48) n = []) (go : Dev → Dev) : d.whenTaken port op n r go = go d := by
  have hm : d.mustTake port r.address n = false := by
    unfold Dev.mustTake
    rw [if_neg (Bool.eq_false_iff.mp (not_atEngine hport)), hbm]
    dsimp only
    rw [ht]
    exact Bool.and_false _
  unfold Dev.whenTaken
  dsimp only
  rw [hm]
  exact if_neg fun hn => Bool.false_ne_true hn.2

/-- A write of lines that the host may hold asks for them and waits (R355). -/
theorem whenTaken_tracked (hport : port < 51) {st o : Nat} (hbm : d.hbmAt port r.address = some (st, o)) {op n : Nat} (hop : r.op = op) (ht : d.tracked false (r.address % 2 ^ 48) n ≠ []) (hro : d.readOnly (d.homeStack st o) o n = false)
    (go : Dev → Dev) : d.whenTaken port op n r go = each (d.tracked false (r.address % 2 ^ 48) n) (Dev.sendSnoop true) d := by
  have hm : d.mustTake port r.address n = true := by
    unfold Dev.mustTake
    rw [if_neg (Bool.eq_false_iff.mp (not_atEngine hport)), hbm]
    dsimp only
    rw [hro]
    simpa using ht
  exact if_pos ⟨hop, hm⟩

/-- The write of a record whose operation `act` its home can take, once the record has left the buffer. -/
theorem acceptWrite_dropped {st o : Nat} (hbm : d.hbmAt port r.address = some (st, o)) (hlost : d.hg.snoopLost = []) {n : Nat} (hf : d.fencedLine (d.homeStack st o) o = false) (hr : (d.stack (d.homeStack st o)).resetting = false)
    (hro : d.readOnly (d.homeStack st o) o n = false) {x : Dev} (hx : x = recvOf d x) (fromHost : Bool) (act : LineAct) (reply : Reply) :
    x.rangeLost (r.address % 2 ^ 48) r.size = false ∧ x.hbmAt port r.address = some (st, o) ∧
      x.acceptWrite st o n fromHost act reply = x.pushOp { stack := d.homeStack st o, line := o / 256, act, reply } := by
  have hhome : x.homeStack st o = d.homeStack st o := by
    rw [hx]
    rfl
  refine ⟨rangeLost_of_none (by rw [hx]; exact hlost) _ _, by rw [hx]; exact hbm, ?_⟩
  rw [← hhome]
  refine acceptWrite_push ?_ ?_ ?_ _ _ _ <;> rw [hhome, hx]
  · exact hf
  · exact hr
  · exact hro

section Home

variable (hport : port < 51) (h : d.headRec port plane 3 = some (r, false)) (hroom : d.rspRoomTo port r.port = true) {st o : Nat}
  (hbm : d.hbmAt port r.address = some (st, o)) (hlost : d.hg.snoopLost = [])
include hport h hroom hbm hlost

/-- A LOAD of a line that is not in the buffer joins the queue of the stack it reads. -/
theorem taken_load (n : Nat) (bad : Bool) (hop : r.op = 1) (hfetch : d.mustFetch port r.address r.size = false) (hbar : r.isBarrier = false)
    (hunit : r.unit ≠ engineUnit) (hops : d.opRoom st 1 = true) (hf : d.fencedLine st o = false) (hr : (d.stack st).resetting = false)
    (hb : d.inBuf st (o / 256) = false) :
    Taken d (load port plane n bad d) port plane r st o (.read (o % 256) r.size) := by
  have hbulk : (r.unit == engineUnit && !r.data.isEmpty) = false := by simp [hunit]
  have hd : load port plane n bad d = (d.dropRec port plane 3).pushOp { stack := st, line := o / 256, act := .read (o % 256) r.size, reply := .record port plane r } := by
    unfold load
    dsimp only
    rw [h]
    dsimp only
    have hready : (if (r.unit == engineUnit && !r.data.isEmpty) = true then d.quiet st o r.size && d.quiet (d.homeStack st o) o r.size else d.opRoom st 1) = true :=
      (if_neg (Bool.eq_false_iff.mp hbulk)).trans hops
    rw [if_neg (by simp [hfetch]), serve_sound h hroom hop (by simp [hbar]) (by rw [hbm]; exact hready),
      if_neg (Bool.eq_false_iff.mp (rangeLost_of_none hlost _ _)), if_neg (Bool.eq_false_iff.mp (not_atEngine hport))]
    generalize hx : d.dropRec port plane 3 = x
    have hxf : x = recvOf d x := hx ▸ dropRec_frame d port plane 3
    have hxbm : x.hbmAt port r.address = some (st, o) := by
      rw [hxf]
      exact hbm
    rw [hxbm]
    dsimp only
    rw [if_neg (Bool.eq_false_iff.mp hbulk)]
    refine acceptRead_push ?_ ?_ ?_ _ _ <;> rw [hxf]
    · exact hf
    · exact hr
    · exact hb
  rw [hd]
  exact taken_pushOp (dropRec_frame d port plane 3) _ _ _

/-- A STORE joins the queue of its home. -/
theorem taken_store (hop : r.op = 2) (hjob : r.isJob port = false) (ht : d.tracked false (r.address % 2 ^ 48) r.size = []) (hops : d.opRoom (d.homeStack st o) 1 = true)
    (hf : d.fencedLine (d.homeStack st o) o = false) (hr : (d.stack (d.homeStack st o)).resetting = false) (hro : d.readOnly (d.homeStack st o) o r.size = false) :
    Taken d (store port plane d) port plane r (d.homeStack st o) o (.store (o % 256) r.data) := by
  have hd : store port plane d = (d.dropRec port plane 3).pushOp
      { stack := d.homeStack st o, line := o / 256, act := .store (o % 256) r.data, reply := .record port plane r } := by
    obtain ⟨hl, hx, ha⟩ := acceptWrite_dropped hbm hlost hf hr hro (dropRec_frame d port plane 3) r.fromHost (.store (o % 256) r.data) (.record port plane r)
    unfold store
    dsimp only
    rw [h]
    dsimp only
    rw [if_neg (Bool.eq_false_iff.mp hjob), whenTaken_free hport hbm ht, serve_sound h hroom hop (by rw [hjob]; rfl) (by rw [hbm]; exact hops),
      if_neg (Bool.eq_false_iff.mp hl), if_neg (Bool.eq_false_iff.mp (not_atEngine hport)), hx]
    exact ha
  rw [hd]
  exact taken_pushOp (dropRec_frame d port plane 3) _ _ _

/-- An ATOMIC joins the queue of its home. -/
theorem taken_atomic (n : Nat) (bad : Bool) {op : AtomicOp} {ty : AtomicTy} (hop : r.op = 3) (ht : d.tracked false (r.address % 2 ^ 48) r.size = [])
    (haop : AtomicOp.ofCode r.aop = some op) (haty : AtomicTy.ofCode r.aty = some ty) (hops : d.opRoom (d.homeStack st o) 1 = true)
    (hf : d.fencedLine (d.homeStack st o) o = false) (hr : (d.stack (d.homeStack st o)).resetting = false) (hro : d.readOnly (d.homeStack st o) o ty.bytes = false) :
    Taken d (atomic port plane n bad d) port plane r (d.homeStack st o) o
      (.atomic op ty (r.address % 256) (field r.data 0 ty.bytes) (field r.data ty.bytes ty.bytes) (r.unit == engineUnit)) := by
  have hd : atomic port plane n bad d = (d.dropRec port plane 3).pushOp
      { stack := d.homeStack st o, line := o / 256, reply := .record port plane r
        act := .atomic op ty (r.address % 256) (field r.data 0 ty.bytes) (field r.data ty.bytes ty.bytes) (r.unit == engineUnit) } := by
    obtain ⟨hl, hx, ha⟩ := acceptWrite_dropped hbm hlost hf hr hro (dropRec_frame d port plane 3) false
      (.atomic op ty (r.address % 256) (field r.data 0 ty.bytes) (field r.data ty.bytes ty.bytes) (r.unit == engineUnit)) (.record port plane r)
    unfold atomic
    dsimp only
    rw [h]
    dsimp only
    rw [whenTaken_free hport hbm ht, serve_sound h hroom hop rfl (by rw [hbm]; exact hops), if_neg (Bool.eq_false_iff.mp hl), haop, haty]
    dsimp only
    rw [if_neg (Bool.eq_false_iff.mp (not_atEngine hport)), hx]
    exact ha
  rw [hd]
  exact taken_pushOp (dropRec_frame d port plane 3) _ _ _

end Home

/-! ## Job pages and the barrier word (R281, R300, R345) -/

/-- A job page queues a job; it is answered at once while fewer than 256 wait. -/
theorem gatherReduceJobSubmit_queued (h : d.headRec port plane 3 = some (r, false)) (hroom : d.rspRoomTo port r.port = true) {k : Nat} (hjob : r.isJob port = true)
    (hk : jobStack r.address = some k) (hops : (d.stack k).jobs.length < 256 ∨ d.opRoom k 1 = true) (hr : (d.stack k).resetting = false) (hf : (d.stack k).fenced = false) :
    let e := gatherReduceJobSubmit port plane d
    e = { d with ba := e.ba, mem := e.mem } ∧ e.stack k = { d.stack k with jobs := (d.stack k).jobs ++ [{ desc := r.data, reply := .record port plane r }] } ∧
      (256 ≤ (d.stack k).jobs.length → e.ba.out = d.ba.out) := by
  have hop : r.op = 2 := by
    simp only [Rec.isJob, Bool.and_eq_true, beq_iff_eq] at hjob
    exact hjob.1.1
  have hd : gatherReduceJobSubmit port plane d = (d.dropRec port plane 3).pushJob k { desc := r.data, reply := .record port plane r } := by
    unfold gatherReduceJobSubmit
    rw [serve_sound h hroom hop hjob (by rw [hk]; simpa using hops), hk]
    dsimp only
    have hx := dropRec_frame d port plane 3
    rw [show (d.dropRec port plane 3).stack k = d.stack k by rw [hx]; rfl, if_neg (Bool.eq_false_iff.mp hr), if_neg (Bool.eq_false_iff.mp hf)]
  dsimp only
  rw [hd]
  have hx := dropRec_frame d port plane 3
  generalize d.dropRec port plane 3 = x at hx
  have hstack : x.stack k = d.stack k := by
    rw [hx]
    rfl
  have hout : x.ba.out = d.ba.out := by
    rw [hx]
    rfl
  have hpush := stack_onStack x k (fun s => { s with jobs := s.jobs ++ [{ desc := r.data, reply := .record port plane r }] }) fun _ => by exact rfl
  unfold Dev.pushJob
  dsimp only
  rw [hstack]
  split
  · next hlt =>
    refine ⟨?_, ?_, fun hn => absurd hlt (by omega)⟩
    · rw [answerOp_frame, hx]
      rfl
    · rw [answerOp_stack, hpush, hstack]
  · refine ⟨?_, ?_, fun _ => hout⟩
    · rw [hx]
      rfl
    · rw [hpush, hstack]

/-- The Headgate answers a load of the barrier word. -/
theorem barrierWordLoad_answered (h : d.headRec 48 plane 3 = some (r, false)) (hroom : d.rspRoomTo 48 r.port = true) (hbar : r.isBarrier = true) {q : Nat}
    (hq : d.choosePlane 48 r.port = some q) :
    let e := barrierWordLoad plane d
    e = { d with ba := e.ba } ∧ e.ba.out = addRec d.tb.ns 48 q 4 r.port (r.response 0 d.barrierWord) d.ba.out := by
  have hop : r.op = 1 := by
    simp only [Rec.isBarrier, Bool.and_eq_true, beq_iff_eq] at hbar
    exact hbar.1.1
  dsimp only
  rw [barrierWordLoad, serve_sound h hroom hop hbar rfl]
  have hx := dropRec_frame d 48 plane 3
  generalize d.dropRec 48 plane 3 = x at hx
  have hqx : x.choosePlane 48 r.port = some q := by
    rw [hx]
    exact hq
  unfold Dev.respondRec Dev.sendRec
  rw [hqx, hx]
  exact ⟨rfl, rfl⟩

end Requests

/-- Settles O42. -/
theorem basinRequests : Obligations.BasinRequests := by
  rintro ⟨d, pending⟩ port plane n bad r hport hplane
  dsimp only
  have h55 : port < 55 := by omega
  have hload : (Instr.load port ⟨plane, n, bad⟩).wf = true := by simp [Instr.wf, h55, hplane]
  have hstore : (Instr.store port plane).wf = true := by simp [Instr.wf, h55, hplane]
  have hatomic : (Instr.atomic port ⟨plane, n, bad⟩).wf = true := by simp [Instr.wf, h55, hplane]
  have hjobs : (Instr.gatherReduceJobSubmit port plane).wf = true := by simp [Instr.wf, h55, hplane]
  have hbarrier : (Instr.barrierWordLoad plane).wf = true := by simp [Instr.wf, hplane]
  have hcongr : ∀ {e : Dev} {k o act}, Taken d e port plane r k o act →
      State.mk e pending = { dev := { d with ba.recv := e.ba.recv, mem := e.mem, hg := e.hg }, pending } := fun ht => congrArg (fun e => State.mk e pending) ht.1
  refine ⟨fun h => ⟨?_, ?_, ?_, ?_⟩, fun h hroom => ⟨fun st o hbm => ⟨fun hop hfetch hbar hlost hunit hops hf hr hb => ?load, fun hop hjob hro ht => ?_,
    fun hop hjob hlost ht hops hf hr hro => ?store, fun op ty hop hlost ht haop haty hops hf hr hro => ?atomic⟩, fun k hjob hk hops hr hf => ?job⟩,
    fun h hroom hbar q hq => ?barrier⟩
  · exact (run_of_wf hload (load port plane n bad)).trans (by unfold load; dsimp only; rw [h])
  · exact (run_of_wf hstore (store port plane)).trans (by unfold store; dsimp only; rw [h]; dsimp only; rw [serve_none h])
  · exact (run_of_wf hatomic (atomic port plane n bad)).trans (by unfold atomic; dsimp only; rw [h]; dsimp only; rw [serve_none h])
  · exact (run_of_wf hjobs (gatherReduceJobSubmit port plane)).trans (by rw [gatherReduceJobSubmit, serve_none h])
  case load =>
    have ht := taken_load hport h hroom hbm hlost n bad hop hfetch hbar hunit hops hf hr hb
    exact ⟨_, run_of_wf hload (load port plane n bad), hcongr ht, ht.2⟩
  · refine (run_of_wf hstore (store port plane)).trans ?_
    unfold store
    dsimp only
    rw [h]
    dsimp only
    rw [if_neg (Bool.eq_false_iff.mp hjob), whenTaken_tracked hport hbm hop ht hro]
  case store =>
    have ht := taken_store hport h hroom hbm hlost hop hjob ht hops hf hr hro
    exact ⟨_, run_of_wf hstore (store port plane), hcongr ht, ht.2⟩
  case atomic =>
    have ht := taken_atomic hport h hroom hbm hlost n bad hop ht haop haty hops hf hr hro
    exact ⟨_, run_of_wf hatomic (atomic port plane n bad), hcongr ht, ht.2⟩
  case job =>
    obtain ⟨h1, h2⟩ := gatherReduceJobSubmit_queued h hroom hjob hk hops hr hf
    exact ⟨_, run_of_wf hjobs (gatherReduceJobSubmit port plane), congrArg (fun e => State.mk e pending) h1, h2⟩
  case barrier =>
    obtain ⟨h1, h2⟩ := barrierWordLoad_answered h hroom hbar hq
    exact ⟨_, run_of_wf hbarrier (barrierWordLoad plane), congrArg (fun e => State.mk e pending) h1, h2⟩

end Sys2Proof.Machine
end

section
/-!
PROOFS. Responses, bulk cells, control and multicast cells at their receiver (chapters 03 and 07, R79, R80, R220, R234, R236, R437).
-/

set_option Elab.async false

namespace Sys2Proof.Machine

/-! ## Responses (R79, R220) -/

section Responses

variable {d : Dev} {port plane : Nat} {r : Rec}

theorem takeRsp_none (h : d.headRec port plane 4 = none) (op : Nat) (f : Rec → Dev → Dev) : d.takeRsp port plane op f = d := by
  unfold Dev.takeRsp
  rw [h]

theorem takeRsp_sound (h : d.headRec port plane 4 = some (r, false)) {op : Nat} (hop : r.op = op) (f : Rec → Dev → Dev) :
    d.takeRsp port plane op f = f r (d.dropRec port plane 4) := by
  unfold Dev.takeRsp
  rw [h]
  dsimp only
  rw [if_pos hop, if_neg Bool.false_ne_true]

/-- The access of a response's thread has ended with the response's status and data. -/
def Answered (d t : Dev) (r : Rec) : Prop :=
  t = { d with ba.recv := t.ba.recv, cs := t.cs } ∧
    t.cs.finished = { t := codeThread r.port r.unit, status := r.status, data := r.data } :: d.cs.finished.filter (·.t != codeThread r.port r.unit) ∧
    t.parkedOp (codeThread r.port r.unit) = none

theorem parkedOp_finishThread (d : Dev) (t : Thread) (status : Nat) (data : List Byte) : (d.finishThread t status data).parkedOp t = none := by
  unfold Dev.finishThread Dev.parkedOp
  refine List.find?_eq_none.mpr fun x hx => ?_
  have := (List.mem_filter.mp hx).2
  simpa using this

theorem answered_threadRsp {x : Dev} (hx : x = recvOf d x) (hport : r.port < 51) {p : Parked} (hp : d.parkedOp (codeThread r.port r.unit) = some p) (htag : p.tag = r.tag)
    (hunit : r.unit ≠ engineUnit) : Answered d (x.threadRsp r) r := by
  have hd : x.threadRsp r = x.finishThread (codeThread r.port r.unit) r.status r.data := by
    have hpx : x.parkedOp (codeThread r.port r.unit) = some p := by
      rw [hx]
      exact hp
    unfold Dev.threadRsp
    rw [if_neg (Bool.eq_false_iff.mp (not_atEngine hport)), if_neg hunit]
    dsimp only
    rw [hpx]
    exact if_pos htag
  rw [hd]
  refine ⟨?_, ?_, parkedOp_finishThread _ _ _ _⟩ <;> rw [hx] <;> rfl

/-- The last acknowledgement of a transfer of one part ends it. -/
theorem partDone_last {x : Dev} {tr : Transfer} {part : XferPart} (hf : x.cs.transfers.find? (fun x => x.parts.any (·.tag == r.tag)) = some tr)
    (hparts : tr.parts = [part]) (htag : part.tag = r.tag) (hsent : tr.desc.length ≤ tr.sent) (htime : tr.timedOut = false) :
    x.partDone r.tag r.status none =
      { x with cs.transfers := x.cs.transfers.filter (·.tag != tr.tag), cs.ended := (tr.tag, max tr.status r.status) :: x.cs.ended } := by
  have hup : mapIf (fun p : XferPart => p.tag == r.tag) (fun p => { p with done := true }) tr.parts = [{ part with done := true }] := by
    rw [hparts]
    simp [mapIf, htag]
  unfold Dev.partDone
  rw [hf]
  dsimp only
  rw [hup, if_pos (by simp [hsent]), Dev.endTransfer, htime, if_neg Bool.false_ne_true]

end Responses

/-! ## Bulk cells (R220, R243) -/

/-- What applying a bulk cell may change. -/
def bulkOf (d e : Dev) : Dev := { d with ba := { e.ba with recv := d.ba.recv }, mem := e.mem, hg := e.hg, lg := e.lg }

theorem bulkOf_self (d : Dev) : d = bulkOf d d := rfl

theorem bulkOf_ite {d e x : Dev} {p : Prop} [Decidable p] (he : e = bulkOf d e) (hx : x = bulkOf d x) : (if p then e else x) = bulkOf d (if p then e else x) := by
  split
  · exact he
  · exact hx

section BulkOf

variable {d e : Dev} (h : e = bulkOf d e)
include h

theorem bulkOf_trans {x : Dev} (hx : x = bulkOf e x) : x = bulkOf d x := by
  rw [hx, h]
  rfl

theorem bulkOf_notice (u v : Nat) : e.notice u v = bulkOf d (e.notice u v) := bulkOf_trans h (by rw [bulkOf, notice_frame])

theorem bulkOf_store (a : Nat) (data : List Byte) : e.store a data = bulkOf d (e.store a data) := bulkOf_trans h (by rw [bulkOf, store_frame])

theorem bulkOf_pushOp (o : LineOp) : e.pushOp o = bulkOf d (e.pushOp o) := bulkOf_trans h rfl

theorem bulkOf_onPartial (port : Nat) (c : BCell) (f : Partial → Partial) : e.onPartial port c f = bulkOf d (e.onPartial port c f) := bulkOf_trans h rfl

theorem bulkOf_poisonBulk (port src transfer : Nat) : e.poisonBulk port src transfer = bulkOf d (e.poisonBulk port src transfer) := bulkOf_trans h rfl

theorem bulkOf_ackWhole (port src transfer : Nat) : e.ackWhole port src transfer = bulkOf d (e.ackWhole port src transfer) := by
  refine bulkOf_trans h ?_
  unfold Dev.ackWhole
  split
  · split
    · rw [Dev.sendAck, sendRec_frame, bulkOf]
    · rfl
  · rfl

theorem bulkOf_answerOp (stack status : Nat) (data : List Byte) (r : Reply) : e.answerOp stack status data r = bulkOf d (e.answerOp stack status data r) := by
  cases r with
  | record _ _ rq =>
    refine bulkOf_trans h ?_
    unfold Dev.answerOp Dev.respondRec
    dsimp only
    rw [sendRec_frame, bulkOf]
  | bulk port src transfer =>
    unfold Dev.answerOp
    dsimp only
    split
    · exact bulkOf_ackWhole (bulkOf_poisonBulk h _ _ _) _ _ _
    · exact bulkOf_ackWhole h _ _ _
  | none => exact h

theorem bulkOf_acceptWrite (stack off n : Nat) (fromHost : Bool) (act : LineAct) (reply : Reply) :
    e.acceptWrite stack off n fromHost act reply = bulkOf d (e.acceptWrite stack off n fromHost act reply) := by
  unfold Dev.acceptWrite
  dsimp only
  split
  · exact h
  split
  · exact bulkOf_answerOp h _ _ _ _
  split
  · exact bulkOf_answerOp h _ _ _ _
  · exact bulkOf_pushOp h _

theorem bulkOf_bulkStore (port a : Nat) (bs : List Byte) (reply : Reply) : e.bulkStore port a bs reply = bulkOf d (e.bulkStore port a bs reply) := by
  refine each_keeps (fun y : Dev => y = bulkOf d y) _ (fun p y hy => ?_) _ _ h
  split
  · exact bulkOf_acceptWrite hy _ _ _ _ _ _
  · split
    · exact bulkOf_store hy _ _
    · exact bulkOf_answerOp (bulkOf_notice hy _ _) _ _ _ _
  · exact bulkOf_answerOp (bulkOf_notice hy _ _) _ _ _ _

theorem bulkOf_checkWhole (port : Nat) (c : BCell) : e.checkWhole port c = bulkOf d (e.checkWhole port c) := by
  unfold Dev.checkWhole
  split
  · split
    · dsimp only
      split
      · exact h
      split
      · exact each_keeps (fun y : Dev => y = bulkOf d y) _ (fun p y hy => bulkOf_bulkStore hy _ _ _ _) _ _ h
      · exact bulkOf_poisonBulk h _ _ _
    · exact h
  · exact h

end BulkOf

/-- A bulk cell that its home can take leaves the buffer, and its bytes are written. -/
theorem bulkWrite_taken {d : Dev} {port plane : Nat} {w : Nat × Nat × BCell} (hport : port < 51) (h : d.headKind port plane 1 = some w) (hsnoop : d.hg.snoopFilter = [])
    (hlost : d.hg.snoopLost = []) (hroom : d.bulkRoom port w.2.2.address w.2.2.length = true) (hrsp : d.rspRoomTo port w.2.2.src = true) :
    let e := bulkWrite port plane d
    e = { d with ba := e.ba, mem := e.mem, hg := e.hg, lg := e.lg } ∧ e.ba.recv = d.ba.recv.erase w := by
  have htake : ∀ a n, d.mustTake port a n = false := fun a n => by
    unfold Dev.mustTake Dev.tracked
    rw [hsnoop]
    split
    · simp
    · rfl
  have key : bulkWrite port plane d = bulkOf (d.dropCell w) (bulkWrite port plane d) := by
    unfold bulkWrite
    rw [h]
    dsimp only
    rw [rangeLost_of_none hlost, if_neg Bool.false_ne_true, if_neg (Bool.eq_false_iff.mp (not_atEngine hport)), hroom, hrsp, if_neg (by decide), htake, if_neg Bool.false_ne_true]
    unfold onlyIf
    rw [if_neg Bool.false_ne_true]
    have h1 := bulkOf_onPartial (bulkOf_self (d.dropCell w)) port w.2.2 id
    have h3 := bulkOf_checkWhole (bulkOf_onPartial (@bulkOf_ite _ _ _ ((isMemory port && (d.stack (siteStack port)).resetting) = true) _ h1
      (@bulkOf_ite _ _ _ (w.2.2.poison = true) _ h1 (@bulkOf_ite _ _ _ (w.2.2.check.isSome = true) _
        (bulkOf_onPartial h1 port w.2.2 fun p => { p with held := p.held ++ [(w.2.2.offset, w.2.2.payload)] })
        (bulkOf_bulkStore h1 port w.2.2.address w.2.2.payload (.bulk port w.2.2.src w.2.2.transfer)))))
      port w.2.2 fun p => { p with got := p.got + w.2.2.length }) port w.2.2
    exact bulkOf_ite h3 (bulkOf_ackWhole h3 _ _ _)
  dsimp only
  rw [key]
  exact ⟨rfl, rfl⟩

/-- What taking the data of a bulk read may change. -/
def dataOf (d e : Dev) : Dev := { d with ba := { e.ba with recv := d.ba.recv }, mem := e.mem, hg := e.hg, cs := e.cs, free := e.free }

theorem dataOf_ite {d e x : Dev} {p : Prop} [Decidable p] (he : e = dataOf d e) (hx : x = dataOf d x) : (if p then e else x) = dataOf d (if p then e else x) := by
  split
  · exact he
  · exact hx

section DataOf

variable {d e : Dev} (h : e = dataOf d e)
include h

theorem dataOf_trans {x : Dev} (hx : x = dataOf e x) : x = dataOf d x := by
  rw [hx, h]
  rfl

theorem dataOf_fillCache (site line : Nat) (data : List Byte) : e.fillCache site line data = dataOf d (e.fillCache site line data) := by
  refine dataOf_trans h ?_
  unfold Dev.fillCache
  extract_lets s set room d1 out
  have h1 : d1 = dataOf e d1 := by
    unfold d1
    split <;> rfl
  exact dataOf_trans h1 rfl

theorem dataOf_cacheBulk (port : Nat) (c : BCell) : e.cacheBulk port c = dataOf d (e.cacheBulk port c) := by
  unfold Dev.cacheBulk
  split
  · exact h
  · split
    · exact h
    · exact each_keeps (fun y : Dev => y = dataOf d y) _ (fun i y hy => dataOf_fillCache hy _ _ _) _ _ h

theorem dataOf_writeLocal (site a : Nat) (data : List Byte) : (e.writeLocal site a data).1 = dataOf d (e.writeLocal site a data).1 := by
  refine dataOf_trans h ?_
  unfold Dev.writeLocal
  split
  · split <;> rfl
  split
  · split
    · dsimp only
      rw [store_frame, dataOf]
    · rfl
  · rfl

theorem dataOf_partDone (tag status : Nat) (bytes : Option Nat) : e.partDone tag status bytes = dataOf d (e.partDone tag status bytes) := by
  refine dataOf_trans h ?_
  unfold Dev.partDone
  split
  · exact dataOf_ite rfl rfl
  · rfl

end DataOf

/-- The data of a bulk read leave the buffer. -/
theorem bulkReadData_taken {d : Dev} {port plane : Nat} {w : Nat × Nat × BCell} (hport : port < 51) (h : d.headKind port plane 2 = some w) :
    let e := bulkReadData port plane d
    e = { d with ba := e.ba, mem := e.mem, hg := e.hg, cs := e.cs, free := e.free } ∧ e.ba.recv = d.ba.recv.erase w := by
  have key : bulkReadData port plane d = dataOf (d.dropCell w) (bulkReadData port plane d) := by
    have h0 : d.dropCell w = dataOf (d.dropCell w) (d.dropCell w) := rfl
    unfold bulkReadData
    rw [h]
    dsimp -zeta only
    extract_lets c d1 r d2
    rw [if_neg (Bool.eq_false_iff.mp (not_atEngine hport))]
    have h1 : d1 = dataOf (d.dropCell w) d1 := dataOf_cacheBulk (dataOf_trans h0 rfl) _ _
    have hr : r.1 = dataOf (d.dropCell w) r.1 := by
      unfold r
      split
      · exact h1
      · exact dataOf_writeLocal h1 _ _ _
    have h2 : d2 = dataOf (d.dropCell w) d2 := dataOf_ite hr (dataOf_trans h1 rfl)
    refine dataOf_ite h0 ?_
    split
    · refine dataOf_ite (dataOf_partDone (dataOf_trans h2 ?_) _ _ _) h2
      rw [Dev.sendAck, sendRec_frame]
      rfl
    · exact h2
  dsimp only
  rw [key]
  exact ⟨rfl, rfl⟩

/-! ## CONTROL (R437) -/

theorem control_taken {d : Dev} {port plane : Nat} {w : Nat × Nat × BCell} {m : CtlMsg} (h : d.headKind port plane 5 = some w) (hm : w.2.2.ctl = some m)
    (hv : ∀ dom c, m ≠ .vote dom c) :
    let e := control port plane d
    e = { d with ba := e.ba, bu := e.bu } ∧ e.ba.recv = d.ba.recv.erase w ∧ e.ba.ctlIn = (port, m) :: d.ba.ctlIn ∧
      e.bu.stewards = if m = .running then insertNew w.2.2.src d.bu.stewards else d.bu.stewards := by
  have hd : control port plane d = Dev.gotCtl port w.2.2.src m { d.dropCell w with ba.ctlIn := (port, m) :: d.ba.ctlIn } := by
    unfold control
    rw [h]
    dsimp only
    rw [hm]
  dsimp only
  rw [hd]
  cases m with
  | image =>
    unfold Dev.gotCtl
    dsimp only
    rw [sendCtl_frame]
    exact ⟨rfl, rfl, rfl, rfl⟩
  | vote dom c => exact absurd rfl (hv dom c)
  | _ => exact ⟨rfl, rfl, rfl, rfl⟩

/-- Settles O43. -/
theorem basinResponses : Obligations.BasinResponses := by
  rintro ⟨d, pending⟩ port plane r w hport hplane
  dsimp only
  have h55 : port < 55 := by omega
  have hload : (Instr.loadRsp port plane).wf = true := by simp [Instr.wf, h55, hplane]
  have hstore : (Instr.storeAck port plane).wf = true := by simp [Instr.wf, h55, hplane]
  have hatomic : (Instr.atomicRsp port plane).wf = true := by simp [Instr.wf, h55, hplane]
  have hack : (Instr.xferAck port plane).wf = true := by simp [Instr.wf, h55, hplane]
  have hwrite : (Instr.bulkWrite port plane).wf = true := by simp [Instr.wf, h55, hplane]
  have hread : (Instr.bulkReadData port plane).wf = true := by simp [Instr.wf, h55, hplane]
  have hcontrol : (Instr.control port plane).wf = true := by simp [Instr.wf, h55, hplane]
  have hmulti : (Instr.multicast port plane).wf = true := by simp [Instr.wf, h55, hplane]
  refine ⟨fun h => ⟨?_, ?_, ?_, ?_⟩, fun h hr hjobs => ⟨fun p hp htag hunit hcache => ⟨fun hop => ?load, fun hop => ?store, fun hop => ?atomic⟩,
    fun x part hop hf hparts htag hsent htime => ?xfer⟩, fun h hs hl hroom hrsp => ?write, fun h => ?read, fun m h hm hv => ?control, fun h => ?_, fun h => ?_, fun h => ?_,
    fun h => ?_, fun h => ?_⟩
  · exact (run_of_wf hload (loadRsp port plane)).trans (by rw [loadRsp, takeRsp_none h])
  · exact (run_of_wf hstore (storeAck port plane)).trans (by rw [storeAck, takeRsp_none h])
  · exact (run_of_wf hatomic (atomicRsp port plane)).trans (by rw [atomicRsp, takeRsp_none h])
  · exact (run_of_wf hack (xferAck port plane)).trans (by rw [xferAck, takeRsp_none h])
  case load =>
    have ha := answered_threadRsp (dropRec_frame d port plane 4) hr hp htag hunit
    have hd : loadRsp port plane d = (d.dropRec port plane 4).threadRsp r := by
      rw [loadRsp, takeRsp_sound h hop]
      exact if_neg hcache
    rw [← hd] at ha
    exact ⟨_, run_of_wf hload (loadRsp port plane), congrArg (fun e => State.mk e pending) ha.1, ha.2⟩
  case store =>
    have ha := answered_threadRsp (dropRec_frame d port plane 4) hr hp htag hunit
    have hnone : ((d.dropRec port plane 4).threadRsp r).cs.jobs = [] := by
      unfold Dev.threadRsp
      rw [if_neg (Bool.eq_false_iff.mp (not_atEngine hr)), if_neg hunit]
      have hj : (d.dropRec port plane 4).cs.jobs = [] := by
        rw [dropRec_frame]
        exact hjobs
      dsimp only
      split
      · split
        · exact hj
        · exact hj
      · exact hj
    have hd : storeAck port plane d = (d.dropRec port plane 4).threadRsp r := by
      rw [storeAck, takeRsp_sound h hop]
      dsimp only
      rw [hnone]
      exact if_neg fun hn => Bool.false_ne_true hn.2
    rw [← hd] at ha
    exact ⟨_, run_of_wf hstore (storeAck port plane), congrArg (fun e => State.mk e pending) ha.1, ha.2⟩
  case atomic =>
    have ha := answered_threadRsp (dropRec_frame d port plane 4) hr hp htag hunit
    have hd : atomicRsp port plane d = (d.dropRec port plane 4).threadRsp r := by
      rw [atomicRsp, takeRsp_sound h hop]
    rw [← hd] at ha
    exact ⟨_, run_of_wf hatomic (atomicRsp port plane), congrArg (fun e => State.mk e pending) ha.1, ha.2⟩
  case xfer =>
    have hx := dropRec_frame d port plane 4
    have hd : xferAck port plane d = (d.dropRec port plane 4).partDone r.tag r.status none := by
      rw [xferAck, takeRsp_sound h hop]
      rw [show (d.dropRec port plane 4).cs.jobs = [] by rw [hx]; exact hjobs]
      exact (if_neg Bool.false_ne_true).trans (if_neg (Bool.eq_false_iff.mp (not_atEngine hport)))
    generalize d.dropRec port plane 4 = e at hx hd
    rw [@partDone_last r e x part (by rw [hx]; exact hf) hparts htag hsent htime] at hd
    refine ⟨State.mk (xferAck port plane d) pending, run_of_wf hack (xferAck port plane), ?_, ?_, ?_⟩ <;> dsimp only <;> rw [hd, hx]
    · rfl
    · rfl
    · rfl
  case write =>
    obtain ⟨h1, h2⟩ := bulkWrite_taken hport h hs hl hroom hrsp
    exact ⟨_, run_of_wf hwrite (bulkWrite port plane), congrArg (fun e => State.mk e pending) h1, h2⟩
  case read =>
    obtain ⟨h1, h2⟩ := bulkReadData_taken hport h
    exact ⟨_, run_of_wf hread (bulkReadData port plane), congrArg (fun e => State.mk e pending) h1, h2⟩
  case control =>
    obtain ⟨h1, h2⟩ := control_taken h hm hv
    exact ⟨_, run_of_wf hcontrol (control port plane), congrArg (fun e => State.mk e pending) h1, h2⟩
  · refine (run_of_wf hmulti (multicast port plane)).trans ?_
    unfold multicast
    dsimp only
    rw [h]
    rfl
  · exact (run_of_wf hwrite (bulkWrite port plane)).trans (by unfold bulkWrite; dsimp only; rw [h])
  · exact (run_of_wf hread (bulkReadData port plane)).trans (by unfold bulkReadData; dsimp only; rw [h])
  · exact (run_of_wf hcontrol (control port plane)).trans (by unfold control; dsimp only; rw [h])
  · exact (run_of_wf hmulti (multicast port plane)).trans (by unfold multicast; dsimp only; rw [h])

end Sys2Proof.Machine
end

section
/-!
PROOFS. A thread issues, parks and becomes ready again (chapters 03, 04, 07, 09, R77, R79, R80, R96, R98, R149, R298, R331).
-/

set_option Elab.async false

namespace Sys2Proof.Machine

/-! ## The issue of an access (R79, R237, R334) -/

section Issue

variable {d : Dev} {t : Thread} (rack : Bool) (op : RemoteOp)

/-- The device once a thread has parked. -/
def Dev.parkedNow (d : Dev) (t : Thread) (rack : Bool) (op : RemoteOp) : Dev :=
  Dev.park t op rack d.cs.nextTag 0 { d with cs.nextTag := (d.cs.nextTag + 1) % 2 ^ 32 }

theorem tally_refused (h : d.canIssue t = false ∨ opIssues t.stand op = false) : tallyRemoteAccess t rack op d = d := by
  refine if_pos ?_
  rcases h with h | h <;> rw [h] <;> simp

theorem tally_open (hc : d.canIssue t = true) (ho : opIssues t.stand op = true) :
    tallyRemoteAccess t rack op d = match opAddress op with
      | none => d.parkedNow t rack op
      | some a => if rack && a / 2 ^ 48 != d.sw.node then (d.parkedNow t rack op).accessFar t op a d.cs.nextTag false false
        else (d.parkedNow t rack op).accessHere t op (a % 2 ^ 48) d.cs.nextTag rack := by
  refine (if_neg ?_).trans ?_
  · rw [hc, ho]
    decide
  · rfl

theorem tally_local (hc : d.canIssue t = true) (ho : opIssues t.stand op = true) (ha : opAddress op = none) : tallyRemoteAccess t rack op d = d.parkedNow t rack op := by
  rw [tally_open rack op hc ho, ha]

/-- A request for another home on the package goes to it. -/
theorem tally_home (hc : d.canIssue t = true) (ho : opIssues t.stand op = true) {a port plane : Nat} (ha : opAddress op = some a)
    (hport : d.accessPort op (a % 2 ^ 48) = some port) (hne : port ≠ t.site)
    (hread : d.cachedRead { t, op, rack := false, issued := 0, tag := d.cs.nextTag, lost := 0, group := none } = none)
    (hjob : Rec.isJob { accessRec t d.cs.nextTag op with address := a % 2 ^ 48 } port = false) (hplane : d.choosePlane t.site port = some plane) :
    tallyRemoteAccess t false op d = { d.parkedNow t false op with
      ba.out := addRec d.tb.ns t.site plane 3 port { accessRec t d.cs.nextTag op with address := a % 2 ^ 48 } d.ba.out } := by
  have hport' : (d.parkedNow t false op).accessPort op (a % 2 ^ 48) = some port := hport
  have hread' : (d.parkedNow t false op).cachedRead { t, op, rack := false, issued := 0, tag := d.cs.nextTag, lost := 0, group := none } = none := hread
  have hplane' : (d.parkedNow t false op).choosePlane t.site port = some plane := hplane
  rw [tally_open false op hc ho, ha]
  dsimp only
  rw [Bool.false_and, if_neg Bool.false_ne_true]
  unfold Dev.accessHere
  rw [hport']
  dsimp only
  rw [if_neg hne, hread']
  dsimp only
  rw [hjob, Bool.and_false, if_neg Bool.false_ne_true]
  unfold Dev.sendRec
  rw [hplane']
  rfl

/-- A request for another node, when no operation may be issued to it, ends with TIMEOUT at once. -/
theorem tally_far (hc : d.canIssue t = true) (ho : opIssues t.stand op = true) {a : Nat} (ha : opAddress op = some a) (hnode : a / 2 ^ 48 ≠ d.sw.node)
    (hopen : d.rackOpen = false) :
    let e := tallyRemoteAccess t true op d
    e = { d with cs := e.cs, fa := e.fa } ∧ e.cs.finished = { t, status := 1, data := [] } :: d.cs.finished.filter (·.t != t) ∧
      e.fa.timeouts = d.fa.timeouts + 1 ∧ e.parkedOp t = none := by
  have hd : tallyRemoteAccess t true op d = ((d.parkedNow t true op).lose t true).finishThread t 1 [] := by
    have hopen' : (d.parkedNow t true op).rackOpen = false := hopen
    rw [tally_open true op hc ho, ha]
    dsimp only
    rw [if_pos (by rw [Bool.true_and, bne_iff_ne]; exact hnode)]
    unfold Dev.accessFar
    rw [hopen', Bool.not_false, if_pos rfl]
  dsimp only
  rw [hd]
  refine ⟨rfl, ?_, rfl, parkedOp_finishThread _ _ _ _⟩
  show _ :: ((d.cs.finished.filter _).filter _) = _
  rw [List.filter_filter]
  simp only [Bool.and_self]

end Issue

/-! ## Descriptors (R80, R326) -/

section Descriptors

variable {d : Dev} {t : Thread} {desc : XferDesc}

theorem startTransfer_empty (h : desc.length = 0) :
    d.startTransfer t desc = { d with cs.nextTag := (d.cs.nextTag + 1) % 2 ^ 32, cs.ended := (d.cs.nextTag, 0) :: d.cs.ended } := by
  unfold Dev.startTransfer
  dsimp only
  rw [if_pos h]
  rfl

/-- A descriptor on the package whose pieces all have a home becomes pending, nothing of it sent. -/
theorem startTransfer_here (hlen : 0 < desc.length) (hrack : desc.rack = false) {parts : List XferPart} (hp : d.partsOf desc = some parts)
    (hr : refusesCruiser desc false parts = false) :
    let e := d.startTransfer t desc
    e = { d with cs := e.cs } ∧ e.cs.ended = d.cs.ended ∧
      ∃ x, e.cs.transfers = d.cs.transfers ++ [x] ∧ x.tag = d.cs.nextTag ∧ x.t = t ∧ x.sent = 0 ∧ x.parts.length = parts.length := by
  unfold Dev.startTransfer
  dsimp only
  rw [if_neg (by omega), hrack, Bool.false_and, if_neg Bool.false_ne_true, hp]
  dsimp only
  rw [hr, if_neg Bool.false_ne_true]
  exact ⟨rfl, rfl, _, rfl, rfl, rfl, rfl, by simp⟩

end Descriptors

/-! ## Completion (R77, R79, R149) -/

section Completion

variable {d : Dev} {t : Thread} {p : Parked}

theorem complete_running (hrun : (d.site t.site).phase = .running) (hp : d.parkedOp t = some p) (n : Nat) (bad : Bool) :
    remoteAccessComplete t n bad d = d.completeParked p n bad := by
  unfold remoteAccessComplete
  rw [if_neg (by rw [hrun]; decide), hp]

theorem complete_idle (hrun : (d.site t.site).phase = .running) (hp : d.parkedOp t = none) (hs : d.cs.suspended.find? (·.thread == t) = none)
    (hw : d.cs.waiting.find? (·.1 == t) = none) (n : Nat) (bad : Bool) : remoteAccessComplete t n bad d = d := by
  unfold remoteAccessComplete
  rw [if_neg (by rw [hrun]; decide), hp, hs]
  dsimp only
  rw [hw]

theorem completeParked_fence (hop : p.op = .fence) (hdone : d.fenceDone p.t p.rack = true) (hlost : d.lostBy p.t p.rack = 0) (n : Nat) (bad : Bool) :
    d.completeParked p n bad = Dev.finishThread p.t 0 [] { d with cs.lost := d.cs.lost.filter fun e => !(e.1 == p.t && e.2.1 == p.rack) } := by
  unfold Dev.completeParked
  rw [hop]
  dsimp only
  rw [if_pos hdone]
  unfold Dev.finishFence
  rw [hlost]
  rfl

/-- What an access to another Stand does when it is a load, whatever is read and wherever: the kernel is spared the arithmetic of the address. -/
theorem match_standLoad {op : RemoteOp} (place : Nat → Nat → Nat) (read : Nat → Nat → Nat → Option (List Byte)) : ∀ {st off len : Nat} {r : Option (List Byte)},
    op = .standLoad st off len → read t.site (place st off) len = r →
    (have at_ := place
     match op with
      | .standLoad st off n => match read t.site (at_ st off) n with
        | some bs => d.finishThread t 0 bs
        | none => d.finishThread t 2 []
      | .standStore st off data => (d.writeStand t.site (at_ st off) data).finishThread t 0 []
      | .standAtomic o ty st off x y => match read t.site (at_ st off) ty.bytes with
        | some bs => (d.writeStand t.site (at_ st off) (leBytes ty.bytes (atomicNew o ty (leNat bs) x y))).finishThread t 0 bs
        | none => d.finishThread t 2 []
      | _ => d) = r.elim (d.finishThread t 2 []) fun bs => d.finishThread t 0 bs := by
  rintro st off len r rfl hr
  dsimp only
  rw [hr]
  cases r <;> rfl

theorem standAccess_load {op : RemoteOp} {st off len : Nat} {r : Option (List Byte)} (hop : op = .standLoad st off len)
    (h : d.readStand t.site (st * 0x200000 + off) len = r) : d.standAccess t op = r.elim (d.finishThread t 2 []) fun bs => d.finishThread t 0 bs :=
  match_standLoad (fun st off => st * 0x200000 + off) d.readStand hop h

/-- A read of another Stand that follows no other of its Stand is served. -/
theorem standArrives_alone {st off len : Nat} (hop : p.op = .standLoad st off len)
    (hfirst : ∀ q ∈ d.cs.parked.takeWhile (·.t != p.t), q.t.site = p.t.site → q.t.stand = p.t.stand → opStand q.op ≠ some st) :
    d.standArrives p = d.standAccess p.t p.op := by
  have hnone : (d.cs.parked.takeWhile (fun q => q.t != p.t)).filter
      (fun q => q.t.site == p.t.site && q.t.stand == p.t.stand && opStand q.op == opStand p.op) = [] := by
    refine List.filter_eq_nil_iff.mpr fun q hq => ?_
    have h := hfirst q hq
    rw [hop]
    simp only [Bool.and_eq_true, beq_iff_eq, not_and, opStand]
    exact fun ⟨h1, h2⟩ => h h1 h2
  unfold Dev.standArrives
  dsimp only
  rw [hnone]
  have hlist : each ([] ++ [p]) (fun q d => d.standAccess q.t q.op) d = d.standAccess p.t p.op := rfl
  exact hlist

theorem sramCorrected_frame (d : Dev) (site unit n : Nat) :
    let e := d.sramCorrected site unit n
    e = { d with cs.sites := e.cs.sites, fa := e.fa } ∧ (∀ k, (e.site k).stand = (d.site k).stand ∧ (e.site k).standPoison = (d.site k).standPoison) ∧ (n = 0 → e = d) := by
  unfold Dev.sramCorrected
  split
  · exact ⟨rfl, fun _ => ⟨rfl, rfl⟩, fun _ => rfl⟩
  · next hn =>
    refine ⟨rfl, fun k => ?_, fun h => absurd h hn⟩
    have hs : ∀ f, ((d.onSite site f).corrected unit n).site k = (d.onSite site f).site k := fun _ => rfl
    rw [hs]
    by_cases hk : k = site
    · subst hk
      rw [site_onSite _ _ _ fun _ => by exact rfl]
      exact ⟨rfl, rfl⟩
    · rw [site_onSite_other _ _ _ _ (fun _ => by exact rfl) hk]
      exact ⟨rfl, rfl⟩

theorem completeParked_standLoad {st off len : Nat} (hop : p.op = .standLoad st off len) (n : Nat) (bad : Bool) :
    d.completeParked p n bad =
      let d1 := d.sramCorrected p.t.site (standUnit p.t.site st) n
      (if bad then d1.badWord p.t.site ((st * 0x200000 + off) / 16) else d1).standArrives p := by
  unfold Dev.completeParked
  rw [hop]
  dsimp only [opAddress, opStand, standWords]
  simp only [Option.isSome_some, if_true]
  cases bad with
  | true => rw [if_pos rfl, if_pos rfl]
  | false => rw [if_neg Bool.false_ne_true, if_neg Bool.false_ne_true]

/-- A load from another Stand ends with the data. -/
theorem standLoad_good {st off len : Nat} {bs : List Byte} (hop : p.op = .standLoad st off len) (hr : d.readStand p.t.site (st * 0x200000 + off) len = some bs)
    (hfirst : ∀ q ∈ d.cs.parked.takeWhile (·.t != p.t), q.t.site = p.t.site → q.t.stand = p.t.stand → opStand q.op ≠ some st) (n : Nat) :
    let e := d.completeParked p n false
    e = { d with cs := e.cs, fa := e.fa } ∧ e.cs.finished = { t := p.t, status := 0, data := bs } :: d.cs.finished.filter (·.t != p.t) ∧ (n = 0 → e.fa = d.fa) := by
  dsimp only
  rw [completeParked_standLoad hop]
  dsimp only
  rw [if_neg Bool.false_ne_true]
  obtain ⟨hf, hsite, hzero⟩ := sramCorrected_frame d p.t.site (standUnit p.t.site st) n
  generalize d.sramCorrected p.t.site (standUnit p.t.site st) n = e at hf hsite hzero
  have hr' : e.readStand p.t.site (st * 0x200000 + off) len = some bs := by
    rw [← hr]
    unfold Dev.readStand
    dsimp only
    rw [(hsite _).1, (hsite _).2]
  rw [standArrives_alone hop (by rw [hf]; exact hfirst), standAccess_load hop hr']
  refine ⟨?_, ?_, fun h => congrArg (·.fa) (hzero h)⟩
  · rw [hf]
    rfl
  · rw [hf]
    rfl

theorem uncorrectable_cs (d : Dev) (u what : Nat) : (d.uncorrectable u what).cs = d.cs := by
  unfold Dev.uncorrectable
  dsimp only
  rw [reportFault_unit_frame, log_frame]

/-- A load from another Stand whose word could not be corrected ends with POISON. -/
theorem standLoad_bad {st off len : Nat} (hop : p.op = .standLoad st off len) (hlen : 1 ≤ len)
    (hfirst : ∀ q ∈ d.cs.parked.takeWhile (·.t != p.t), q.t.site = p.t.site → q.t.stand = p.t.stand → opStand q.op ≠ some st) (n : Nat) :
    (d.completeParked p n true).cs.finished = { t := p.t, status := 2, data := [] } :: d.cs.finished.filter (·.t != p.t) := by
  rw [completeParked_standLoad hop]
  dsimp only
  rw [if_pos rfl]
  obtain ⟨hf, -, -⟩ := sramCorrected_frame d p.t.site (standUnit p.t.site st) n
  generalize d.sramCorrected p.t.site (standUnit p.t.site st) n = e at hf
  unfold Dev.badWord
  have hcs := uncorrectable_cs (e.onSite p.t.site fun s => { s with standPoison := insertNew ((st * 0x200000 + off) / 16) s.standPoison })
    (standUnit p.t.site ((st * 0x200000 + off) / 16 / 0x20000)) 5
  generalize Dev.uncorrectable (standUnit p.t.site ((st * 0x200000 + off) / 16 / 0x20000)) 5
    (e.onSite p.t.site fun s => { s with standPoison := insertNew ((st * 0x200000 + off) / 16) s.standPoison }) = x at hcs
  have hsite : x.site p.t.site = { e.site p.t.site with standPoison := insertNew ((st * 0x200000 + off) / 16) (e.site p.t.site).standPoison } := by
    rw [← site_onSite e p.t.site (fun s => { s with standPoison := insertNew ((st * 0x200000 + off) / 16) s.standPoison }) fun _ => by exact rfl]
    unfold Dev.site
    rw [hcs]
  have hparked : x.cs.parked = d.cs.parked := by
    rw [hcs, hf]
    rfl
  have hfinished : x.cs.finished = d.cs.finished := by
    rw [hcs, hf]
    rfl
  have hr : x.readStand p.t.site (st * 0x200000 + off) len = none := by
    unfold Dev.readStand
    dsimp only
    rw [hsite]
    refine if_pos (List.any_eq_true.mpr ⟨0, List.mem_range.mpr (by omega), ?_⟩)
    rw [List.contains_iff_mem, Nat.add_zero]
    exact mem_insertNew_self _ _
  rw [standArrives_alone hop (by rw [hparked]; exact hfirst), standAccess_load hop hr]
  show _ :: x.cs.finished.filter _ = _
  rw [hfinished]

end Completion

/-! ## Timeouts (R79) -/

section Timeout

variable {d : Dev} {t : Thread} {p : Parked}

theorem timeouts_parked (hp : d.parkedOp t = some p) (hrack : p.rack = false) (hx : ∀ x ∈ d.cs.transfers, x.t ≠ t) (hj : ∀ j ∈ d.cs.jobs, j.2.1 ≠ t) :
    d.timeouts t = [(p.issued + d.rd.timeout, Dev.timeoutParked p false)] := by
  have h1 : d.cs.transfers.filter (fun x => x.t == t && !(x.parts.any fun p => d.frameOut p.tag)) = [] :=
    List.filter_eq_nil_iff.mpr fun x hm => by simp [hx x hm]
  have h2 : d.cs.jobs.filter (fun j => j.2.1 == t) = [] := List.filter_eq_nil_iff.mpr fun j hm => by simp [hj j hm]
  unfold Dev.timeouts
  rw [hp, h1, h2]
  simp [hrack, Dev.opTimeout]

theorem remoteAccessTimeout_parked (hp : d.parkedOp t = some p) (hrack : p.rack = false) (hx : ∀ x ∈ d.cs.transfers, x.t ≠ t) (hj : ∀ j ∈ d.cs.jobs, j.2.1 ≠ t) :
    remoteAccessTimeout t d = d.timeoutParked p false := by
  unfold remoteAccessTimeout
  rw [timeouts_parked hp hrack hx hj]
  simp

theorem timeoutParked_spec (d : Dev) (p : Parked) :
    let e := d.timeoutParked p false
    e = { d with cs := e.cs, fa := e.fa, tb := e.tb } ∧ e.tb.ns = max d.tb.ns (p.issued + d.rd.timeout) ∧
      e.cs.finished = { t := p.t, status := 1, data := [] } :: d.cs.finished.filter (·.t != p.t) ∧
      e.fa.timeouts = d.fa.timeouts + if (opAddress p.op).isSome ∨ (opStand p.op).isSome then 1 else 0 := by
  unfold Dev.timeoutParked Dev.opTimeout
  dsimp only
  rw [if_neg Bool.false_ne_true]
  generalize p.issued + d.rd.timeout = at_
  obtain ⟨hd, hns⟩ := reach_frame d at_
  generalize d.reach at_ = x at hd hns
  by_cases hl : (opAddress p.op).isSome = true ∨ (opStand p.op).isSome = true
  · rw [if_pos (by rw [Bool.or_eq_true]; exact hl), if_pos hl]
    refine ⟨?_, hns, ?_, ?_⟩ <;> rw [hd] <;> rfl
  · rw [if_neg (by rw [Bool.or_eq_true]; exact hl), if_neg hl]
    refine ⟨?_, hns, ?_, ?_⟩ <;> rw [hd] <;> rfl

end Timeout

/-! ## The bonds of a site (R96, R98, R455) -/

section Bonds

variable {d : Dev}

theorem unitKind_groupUnit {site group : Nat} (hs : site < 256) (hg : group < 256) : unitKind (groupUnit site group) = 4 := by
  unfold unitKind groupUnit unitId bitsOf
  omega

/-- The report of a group while all is calm: it is tested at once. -/
theorem reportFault_group {x : Dev} (hx : x.calm) {u : Nat} (hu : unitKind u = 4) :
    x.reportFault u .unit = { x with fa.queue := [{ unit := u, kind := .unit }], fa.testing := insertNew u x.fa.testing } := by
  have ht : testable u = true := by
    unfold testable
    rw [hu]
    rfl
  have hwork : ∀ y : Dev, y.stopWork u = y := fun y => by
    unfold Dev.stopWork
    rw [hu]
    rfl
  rw [(reportFault_calm hx u).1, if_pos ht]
  unfold Dev.beginTest
  rw [hu]
  exact hwork _

/-- An uncorrectable beat of a group, while all is calm. -/
theorem uncorrectable_group (hc : d.calm) {u : Nat} (hu : unitKind u = 4) (what : Nat) :
    let e := d.uncorrectable u what
    e = { d with fa := e.fa, lg := e.lg, hg := e.hg } ∧ e.fa.queue = [{ unit := u, kind := .unit }] ∧ u ∈ e.fa.testing := by
  obtain ⟨counts, hd⟩ : ∃ counts, d.uncorrectable u what = (({ d with fa.counts := counts } : Dev).log u 0 0x0102 what).reportFault u .unit := ⟨_, rfl⟩
  have hl := log_frame { d with fa.counts := counts } u 0 0x0102 what
  generalize Dev.log u 0 0x0102 what { d with fa.counts := counts } = x at hl hd
  have hx : x.calm := by
    rw [hl]
    exact hc
  dsimp only
  rw [hd, reportFault_group hx hu]
  refine ⟨?_, rfl, mem_insertNew_self _ _⟩
  rw [hl]

theorem bondBeat_access {t : Thread} {p : Parked} {group : Nat} (hp : d.parkedOp t = some p) (ht : p.t = t) (hg : p.group = some group) :
    bondBeatUncorrectable t.site group (.access t) d = (d.finishThread p.t 2 []).uncorrectable (groupUnit t.site group) 1 := by
  unfold bondBeatUncorrectable
  dsimp only
  rw [hp]
  dsimp only
  rw [if_pos ⟨by rw [ht], hg⟩]

theorem bondBeat_transfer {site group : Nat} {x : Transfer} (hx : x ∈ d.cs.transfers) (hs : x.t.site = site) (hg : x.group = some group) :
    ∃ e : Dev, e = { d with cs.transfers := e.cs.transfers } ∧ { x with status := max x.status 2 } ∈ e.cs.transfers ∧
      bondBeatUncorrectable site group (.transfer x.tag) d = e.uncorrectable (groupUnit site group) 1 := by
  refine ⟨_, ?_, ?_, rfl⟩
  · rfl
  · refine List.mem_map.mpr ⟨x, hx, if_pos ?_⟩
    simp [hs, hg]

/-- The groups that a Stand can use come in the order of their numbers. -/
theorem activeGroups_sorted (d : Dev) (site stand : Nat) : (d.activeGroups site stand).Pairwise (· < ·) :=
  (List.pairwise_lt_range.filter _).filter _

/-- The first least element of a list that rises. -/
theorem find?_least {l : List Nat} {f : Nat → Nat} {a g : Nat} (hs : l.Pairwise (· < ·)) (h : l.find? (fun x => f x == (l.map f).foldl min a) = some g) :
    g ∈ l ∧ ∀ x ∈ l, f g ≤ f x ∧ (f x = f g → g ≤ x) := by
  obtain ⟨hg, before, after, rfl, hb⟩ := List.find?_eq_some_iff_append.mp h
  have hbest : f g = (List.map f (before ++ g :: after)).foldl min a := by simpa using hg
  refine ⟨List.mem_append_right _ (.head _), fun x hx => ⟨?_, fun he => ?_⟩⟩
  · rw [hbest]
    exact (le_foldl_min_iff.mp le_rfl).2 _ (List.mem_map_of_mem hx)
  · rcases List.mem_append.mp hx with hx | hx
    · have hne := hb x hx
      rw [he, ← hbest, beq_self_eq_true] at hne
      exact absurd hne (by decide)
    · rcases List.mem_cons.mp hx with rfl | hx
      · exact le_rfl
      · exact ((List.pairwise_cons.mp (List.pairwise_append.mp hs).2.1).1 x hx).le

theorem chooseGroup_spec {site stand g : Nat} (h : d.chooseGroup site stand = some g) :
    ∃ p, d.exitStand site stand = some p ∧ g ∈ d.activeGroups site p ∧
      ∀ x ∈ d.activeGroups site p, d.groupQueue site g ≤ d.groupQueue site x ∧ (d.groupQueue site x = d.groupQueue site g → g ≤ x) := by
  obtain ⟨p, hp, hg⟩ := Option.bind_eq_some_iff.mp h
  obtain ⟨h1, h2⟩ := find?_least (activeGroups_sorted d site p) hg
  exact ⟨p, hp, h1, h2⟩

theorem exitStand_least {site stand p : Nat} (h : d.exitStand site stand = some p) {q : Nat} (hq : q < 133) (ha : d.activeGroups site q ≠ []) :
    standDistance stand p < standDistance stand q ∨ (standDistance stand p = standDistance stand q ∧ p ≤ q) := by
  have hmem : q ∈ (List.range 133).filter (fun p => !(d.activeGroups site p).isEmpty) :=
    List.mem_filter.mpr ⟨List.mem_range.mpr hq, by simpa using ha⟩
  obtain ⟨h1, h2⟩ := (find?_least (List.pairwise_lt_range.filter _) h).2 q hmem
  omega

theorem standDistance_self (stand : Nat) : standDistance stand stand = 0 := by
  simp [standDistance]

theorem eq_of_standDistance_zero {a b : Nat} (h : standDistance a b = 0) : a = b := by
  simp only [standDistance] at h
  omega

theorem exitStand_self {site stand : Nat} (hs : stand < 133) (ha : d.activeGroups site stand ≠ []) : d.exitStand site stand = some stand := by
  have hmem : stand ∈ (List.range 133).filter (fun p => !(d.activeGroups site p).isEmpty) :=
    List.mem_filter.mpr ⟨List.mem_range.mpr hs, by simpa using ha⟩
  have hbest : (((List.range 133).filter (fun p => !(d.activeGroups site p).isEmpty)).map (standDistance stand)).foldl min 24 = 0 := by
    have := (le_foldl_min_iff.mp (le_refl ((((List.range 133).filter (fun p => !(d.activeGroups site p).isEmpty)).map (standDistance stand)).foldl min 24))).2 _
      (List.mem_map_of_mem hmem)
    rw [standDistance_self] at this
    omega
  unfold Dev.exitStand
  dsimp only
  rw [hbest]
  cases hf : List.find? (fun p => standDistance stand p == 0) ((List.range 133).filter (fun p => !(d.activeGroups site p).isEmpty)) with
  | none => exact absurd (standDistance_self stand) (by simpa using List.find?_eq_none.mp hf stand hmem)
  | some q =>
    have hq : standDistance stand q = 0 := by simpa using List.find?_some hf
    rw [eq_of_standDistance_zero hq]

theorem not_mem_activeGroups {site g : Nat} (h : (d.site site).retired.contains g = true ∨ groupUnit site g ∈ d.fa.testing) (stand : Nat) :
    g ∉ d.activeGroups site stand := by
  intro hg
  have hb := (List.mem_filter.mp hg).2
  rcases h with h | h
  · rw [h] at hb
    exact Bool.false_ne_true hb
  · rw [List.contains_iff_mem.mpr h, Bool.not_true, Bool.and_false] at hb
    exact Bool.false_ne_true hb

end Bonds

/-- Settles O39. -/
theorem threadAccesses : Obligations.ThreadAccesses := by
  rintro ⟨d, pending⟩ t rack op desc hwt hwo hwd
  dsimp only
  have hwo' : (Instr.tallyRemoteAccess t rack op).wf = true := by simp [Instr.wf, hwt, hwo]
  have hcomplete : ∀ n bad, (Instr.remoteAccessComplete ⟨t, n, bad⟩).wf = true := fun _ _ => hwt
  have htimeout : (Instr.remoteAccessTimeout t).wf = true := hwt
  have hwrite : (Instr.transferDescriptorWrite t desc).wf = true := by simp [Instr.wf, hwt, hwd]
  have hsite : isComputeSite t.site = true := by
    simp only [Thread.wf, Bool.and_eq_true] at hwt
    exact hwt.1.1.1
  have hs256 : t.site < 256 := by
    have : 8 ≤ t.site ∧ t.site ≤ 39 := by simpa [isComputeSite] using hsite
    omega
  have hparked : ∀ {p n bad}, (d.site t.site).phase = .running → d.parkedOp t = some p →
      exec (.remoteAccessComplete ⟨t, n, bad⟩) ⟨d, pending⟩ = .next ⟨d.completeParked p n bad, pending⟩ := fun hrun hp =>
    (run_of_wf (hcomplete _ _) (remoteAccessComplete t _ _)).trans (by rw [complete_running hrun hp])
  refine ⟨fun h => ?_, fun hc ho ha => ?_, fun hc ho a port plane ha hr hport hne hread hjob hplane => ?_, fun hc ho a ha hr hnode hopen => ?far,
    fun n bad hrun hp hs hw => ?_, fun n bad p hrun hp ht => ⟨fun hop hdone hlost => ?fence, fun st off len bs hop hread hfirst => ⟨fun hb => ?good, fun hb hlen => ?poison⟩⟩,
    fun p hp ht hr hx hj => ?timeout, fun hc hq => ?_, fun hc hq hl => ?_, fun hc hq hl hr parts hp hrf => ?transfer,
    fun group hg hi hq hn => ⟨?beat, fun p hp ht hpg => ?access, fun x hx hxs hxg => ?part⟩, fun stand g h => ?group, fun stand hs ha => exitStand_self hs ha,
    fun stand g h => not_mem_activeGroups h stand⟩
  · exact (run_of_wf hwo' (tallyRemoteAccess t rack op)).trans (by rw [tally_refused rack op h])
  · exact (run_of_wf hwo' (tallyRemoteAccess t rack op)).trans (by rw [tally_local rack op hc ho ha]; rfl)
  · subst hr
    exact (run_of_wf hwo' (tallyRemoteAccess t false op)).trans (by rw [tally_home op hc ho ha hport hne hread hjob hplane]; rfl)
  case far =>
    subst hr
    obtain ⟨h1, h2⟩ := tally_far op hc ho ha hnode hopen
    exact ⟨_, run_of_wf hwo' (tallyRemoteAccess t true op), congrArg (fun e => State.mk e pending) h1, h2⟩
  · exact (run_of_wf (hcomplete n bad) (remoteAccessComplete t n bad)).trans (by rw [complete_idle hrun hp hs hw])
  case fence =>
    subst ht
    refine ⟨_, hparked hrun hp, ?_, ?_⟩ <;> dsimp only <;> rw [completeParked_fence hop hdone hlost] <;> rfl
  case good =>
    subst ht hb
    obtain ⟨h1, h2⟩ := standLoad_good hop hread hfirst n
    exact ⟨_, hparked hrun hp, congrArg (fun e => State.mk e pending) h1, h2⟩
  case poison =>
    subst ht hb
    exact ⟨_, hparked hrun hp, rfl, standLoad_bad hop hlen hfirst n⟩
  case timeout =>
    subst ht
    have hd := remoteAccessTimeout_parked hp hr hx hj
    obtain ⟨h1, h2⟩ := timeoutParked_spec d p
    rw [← hd] at h1 h2
    exact ⟨_, run_of_wf htimeout (remoteAccessTimeout p.t), congrArg (fun e => State.mk e pending) h1, h2⟩
  · refine (run_of_wf hwrite (transferDescriptorWrite t desc)).trans ?_
    unfold transferDescriptorWrite
    rw [hc, if_neg (by decide), if_pos hq]
  · have hd : transferDescriptorWrite t desc d = d.startTransfer t desc := by
      unfold transferDescriptorWrite
      rw [hc, if_neg (by decide), if_neg (by omega)]
    exact (run_of_wf hwrite (transferDescriptorWrite t desc)).trans (by rw [hd, startTransfer_empty hl])
  case transfer =>
    have hd : transferDescriptorWrite t desc d = d.startTransfer t desc := by
      unfold transferDescriptorWrite
      rw [hc, if_neg (by decide), if_neg (by omega)]
    obtain ⟨h1, h2⟩ := @startTransfer_here d t desc hl hr parts hp hrf
    rw [← hd] at h1 h2
    exact ⟨_, run_of_wf hwrite (transferDescriptorWrite t desc), congrArg (fun e => State.mk e pending) h1, h2⟩
  case beat =>
    obtain ⟨h1, h2⟩ := @uncorrectable_group d ⟨hi, hq, hn⟩ _ (unitKind_groupUnit hs256 hg) 1
    exact ⟨_, run_of_wf (by simp [Instr.wf, hsite, hg]) (bondBeatUncorrectable t.site group .other), congrArg (fun e => State.mk e pending) h1, h2⟩
  case access =>
    have hd := bondBeat_access hp ht hpg
    subst ht
    obtain ⟨h1, -⟩ := @uncorrectable_group (d.finishThread p.t 2 []) ⟨hi, hq, hn⟩ _ (unitKind_groupUnit hs256 hg) 1
    rw [← hd] at h1
    refine ⟨_, run_of_wf (by simp [Instr.wf, hsite, hg, hwt]) (bondBeatUncorrectable p.t.site group (.access p.t)), congrArg (fun e => State.mk e pending) ?_, ?_⟩
    · dsimp only at h1 ⊢
      rw [h1]
      rfl
    · dsimp only at h1 ⊢
      rw [h1]
      rfl
  case part =>
    obtain ⟨e, he, hmem, hd⟩ := bondBeat_transfer hx hxs hxg
    have hcalm : e.calm := by
      rw [he]
      exact ⟨hi, hq, hn⟩
    obtain ⟨h1, -⟩ := uncorrectable_group hcalm (unitKind_groupUnit hs256 hg) 1
    rw [← hd] at h1
    refine ⟨_, run_of_wf (by simp [Instr.wf, hsite, hg]) (bondBeatUncorrectable t.site group (.transfer x.tag)), congrArg (fun e => State.mk e pending) ?_, ?_⟩
    · dsimp only at h1 ⊢
      rw [h1, he]
    · dsimp only at h1 ⊢
      rw [h1]
      exact hmem
  case group =>
    obtain ⟨p, hp, h1, h2⟩ := chooseGroup_spec h
    exact ⟨p, hp, h1, h2, fun q hq ha => exitStand_least hp hq ha⟩

end Sys2Proof.Machine
end

section
/-!
PROOFS. The hot spare of an engine (chapter 10, R312): a port that moves to it has its rings checked anew.
-/

set_option Elab.async false

namespace Sys2Proof.Machine

/-- A body of FABRIC_JOIN: node 0, port 0 enabled, no encryption, epoch 1, role 0, no root. -/
def comblessJoinBody : List Byte :=
  leBytes 2 0 ++ leBytes 1 1 ++ leBytes 1 0 ++ leBytes 4 1 ++ leBytes 4 0 ++ leBytes 1 0 ++ leBytes 1 0 ++ leBytes 2 0 ++ leBytes 2 0xFFFF ++
  zeros 942

/-- A device in READY with the fabric's licence that runs FABRIC_JOIN, and whose comb source 0 of engine 0 has failed. -/
def failedCombState : State :=
  { dev := { Dev.reset with
      hg := { HostPort.reset with devState := .ready }
      mb.chans := [{ Channel.fresh 0 with st := .running, hdr := leBytes 2 0x0302 ++ zeros 10 ++ leBytes 2 960 ++ zeros 50, body := comblessJoinBody }]
      fw.features := 1
      tb.st := .locked
      sw.combs := [{ freshComb 0 0 with failed := true }] }
    pending := [] }

theorem failedCombState_joins :
    failedCombState.atWork 0x0302 0 = true ∧ failedCombState.dev.sw.joined = false ∧ failedCombState.dev.noBarrier = false ∧
      joinFits (failedCombState.body 0) = true ∧ u8 (failedCombState.body 0) 13 ≠ 2 ∧ bitOf failedCombState.dev.fw.features 0 = true := by
  decide +kernel

/-- The join moves port 0 to the spare, and the identity checks of its transmit rings begin anew. -/
theorem fabricJoin_rings : (fabricJoin 0 failedCombState.dev).op.rings ≠ failedCombState.dev.op.rings := by
  decide +kernel

/-- Refutes O48: a port whose comb source has failed moves to the engine's hot spare as the fabric is joined, and the rings that the spare
feeds are to be checked again: part of the optics, which the statement lets no join change. -/
theorem not_fabricMembership : ¬ Obligations.FabricMembership := by
  intro hall
  obtain ⟨hw, hj, hb, hfit, hrole, hlic⟩ := failedCombState_joins
  obtain ⟨-, hjoin, -⟩ := hall failedCombState 0
  obtain ⟨-, hok⟩ := hjoin hw hj hb hfit hrole
  obtain ⟨t, ht, hframe, -⟩ := hok hlic
  replace ht := (@run_of_wf _ (.fabricJoin 0) rfl (fabricJoin 0)).symm.trans ht
  obtain rfl := Host.Outcome.next.inj ht
  exact fabricJoin_rings (congrArg (·.dev.op.rings) hframe)

/-- The failure of the source of port 0 after reset moves the port to the spare. -/
theorem spillwayCombFailure_rings : (spillwayCombFailure 0 0 Dev.reset).op.rings ≠ Dev.reset.op.rings := by
  decide +kernel

/-- Refutes O51: at the failure of a comb source its port moves to the free hot spare, and the rings that the spare feeds are to be checked
again: part of the optics, which the statement lets no such failure change. -/
theorem not_linkManagement : ¬ Obligations.LinkManagement := by
  intro hall
  have hparts := hall { dev := Dev.reset, pending := [] } 0 0 0 0 0 0 (List.range 18) (by decide) rfl
  obtain ⟨-, -, -, -, -, -, -, -, -, -, -, -, -, -, -, -, -, hcomb⟩ := hparts
  obtain ⟨t, ht, hframe, -⟩ := hcomb 0 0 (by decide) (by decide) (by decide +kernel)
  replace ht := (@run_of_wf _ (.spillwayCombFailure 0 0) rfl (spillwayCombFailure 0 0)).symm.trans ht
  obtain rfl := Host.Outcome.next.inj ht
  exact spillwayCombFailure_rings (congrArg (·.dev.op.rings) hframe)

end Sys2Proof.Machine
end

section
/-!
PROOFS. The dispatch of a round (chapter 05, R173) at a site that is out of service.
-/

set_option Elab.async false

namespace Sys2Proof.Machine

/-- A graph of one node, placed at site 8. -/
def oneNodeGraph : Graph :=
  { handle := 1, session := 1, installing := none, stale := false, pools := [], stateMem := []
    image :=
      { name := [], features := 0, tensors := [], constants := [], weights := [], decls := [], exprs := [], graphSect := 0, weightSect := 0
        weightBase := 0, nodes := [{ opcode := 0, inputs := [], outputs := [], flags := 0, attrs := [], at_ := 0 }] }
    placed := some
      { binding := { seed := 0, margin := 0, siteMask := 0, items := [] }, generation := 1, installed := 0, sites := [], stages := 1, limiting := 0
        unplaced := [], pools := [], choice := 0, kv := [], flows := []
        nodes := [{ unit := 0, stage := 0, kSplit := 1, tree := 0, limiting := 0, slowest := 0, coreSet := [], budget := 0, sites := 2 ^ 8 }] } }

/-- An item that waits for its first stage. -/
def readyItem : Item :=
  { seq := 0, desc := [], ring := 0, index := 0, round := 0, due := 0, stage := .ready, dispatched := 0, pos := 0, payload := none
    payloadPoison := false, status := 0, detail := 0, completion := 0, flags := 0, result := [], decode := none, tokens := 0, context := 0
    emitted := 0, values := [] }

/-- The stream of that graph, with the one item. -/
def oneItemStream : Stream :=
  { id := 1, session := 1, graph := 1, decl := 0, result := 1, intakes := [], feeder := none, paused := false, pausedNext := false
    stalled := false, lastStart := none, nextSeq := 1, items := [readyItem], held := [], entering := [], slots := [], destroying := none }

/-- A device in READY within a round, whose site 8 is out of service. -/
def siteOutState : State :=
  { dev := { Dev.reset with
      hg := { HostPort.reset with devState := .ready }
      rd.active := true
      gr.list := [oneNodeGraph]
      str.list := [oneItemStream]
      sp.out := [8] }
    pending := [] }

theorem siteOutState_placed :
    siteOutState.dev.rd.active = true ∧ siteOutState.dev.rd.done.contains .dispatch = false ∧ siteOutState.dev.hg.devState = .ready ∧
      siteOutState.dev.stoppedCores = [] ∧ siteOutState.dev.str.slack = false := by
  decide +kernel

theorem siteOutState_frameOf :
    siteOutState.dev.frameOf oneItemStream = oneNodeGraph.placed.map fun p => { st := oneItemStream, g := oneNodeGraph, p } :=
  rfl

/-- The item's work is at the site that is out of service: it is not dispatched. -/
theorem dispatch_siteOut : (dispatch siteOutState.dev).str.list.all (fun st => st.items.all (·.stage == .ready)) = true := by
  decide +kernel

/-- Refutes O37: every site's Understory runs, but the site of the item's work has left service (R436), and its item stays where it is. -/
theorem not_roundPoints : ¬ Obligations.RoundPoints := by
  intro hall
  obtain ⟨hact, hdone, hready, hcores, hslack⟩ := siteOutState_placed
  obtain ⟨-, -, -, hdispatch, -⟩ := hall siteOutState hact
  obtain ⟨t, ht, -, -, -, hserves⟩ := hdispatch hdone
  replace ht := (@run_of_wf _ .dispatch rfl dispatch).symm.trans ht
  obtain rfl := Host.Outcome.next.inj ht
  obtain ⟨st, hst, -, it, hit, -, hrun, -⟩ :=
    hserves (.inl hready) hcores hslack (fun _ => rfl) oneItemStream (.head _) _ siteOutState_frameOf rfl readyItem (.head _) rfl rfl
  have hstay := List.all_eq_true.mp (List.all_eq_true.mp dispatch_siteOut st hst) it hit
  rw [hrun] at hstay
  exact absurd hstay (by simp)

end Sys2Proof.Machine
end

section
/-!
PROOFS. The arrival of a frame at a fibre port (chapter 10, R319, R324, R341): what a frame that is accepted or discarded does to its port.
-/

set_option Elab.async false

namespace Sys2Proof.Machine

/-! ## The port of a frame -/

/-- A frame comes in: counted, in a buffer of its class. -/
def FPort.buffered (f : Frame) (x : FPort) : FPort :=
  let y := { x with framesRx := x.framesRx + 1 }
  if isRsp f then { y with rspUsed := y.rspUsed + 1 } else { y with reqUsed := y.reqUsed + 1 }

/-- The counter of an authentic frame is the last one accepted. -/
def FPort.accepts (f : Frame) (x : FPort) : FPort := { x with rxCounter := if f.enc then some f.counter else x.rxCounter }

/-- The device once a frame that passes its link's encryption has come in. -/
def Dev.tookIn (port : Nat) (f : Frame) (d : Dev) : Dev :=
  ((d.onFport port (FPort.buffered f)).onFport port (FPort.accepts f)).credit port f.credit

/-- The device once that frame's buffer is free again. -/
def Dev.received (port : Nat) (f : Frame) (d : Dev) : Dev := (d.tookIn port f).freeBuf port (isRsp f)

/-- What a buffer that is freed does to its port. -/
def FPort.freed (rsp : Bool) (p : FPort) : FPort :=
  if rsp then { p with rspUsed := p.rspUsed - 1, rspFree := p.rspFree + 1 } else { p with reqUsed := p.reqUsed - 1, reqFree := p.reqFree + 1 }

/-- Credits that come back to a port. -/
def FPort.credited (c : Nat) (p : FPort) : FPort := { p with reqCredit := p.reqCredit + c % 16, rspCredit := p.rspCredit + c / 16 % 16 }

theorem freeBuf_eq (d : Dev) (port : Nat) (rsp : Bool) : d.freeBuf port rsp = d.onFport port (FPort.freed rsp) := rfl

theorem credit_eq (d : Dev) (port c : Nat) : d.credit port c = d.onFport port (FPort.credited c) := rfl

theorem buffered_keeps (f : Frame) (x : FPort) :
    (x.buffered f).port = x.port ∧ (x.buffered f).st = x.st ∧ (x.buffered f).queue = x.queue ∧ (x.buffered f).discRound = x.discRound ∧
      (x.buffered f).discarded = x.discarded ∧ (x.buffered f).framesRx = x.framesRx + 1 := by
  unfold FPort.buffered
  dsimp only
  split <;> exact ⟨rfl, rfl, rfl, rfl, rfl, rfl⟩

theorem freed_keeps (rsp : Bool) (x : FPort) :
    (x.freed rsp).port = x.port ∧ (x.freed rsp).st = x.st ∧ (x.freed rsp).queue = x.queue ∧ (x.freed rsp).discRound = x.discRound ∧
      (x.freed rsp).discarded = x.discarded ∧ (x.freed rsp).framesRx = x.framesRx := by
  unfold FPort.freed
  split <;> exact ⟨rfl, rfl, rfl, rfl, rfl, rfl⟩

theorem fport_freeBuf (d : Dev) (port : Nat) (rsp : Bool) : (d.freeBuf port rsp).fport port = (d.fport port).freed rsp := by
  rw [freeBuf_eq]
  exact fport_onFport d port _ fun x => (freed_keeps rsp x).1

/-- Each frame leaves its port with the buffer and the counts of its class. -/
theorem fport_taken (d : Dev) (port : Nat) (f : Frame) :
    (d.tookIn port f).fport port = (((d.fport port).buffered f).accepts f).credited f.credit := by
  have hb : ∀ x : FPort, (x.buffered f).port = x.port := fun x => (buffered_keeps f x).1
  rw [Dev.tookIn, credit_eq, fport_onFport _ port (FPort.credited f.credit) (fun _ => rfl),
    fport_onFport _ port (FPort.accepts f) (fun _ => rfl), fport_onFport _ port _ hb]

/-- A frame that comes in and goes changes its port alone. -/
theorem received_frame (d : Dev) (port : Nat) (f : Frame) : d.received port f = { d with sw.ports := (d.received port f).sw.ports } := rfl

/-- Its buffer taken and freed again, by either class, a frame has changed the ports alone. -/
theorem taken_freeBuf (d : Dev) (port : Nat) (f : Frame) (rsp : Bool) : ∃ ports, (d.tookIn port f).freeBuf port rsp = { d with sw.ports := ports } :=
  ⟨_, rfl⟩

theorem received_onFport_frame (d : Dev) (port : Nat) (f : Frame) (g : FPort → FPort) :
    (d.received port f).onFport port g = { d with sw.ports := ((d.received port f).onFport port g).sw.ports } := by
  rw [received_frame]
  generalize (d.received port f).sw.ports = ports
  rfl

theorem fport_received (d : Dev) (port : Nat) (f : Frame) :
    (d.received port f).fport port = ((((d.fport port).buffered f).accepts f).credited f.credit).freed (isRsp f) := by
  rw [Dev.received, fport_freeBuf, fport_taken]

/-- A frame received leaves the queue and the discards of its port, and is counted. -/
theorem received_counts (d : Dev) (port : Nat) (f : Frame) :
    ((d.received port f).fport port).st = (d.fport port).st ∧ ((d.received port f).fport port).queue = (d.fport port).queue ∧
      ((d.received port f).fport port).discRound = (d.fport port).discRound ∧
      ((d.received port f).fport port).discarded = (d.fport port).discarded ∧
      ((d.received port f).fport port).framesRx = (d.fport port).framesRx + 1 := by
  rw [fport_received]
  obtain ⟨-, hst, hq, hround, hdisc, hrx⟩ := freed_keeps (isRsp f) ((((d.fport port).buffered f).accepts f).credited f.credit)
  obtain ⟨-, bst, bq, bround, bdisc, brx⟩ := buffered_keeps f (d.fport port)
  exact ⟨hst.trans bst, hq.trans bq, hround.trans bround, hdisc.trans bdisc, hrx.trans brx⟩

/-- The buffer that a request took is free again. -/
theorem received_request (d : Dev) (port : Nat) {f : Frame} (h : isRsp f = false) :
    ((d.received port f).fport port).reqUsed = (d.fport port).reqUsed ∧ ((d.received port f).fport port).reqFree = (d.fport port).reqFree + 1 := by
  rw [fport_received]
  simp [FPort.buffered, FPort.freed, FPort.accepts, FPort.credited, h]

theorem fport_taken_other (d : Dev) {port q : Nat} (f : Frame) (h : q ≠ port) : (d.tookIn port f).fport q = d.fport q := by
  have hb : ∀ x : FPort, (x.buffered f).port = x.port := fun x => (buffered_keeps f x).1
  rw [Dev.tookIn, credit_eq, fport_onFport_other _ port (FPort.credited f.credit) q (fun _ => rfl) h,
    fport_onFport_other _ port (FPort.accepts f) q (fun _ => rfl) h, fport_onFport_other _ port _ q hb h]

/-- A frame that comes in leaves the state and the queue of every port. -/
theorem taken_keeps (d : Dev) (port : Nat) (f : Frame) (q : Nat) :
    ((d.tookIn port f).fport q).st = (d.fport q).st ∧ ((d.tookIn port f).fport q).queue = (d.fport q).queue := by
  by_cases h : q = port
  · subst h
    rw [fport_taken]
    obtain ⟨-, bst, bq, -⟩ := buffered_keeps f (d.fport q)
    exact ⟨bst, bq⟩
  · rw [fport_taken_other d f h]
    exact ⟨rfl, rfl⟩

/-! ## The frame itself -/

/-- Nothing arrives at a port that is not UP. -/
theorem arrive_of_not_up {d : Dev} {port : Nat} (h : (d.fport port).st ≠ .up) (f : Frame) (kinds : List Nat) (own : Bool) (act : Dev → Dev) :
    d.arrive port f kinds own act = d := if_pos (.inl h)

section
variable {d : Dev} {port : Nat} {f : Frame} {kinds : List Nat} {own : Bool} (act : Dev → Dev)
  (hup : (d.fport port).st = .up) (hskip : (d.fport port).skipping = false) (hauth : (d.fport port).authentic f = true)
  (hkind : kinds.contains f.kind = true) (hown : (f.dst == d.sw.node) = own)
include hup hskip hauth hkind hown

/-- An authentic frame of the row is in its buffer; what follows depends on its fields. -/
theorem arrive_authentic :
    d.arrive port f kinds own act =
      if !frameFits f then (d.received port f).discardFrame port
      else if !epochOk d.sw.epoch f.epoch then { d.received port f with sw.epochDiscard := d.sw.epochDiscard + 1 }
      else if own ∧ d.hg.devState = .safeHold then (d.received port f).discardFrame port
      else act (d.tookIn port f) := by
  have hmine : ((kinds.contains f.kind || !knownKind f.kind) && (f.dst == d.sw.node) == own) = true := by
    rw [hkind, hown, Bool.true_or, Bool.true_and, beq_self_eq_true]
  unfold Dev.arrive
  dsimp only
  rw [if_neg (by simp only [hup, hskip, hmine]; simp), if_neg (by simp [hauth])]
  rfl

/-- A frame that fits, of this epoch, is acted on. -/
theorem arrive_taken (hfits : frameFits f = true) (hepoch : epochOk d.sw.epoch f.epoch = true) (hhold : own = true → d.hg.devState ≠ .safeHold) :
    d.arrive port f kinds own act = act (d.tookIn port f) := by
  rw [arrive_authentic act hup hskip hauth hkind hown, if_neg (by simp [hfits]), if_neg (by simp [hepoch]), if_neg fun h => hhold h.1 h.2]

/-- One that does not fit is discarded. -/
theorem arrive_misfit (hfits : frameFits f = false) : d.arrive port f kinds own act = (d.received port f).discardFrame port := by
  rw [arrive_authentic act hup hskip hauth hkind hown, if_pos (by simp [hfits])]

end

/-- A discarded frame, as its port counts it: the `n`th of its round. -/
def FPort.discards (n : Nat) (p : FPort) : FPort := { p with discarded := p.discarded + 1, discRound := n }

/-- A frame discarded, but for the fifth of its round, is counted at its port. -/
theorem discardFrame_of_few {d : Dev} {port : Nat} (h : (d.fport port).discRound ≠ 4) :
    d.discardFrame port = d.onFport port (FPort.discards ((d.fport port).discRound + 1)) := by
  unfold Dev.discardFrame
  dsimp only
  exact if_neg (by omega)

theorem drainAll_of_none {d : Dev} (h : d.sw.deliver = []) : d.drainAll = d := by
  rw [Dev.drainAll, h]
  rfl

/-! ## Requests of other nodes -/

/-- The rows of the five kinds of request. -/
def frameRequests (port : Nat) (f : Frame) : List (Nat × Instr) :=
  [(1, .spillwayLoad port f), (2, .spillwayStore port f), (3, .spillwayAtomic port f), (4, .spillwayBulkWrite port f), (5, .spillwayBulkRead port f)]

theorem mem_frameRequests {port : Nat} {f : Frame} {c : Nat × Instr} (h : c ∈ frameRequests port f) :
    c = (1, .spillwayLoad port f) ∨ c = (2, .spillwayStore port f) ∨ c = (3, .spillwayAtomic port f) ∨ c = (4, .spillwayBulkWrite port f) ∨
      c = (5, .spillwayBulkRead port f) := by
  simpa [frameRequests] using h

/-- Each row is the arrival of a request of its kind. -/
theorem exec_frameRequest {port : Nat} {f : Frame} (hp : port < 8) (hf : f.wf = true) (s : State) {c : Nat × Instr} (h : c ∈ frameRequests port f) :
    exec c.2 s = .next { s with dev := s.dev.ownRequest port f c.1 } := by
  rcases mem_frameRequests h with rfl | rfl | rfl | rfl | rfl
  · exact @run_of_wf _ (.spillwayLoad port f) (by simp [Instr.wf, hp, hf]) _
  · exact @run_of_wf _ (.spillwayStore port f) (by simp [Instr.wf, hp, hf]) _
  · exact @run_of_wf _ (.spillwayAtomic port f) (by simp [Instr.wf, hp, hf]) _
  · exact @run_of_wf _ (.spillwayBulkWrite port f) (by simp [Instr.wf, hp, hf]) _
  · exact @run_of_wf _ (.spillwayBulkRead port f) (by simp [Instr.wf, hp, hf]) _

theorem isRsp_of_request {port : Nat} {f : Frame} {c : Nat × Instr} (h : c ∈ frameRequests port f) (hk : c.1 = f.kind) : isRsp f = false := by
  have hle : c.1 ≤ 5 := by rcases mem_frameRequests h with rfl | rfl | rfl | rfl | rfl <;> simp
  simp only [isRsp, decide_eq_false_iff_not]
  omega

/-- A request that goes to its home leaves the fibre port's buffer and is noted as inbound. -/
theorem passOn_frame (d : Dev) (port : Nat) (f : Frame) (home : Nat) :
    d.passOn port f home =
      { d with
        ba.out := (d.passOn port f home).ba.out
        cs.nextTag := (d.passOn port f home).cs.nextTag
        sw.ports := (d.freeBuf port false).sw.ports
        sw.inbound := d.sw.inbound ++ [{ tag := d.cs.nextTag, fibre := port, frame := f }] } := by
  unfold Dev.passOn
  dsimp only
  split
  · rw [sendCell_frame]
    rfl
  · rw [sendRec_frame]
    rfl

/-- A request whose home has room for it is passed on. -/
theorem serveFrame_home {d : Dev} {port : Nat} {f : Frame} {home : Nat} (hh : d.frameHome f = some home) (hp : f.poison = false)
    (hd : d.sw.deliver = []) (hr : d.homeRoom (engineOf port) home = true) : d.serveFrame port f = d.passOn port f home := by
  unfold Dev.serveFrame
  rw [hh]
  dsimp only
  rw [if_neg (by simp [hp]), if_neg (by simp [hd, hr])]

/-! ## Responses and frames for other nodes -/

/-- A frame passed on, with one hop less; the link that it leaves by gives the rest of its header. -/
def hopped (f : Frame) : Frame := { f with hops := f.hops - 1, enc := false, counter := 0, credit := 0 }

/-- A response that names no operation is late. -/
def Dev.late (d : Dev) : Dev := { d with sw.lateRsp := d.sw.lateRsp + 1 }

/-- The operations of plain records end by their response record. -/
theorem endOp_frame {o : SwOp} (h : o.ask.op < 4) (status : Nat) (data : List Byte) (d : Dev) :
    d.endOp o status data = { d with ba.out := (d.endOp o status data).ba.out, sw.ops := d.sw.ops.erase o } := by
  unfold Dev.endOp
  dsimp only
  split
  · omega
  · omega
  · rw [Dev.respondRec, sendRec_frame]

theorem leaveDone_of_none {d : Dev} (h : d.sw.leaving = none) : d.leaveDone = d := by
  rw [Dev.leaveDone, h]

/-- A route depends on the states of the ports and on the table. -/
theorem route_congr {d e : Dev} (ht : e.sw.table = d.sw.table) (hs : ∀ q, (e.fport q).st = (d.fport q).st) (node : Nat) : e.route node = d.route node := by
  unfold Dev.route
  simp only [ht, hs]

/-! ## The rows -/

theorem exec_spillwayResponse {s : State} {port : Nat} {f : Frame} (hp : port < 8) (hf : f.wf = true) :
    exec (.spillwayResponse port f) s = .next { s with dev := spillwayResponse port f s.dev } :=
  @run_of_wf _ (.spillwayResponse port f) (by simp [Instr.wf, hp, hf]) _

theorem exec_transitForward {s : State} {port : Nat} {f : Frame} (hp : port < 8) (hf : f.wf = true) :
    exec (.transitForward port f) s = .next { s with dev := transitForward port f s.dev } :=
  @run_of_wf _ (.transitForward port f) (by simp [Instr.wf, hp, hf]) _

/-- A frame that is sound may be acted on: its port is UP and takes it, and its encryption and epoch are right. -/
structure Sound (d : Dev) (port : Nat) (f : Frame) : Prop where
  up : (d.fport port).st = .up
  heard : (d.fport port).skipping = false
  authentic : (d.fport port).authentic f = true
  epoch : epochOk d.sw.epoch f.epoch = true

section
variable {d : Dev} {port : Nat} {f : Frame} (hs : Sound d port f)
include hs

theorem ownRequest_home (hd : d.sw.deliver = []) (hn : f.dst = d.sw.node) (hh : d.hg.devState ≠ .safeHold) (hfit : frameFits f = true)
    (hp : f.poison = false) {home : Nat} (hhome : d.frameHome f = some home) (hr : d.homeRoom (engineOf port) home = true) :
    d.ownRequest port f f.kind = (d.tookIn port f).passOn port f home := by
  rw [Dev.ownRequest, drainAll_of_none hd,
    arrive_taken _ hs.up hs.heard hs.authentic (by simp) (by simp [hn]) hfit hs.epoch fun _ => hh]
  exact @serveFrame_home (d.tookIn port f) _ _ _ hhome hp hd hr

theorem ownRequest_misfit (hd : d.sw.deliver = []) (hn : f.dst = d.sw.node) (hfit : frameFits f = false) :
    d.ownRequest port f f.kind = (d.received port f).discardFrame port := by
  rw [Dev.ownRequest, drainAll_of_none hd, arrive_misfit _ hs.up hs.heard hs.authentic (by simp) (by simp [hn]) hfit]

theorem spillwayResponse_taken (hd : d.sw.deliver = []) (hn : f.dst = d.sw.node) (hh : d.hg.devState ≠ .safeHold) (hfit : frameFits f = true)
    (hk : f.kind ∈ [0x81, 0x82, 0x83, 0x84, 0x85]) :
    spillwayResponse port f d =
      match d.opOf f with
      | some o =>
        if o.left.isSome ∧ o.ask.op + 0x80 = f.kind then (((d.tookIn port f).freeBuf port true).endOp o f.status f.payload).leaveDone
        else ((d.tookIn port f).freeBuf port true).late
      | none => ((d.tookIn port f).freeBuf port true).late := by
  unfold spillwayResponse
  rw [drainAll_of_none hd,
    arrive_taken _ hs.up hs.heard hs.authentic (List.elem_eq_true_of_mem hk) (by simp [hn]) hfit hs.epoch fun _ => hh]
  rfl

theorem transitForward_taken (hn : f.dst ≠ d.sw.node) (hfit : frameFits f = true) :
    transitForward port f d =
      if f.hops = 0 then { (d.tookIn port f).freeBuf port (isRsp f) with sw.hopDiscard := d.sw.hopDiscard + 1 }
      else
        let r := (d.tookIn port f).emit (engineOf port) d.tb.ns (some port) (hopped f)
        if r.2 then r.1 else (d.tookIn port f).freeBuf port (isRsp f) := by
  have hkind : [1, 2, 3, 4, 5, 0x10, 0x11, 0x12, 0x13, 0x81, 0x82, 0x83, 0x84, 0x85].contains f.kind = true := by
    unfold frameFits at hfit
    dsimp only at hfit
    split at hfit <;> simp_all
  unfold transitForward
  rw [arrive_taken _ hs.up hs.heard hs.authentic hkind (by simp [hn]) hfit hs.epoch fun h => absurd h Bool.false_ne_true]
  rfl

end

/-- On a port of the same engine the frame joins the queue of the port that its route selects. -/
theorem emit_same {d : Dev} {engine : Nat} {f : Frame} {q : Nat} (hr : d.route f.dst = some q) (he : engineOf q = engine) (since : Nat)
    (from_ : Option Nat) : d.emit engine since from_ f = (d.enqueue q since from_ f, true) := by
  unfold Dev.emit
  rw [hr]
  exact if_pos he

section
variable {d : Dev} {port : Nat} {f : Frame} (hs : Sound d port f)
include hs

/-- A response that is late, or has no operation, is counted. -/
theorem spillwayResponse_late (hd : d.sw.deliver = []) (hn : f.dst = d.sw.node) (hh : d.hg.devState ≠ .safeHold) (hfit : frameFits f = true)
    (hk : f.kind ∈ [0x81, 0x82, 0x83, 0x84, 0x85]) (hno : d.opOf f = none) :
    ∃ ports, spillwayResponse port f d = { d with sw.ports := ports, sw.lateRsp := d.sw.lateRsp + 1 } := by
  obtain ⟨ports, hports⟩ := taken_freeBuf d port f true
  rw [spillwayResponse_taken hs hd hn hh hfit hk, hno, hports]
  exact ⟨ports, rfl⟩

/-- A response of a record ends its operation. -/
theorem spillwayResponse_ends (hd : d.sw.deliver = []) (hn : f.dst = d.sw.node) (hh : d.hg.devState ≠ .safeHold) (hfit : frameFits f = true)
    (hk : f.kind ∈ [0x81, 0x82, 0x83, 0x84, 0x85]) {o : SwOp} (ho : d.opOf f = some o) (hleft : o.left.isSome = true)
    (hop : o.ask.op + 0x80 = f.kind) (hlt : o.ask.op < 4) (hleave : d.sw.leaving = none) :
    ∃ ports out, spillwayResponse port f d = { d with sw.ports := ports, sw.ops := d.sw.ops.erase o, ba.out := out } := by
  obtain ⟨ports, hports⟩ := taken_freeBuf d port f true
  rw [spillwayResponse_taken hs hd hn hh hfit hk, ho, hports]
  dsimp only
  rw [if_pos ⟨hleft, hop⟩, endOp_frame hlt, leaveDone_of_none (by exact hleave)]
  exact ⟨ports, _, rfl⟩

/-- A frame without a hop left is discarded. -/
theorem transitForward_last (hn : f.dst ≠ d.sw.node) (hfit : frameFits f = true) (hhops : f.hops = 0) :
    ∃ ports, transitForward port f d = { d with sw.ports := ports, sw.hopDiscard := d.sw.hopDiscard + 1 } := by
  obtain ⟨ports, hports⟩ := taken_freeBuf d port f (isRsp f)
  rw [transitForward_taken hs hn hfit, if_pos hhops, hports]
  exact ⟨ports, rfl⟩

/-- A frame that leaves by a port of the same engine joins its queue. -/
theorem transitForward_queued (hn : f.dst ≠ d.sw.node) (hfit : frameFits f = true) (hhops : 0 < f.hops) {q : Nat} (hroute : d.route f.dst = some q)
    (heng : engineOf q = engineOf port) :
    transitForward port f d =
      (d.tookIn port f).enqueue q d.tb.ns (some port) (hopped f) := by
  have hr : (d.tookIn port f).route (hopped f).dst = some q := (@route_congr d (d.tookIn port f) rfl (fun q => (taken_keeps d port f q).1) f.dst).trans hroute
  rw [transitForward_taken hs hn hfit, if_neg (by omega), emit_same hr heng]
  exact if_pos rfl

end

/-- A frame that joins a queue stands at its end. -/
theorem fport_enqueue (d : Dev) (q since : Nat) (from_ : Option Nat) (f : Frame) :
    (d.enqueue q since from_ f).fport q = { d.fport q with queue := (d.fport q).queue ++ [{ frame := f, since, from_ }] } :=
  fport_onFport d q _ fun _ => rfl

theorem enqueue_frame (d : Dev) (q since : Nat) (from_ : Option Nat) (f : Frame) :
    d.enqueue q since from_ f = { d with sw.ports := (d.enqueue q since from_ f).sw.ports } := rfl

/-- Settles O49: a frame that is accepted takes its buffer first; what the row does then is one change more. -/
theorem spillwayArrivals : Obligations.SpillwayArrivals := by
  rintro ⟨d, pending⟩ port f hp hf hdel
  dsimp only at hdel ⊢
  change (_ → (∀ c ∈ frameRequests port f, _) ∧ _) ∧ (_ → _ → _ → _ → ∀ home, _ → _ → ∀ c ∈ frameRequests port f, _) ∧
    (_ → _ → _ → _ → ∀ c ∈ frameRequests port f, _) ∧ _
  refine ⟨?down, ?home, ?misfit, ?response, ?transit⟩
  case down =>
    intro hdown
    refine ⟨fun c hc => ?_, ?_, ?_⟩
    · rw [exec_frameRequest hp hf _ hc, Dev.ownRequest, drainAll_of_none hdel, arrive_of_not_up hdown]
    · rw [exec_spillwayResponse hp hf, spillwayResponse, drainAll_of_none hdel, arrive_of_not_up hdown]
    · rw [exec_transitForward hp hf, transitForward, arrive_of_not_up hdown]
  case home =>
    rintro ⟨hup, hskip, hauth, hepoch⟩ ⟨hn, hh⟩ hfit hpoison home hhome hroom c hc hk
    have hrsp := isRsp_of_request hc hk
    have hown := ownRequest_home ⟨hup, hskip, hauth, hepoch⟩ hdel hn hh hfit hpoison hhome hroom
    have hports : ((d.tookIn port f).freeBuf port false).sw.ports = (d.received port f).sw.ports := by rw [Dev.received, hrsp]
    rw [← hk, passOn_frame, hports] at hown
    refine ⟨_, exec_frameRequest hp hf _ hc, ?_, ?_⟩ <;> dsimp only <;> rw [hown]
    · rfl
    · exact ⟨rfl, (received_counts d port f).2.2.2.2, received_request d port hrsp⟩
  case misfit =>
    rintro ⟨hup, hskip, hauth, hepoch⟩ ⟨hn, -⟩ hfit hfew c hc hk
    obtain ⟨-, -, hround, hdisc, -⟩ := received_counts d port f
    have hown := ownRequest_misfit ⟨hup, hskip, hauth, hepoch⟩ hdel hn hfit
    rw [← hk, discardFrame_of_few (hround ▸ hfew)] at hown
    refine ⟨_, exec_frameRequest hp hf _ hc, ?_, ?_⟩ <;> dsimp only <;> rw [hown]
    · rw [received_onFport_frame]
    · rw [fport_onFport _ _ (FPort.discards _) fun _ => rfl]
      exact ⟨congrArg (· + 1) hdisc, rfl⟩
  case response =>
    rintro ⟨hup, hskip, hauth, hepoch⟩ ⟨hn, hh⟩ hfit hk
    refine ⟨fun hno => ?_, fun o ho hleft hop hlt hleave => ?_⟩
    · obtain ⟨ports, hlate⟩ := spillwayResponse_late ⟨hup, hskip, hauth, hepoch⟩ hdel hn hh hfit hk hno
      refine ⟨_, exec_spillwayResponse hp hf, ?_, ?_⟩ <;> dsimp only <;> rw [hlate]
      exact ⟨rfl, rfl⟩
    · obtain ⟨ports, out, hends⟩ := spillwayResponse_ends ⟨hup, hskip, hauth, hepoch⟩ hdel hn hh hfit hk ho hleft hop hlt hleave
      refine ⟨_, exec_spillwayResponse hp hf, ?_, ?_⟩ <;> dsimp only <;> rw [hends]
      exact ⟨rfl, rfl⟩
  case transit =>
    rintro ⟨hup, hskip, hauth, hepoch⟩ hn hfit
    refine ⟨fun hhops => ?_, fun q hhops hroute heng => ?_⟩
    · obtain ⟨ports, hlast⟩ := transitForward_last ⟨hup, hskip, hauth, hepoch⟩ hn hfit hhops
      refine ⟨_, exec_transitForward hp hf, ?_, ?_⟩ <;> dsimp only <;> rw [hlast]
    · have hqueued := transitForward_queued ⟨hup, hskip, hauth, hepoch⟩ hn hfit hhops hroute heng
      refine ⟨_, exec_transitForward hp hf, ?_, ?_⟩ <;> dsimp only <;> rw [hqueued]
      · rw [enqueue_frame]
        rfl
      · rw [fport_enqueue, (taken_keeps d port f q).2]
        rfl

end Sys2Proof.Machine
end

section
/-!
PROOFS. The links of the fibre ports (chapter 10, R318, R319, R324, R330, R331, R338): frames that leave, codewords, timeouts, and the frames
that have waited too long.
-/

set_option Elab.async false

namespace Sys2Proof.Machine

/-- A row whose effect is none leaves the state, whatever its operands. -/
theorem run_of_same {s : State} {i : Instr} {f : Dev → Dev} (h : f s.dev = s.dev) : s.run i f = .next s := by
  rw [run_next, h, ite_self]

/-! ## Buffers and operations freed -/

/-- What the end of a held frame leaves of the fabric: all but buffer counts, and the instants from which operations are timed. -/
structure BuffersFreed (d e : Dev) : Prop where
  frame : e = { d with sw.ports := e.sw.ports, sw.ops := e.sw.ops }
  queue : ∀ q, (e.fport q).queue = (d.fport q).queue
  framesTx : ∀ q, (e.fport q).framesTx = (d.fport q).framesTx
  credits : ∀ q, (e.fport q).reqCredit = (d.fport q).reqCredit ∧ (e.fport q).rspCredit = (d.fport q).rspCredit

theorem BuffersFreed.refl (d : Dev) : BuffersFreed d d := ⟨rfl, fun _ => rfl, fun _ => rfl, fun _ => ⟨rfl, rfl⟩⟩

theorem BuffersFreed.trans {d e g : Dev} (h : BuffersFreed d e) (h2 : BuffersFreed e g) : BuffersFreed d g where
  frame := by
    have hg := h2.frame
    rw [h.frame] at hg
    exact hg
  queue q := (h2.queue q).trans (h.queue q)
  framesTx q := (h2.framesTx q).trans (h.framesTx q)
  credits q := ⟨(h2.credits q).1.trans (h.credits q).1, (h2.credits q).2.trans (h.credits q).2⟩

theorem freed_sends (rsp : Bool) (x : FPort) :
    (x.freed rsp).framesTx = x.framesTx ∧ (x.freed rsp).reqCredit = x.reqCredit ∧ (x.freed rsp).rspCredit = x.rspCredit := by
  unfold FPort.freed
  split <;> exact ⟨rfl, rfl, rfl⟩

theorem fport_freeBuf_other (d : Dev) {port q : Nat} (rsp : Bool) (h : q ≠ port) : (d.freeBuf port rsp).fport q = d.fport q := by
  rw [freeBuf_eq]
  exact fport_onFport_other d port _ q (fun x => (freed_keeps rsp x).1) h

theorem buffersFreed_freeBuf (d : Dev) (port : Nat) (rsp : Bool) : BuffersFreed d (d.freeBuf port rsp) := by
  have hq : ∀ q, ((d.freeBuf port rsp).fport q).queue = (d.fport q).queue ∧ ((d.freeBuf port rsp).fport q).framesTx = (d.fport q).framesTx ∧
      ((d.freeBuf port rsp).fport q).reqCredit = (d.fport q).reqCredit ∧ ((d.freeBuf port rsp).fport q).rspCredit = (d.fport q).rspCredit := by
    intro q
    by_cases h : q = port
    · subst h
      rw [fport_freeBuf]
      exact ⟨(freed_keeps rsp _).2.2.1, freed_sends rsp _⟩
    · rw [fport_freeBuf_other d rsp h]
      exact ⟨rfl, rfl, rfl, rfl⟩
  exact ⟨rfl, fun q => (hq q).1, fun q => (hq q).2.1, fun q => (hq q).2.2⟩

theorem buffersFreed_leaves (d : Dev) (f : Frame) : BuffersFreed d (d.leaves f) := by
  unfold Dev.leaves
  split
  · exact ⟨rfl, fun _ => rfl, fun _ => rfl, fun _ => ⟨rfl, rfl⟩⟩
  · exact .refl d

/-- A frame leaves its queue: the buffer of a transit frame is free, an own request begins to be timed. -/
def Dev.unqueue (x : TxFrame) (d : Dev) : Dev :=
  match x.from_ with
  | some q => d.freeBuf q (isRsp x.frame)
  | none => if isRsp x.frame then d else d.leaves x.frame

theorem buffersFreed_unqueue (d : Dev) (x : TxFrame) : BuffersFreed d (d.unqueue x) := by
  unfold Dev.unqueue
  split
  · exact buffersFreed_freeBuf d _ _
  · split
    · exact .refl d
    · exact buffersFreed_leaves d _

theorem buffersFreed_each {α : Type} {f : α → Dev → Dev} (h : ∀ a e, BuffersFreed e (f a e)) (l : List α) (d : Dev) : BuffersFreed d (each l f d) :=
  each_keeps (BuffersFreed d) f (fun a e he => he.trans (h a e)) l d (.refl d)

/-! ## A frame leaves (R324) -/

/-- The first queued frame of a class that has a credit. -/
def FPort.next (p : FPort) : Option TxFrame := p.queue.find? fun x => decide (0 < (if isRsp x.frame then p.rspCredit else p.reqCredit))

/-- A port as a frame leaves by it, which returns credits. -/
def FPort.sends (x : TxFrame) (rq rs : Nat) (y : FPort) : FPort :=
  let z := { y with
             queue := y.queue.erase x, reqFree := y.reqFree - rq, rspFree := y.rspFree - rs, framesTx := y.framesTx + 1
             txCounter := if y.enc then y.txCounter + 1 else y.txCounter }
  if isRsp x.frame then { z with rspCredit := z.rspCredit - 1 } else { z with reqCredit := z.reqCredit - 1 }

theorem sends_spec {x : TxFrame} {y : FPort} (h : 0 < (if isRsp x.frame then y.rspCredit else y.reqCredit)) (rq rs : Nat) :
    (y.sends x rq rs).queue = y.queue.erase x ∧ (y.sends x rq rs).framesTx = y.framesTx + 1 ∧
      (y.sends x rq rs).reqCredit + (y.sends x rq rs).rspCredit + 1 = y.reqCredit + y.rspCredit := by
  unfold FPort.sends
  dsimp only
  split at h <;> rename_i hr
  · rw [if_pos hr]
    exact ⟨rfl, rfl, by dsimp only; omega⟩
  · rw [if_neg hr]
    exact ⟨rfl, rfl, by dsimp only; omega⟩

theorem sends_port (x : TxFrame) (rq rs : Nat) (y : FPort) : (y.sends x rq rs).port = y.port := by
  unfold FPort.sends
  dsimp only
  split <;> rfl

theorem frameTransmit_of_none {d : Dev} {port : Nat} (h : (d.fport port).next = none) : frameTransmit port d = d := by
  unfold FPort.next at h
  unfold frameTransmit
  dsimp only
  rw [h]

/-- The frame as it goes out. -/
def FPort.outgoing (p : FPort) (x : TxFrame) : Frame :=
  { x.frame with enc := p.enc, counter := if p.enc then p.txCounter else 0, credit := min 15 p.reqFree + 16 * min 15 p.rspFree }

theorem frameTransmit_eq {d : Dev} {port : Nat} {x : TxFrame} (h : (d.fport port).next = some x) (hup : (d.fport port).st = .up) :
    frameTransmit port d =
      let d1 := d.onFport port (FPort.sends x (min 15 (d.fport port).reqFree) (min 15 (d.fport port).rspFree))
      Dev.unqueue x { d1 with sw.sent := (port, (d.fport port).outgoing x) :: d.sw.sent } := by
  unfold FPort.next at h
  unfold frameTransmit
  dsimp only
  rw [h]
  dsimp only
  rw [if_neg (by simp [hup])]
  rfl

/-- What a frame that leaves does to its port and to the fabric. -/
theorem frameTransmit_spec {d e : Dev} {port : Nat} {x : TxFrame} (h : (d.fport port).next = some x) (hup : (d.fport port).st = .up)
    (he : frameTransmit port d = e) :
    e = { d with sw := e.sw } ∧ (e.fport port).queue = (d.fport port).queue.erase x ∧ (e.fport port).framesTx = (d.fport port).framesTx + 1 ∧
      (e.fport port).reqCredit + (e.fport port).rspCredit + 1 = (d.fport port).reqCredit + (d.fport port).rspCredit ∧
      e.sw.sent = (port, (d.fport port).outgoing x) :: d.sw.sent := by
  rw [frameTransmit_eq h hup] at he
  dsimp only at he
  have hcredit : 0 < (if isRsp x.frame then (d.fport port).rspCredit else (d.fport port).reqCredit) := by
    unfold FPort.next at h
    exact of_decide_eq_true (List.find?_some h :)
  obtain ⟨hqueue, htx, hcredits⟩ := sends_spec hcredit (min 15 (d.fport port).reqFree) (min 15 (d.fport port).rspFree)
  have hport := fport_onFport d port _ (sends_port x (min 15 (d.fport port).reqFree) (min 15 (d.fport port).rspFree))
  generalize FPort.sends x (min 15 (d.fport port).reqFree) (min 15 (d.fport port).rspFree) = sends at *
  generalize hs : ({ d.onFport port sends with sw.sent := (port, (d.fport port).outgoing x) :: d.sw.sent } : Dev) = sent at he
  have hsport : sent.fport port = sends (d.fport port) := by rw [← hs]; exact hport
  obtain ⟨hframe, hq, hf, hc⟩ := he ▸ buffersFreed_unqueue sent x
  refine ⟨?_, ?_, ?_, ?_, ?_⟩
  · rw [hframe, ← hs]
    rfl
  · rw [hq, hsport, hqueue]
  · rw [hf, hsport, htx]
  · rw [(hc port).1, (hc port).2, hsport, hcredits]
  · rw [hframe, ← hs]

/-! ## Codewords (R318, R319) -/

theorem idleCodeword_eq {d : Dev} (hd : d.sw.deliver = []) (port c : Nat) :
    idleCodeword port c d = if (d.fport port).st = .up ∧ !(d.fport port).skipping then d.credit port c else d := by
  unfold idleCodeword
  dsimp only
  rw [drainAll_of_none hd]

/-- A marker as its port hears it. -/
def FPort.marked (seq : Nat) (nextStart : Nat) (p : FPort) : FPort := { p with marker := some seq, skipping := p.skipping && nextStart == 0xFFFF }

theorem marked_start (p : FPort) (seq : Nat) : p.marked seq 0 = { p with marker := some seq, skipping := false } := by
  simp [FPort.marked]

theorem laneMapDue_of_none {d : Dev} {port : Nat} (h : (d.fport port).laneMap = none) (seq : Nat) : d.laneMapDue port seq = d := by
  unfold Dev.laneMapDue
  dsimp only
  rw [h]

/-- A marker at which no lane map and no key falls due. -/
theorem marker_plain {d : Dev} {port : Nat} (hd : d.sw.deliver = []) (hup : (d.fport port).st = .up) (hm : (d.fport port).laneMap = none)
    (hk : (d.fport port).keySwitch = none) (ht : (d.fport port).txSwitch = none) (c nextStart seq : Nat) :
    (∃ ports, marker port c nextStart seq d = { d with sw.ports := ports }) ∧
      (marker port c nextStart seq d).fport port = ((d.fport port).marked seq nextStart).credited c := by
  let d1 := (d.onFport port (FPort.marked seq nextStart)).onFport port (FPort.credited c)
  have hp1 : d1.fport port = ((d.fport port).marked seq nextStart).credited c := by
    rw [fport_onFport _ port (FPort.credited c) (fun _ => rfl), fport_onFport _ port (FPort.marked seq nextStart) (fun _ => rfl)]
  have hmap : d1.laneMapDue port seq = d1 := laneMapDue_of_none (by rw [hp1]; exact hm) seq
  have hkeys : ∃ g : FPort → FPort, d1.keysDue port seq = d1.onFport port g ∧ (∀ x, (g x).port = x.port) ∧ g (d1.fport port) = d1.fport port := by
    refine ⟨_, rfl, fun x => ?_, ?_⟩
    · dsimp only
      split <;> split <;> rfl
    · have hk1 : (d1.fport port).keySwitch = none := by rw [hp1]; exact hk
      have ht1 : (d1.fport port).txSwitch = none := by rw [hp1]; exact ht
      dsimp only
      rw [hk1, ht1]
      rfl
  obtain ⟨g, hg, hgp, hgx⟩ := hkeys
  have heq : marker port c nextStart seq d = d1.onFport port g := by
    unfold marker
    dsimp only
    rw [if_neg (by simp [hup]), if_pos (by simp [hup])]
    change ((d1.laneMapDue port seq).keysDue port seq).drainAll = _
    rw [hmap, hg]
    exact drainAll_of_none hd
  rw [heq]
  exact ⟨⟨_, rfl⟩, by rw [fport_onFport d1 port g hgp, hgx, hp1]⟩

theorem marker_of_down {d : Dev} {port : Nat} (hup : (d.fport port).st ≠ .up) (ht : (d.fport port).st ≠ .training) (c nextStart seq : Nat) :
    marker port c nextStart seq d = d := if_pos ⟨hup, ht⟩

/-- What follows a codeword that cannot be corrected: all to the next marker is skipped, or the frame's buffer is free. -/
def FPort.garbled (index : Nat) (response : Bool) (p : FPort) : FPort :=
  if index < 2 then { p with skipping := true }
  else if response then { p with rspFree := p.rspFree + 1 } else { p with reqFree := p.reqFree + 1 }

theorem garbled_keeps (index : Nat) (response : Bool) (p : FPort) :
    (p.garbled index response).port = p.port ∧ (p.garbled index response).discRound = p.discRound ∧
      (p.garbled index response).discarded = p.discarded ∧ (p.garbled index response).skipping = (p.skipping || decide (index < 2)) := by
  unfold FPort.garbled
  split
  · simp [*]
  · split <;> simp [*]

section
variable {d : Dev} {port c : Nat} {wrong : List Nat} (index : Nat) (response : Bool)

theorem frameUncorrectable_of_skipping (h : (d.fport port).skipping = true) : frameUncorrectable port index c wrong response d = d :=
  if_pos (.inr (.inl h))

theorem frameUncorrectable_of_clean (h : d.fibreWrong port c wrong = 0) : frameUncorrectable port index c wrong response d = d :=
  if_pos (.inr (.inr h))

theorem frameUncorrectable_corrects (hup : (d.fport port).st = .up) (hs : (d.fport port).skipping = false) (h : d.fibreWrong port c wrong = 1) :
    frameUncorrectable port index c wrong response d = d.onFport port fun p => { p with corrected := p.corrected + 1 } := by
  unfold frameUncorrectable
  dsimp only
  rw [h, if_neg (by simp [hup, hs]), if_pos rfl]

theorem frameUncorrectable_discards (hup : (d.fport port).st = .up) (hs : (d.fport port).skipping = false) (h : 2 ≤ d.fibreWrong port c wrong) :
    frameUncorrectable port index c wrong response d =
      (((d.log (fibreUnit port) 0 0x0102 3).onFport port (FPort.garbled index response)).discardFrame port) := by
  unfold frameUncorrectable
  dsimp only
  rw [if_neg (by simp only [hup, hs]; simp; omega), if_neg (by omega)]
  congr 1
  split
  · unfold FPort.garbled
    simp only [if_pos ‹index < 2›]
  · unfold FPort.garbled
    simp only [if_neg ‹¬index < 2›]

/-- A codeword that cannot be corrected costs its frame, and one of the header all that follows. -/
theorem frameUncorrectable_spec (hup : (d.fport port).st = .up) (hs : (d.fport port).skipping = false) (h : 2 ≤ d.fibreWrong port c wrong)
    (hfew : (d.fport port).discRound ≠ 4) {e : Dev} (he : frameUncorrectable port index c wrong response d = e) :
    e = { d with sw := e.sw, lg := e.lg, hg := e.hg } ∧ (e.fport port).skipping = decide (index < 2) ∧
      (e.fport port).discarded = (d.fport port).discarded + 1 := by
  rw [frameUncorrectable_discards index response hup hs h] at he
  have hlog := log_frame d (fibreUnit port) 0 0x0102 3
  generalize d.log (fibreUnit port) 0 0x0102 3 = logged at he hlog
  have hlport : logged.fport port = d.fport port := by rw [hlog]; rfl
  obtain ⟨-, hround, hdisc, hskip⟩ := garbled_keeps index response (d.fport port)
  have hport : (logged.onFport port (FPort.garbled index response)).fport port = (d.fport port).garbled index response := by
    rw [fport_onFport _ _ _ fun x => (garbled_keeps index response x).1, hlport]
  rw [discardFrame_of_few (by rw [hport, hround]; exact hfew)] at he
  generalize ((logged.onFport port (FPort.garbled index response)).fport port).discRound + 1 = n at he
  have heport : e.fport port = ((d.fport port).garbled index response).discards n := by
    rw [← he, fport_onFport _ port (FPort.discards n) (fun _ => rfl), hport]
  refine ⟨?_, ?_, ?_⟩
  · rw [← he, hlog]
    rfl
  · rw [heport]
    exact hskip.trans (by rw [hs, Bool.false_or])
  · rw [heport]
    exact congrArg (· + 1) hdisc

end

/-! ## Timeouts (R331) -/

/-- The device with the threads, the Basin and the faults of another. -/
def lostOf (d e : Dev) : Dev := { d with cs := e.cs, ba := e.ba, fa := e.fa }

theorem lostOf_trans {d e g : Dev} (h : e = lostOf d e) (h2 : g = lostOf e g) : g = lostOf d g := by
  rw [h2, h]
  rfl

theorem loseFrame_lostOf (d : Dev) (tag : Nat) : d.loseFrame tag = lostOf d (d.loseFrame tag) := by
  unfold Dev.loseFrame
  dsimp only
  split <;> rfl

theorem ackWhole_lostOf (d : Dev) (port src transfer : Nat) : d.ackWhole port src transfer = lostOf d (d.ackWhole port src transfer) := by
  rw [lostOf, ackWhole_frame]

theorem respondRec_lostOf (d : Dev) (port : Nat) (r : Rec) (status : Nat) (data : List Byte) :
    d.respondRec port r status data = lostOf d (d.respondRec port r status data) := by
  rw [lostOf, Dev.respondRec, sendRec_frame]

theorem readBack_lostOf (d : Dev) (o : SwOp) (data : Option (List Byte)) : d.readBack o data = lostOf d (d.readBack o data) := by
  rw [lostOf, Dev.readBack, sendCell_frame]

theorem lose_finishThread_lostOf (d : Dev) (t : Thread) : (d.lose t true).finishThread t 1 [] = lostOf d ((d.lose t true).finishThread t 1 []) := rfl

/-- An operation that has no response ends; a leave under way counts it. -/
theorem timeoutOp_frame (d : Dev) (o : SwOp) :
    d.timeoutOp o =
      lostOf { d with sw.ops := d.sw.ops.erase o, sw.leaving := d.sw.leaving.map fun l => (l.1, l.2 + 1) } (d.timeoutOp o) := by
  unfold Dev.timeoutOp
  dsimp only
  split
  · exact lostOf_trans (loseFrame_lostOf _ _) (ackWhole_lostOf _ _ _ _)
  · exact lostOf_trans (loseFrame_lostOf _ _) (readBack_lostOf _ _ _)
  · split
    · exact lostOf_trans (loseFrame_lostOf _ _) (respondRec_lostOf _ _ _ _ _)
    · split
      · exact lose_finishThread_lostOf _ _
      · rfl

theorem spillwayTimeout_of_none {d : Dev} (h : d.sw.ops = []) (gen unit : Nat) : spillwayTimeout gen unit d = d := by
  unfold spillwayTimeout
  dsimp only
  rw [h]
  rfl

/-- The one operation under way, once its time is over. -/
theorem spillwayTimeout_one {d : Dev} {o : SwOp} {left : Nat} (h : d.sw.ops = [o]) (hl : o.left = some left) (hleave : d.sw.leaving = none) :
    spillwayTimeout o.gen o.unit d = (d.reach (left + d.sw.timeout * 1000)).timeoutOp o := by
  have hmine : (d.sw.ops.filter fun x => x.gen == o.gen && x.unit == o.unit && x.left.isSome) = [o] := by
    rw [h, List.filter_cons_of_pos (by simp [hl]), List.filter_nil]
  have hreach : (d.reach (left + d.sw.timeout * 1000)).sw = d.sw := by rw [(reach_frame d _).1]
  unfold spillwayTimeout
  dsimp only
  rw [hmine]
  change ((d.reach (o.left.getD 0 + d.sw.timeout * 1000)).timeoutOp o).leaveDone = _
  rw [hl, Option.getD_some]
  refine leaveDone_of_none ?_
  rw [timeoutOp_frame, lostOf]
  dsimp only
  rw [hreach, hleave, Option.map_none]

/-- What the one timeout leaves. -/
theorem spillwayTimeout_spec {d e : Dev} {o : SwOp} {left : Nat} (h : d.sw.ops = [o]) (hl : o.left = some left) (hleave : d.sw.leaving = none)
    (he : spillwayTimeout o.gen o.unit d = e) :
    e = { d with sw := e.sw, tb := e.tb, cs := e.cs, fa := e.fa, ba := e.ba } ∧ e.sw.ops = [] ∧
      e.tb.ns = max d.tb.ns (left + d.sw.timeout * 1000) := by
  rw [spillwayTimeout_one h hl hleave] at he
  obtain ⟨hframe, hns⟩ := reach_frame d (left + d.sw.timeout * 1000)
  have hend := timeoutOp_frame (d.reach (left + d.sw.timeout * 1000)) o
  rw [he] at hend
  generalize d.reach (left + d.sw.timeout * 1000) = r at hframe hns hend
  have hops : r.sw.ops.erase o = [] := by rw [hframe, h, List.erase_cons_head]
  refine ⟨?_, ?_, ?_⟩
  · rw [hend, hframe]
    rfl
  · rw [hend]
    exact hops
  · rw [hend]
    exact hns

/-! ## Frames that have waited too long (R338) -/

/-- Since when this module holds each transit frame of a port that crosses the Basin. -/
def Dev.crossing (port : Nat) (d : Dev) : List Nat := (d.ba.out.map (·.cell) ++ d.ba.recv.map (·.2.2)).filterMap (BCell.heldFor port)

/-- Whether a cell carries a frame of a port that is too old. -/
def BCell.stale (port : Nat) (old : Nat → Bool) (c : BCell) : Bool := (c.heldFor port).any old

/-- The device without the frames of a port that are too old. -/
def Dev.unheld (port : Nat) (old : Nat → Bool) (d : Dev) : Dev :=
  { (d.onFport port fun p => { p with queue := p.queue.filter fun x => !old x.since }) with
    sw.staleDiscard :=
      d.sw.staleDiscard + ((d.fport port).queue.filter fun x => old x.since).length +
        ((d.ba.out.filter fun q => q.cell.stale port old).map (·.cell) ++ (d.ba.recv.filter fun w => w.2.2.stale port old).map (·.2.2)).length
    sw.deliver := []
    ba.out := d.ba.out.filter fun q => !q.cell.stale port old
    ba.recv := d.ba.recv.filter fun w => !w.2.2.stale port old }

/-- The device once the frames of a port that are too old are discarded, and what they held is free. -/
def Dev.expire (port : Nat) (old : Nat → Bool) (d : Dev) : Dev :=
  let gone := (d.fport port).queue.filter fun x => old x.since
  let late := d.sw.deliver.filter fun e => e.1 == port && old e.2.1
  let cells := (d.ba.out.filter fun q => q.cell.stale port old).map (·.cell) ++ (d.ba.recv.filter fun w => w.2.2.stale port old).map (·.2.2)
  let d2 := d.onFport port fun p => { p with queue := p.queue.filter fun (x : TxFrame) => !old x.since }
  let d3 := { d2 with
              sw.staleDiscard := d2.sw.staleDiscard + gone.length + late.length + cells.length
              sw.deliver := d2.sw.deliver.filter fun e => !late.contains e
              ba.out := d2.ba.out.filter fun q => !q.cell.stale port old
              ba.recv := d2.ba.recv.filter fun w => !w.2.2.stale port old }
  let d4 := each gone Dev.unqueue d3
  let d5 := each late (fun e d => d.freeBuf e.1 false) d4
  each cells (fun c d => c.frame.elim d fun x => d.freeBuf port (isRsp x.2.2)) d5

/-- Frames that wait for their home too count as held. -/
def Dev.heldAt (port : Nat) (d : Dev) : List Nat :=
  ((d.fport port).queue.map (·.since)) ++ (d.sw.deliver.filter (·.1 == port)).map (·.2.1) ++
    (d.ba.out.filterMap fun q => q.cell.heldFor port) ++ d.ba.recv.filterMap fun w => w.2.2.heldFor port

theorem staleFrameExpiry_eq (d : Dev) (port : Nat) :
    staleFrameExpiry port d =
      match d.heldAt port with
      | [] => d
      | t :: ts =>
        (d.reach (ts.foldl min t + 10000000)).expire port fun since => decide (since + 10000000 ≤ (d.reach (ts.foldl min t + 10000000)).tb.ns) := rfl

theorem heldAt_eq {d : Dev} (hd : d.sw.deliver = []) (port : Nat) : d.heldAt port = (d.fport port).queue.map (·.since) ++ d.crossing port := by
  rw [Dev.heldAt, hd, Dev.crossing, List.filterMap_append, List.filterMap_map, List.filterMap_map]
  simp

/-- A port's frames expire: they are gone, and what they held is free. -/
theorem buffersFreed_expire {d : Dev} (hd : d.sw.deliver = []) (port : Nat) (old : Nat → Bool) : BuffersFreed (d.unheld port old) (d.expire port old) := by
  unfold Dev.expire
  extract_lets gone late cells d2 ba sw d3 d4 d5
  have hlate : late = [] := by simp only [late, hd, List.filter_nil]
  have hd3 : d3 = d.unheld port old := by
    have hdel : d2.sw.deliver = [] := hd
    simp only [d3, ba, sw, hdel, hlate, Dev.unheld, List.length_nil, Nat.add_zero, List.filter_nil]
    rfl
  refine .trans ?_ (buffersFreed_each (fun c e => ?_) cells d5)
  · refine .trans ?_ (buffersFreed_each (fun x e => buffersFreed_freeBuf e _ _) late d4)
    rw [← hd3]
    exact buffersFreed_each (fun x e => buffersFreed_unqueue e x) gone d3
  · cases c.frame with
    | none => exact .refl e
    | some x => exact buffersFreed_freeBuf e _ _

theorem fport_unheld (d : Dev) (port : Nat) (old : Nat → Bool) :
    (d.unheld port old).fport port = { d.fport port with queue := (d.fport port).queue.filter fun x => !old x.since } :=
  fport_onFport d port _ fun _ => rfl

/-- Of some cells, those that are not stale carry the frames that are not old, and each stale cell carries one old frame. -/
theorem heldFor_filter (port : Nat) (old : Nat → Bool) (cells : List BCell) :
    (cells.filter fun c => !c.stale port old).filterMap (BCell.heldFor port) = (cells.filterMap (BCell.heldFor port)).filter (fun t => !old t) ∧
      (cells.filter fun c => c.stale port old).length + ((cells.filterMap (BCell.heldFor port)).filter fun t => !old t).length =
        (cells.filterMap (BCell.heldFor port)).length := by
  induction cells with
  | nil => exact ⟨rfl, rfl⟩
  | cons c cs ih =>
    obtain ⟨ihkept, ihcount⟩ := ih
    cases hheld : c.heldFor port with
    | none =>
      have hstale : c.stale port old = false := by rw [BCell.stale, hheld, Option.any_none]
      simpa [List.filter_cons, List.filterMap_cons, hstale, hheld] using And.intro ihkept ihcount
    | some t =>
      have hstale : c.stale port old = old t := by rw [BCell.stale, hheld, Option.any_some]
      cases hold : old t
      · have hkept : (c :: cs).filter (fun c => !c.stale port old) = c :: cs.filter fun c => !c.stale port old :=
          List.filter_cons_of_pos (by simp [hstale, hold])
        have hgone : (c :: cs).filter (fun c => c.stale port old) = cs.filter fun c => c.stale port old :=
          List.filter_cons_of_neg (by simp [hstale, hold])
        rw [hkept, hgone, List.filterMap_cons_some hheld, List.filterMap_cons_some hheld, List.filter_cons_of_pos (by simp [hold]), ihkept]
        exact ⟨rfl, by simp only [List.length_cons]; omega⟩
      · have hkept : (c :: cs).filter (fun c => !c.stale port old) = cs.filter fun c => !c.stale port old :=
          List.filter_cons_of_neg (by simp [hstale, hold])
        have hgone : (c :: cs).filter (fun c => c.stale port old) = c :: cs.filter fun c => c.stale port old :=
          List.filter_cons_of_pos (by simp [hstale, hold])
        rw [hkept, hgone, List.filterMap_cons_some hheld, List.filter_cons_of_neg (by simp [hold]), ihkept]
        exact ⟨rfl, by simp only [List.length_cons]; omega⟩

/-- What crosses the Basin once the old frames are gone. -/
theorem crossing_unheld (d : Dev) (port : Nat) (old : Nat → Bool) : (d.unheld port old).crossing port = (d.crossing port).filter fun t => !old t := by
  rw [Dev.crossing, Dev.crossing, ← (heldFor_filter port old _).1, List.filter_append, List.filter_map, List.filter_map]
  rfl

/-- Every frame that was held is held still or counted as discarded. -/
theorem staleDiscard_unheld (d : Dev) (port : Nat) (old : Nat → Bool) :
    (d.unheld port old).sw.staleDiscard + ((d.unheld port old).fport port).queue.length + ((d.unheld port old).crossing port).length =
      d.sw.staleDiscard + (d.fport port).queue.length + (d.crossing port).length := by
  have hcells : (d.ba.out.filter fun q => q.cell.stale port old).map (·.cell) ++ (d.ba.recv.filter fun w => w.2.2.stale port old).map (·.2.2) =
      (d.ba.out.map (·.cell) ++ d.ba.recv.map (·.2.2)).filter fun c => c.stale port old := by
    rw [List.filter_append, List.filter_map, List.filter_map]
    rfl
  have hqueue : ((d.fport port).queue.filter fun x => old x.since).length + ((d.fport port).queue.filter fun x => !old x.since).length =
      (d.fport port).queue.length := by
    simpa using (@List.length_eq_length_filter_add _ (d.fport port).queue fun x => old x.since).symm
  have hcross := (heldFor_filter port old (d.ba.out.map (·.cell) ++ d.ba.recv.map (·.2.2))).2
  rw [crossing_unheld, fport_unheld, Dev.unheld, hcells, Dev.crossing]
  dsimp only
  omega

/-- The device that is left agrees with the one before but for the fabric, the cells and the count. -/
theorem freed_unheld_frame {d r e : Dev} {port : Nat} {old : Nat → Bool} (hr : r = { d with tb := r.tb }) (h : BuffersFreed (r.unheld port old) e) :
    e = { d with sw := e.sw, tb := e.tb, ba.out := e.ba.out, ba.recv := e.ba.recv } ∧ e.tb = r.tb ∧ e.ba = (r.unheld port old).ba ∧
      e.sw.staleDiscard = (r.unheld port old).sw.staleDiscard := by
  have he := h.frame
  generalize e.sw.ports = ports at he
  generalize e.sw.ops = ops at he
  generalize r.tb = tb at hr
  subst he hr
  exact ⟨rfl, rfl, rfl, rfl⟩

/-- What the frames that are too old leave of a port's. -/
theorem expire_spec {d r e : Dev} {port : Nat} {old : Nat → Bool} (hr : r = { d with tb := r.tb }) (hd : d.sw.deliver = [])
    (he : r.expire port old = e) :
    e = { d with sw := e.sw, tb := e.tb, ba.out := e.ba.out, ba.recv := e.ba.recv } ∧ e.tb = r.tb ∧
      (∀ x ∈ (e.fport port).queue, x ∈ (d.fport port).queue ∧ old x.since = false) ∧ (∀ since ∈ e.crossing port, old since = false) ∧
      e.sw.staleDiscard + (e.fport port).queue.length + (e.crossing port).length =
        d.sw.staleDiscard + (d.fport port).queue.length + (d.crossing port).length := by
  have hcross : r.crossing port = d.crossing port := by rw [hr]; rfl
  have hport : r.fport port = d.fport port := by rw [hr]; rfl
  have hcount : r.sw.staleDiscard = d.sw.staleDiscard := by rw [hr]
  have hfreed : BuffersFreed (r.unheld port old) (r.expire port old) := buffersFreed_expire (by rw [hr]; exact hd) port old
  rw [he] at hfreed
  obtain ⟨heframe, htb, hba, hdisc⟩ := freed_unheld_frame hr hfreed
  have hecross : e.crossing port = (d.crossing port).filter fun t => !old t := by
    rw [← hcross, ← crossing_unheld, Dev.crossing, hba, Dev.crossing]
  have hequeue : (e.fport port).queue = (d.fport port).queue.filter fun x => !old x.since := by
    rw [hfreed.queue, fport_unheld, hport]
  have hsum := staleDiscard_unheld r port old
  rw [crossing_unheld, fport_unheld, hcross, hport, hcount] at hsum
  rw [hecross, hequeue, hdisc]
  refine ⟨heframe, htb, fun x hx => ?_, fun since hs => ?_, hsum⟩
  · obtain ⟨hmem, hyes⟩ := List.mem_filter.mp hx
    exact ⟨hmem, Bool.not_eq_true' _ ▸ hyes⟩
  · exact Bool.not_eq_true' _ ▸ (List.mem_filter.mp hs).2

/-- What expires at a port: all that is left is younger than 10 ms, and what is gone is counted. -/
theorem staleFrameExpiry_spec {d e : Dev} {port : Nat} (hd : d.sw.deliver = []) (h : (d.fport port).queue ≠ [] ∨ d.crossing port ≠ [])
    (he : staleFrameExpiry port d = e) :
    e = { d with sw := e.sw, tb := e.tb, ba.out := e.ba.out, ba.recv := e.ba.recv } ∧
      (∀ x ∈ (e.fport port).queue, x ∈ (d.fport port).queue ∧ e.tb.ns < x.since + 10000000) ∧
      (∀ since ∈ e.crossing port, e.tb.ns < since + 10000000) ∧
      e.sw.staleDiscard + (e.fport port).queue.length + (e.crossing port).length =
        d.sw.staleDiscard + (d.fport port).queue.length + (d.crossing port).length := by
  obtain ⟨t, ts, hheld⟩ : ∃ t ts, d.heldAt port = t :: ts := by
    refine List.exists_cons_of_ne_nil fun hnil => ?_
    rw [heldAt_eq hd, List.append_eq_nil_iff, List.map_eq_nil_iff] at hnil
    exact h.elim (absurd hnil.1) (absurd hnil.2)
  rw [staleFrameExpiry_eq, hheld] at he
  dsimp only at he
  generalize ts.foldl min t + 10000000 = instant at he
  generalize hold : (fun since => decide (since + 10000000 ≤ (d.reach instant).tb.ns)) = old at he
  obtain ⟨hframe, htb, hqueue, hcross, hsum⟩ := expire_spec (reach_frame d instant).1 hd he
  have hyoung : ∀ since, old since = false → e.tb.ns < since + 10000000 := fun since hs => by
    rw [← hold] at hs
    rw [htb]
    exact Nat.lt_of_not_le (of_decide_eq_false hs)
  exact ⟨hframe, fun x hx => ⟨(hqueue x hx).1, hyoung _ (hqueue x hx).2⟩, fun since hs => hyoung _ (hcross since hs), hsum⟩

theorem staleFrameExpiry_of_none {d : Dev} {port : Nat} (hd : d.sw.deliver = []) (hq : (d.fport port).queue = []) (hc : d.crossing port = []) :
    staleFrameExpiry port d = d := by
  rw [staleFrameExpiry_eq, heldAt_eq hd, hq, hc]
  rfl

/-- Settles O50: what a frame, a codeword or a timeout does to its port, and what each frees. -/
theorem spillwaySending : Obligations.SpillwaySending := by
  rintro ⟨d, pending⟩ port c seq gen unit hp hdel
  dsimp only at hdel ⊢
  have hwf : decide (port < 8) = true := decide_eq_true hp
  refine ⟨?idle, ?sends, ?codeword, ?noCodeword, ?noMarker, ?marker, ?errors, ?skipping, ?noOps, ?timeout, ?noneStale, ?stale⟩
  case idle => exact fun hnone => run_of_same (frameTransmit_of_none hnone)
  case sends =>
    intro x hnext hup
    obtain ⟨hframe, hqueue, htx, hcredits, hsent⟩ := frameTransmit_spec hnext hup rfl
    exact ⟨_, @run_of_wf _ (.frameTransmit port) hwf (frameTransmit port), congrArg (State.mk · pending) hframe, hqueue, htx, hcredits,
      _, hsent, rfl, rfl, rfl, rfl⟩
  case codeword =>
    intro hup hskip
    have heq := idleCodeword_eq hdel port c
    rw [if_pos ⟨hup, by simp [hskip]⟩, credit_eq] at heq
    refine ⟨_, @run_of_wf _ (.idleCodeword port c) hwf _, ?_, ?_⟩ <;> dsimp only <;> rw [heq]
    · rfl
    · exact fport_onFport d port _ fun _ => rfl
  case noCodeword =>
    intro hdown
    refine run_of_same ?_
    rw [idleCodeword_eq hdel, if_neg fun h => hdown h.1]
  case noMarker => exact fun hdown ht => run_of_same (marker_of_down hdown ht _ _ _)
  case marker =>
    intro hup hm hk ht
    obtain ⟨⟨ports, heq⟩, hport⟩ := marker_plain hdel hup hm hk ht c 0 seq
    refine ⟨_, @run_of_wf _ (.marker port c 0 seq) hwf (marker port c 0 seq), ?_, ?_⟩ <;> dsimp only
    · rw [heq]
    · rw [hport, marked_start]
      rfl
  case errors =>
    intro index k wrong response hi hk hw hup hskip
    have hwf2 : (Instr.frameUncorrectable port ⟨index, k, wrong⟩ response).wf = true := by
      simpa [Instr.wf, hp, hi, hk] using hw
    refine ⟨fun hclean => ?_, fun hone => ?_, fun htwo hfew => ?_⟩
    · exact run_of_same (frameUncorrectable_of_clean index response hclean)
    · have heq := frameUncorrectable_corrects index response hup hskip hone
      refine ⟨_, run_of_wf hwf2 (frameUncorrectable port index k wrong response), ?_, ?_⟩ <;> dsimp only <;> rw [heq]
      · rfl
      · exact fport_onFport d port _ fun _ => rfl
    · obtain ⟨hframe, hskips, hdisc⟩ := frameUncorrectable_spec index response hup hskip htwo hfew rfl
      exact ⟨_, run_of_wf hwf2 (frameUncorrectable port index k wrong response), congrArg (State.mk · pending) hframe, hskips, hdisc⟩
  case skipping => exact fun hskip index k wrong response => run_of_same (frameUncorrectable_of_skipping index response hskip)
  case noOps => exact fun hnone => run_of_same (spillwayTimeout_of_none hnone gen unit)
  case timeout =>
    rintro o left hops rfl rfl hleft hleave
    obtain ⟨hframe, hnone, hns⟩ := spillwayTimeout_spec hops hleft hleave rfl
    exact ⟨_, @run_of_wf _ (.spillwayTimeout o.gen o.unit) rfl (spillwayTimeout o.gen o.unit), congrArg (State.mk · pending) hframe, hnone, hns⟩
  case noneStale => exact fun hq hc => run_of_same (staleFrameExpiry_of_none hdel hq hc)
  case stale =>
    intro hheld
    obtain ⟨hframe, hqueue, hcross, hsum⟩ := staleFrameExpiry_spec hdel hheld rfl
    exact ⟨_, @run_of_wf _ (.staleFrameExpiry port) hwf (staleFrameExpiry port), congrArg (State.mk · pending) hframe, hqueue, hcross, hsum⟩

end Sys2Proof.Machine
end

section
/-!
PROOFS. Rack barriers (chapter 10, R343 to R345): frames of a barrier, the round's arrivals, its release and its outcome.
-/

set_option Elab.async false

namespace Sys2Proof.Machine

/-! ## Barrier frames -/

/-- A barrier frame goes into the queue of the port that its route selects. -/
theorem sendBarrier_route {d : Dev} {node p : Nat} (h : d.route node = some p) (kind : Nat) (incomplete : Bool) (count : Nat) :
    ∃ f : Frame, d.sendBarrier kind node incomplete count = d.enqueue p d.tb.ns none f ∧ f.kind = kind ∧ f.dst = node ∧
      f.payload = barrierRecord d.rd.number d.sw.group incomplete count := by
  unfold Dev.sendBarrier
  dsimp only
  rw [h]
  exact ⟨_, rfl, rfl, rfl, rfl⟩

theorem sendBarrier_frame (d : Dev) (kind node : Nat) (incomplete : Bool) (count : Nat) :
    d.sendBarrier kind node incomplete count = { d with sw.ports := (d.sendBarrier kind node incomplete count).sw.ports } := by
  unfold Dev.sendBarrier
  dsimp only
  split <;> rfl

theorem barrierOutcome_frame (d : Dev) (arrivals outcome withdrawn : Nat) :
    d.barrierOutcome arrivals outcome withdrawn =
      { d with
        ba := (d.barrierOutcome arrivals outcome withdrawn).ba
        sw.outcome := some (d.rd.number, arrivals, outcome, withdrawn) } := by
  rw [Dev.barrierOutcome, sendCtl_frame]

/-- A barrier frame that comes from the fabric is acted on once its buffer is free again. -/
theorem barrierFrame_taken {d : Dev} {port : Nat} {f : Frame} (hs : Sound d port f) (hlt : f.kind < 0x80) (hfit : frameFits f = true)
    (hn : f.dst = d.sw.node) (hh : d.hg.devState ≠ .safeHold) (act : Dev → Dev) :
    ∃ ports, d.barrierFrame port f f.kind act = act { d with sw.ports := ports } := by
  have hrsp : isRsp f = false := by
    simp only [isRsp, decide_eq_false_iff_not]
    omega
  refine ⟨((d.tookIn port f).freeBuf port false).sw.ports, ?_⟩
  rw [Dev.barrierFrame, arrive_taken _ hs.up hs.heard hs.authentic (by simp) (by simp [hn]) hfit hs.epoch fun _ => hh]
  rfl

/-! ## Arrivals and the release (R343) -/

/-- A member's own arrival goes to its root. -/
theorem arriveBarrier_member {d : Dev} {q : Nat} (ha : d.sw.arrived = false) (hb : d.inBarrier = true) (hr : d.sw.role = 1)
    (hq : d.route d.sw.root = some q) (incomplete : Bool) :
    ∃ f : Frame, d.arriveBarrier incomplete = Dev.enqueue q d.tb.ns none f { d with sw.arrived := true } ∧ f.kind = 0x10 ∧ f.dst = d.sw.root ∧
      f.payload = barrierRecord d.rd.number d.sw.group incomplete 0 := by
  have hroute : ({ d with sw.arrived := true } : Dev).route d.sw.root = some q := (@route_congr d _ rfl (fun _ => rfl) _).trans hq
  obtain ⟨f, hf⟩ := sendBarrier_route hroute 0x10 incomplete 0
  refine ⟨f, ?_, hf.2⟩
  rw [← hf.1]
  unfold Dev.arriveBarrier
  dsimp only
  rw [if_neg (by simp [ha, hb]), if_neg (by simp [hr])]

/-- What the root's release writes. -/
theorem release_spec {d : Dev} (h : d.sw.released = false) :
    ∃ bad, d.release = { d with sw := d.release.sw, ba := d.release.ba } ∧ d.release.sw.released = true ∧
      d.release.sw.outcome = some (d.rd.number, d.sw.arrivals.length, bad, d.sw.withdrawn.length) ∧
      (bad = 0 ↔ (∀ n ∈ d.expectedNodes, d.sw.arrivals.any (·.1 == n) = true) ∧ d.sw.arrivals.any (·.2) = false) := by
  let bad := !(d.expectedNodes.all fun n => d.sw.arrivals.any (·.1 == n)) || d.sw.arrivals.any (·.2)
  let sends := fun (n : Nat) (e : Dev) => e.sendBarrier 0x11 n bad d.sw.arrivals.length
  let told := each (d.expectedNodes.filter (· != d.sw.node)) sends { d with sw.released := true }
  have htold : ∃ ports, told = { d with sw.released := true, sw.ports := ports } := by
    refine each_keeps (fun e : Dev => ∃ ports, e = { d with sw.released := true, sw.ports := ports }) sends (fun n e he => ?_) _ _ ⟨_, rfl⟩
    obtain ⟨ports, rfl⟩ := he
    exact ⟨_, sendBarrier_frame _ _ _ _ _⟩
  obtain ⟨ports, htold⟩ := htold
  have heq : d.release = told.barrierOutcome d.sw.arrivals.length (natOf bad) d.sw.withdrawn.length := by
    unfold Dev.release
    rw [h]
    rfl
  rw [heq, htold, barrierOutcome_frame]
  refine ⟨natOf bad, rfl, rfl, rfl, ?_⟩
  rw [← List.all_eq_true]
  simp only [bad]
  cases d.expectedNodes.all fun n => d.sw.arrivals.any (·.1 == n) <;> cases d.sw.arrivals.any (·.2) <;> simp [natOf]

/-- An arrival that leaves another one to come is counted and releases nothing. -/
theorem countArrival_more {d : Dev} {node : Nat} {incomplete : Bool} (h : d.sw.released = false) (he : d.expectedNodes.contains node = true)
    (ha : d.sw.arrivals.any (·.1 == node) = false) (hmore : ∃ n ∈ d.expectedNodes, n ≠ node ∧ d.sw.arrivals.any (·.1 == n) = false) :
    d.countArrival node incomplete = { d with sw.arrivals := d.sw.arrivals ++ [(node, incomplete)] } := by
  obtain ⟨n, hn, hne, hout⟩ := hmore
  have hnot : (d.expectedNodes.all fun n => (d.sw.arrivals ++ [(node, incomplete)]).any (·.1 == n)) = false := by
    refine List.all_eq_false.mpr ⟨n, hn, ?_⟩
    simp [List.any_append, hout, Ne.symm hne]
  unfold Dev.countArrival
  refine (if_neg ?_).trans (if_neg (Bool.eq_false_iff.mp hnot))
  rw [h, he, ha]
  exact Bool.false_ne_true

/-! ## The points of the round -/

theorem barrierArriveDeadline_eq (d : Dev) : barrierArriveDeadline d = d.onPoint .arriveDeadline (d.rd.period - 25000) (Dev.arriveBarrier true) := rfl

theorem barrierReleaseDeadline_eq (d : Dev) :
    barrierReleaseDeadline d =
      d.onPoint .releaseDeadline (d.rd.period - 15000) fun d => if d.sw.role = 2 ∧ d.inBarrier then d.release else d := rfl

theorem barrierMissed_eq (d : Dev) :
    barrierMissed d =
      d.onPoint .barrierMissed (d.rd.period - 10000) fun d => if d.sw.role = 1 ∧ d.inBarrier ∧ d.sw.outcome = none then d.barrierOutcome 0 2 0 else d :=
  rfl

section
variable {d : Dev} (hact : d.rd.active = true)
include hact

/-- With no operation under way the arrival is sent from the stage deadline on. -/
theorem barrierArriveSend_eq (ha : d.sw.arrived = false) (hops : d.coveredOps = false) (hin : d.inBarrier = true) :
    barrierArriveSend d = (d.reach (d.rd.start + d.rd.period - 40000)).arriveBarrier false :=
  if_neg (by simp [hact, ha, hops, hin])

omit hact in
/-- What a member's arrival at an instant changes. -/
theorem arriveBarrier_reach {e : Dev} {instant q : Nat} (ha : d.sw.arrived = false) (hr : d.sw.role = 1) (hq : d.route d.sw.root = some q)
    (hat : (d.reach instant).inBarrier = true) (he : (d.reach instant).arriveBarrier false = e) :
    ∃ tb x ports, e = { d with sw.arrived := true, sw.ports := ports, tb := tb } ∧ tb.ns = max d.tb.ns instant ∧
      (e.fport q).queue = (d.fport q).queue ++ [x] ∧ x.frame.kind = 0x10 ∧ x.frame.dst = d.sw.root ∧
      x.frame.payload = barrierRecord d.rd.number d.sw.group false 0 := by
  obtain ⟨hframe, hns⟩ := reach_frame d instant
  generalize d.reach instant = r at hframe hns hat he
  generalize r.tb = tb at hframe hns
  subst hframe
  obtain ⟨f, hf, hkind, hdst, hpay⟩ := @arriveBarrier_member { d with tb := tb } q ha hat hr hq false
  rw [hf] at he
  refine ⟨tb, { frame := f, since := tb.ns, from_ := none }, _, he.symm.trans (enqueue_frame _ _ _ _ _), hns, ?_, hkind, hdst, hpay⟩
  rw [← he, fport_enqueue]
  rfl

/-- What a point of the round that is to come finds. -/
theorem onPoint_exists {p : RoundPoint} (hp : d.rd.done.contains p = false) (offset : Nat) (f : Dev → Dev) :
    ∃ tb, d.onPoint p offset f = f { d with tb := tb, rd.done := p :: d.rd.done } ∧ tb.ns = max d.tb.ns (d.rd.start + offset) ∧
      ({ d with tb := tb, rd.done := p :: d.rd.done } : Dev).inBarrier = (d.reach (d.rd.start + offset)).inBarrier := by
  obtain ⟨hframe, hns⟩ := atRoundPoint_frame d p (d.rd.start + offset)
  refine ⟨_, ?_, hns, ?_⟩
  · rw [← hframe]
    exact onPoint_atRoundPoint hact hp offset f
  · rw [← hframe]
    rfl

end

section
variable {d : Dev} {port : Nat} {f : Frame} (hs : Sound d port f)
include hs

/-- A member hears that its root withdraws. -/
theorem barrierWithdraw_member (hkind : f.kind = 0x12) (hfit : frameFits f = true) (hn : f.dst = d.sw.node) (hh : d.hg.devState ≠ .safeHold)
    (hr : d.sw.role = 1) (hsrc : f.src = d.sw.root) (hround : d.ofRound f false = true) :
    ∃ ports, barrierWithdraw port f d = { d with sw.ports := ports, sw.rootOut := true, sw.rejoins := [] } := by
  unfold barrierWithdraw
  rw [← hkind]
  refine (barrierFrame_taken hs (by omega) hfit hn hh _).imp fun ports he => he.trans ?_
  have hround2 : ({ d with sw.ports := ports } : Dev).ofRound f false = true := hround
  dsimp only
  rw [if_neg (by rw [hround2]; exact Bool.false_ne_true), if_neg fun h => absurd (h.1.symm.trans hr) (by decide), if_pos ⟨hr, hsrc⟩]

/-- A member hears that its root joins again. -/
theorem barrierRejoin_member (hkind : f.kind = 0x13) (hfit : frameFits f = true) (hn : f.dst = d.sw.node) (hh : d.hg.devState ≠ .safeHold)
    (hr : d.sw.role = 1) (hsrc : f.src = d.sw.root) (hround : d.ofRound f false = true) :
    ∃ ports, barrierRejoin port f d = { d with sw.ports := ports, sw.rejoins := insertNew f.src d.sw.rejoins } := by
  unfold barrierRejoin
  rw [← hkind]
  refine (barrierFrame_taken hs (by omega) hfit hn hh _).imp fun ports he => he.trans ?_
  have hround2 : ({ d with sw.ports := ports } : Dev).ofRound f false = true := hround
  dsimp only
  rw [hround2, hr, hsrc]
  exact if_pos (by simp)

end

/-- Settles O52: a barrier frame is acted on once its buffer is free, a point of the round once its instant has come; what either does is one
change of the barrier's state. -/
theorem rackBarriers : Obligations.RackBarriers := by
  rintro ⟨d, pending⟩ port f w hp hf
  dsimp only
  have hwf : (decide (port < 8) && f.wf) = true := by simp [hp, hf]
  refine ⟨?idle, ?member, ?arrival, ?release, ?released, ?missed, ?withdraw, ?rejoin⟩
  case idle =>
    intro hact
    refine ⟨run_of_same ?_, run_of_same (onPoint_past d _ _ _ (.inl hact)), run_of_same (onPoint_past d _ _ _ (.inl hact)),
      run_of_same (onPoint_past d _ _ _ (.inl hact))⟩
    unfold barrierArriveSend
    rw [hact]
    rfl
  case member =>
    intro q hact ha hr hq
    refine ⟨fun hops hin hat => ?_, fun hdone hat => ?_⟩
    · obtain ⟨tb, x, ports, he, hns, hqueue, hx⟩ := arriveBarrier_reach ha hr hq hat rfl
      rw [← barrierArriveSend_eq hact ha hops hin] at he hqueue
      refine ⟨_, @run_of_wf _ .barrierArriveSend rfl barrierArriveSend, ?_, ?_, ?_, x, hqueue, hx⟩ <;> dsimp only <;> rw [he]
      exact hns
    · obtain ⟨tb, he, hns, hinb⟩ := onPoint_exists hact hdone (d.rd.period - 25000) (Dev.arriveBarrier true)
      rw [hat] at hinb
      obtain ⟨g, hg, -, -, hpay⟩ := @arriveBarrier_member { d with tb := tb, rd.done := .arriveDeadline :: d.rd.done } q ha hinb hr hq true
      rw [hg] at he
      refine ⟨_, @run_of_wf _ .barrierArriveDeadline rfl barrierArriveDeadline, ⟨?_, ?_⟩, ?_, ?_⟩ <;> dsimp only <;>
        rw [barrierArriveDeadline_eq, he]
      · rw [enqueue_frame]
      · exact hns
      · rfl
      · exact ⟨_, by rw [fport_enqueue]; rfl, hpay⟩
  case arrival =>
    rintro ⟨hkind, hup, hskip, hauth, hfit, hepoch, hn, hh⟩ hr hin hround hrel hexp hany hmore
    obtain ⟨ports, he⟩ := barrierFrame_taken ⟨hup, hskip, hauth, hepoch⟩ (by omega) hfit hn hh fun d =>
      if d.sw.role = 2 ∧ d.inBarrier ∧ d.ofRound f true then d.countArrival f.src (bitOf (u16 f.payload 10) 0) else d
    rw [hkind, if_pos ⟨hr, hin, hround⟩, @countArrival_more { d with sw.ports := ports } _ _ hrel hexp hany hmore] at he
    refine ⟨_, @run_of_wf _ (.barrierArrive port f) hwf (barrierArrive port f), ?_, ?_⟩ <;> dsimp only <;> rw [barrierArrive, he]
    exact ⟨rfl, hrel⟩
  case release =>
    intro hact hdone hr hat hrel
    obtain ⟨tb, he, hns, hinb⟩ := onPoint_exists hact hdone (d.rd.period - 15000) fun d => if d.sw.role = 2 ∧ d.inBarrier then d.release else d
    rw [hat] at hinb
    obtain ⟨bad, hframe, hyes, hout, hbad⟩ := @release_spec { d with tb := tb, rd.done := .releaseDeadline :: d.rd.done } hrel
    rw [if_pos ⟨hr, hinb⟩, hframe] at he
    refine ⟨_, @run_of_wf _ .barrierReleaseDeadline rfl barrierReleaseDeadline, ⟨?_, ?_⟩, ?_, bad, ?_, hbad⟩ <;> dsimp only <;>
      rw [barrierReleaseDeadline_eq, he]
    · exact hns
    · exact hyes
    · exact hout
  case released =>
    rintro ⟨hkind, hup, hskip, hauth, hfit, hepoch, hn, hh⟩ hr hin hsrc hround hnone
    obtain ⟨ports, he⟩ := barrierFrame_taken ⟨hup, hskip, hauth, hepoch⟩ (by omega) hfit hn hh fun d =>
      if d.sw.role = 1 ∧ d.inBarrier ∧ f.src = d.sw.root ∧ d.ofRound f true ∧ d.sw.outcome = none then
        d.barrierOutcome (u32 f.payload 12) (u16 f.payload 10 % 2) (w % 65536)
      else d
    rw [hkind, if_pos ⟨hr, hin, hsrc, hround, hnone⟩, barrierOutcome_frame] at he
    refine ⟨_, @run_of_wf _ (.barrierRelease port f w) hwf (barrierRelease port f w), ?_, ?_⟩ <;> dsimp only <;> rw [barrierRelease, he]
  case missed =>
    intro hact hdone hr hat hnone
    obtain ⟨tb, he, hns, hinb⟩ := onPoint_exists hact hdone (d.rd.period - 10000) fun d =>
      if d.sw.role = 1 ∧ d.inBarrier ∧ d.sw.outcome = none then d.barrierOutcome 0 2 0 else d
    rw [hat] at hinb
    rw [if_pos ⟨hr, hinb, hnone⟩, barrierOutcome_frame] at he
    refine ⟨_, @run_of_wf _ .barrierMissed rfl barrierMissed, ⟨?_, ?_⟩, ?_⟩ <;> dsimp only <;> rw [barrierMissed_eq, he]
    exact hns
  case withdraw =>
    rintro ⟨hkind, hup, hskip, hauth, hfit, hepoch, hn, hh⟩ hr hsrc hround
    obtain ⟨ports, he⟩ := barrierWithdraw_member ⟨hup, hskip, hauth, hepoch⟩ hkind hfit hn hh hr hsrc hround
    refine ⟨_, @run_of_wf _ (.barrierWithdraw port f) hwf (barrierWithdraw port f), ?_, ?_⟩ <;> dsimp only <;> rw [he]
    exact ⟨rfl, rfl⟩
  case rejoin =>
    rintro ⟨hkind, hup, hskip, hauth, hfit, hepoch, hn, hh⟩ hr hsrc hround
    obtain ⟨ports, he⟩ := barrierRejoin_member ⟨hup, hskip, hauth, hepoch⟩ hkind hfit hn hh hr hsrc hround
    refine ⟨_, @run_of_wf _ (.barrierRejoin port f) hwf (barrierRejoin port f), ?_, ?_⟩ <;> dsimp only <;> rw [he]

end Sys2Proof.Machine
end

section
/-!
PROOFS. The slot boundary of the Basin (chapter 07, R221 to R232): what the transfers that are fed, the changes that wait for a slot and the
matching may change.
-/

set_option Elab.async false

namespace Sys2Proof.Machine

/-! ## Transfers are fed (R223) -/

/-- The device with what feeding transfers may change taken from another. -/
def feedOf (d e : Dev) : Dev := { d with cs := e.cs, mem := e.mem, hg := e.hg, lg := e.lg, ba.out := e.ba.out }

/-- An address that is not of the Stands is noted when it is beyond the scratch. -/
def Dev.pastOwn (a : Nat) (d : Dev) : Dev := if standBase ≤ a then d else d.notePast a

/-- A piece within the site that cannot be moved (R102). -/
def Dev.pieceLost (x : Transfer) (o : Nat) (d : Dev) : Dev :=
  Dev.pastOwn (x.desc.remote + o) (Dev.pastOwn (x.desc.local_ + o)
    { d with cs.transfers := mapIf (·.tag == x.tag) (fun (y : Transfer) => { y with status := 2 }) d.cs.transfers })

theorem ownPiece_eq (d : Dev) (x : Transfer) (o n : Nat) :
    d.ownPiece x o n =
      match (if x.desc.isRead then d.readBytes (x.desc.remote + o) n else d.readLocal x.t.site (x.desc.local_ + o) n) with
      | none => d.pieceLost x o
      | some bs =>
        if (d.writeLocal x.t.site (if x.desc.isRead then x.desc.local_ + o else x.desc.remote + o) bs).2 then
          (d.writeLocal x.t.site (if x.desc.isRead then x.desc.local_ + o else x.desc.remote + o) bs).1
        else d.pieceLost x o := rfl

theorem feedOf_self (d : Dev) : d = feedOf d d := rfl

section FeedOf
variable {d e : Dev} (h : e = feedOf d e)
include h

theorem feedOf_trans {x : Dev} (hx : x = feedOf e x) : x = feedOf d x := by
  rw [hx, h]
  rfl

theorem feedOf_each {α : Type} (l : List α) {f : α → Dev → Dev} (hf : ∀ a e, e = feedOf d e → f a e = feedOf d (f a e)) :
    each l f e = feedOf d (each l f e) := each_keeps (fun x : Dev => x = feedOf d x) f hf l e h

theorem feedOf_sendRec (kind src dst : Nat) (r : Rec) : e.sendRec kind src dst r = feedOf d (e.sendRec kind src dst r) :=
  feedOf_trans h (by rw [feedOf, sendRec_frame])

theorem feedOf_sendCell (c : BCell) : e.sendCell c = feedOf d (e.sendCell c) := feedOf_trans h (by rw [feedOf, sendCell_frame])

theorem feedOf_notePast (a : Nat) : e.notePast a = feedOf d (e.notePast a) := by
  unfold Dev.notePast
  split
  · split
    · exact h
    · exact feedOf_trans h (by rw [feedOf, notice_frame])
  · exact h

theorem feedOf_partDone (tag status : Nat) (bytes : Option Nat) : e.partDone tag status bytes = feedOf d (e.partDone tag status bytes) := by
  unfold Dev.partDone
  split
  · extract_lets up y
    split
    · exact feedOf_trans h rfl
    · exact feedOf_trans h rfl
  · exact h

theorem feedOf_writeLocal (site a : Nat) (data : List Byte) : (e.writeLocal site a data).1 = feedOf d (e.writeLocal site a data).1 := by
  unfold Dev.writeLocal
  split
  · split
    · exact feedOf_trans h rfl
    · exact h
  · split
    · split
      · exact feedOf_trans h (by rw [feedOf, store_frame])
      · exact h
    · exact h

theorem feedOf_pieceLost (x : Transfer) (o : Nat) : e.pieceLost x o = feedOf d (e.pieceLost x o) := by
  have hpast : ∀ (g : Dev) (a : Nat), g = feedOf d g → g.pastOwn a = feedOf d (g.pastOwn a) := fun g a hg => by
    unfold Dev.pastOwn
    split
    · exact hg
    · exact feedOf_notePast hg a
  exact hpast _ _ (hpast _ _ (feedOf_trans h rfl))

theorem feedOf_ownPiece (x : Transfer) (o n : Nat) : e.ownPiece x o n = feedOf d (e.ownPiece x o n) := by
  rw [ownPiece_eq]
  split
  · exact feedOf_pieceLost h x o
  · generalize (if x.desc.isRead = true then x.desc.local_ + o else x.desc.remote + o) = a
    split
    · exact feedOf_writeLocal h _ _ _
    · exact feedOf_pieceLost h x o

theorem feedOf_hitPiece (x : Transfer) (tag o n : Nat) (bs : List Byte) : e.hitPiece x tag o n bs = feedOf d (e.hitPiece x tag o n bs) := by
  unfold Dev.hitPiece
  dsimp only
  split
  · exact feedOf_partDone (feedOf_writeLocal h _ _ _) _ _ _
  · exact feedOf_partDone h _ _ _

theorem feedOf_sendPiece (x : Transfer) (part : XferPart) (o n : Nat) : e.sendPiece x part o n = feedOf d (e.sendPiece x part o n) := by
  unfold Dev.sendPiece
  dsimp only
  split
  · split
    · exact feedOf_sendRec h _ _ _ _
    · exact feedOf_partDone h _ _ _
  · split
    · exact feedOf_ownPiece h x o n
    · split
      · split
        · exact feedOf_hitPiece h _ _ _ _ _
        · exact feedOf_sendRec h _ _ _ _
      · exact feedOf_sendCell h _

theorem feedOf_feed (tag fuel : Nat) : Dev.feed tag fuel e = feedOf d (Dev.feed tag fuel e) := by
  induction fuel generalizing e with
  | zero => exact h
  | succ fuel ih =>
    unfold Dev.feed
    split
    · extract_lets o n sent src whole
      split
      · split
        · exact h
        · extract_lets d1
          have h1 : d1 = feedOf d d1 := feedOf_sendPiece (feedOf_trans h rfl) _ _ _ _
          refine ih ?_
          split
          · exact feedOf_partDone h1 _ _ _
          · exact h1
      · exact h
    · exact h

end FeedOf

/-- What feeding the transfers may change. -/
theorem feedAll_feedOf (d : Dev) : d.feedAll = feedOf d d.feedAll := feedOf_each (feedOf_self d) _ fun tag _ he => feedOf_feed he tag 1024

/-! ## Matching and sending (R225 to R232) -/

/-- The device with what matching and sending may change taken from another. -/
def gridOf (d e : Dev) : Dev :=
  { d with
    ba.ports := e.ba.ports
    ba.out := e.ba.out
    ba.wire := e.ba.wire
    ba.matches_ := e.ba.matches_
    ba.pointers := e.ba.pointers
    ba.standing := e.ba.standing }

/-- A standing grant is updated. -/
def Dev.onStanding (g : Standing) (f : Standing → Standing) (d : Dev) : Dev :=
  { d with ba.standing := mapIf (fun x => x.plane == g.plane && x.src == g.src && x.dst == g.dst && x.graph == g.graph) f d.ba.standing }

/-- Whether a grant that is not used ends. -/
def Standing.stops (g : Standing) : Bool := !g.journal && decide (4096 ≤ g.unused + 1)

theorem useGrant_eq (d : Dev) (g : Standing) :
    d.useGrant g =
      match d.ba.out.find? fun q => q.port == g.src && q.plane == g.plane && q.cell.dst == g.dst && decide (q.since + 4 ≤ d.ba.slotStart) with
      | some q =>
        if d.freeEntries g.dst g.plane = 0 then d
        else (d.transmit g.plane [g.dst] true q).onStanding g fun x => { x with unused := 0, used := x.used + 1 }
      | none =>
        if g.stops then
          (d.onStanding g fun x => { x with unused := x.unused + 1, suspended := g.stops, wake := false }).onPort g.src g.plane fun p =>
            { p with suspended := p.suspended + 1 }
        else d.onStanding g fun x => { x with unused := x.unused + 1, suspended := g.stops, wake := false } := rfl

theorem gridOf_self (d : Dev) : d = gridOf d d := rfl

section GridOf
variable {d e : Dev} (h : e = gridOf d e)
include h

theorem gridOf_trans {x : Dev} (hx : x = gridOf e x) : x = gridOf d x := by
  rw [hx, h]
  rfl

theorem gridOf_each {α : Type} (l : List α) {f : α → Dev → Dev} (hf : ∀ a e, e = gridOf d e → f a e = gridOf d (f a e)) :
    each l f e = gridOf d (each l f e) := each_keeps (fun x : Dev => x = gridOf d x) f hf l e h

theorem gridOf_onPort (p q : Nat) (f : PlanePort → PlanePort) : e.onPort p q f = gridOf d (e.onPort p q f) := gridOf_trans h rfl

theorem gridOf_transmit (plane : Nat) (dsts : List Nat) (standing : Bool) (q : Queued) :
    e.transmit plane dsts standing q = gridOf d (e.transmit plane dsts standing q) := gridOf_trans h rfl

theorem gridOf_resumeGrants (slot : Nat) : e.resumeGrants slot = gridOf d (e.resumeGrants slot) := by
  unfold Dev.resumeGrants
  split
  · exact gridOf_trans h rfl
  · exact h

theorem gridOf_sendMatched (slot : Nat) (reserved : List Standing) : e.sendMatched slot reserved = gridOf d (e.sendMatched slot reserved) := by
  unfold Dev.sendMatched
  extract_lets now clash one
  refine gridOf_each (gridOf_trans h rfl) _ fun m x hx => ?_
  unfold one
  split
  · split
    · exact gridOf_transmit hx _ _ _ _
    · exact hx
  · exact hx

theorem gridOf_onStanding (g : Standing) (f : Standing → Standing) : e.onStanding g f = gridOf d (e.onStanding g f) := gridOf_trans h rfl

theorem gridOf_useGrant (g : Standing) : e.useGrant g = gridOf d (e.useGrant g) := by
  rw [useGrant_eq]
  split
  · split
    · exact h
    · exact gridOf_onStanding (gridOf_transmit h _ _ _ _) _ _
  · split
    · exact gridOf_onPort (gridOf_onStanding h _ _) _ _ _
    · exact gridOf_onStanding h _ _

theorem gridOf_countAged (slot : Nat) : e.countAged slot = gridOf d (e.countAged slot) :=
  gridOf_each h _ fun _ _ hx => gridOf_onPort hx _ _ _

theorem gridOf_matchPlane (plane slot : Nat) : e.matchPlane plane slot = gridOf d (e.matchPlane plane slot) := by
  unfold Dev.matchPlane
  extract_lets tx res room cascade reqs srcs0 dsts0 old aged one two three pairs d1
  split
  · exact h
  · have h1 : d1 = gridOf d d1 := gridOf_each h _ fun p x hx => gridOf_trans hx rfl
    exact gridOf_trans h1 rfl

theorem gridOf_latchSlot (slot : Nat) : e.latchSlot slot = gridOf d (e.latchSlot slot) := gridOf_trans h rfl

end GridOf

/-- The work of a slot, once what waited for it has taken effect. -/
def Dev.slotWork (slot : Nat) (d : Dev) : Dev :=
  let live := (List.range 4).filter fun p => !d.ba.failed.contains p
  let reserved := (live.map fun p => d.reserved p slot).flatten
  let d2 := each reserved Dev.useGrant (d.sendMatched slot reserved)
  (each live (fun p => Dev.matchPlane p slot) (d2.countAged slot)).latchSlot slot

theorem slotWork_gridOf (d : Dev) (slot : Nat) : d.slotWork slot = gridOf d (d.slotWork slot) := by
  unfold Dev.slotWork
  extract_lets live reserved d2
  have h2 : d2 = gridOf d d2 := gridOf_each (gridOf_sendMatched (gridOf_self d) slot reserved) _ fun g _ he => gridOf_useGrant he g
  exact gridOf_latchSlot (gridOf_each (gridOf_countAged h2 slot) _ fun p _ he => gridOf_matchPlane he p slot) slot

/-! ## What waits for a slot (R222, R257) -/

/-- A device whose clock and slots stand where those of another do. -/
def SameSlot (d e : Dev) : Prop := e.tb = d.tb ∧ e.ba.slot = d.ba.slot ∧ e.ba.slotStart = d.ba.slotStart

theorem SameSlot.trans {d e x : Dev} (h : SameSlot d e) (h2 : SameSlot e x) : SameSlot d x :=
  ⟨h2.1.trans h.1, h2.2.1.trans h.2.1, h2.2.2.trans h.2.2⟩

theorem sameSlot_of_gridOf {d e : Dev} (h : e = gridOf d e) : SameSlot d e := by
  rw [h]
  exact ⟨rfl, rfl, rfl⟩

theorem sameSlot_of_lossOf {d e : Dev} (h : e = lossOf d e) : SameSlot d e := by
  rw [h]
  exact ⟨rfl, rfl, rfl⟩

theorem sameSlot_each {α : Type} {f : α → Dev → Dev} (hf : ∀ a e, SameSlot e (f a e)) (l : List α) (d : Dev) : SameSlot d (each l f d) :=
  each_keeps (SameSlot d) f (fun a e he => he.trans (hf a e)) l d ⟨rfl, rfl, rfl⟩

theorem sameSlot_log (d : Dev) (u o c v : Nat) : SameSlot d (d.log u o c v) := by
  rw [log_frame]
  exact ⟨rfl, rfl, rfl⟩

theorem sameSlot_checkMinimum (d : Dev) : SameSlot d d.checkMinimum := by
  rw [checkMinimum_frame]
  exact ⟨rfl, rfl, rfl⟩

theorem sameSlot_cutOff (d : Dev) (port : Nat) : SameSlot d (d.cutOff port) := by
  unfold Dev.cutOff
  split
  · exact ⟨rfl, rfl, rfl⟩
  · split
    · rw [siteOut_frame]
      exact ⟨rfl, rfl, rfl⟩
    · split <;> exact ⟨rfl, rfl, rfl⟩

theorem sameSlot_retireNow (d : Dev) (port plane : Nat) : SameSlot d (d.retireNow port plane) := by
  unfold Dev.retireNow
  split
  · exact ⟨rfl, rfl, rfl⟩
  · extract_lets d1 src d2
    have h1 : SameSlot d { d1 with ba.out := d1.ba.out.filter fun q => !(q.plane == plane && q.port == port) } := ⟨rfl, rfl, rfl⟩
    have h2 : SameSlot d d2 := h1.trans ((sameSlot_log _ _ _ _ _).trans ⟨rfl, rfl, rfl⟩)
    exact h2.trans ((sameSlot_cutOff d2 port).trans (sameSlot_checkMinimum _))

/-- A steering that is due takes effect. -/
def Dev.steered (e : Nat × Nat × Nat) (d : Dev) : Dev := (d.freePort .switchPort e.1 e.2.1).onPort e.1 e.2.1 fun p => { p with steer := some e.2.2 }

/-- The standing grants of the round are placed when they are due. -/
def Dev.grantsPlaced (d : Dev) : Dev := if d.ba.dueGrants then Dev.placeGrants { d with ba.dueGrants := false } else d

theorem basinChanges_eq (d : Dev) :
    d.basinChanges =
      (each d.ba.dueRetire (fun e => Dev.retireNow e.1 e.2) (each d.ba.dueSteer Dev.steered { d with ba.dueSteer := [], ba.dueRetire := [] })).grantsPlaced :=
  rfl

theorem grantsPlaced_frame (d : Dev) : ∃ standing dueGrants, d.grantsPlaced = { d with ba.standing := standing, ba.dueGrants := dueGrants } := by
  unfold Dev.grantsPlaced
  split <;> exact ⟨_, _, rfl⟩

theorem steered_frame (e : Nat × Nat × Nat) (d : Dev) : ∃ ports, d.steered e = { d with ba.ports := ports } := ⟨_, rfl⟩

theorem sameSlot_steered (e : Nat × Nat × Nat) (d : Dev) : SameSlot d (d.steered e) := ⟨rfl, rfl, rfl⟩

theorem sameSlot_grantsPlaced (d : Dev) : SameSlot d d.grantsPlaced := by
  obtain ⟨standing, dueGrants, hg⟩ := grantsPlaced_frame d
  rw [hg]
  exact ⟨rfl, rfl, rfl⟩

theorem sameSlot_basinChanges (d : Dev) : SameSlot d d.basinChanges := by
  have hsteer : SameSlot d (each d.ba.dueSteer Dev.steered { d with ba.dueSteer := [], ba.dueRetire := [] }) :=
    SameSlot.trans ⟨rfl, rfl, rfl⟩ (sameSlot_each sameSlot_steered _ _)
  rw [basinChanges_eq]
  exact (hsteer.trans (sameSlot_each (fun (e : Nat × Nat) x => sameSlot_retireNow x e.1 e.2) _ _)).trans (sameSlot_grantsPlaced _)

theorem lossOf_tuneSpare {d e : Dev} (h : e = lossOf d e) (port plane idx : Nat) (side : Side) :
    e.tuneSpare port plane idx side = lossOf d (e.tuneSpare port plane idx side) := by
  cases side
  · exact h
  · exact lossOf_onRing h _ _

theorem lossOf_waitRelock {d e : Dev} (h : e = lossOf d e) (port plane : Nat) : e.waitRelock port plane = lossOf d (e.waitRelock port plane) :=
  lossOf_onOptic (lossOf_onPort h _ _ _) _ _ _

theorem lossOf_spareNow {d e : Dev} (h : e = lossOf d e) (port plane : Nat) (side : Side) (lane : Nat) (relocks : Bool) :
    e.spareNow port plane side lane relocks = lossOf d (e.spareNow port plane side lane relocks) := by
  unfold Dev.spareNow
  dsimp only
  split
  · split
    · exact lossOf_waitRelock h _ _
    · exact h
  · split
    · exact lossOf_locateLoss (lossOf_tuneSpare (lossOf_onOptic h _ _ _) _ _ _ _) _ _ _
    · split
      · split
        · exact lossOf_waitRelock h _ _
        · exact h
      · split
        · exact lossOf_tuneSpare (lossOf_onOptic h _ _ _) _ _ _ _
        · split
          · exact lossOf_waitRelock h _ _
          · exact lossOf_retirePort h _ _

theorem lossOf_opticNow {d e : Dev} (h : e = lossOf d e) (m : OpticMove) : e.opticNow m = lossOf d (e.opticNow m) := by
  cases m with
  | spare port plane side lane relocks => exact lossOf_spareNow h _ _ _ _ _
  | back port plane side lane =>
    unfold Dev.opticNow
    dsimp only
    split
    · exact lossOf_onOptic h _ _ _
    · exact h
  | code id code => exact lossOf_onRing h _ _

theorem sameSlot_opticChanges (d : Dev) : SameSlot d d.opticChanges := by
  unfold Dev.opticChanges
  extract_lets lanes
  have hmoves := sameSlot_of_lossOf (lossOf_each (lossOf_self { d with op.due := [] }) (lanes ++ d.op.due.filter (·.lane.isNone))
    fun m _ he => lossOf_opticNow he m)
  exact SameSlot.trans hmoves ⟨rfl, rfl, rfl⟩

/-- With no port to retire the round's changes touch ports and grants. -/
theorem basinChanges_of_none {d : Dev} (h : d.ba.dueRetire = []) :
    ∃ ports standing dueGrants, d.basinChanges =
      { d with ba.ports := ports, ba.standing := standing, ba.dueSteer := [], ba.dueRetire := [], ba.dueGrants := dueGrants } := by
  have hsteer : ∃ ports, each d.ba.dueSteer Dev.steered { d with ba.dueSteer := [], ba.dueRetire := [] } =
      { d with ba.ports := ports, ba.dueSteer := [], ba.dueRetire := [] } := by
    refine each_keeps (fun x : Dev => ∃ ports, x = { d with ba.ports := ports, ba.dueSteer := [], ba.dueRetire := [] }) Dev.steered (fun e x hx => ?_) _ _
      ⟨_, rfl⟩
    obtain ⟨ports, rfl⟩ := hx
    exact steered_frame e _
  obtain ⟨ports, hsteer⟩ := hsteer
  rw [basinChanges_eq, h, hsteer]
  obtain ⟨standing, dueGrants, hg⟩ := grantsPlaced_frame { d with ba.ports := ports, ba.dueSteer := [], ba.dueRetire := [] }
  exact ⟨ports, standing, dueGrants, hg⟩

/-- With no change waiting the optics' traffic follows its calibration alone. -/
theorem opticChanges_of_none {d : Dev} (h : d.op.due = []) : d.opticChanges = { d with op := d.opticChanges.op } := by
  unfold Dev.opticChanges
  rw [h]
  rfl

end Sys2Proof.Machine
end

section
/-!
PROOFS. The Basin's receivers, its failures and its planes (chapter 07, R217 to R222, R238 to R242, R247, R457).
-/

set_option Elab.async false

namespace Sys2Proof.Machine

/-! ## The slot boundary -/

theorem slotBoundary_down {d : Dev} (h : d.ba.up = false) : slotBoundary d = d := if_pos (by rw [h]; rfl)

theorem slotBoundary_eq {d : Dev} (h : d.ba.up = true) :
    slotBoundary d =
      (({ (d.reach (d.ba.slotStart + 28)).feedAll with ba.slot := d.ba.slot + 1, ba.slotStart := d.ba.slotStart + 28 } :
        Dev).basinChanges.opticChanges.resumeGrants (d.ba.slot + 1)).slotWork (d.ba.slot + 1) := by
  unfold slotBoundary
  rw [if_neg (by rw [h]; exact Bool.false_ne_true)]
  rfl

theorem gridOf_of_work {d e : Dev} {slot : Nat} (he : (d.resumeGrants slot).slotWork slot = e) : e = gridOf d e := by
  rw [← he]
  exact gridOf_trans (gridOf_resumeGrants (gridOf_self d) slot) (slotWork_gridOf _ slot)

/-- A slot lasts 28 ns. -/
theorem slotBoundary_clock {d e : Dev} (h : d.ba.up = true) (he : slotBoundary d = e) :
    e.tb.ns = max d.tb.ns (d.ba.slotStart + 28) ∧ e.ba.slot = d.ba.slot + 1 ∧ e.ba.slotStart = d.ba.slotStart + 28 := by
  rw [slotBoundary_eq h] at he
  obtain ⟨-, hns⟩ := reach_frame d (d.ba.slotStart + 28)
  have htb : (d.reach (d.ba.slotStart + 28)).feedAll.tb = (d.reach (d.ba.slotStart + 28)).tb := by rw [feedAll_feedOf]; rfl
  obtain ⟨hetb, hslot, hstart⟩ := ((sameSlot_basinChanges { (d.reach (d.ba.slotStart + 28)).feedAll with
    ba.slot := d.ba.slot + 1, ba.slotStart := d.ba.slotStart + 28 }).trans (sameSlot_opticChanges _)).trans
    (sameSlot_of_gridOf (gridOf_of_work he))
  exact ⟨by rw [hetb]; exact (congrArg (·.ns) htb).trans hns, hslot, hstart⟩

/-- With nothing waiting for the slot, planes, receive buffers and partial transfers stand. -/
theorem slotBoundary_quiet {d e : Dev} (h : d.ba.up = true) (hretire : d.ba.dueRetire = []) (hdue : d.op.due = []) (he : slotBoundary d = e) :
    e = { d with tb := e.tb, ba := e.ba, op := e.op, cs := e.cs, mem := e.mem, hg := e.hg, lg := e.lg } ∧
      e.ba.failed = d.ba.failed ∧ e.ba.recv = d.ba.recv ∧ e.ba.partials = d.ba.partials := by
  rw [slotBoundary_eq h] at he
  obtain ⟨hreach, -⟩ := reach_frame d (d.ba.slotStart + 28)
  generalize d.reach (d.ba.slotStart + 28) = r at he hreach
  have hfeed := feedAll_feedOf r
  generalize r.feedAll = fed at he hfeed
  generalize r.tb = tb at hreach
  subst hreach
  obtain ⟨ports, standing, dueGrants, hbasin⟩ :=
    @basinChanges_of_none { fed with ba.slot := d.ba.slot + 1, ba.slotStart := d.ba.slotStart + 28 } (by rw [hfeed]; exact hretire)
  rw [hbasin, opticChanges_of_none (by rw [hfeed]; exact hdue)] at he
  have hgrid := gridOf_of_work he
  generalize Dev.op (Dev.opticChanges _) = op at hgrid
  rw [hfeed] at hgrid
  rw [hgrid]
  exact ⟨rfl, rfl, rfl, rfl⟩

/-! ## Cells received (R218, R242) -/

theorem corrections_frame (d : Dev) (p q n : Nat) :
    d.corrections p q n = { d with ba.ports := (d.corrections p q n).ba.ports, op := (d.corrections p q n).op } := by
  unfold Dev.corrections
  dsimp only
  split <;> rfl

theorem pport_corrections (d : Dev) (p q n : Nat) :
    (d.corrections p q n).pport p q = { d.pport p q with corrected := (d.pport p q).corrected + n, corrRound := (d.pport p q).corrRound + n } := by
  have hport := pport_onPort d p q (fun x => { x with corrected := x.corrected + n, corrRound := (d.pport p q).corrRound + n }) fun _ => ⟨rfl, rfl⟩
  unfold Dev.corrections
  dsimp only
  split
  · exact hport
  · exact hport

theorem cellReceive_none {d : Dev} {port plane : Nat} {astray : Option (Nat × Nat)}
    (h : d.ba.wire.find? (fun w => (w.1, w.2.1) == astray.getD (port, plane)) = none) (wrong : List (Nat × Nat)) :
    cellReceive port plane wrong astray d = d := by
  unfold cellReceive
  dsimp only
  rw [h]

theorem few_of_correctable {errors : List Nat} (h : ∀ x ∈ errors, x ≤ 1) : (errors.any fun x => decide (2 ≤ x)) = false := by
  rw [List.any_eq_false]
  intro x hx
  have := h x hx
  simp only [decide_eq_true_eq]
  omega

/-- The device once a cell has left the wire and its corrected codewords are counted. -/
def Dev.unwired (port plane n : Nat) (w : Nat × Nat × BCell) (d : Dev) : Dev :=
  ({ d with ba.wire := d.ba.wire.erase w } : Dev).corrections port plane n

theorem unwired_frame (d : Dev) (port plane n : Nat) (w : Nat × Nat × BCell) :
    ∃ ports op, d.unwired port plane n w = { d with ba.wire := d.ba.wire.erase w, ba.ports := ports, op := op } :=
  ⟨_, _, corrections_frame _ port plane n⟩

theorem pport_unwired (d : Dev) (port plane n : Nat) (w : Nat × Nat × BCell) :
    (d.unwired port plane n w).pport port plane =
      { d.pport port plane with corrected := (d.pport port plane).corrected + n, corrRound := (d.pport port plane).corrRound + n } :=
  pport_corrections _ port plane n

theorem unitKind_switchUnit {port plane : Nat} (hp : port < 55) (hq : plane < 4) :
    unitKind (switchUnit port plane 0) = 7 ∧ unitPlace (switchUnit port plane 0) = port ∧ bitsOf (switchUnit port plane 0) 47 40 = plane := by
  unfold unitKind unitPlace switchUnit unitId bitsOf
  omega

theorem beginTest_of_switchKind {d : Dev} {unit : Nat} (h : unitKind unit = 7) :
    d.beginTest unit =
      let d1 := { d with fa.testing := insertNew unit d.fa.testing }
      if (d1.optic (unitPlace unit) (bitsOf unit 47 40)).cal.isSome then
        d1.onPort (unitPlace unit) (bitsOf unit 47 40) fun p => { p with testWaits := true }
      else d1.holdPort .selfTest (unitPlace unit) (bitsOf unit 47 40) := by
  unfold Dev.beginTest
  rw [h]
  rfl

/-- The test of a switch port holds its plane port, or waits for the calibration there. -/
theorem beginTest_switch {d : Dev} {port plane : Nat} (hp : port < 55) (hq : plane < 4) :
    (∃ ports, d.beginTest (switchUnit port plane 0) =
      { d with fa.testing := insertNew (switchUnit port plane 0) d.fa.testing, ba.ports := ports }) ∧
      ((d.beginTest (switchUnit port plane 0)).pport port plane).misdelivered = (d.pport port plane).misdelivered := by
  obtain ⟨hkind, hplace, hplane⟩ := unitKind_switchUnit hp hq
  rw [beginTest_of_switchKind hkind, hplace, hplane]
  dsimp only
  split
  · exact ⟨⟨_, rfl⟩, congrArg (·.misdelivered) (pport_onPort _ port plane (fun p => { p with testWaits := true }) fun _ => ⟨rfl, rfl⟩)⟩
  · exact ⟨⟨_, rfl⟩, congrArg (·.misdelivered) (pport_onPort _ port plane (fun p => { p with holds := insertNew .selfTest p.holds }) fun _ => ⟨rfl, rfl⟩)⟩

/-- A misdelivery while all is calm is counted, and the switch port is tested. -/
theorem misdelivered_calm {d : Dev} {port plane : Nat} (hp : port < 55) (hq : plane < 4) (hc : d.calm) :
    (∃ ports fa, d.misdelivered port plane = { d with ba.ports := ports, fa := fa }) ∧
      ((d.misdelivered port plane).pport port plane).misdelivered = (d.pport port plane).misdelivered + 1 ∧
      switchUnit port plane 0 ∈ (d.misdelivered port plane).fa.testing := by
  have hport := pport_onPort d port plane (fun p => { p with misdelivered := p.misdelivered + 1 }) fun _ => ⟨rfl, rfl⟩
  have htest : testable (switchUnit port plane 0) = true := by
    unfold testable
    rw [(unitKind_switchUnit hp hq).1]
    rfl
  unfold Dev.misdelivered
  generalize hcount : (d.onPort port plane fun p => { p with misdelivered := p.misdelivered + 1 }) = x at hport
  have hxc : x.calm := by rw [← hcount]; exact hc
  rw [(reportFault_calm hxc _).1, if_pos htest]
  obtain ⟨⟨ports, hframe⟩, hmis⟩ :=
    @beginTest_switch { x with fa.queue := [{ unit := switchUnit port plane 0, kind := .unit }] } port plane hp hq
  refine ⟨?_, ?_, ?_⟩
  · rw [hframe, ← hcount]
    exact ⟨_, _, rfl⟩
  · exact hmis.trans (congrArg (·.misdelivered) hport)
  · rw [hframe]
    exact mem_insertNew _ _

section
variable {d e : Dev} {port plane : Nat} {wrong : List (Nat × Nat)} {astray : Option (Nat × Nat)} {w : Nat × Nat × BCell}
  (hw : d.ba.wire.find? (fun w => (w.1, w.2.1) == astray.getD (port, plane)) = some w) (he : cellReceive port plane wrong astray d = e)
include hw

theorem cellReceive_some :
    cellReceive port plane wrong astray d =
      let errors := d.wrongSymbols w.2.2.src port plane wrong
      let d1 := d.unwired port plane (errors.filter (· == 1)).length w
      if errors.any (decide <| 2 ≤ ·) then (d1.log (d1.switchOf port plane) 0 0x0102 2).discard port plane
      else if !w.2.2.accepts port plane then d1.misdelivered port plane
      else
        let d2 := d1.onPort port plane fun p => { p with received := p.received + 1 }
        { d2 with ba.recv := d2.ba.recv ++ [(port, plane, { w.2.2 with arrived := d.ba.slot })] } := by
  unfold cellReceive
  dsimp only
  rw [hw]
  rfl

include he

/-- A cell that its receiver accepts joins the receive buffer. -/
theorem cellReceive_accepts (ha : w.2.2.accepts port plane = true) (hok : ∀ x ∈ d.wrongSymbols w.2.2.src port plane wrong, x ≤ 1) :
    e = { d with ba := e.ba, op := e.op } ∧ e.ba.wire = d.ba.wire.erase w ∧
      e.ba.recv = d.ba.recv ++ [(port, plane, { w.2.2 with arrived := d.ba.slot })] ∧
      (e.pport port plane).received = (d.pport port plane).received + 1 ∧
      (e.pport port plane).corrected =
        (d.pport port plane).corrected + ((d.wrongSymbols w.2.2.src port plane wrong).filter (· == 1)).length := by
  rw [cellReceive_some hw] at he
  dsimp only at he
  rw [few_of_correctable hok, if_neg Bool.false_ne_true, if_neg (by rw [ha]; exact Bool.false_ne_true)] at he
  generalize ((d.wrongSymbols w.2.2.src port plane wrong).filter (· == 1)).length = n at he ⊢
  obtain ⟨ports, op, hframe⟩ := unwired_frame d port plane n w
  have hport := pport_unwired d port plane n w
  generalize d.unwired port plane n w = x at he hframe hport
  have heport : e.pport port plane = { x.pport port plane with received := (x.pport port plane).received + 1 } := by
    rw [← he]
    exact pport_onPort x port plane (fun p => { p with received := p.received + 1 }) fun _ => ⟨rfl, rfl⟩
  rw [heport, hport]
  subst hframe he
  exact ⟨rfl, rfl, rfl, rfl, rfl⟩

/-- A cell that cannot be corrected is discarded. -/
theorem cellReceive_discards (hbad : ∃ x ∈ d.wrongSymbols w.2.2.src port plane wrong, 2 ≤ x) (hfew : (d.pport port plane).discRound ≠ 4) :
    e = { d with ba := e.ba, op := e.op, lg := e.lg, hg := e.hg } ∧ e.ba.wire = d.ba.wire.erase w ∧ e.ba.recv = d.ba.recv ∧
      (e.pport port plane).discarded = (d.pport port plane).discarded + 1 := by
  have hany : ((d.wrongSymbols w.2.2.src port plane wrong).any fun x => decide (2 ≤ x)) = true := by
    obtain ⟨x, hx, hle⟩ := hbad
    exact List.any_eq_true.mpr ⟨x, hx, decide_eq_true hle⟩
  rw [cellReceive_some hw] at he
  dsimp only at he
  rw [hany, if_pos rfl] at he
  generalize ((d.wrongSymbols w.2.2.src port plane wrong).filter (· == 1)).length = n at he
  obtain ⟨ports, op, hframe⟩ := unwired_frame d port plane n w
  have hport := pport_unwired d port plane n w
  generalize d.unwired port plane n w = x at he hframe hport
  have hlog := log_frame x (x.switchOf port plane) 0 0x0102 2
  generalize x.log (x.switchOf port plane) 0 0x0102 2 = logged at he hlog
  have hlport : logged.pport port plane = x.pport port plane := pport_congr (by rw [hlog]) port plane
  have hround : (logged.pport port plane).discRound = (d.pport port plane).discRound := by rw [hlport, hport]
  unfold Dev.discard at he
  dsimp only at he
  rw [if_neg (by omega)] at he
  have heport : (e.pport port plane).discarded = (logged.pport port plane).discarded + 1 := by
    rw [← he]
    exact congrArg (·.discarded)
      (pport_onPort logged port plane (fun p => { p with discarded := p.discarded + 1, discRound := (logged.pport port plane).discRound + 1 })
        fun _ => ⟨rfl, rfl⟩)
  rw [heport, hlport, hport]
  rw [hframe] at hlog
  subst he
  rw [hlog]
  exact ⟨rfl, rfl, rfl, rfl⟩

/-- A cell of another receiver is counted as misdelivered. -/
theorem cellReceive_misdelivers (hp : port < 55) (hq : plane < 4) (ha : w.2.2.accepts port plane = false)
    (hok : ∀ x ∈ d.wrongSymbols w.2.2.src port plane wrong, x ≤ 1) (hc : d.calm) :
    e = { d with ba := e.ba, op := e.op, fa := e.fa } ∧ e.ba.wire = d.ba.wire.erase w ∧ e.ba.recv = d.ba.recv ∧
      (e.pport port plane).misdelivered = (d.pport port plane).misdelivered + 1 ∧ switchUnit port plane 0 ∈ e.fa.testing := by
  rw [cellReceive_some hw] at he
  dsimp only at he
  rw [few_of_correctable hok, if_neg Bool.false_ne_true, if_pos (by rw [ha]; rfl)] at he
  generalize ((d.wrongSymbols w.2.2.src port plane wrong).filter (· == 1)).length = n at he
  obtain ⟨ports, op, hframe⟩ := unwired_frame d port plane n w
  have hport := pport_unwired d port plane n w
  generalize d.unwired port plane n w = x at he hframe hport
  have hxc : x.calm := by rw [hframe]; exact hc
  obtain ⟨⟨ports2, fa, heq⟩, hmis, htest⟩ := misdelivered_calm hp hq hxc
  rw [he] at heq hmis htest
  refine ⟨?_, ?_, ?_, ?_, htest⟩
  · rw [heq, hframe]
  · rw [heq, hframe]
  · rw [heq, hframe]
  · rw [hmis, hport]

end

/-! ## What fails (R240, R457) -/

theorem cutOff_frame (d : Dev) (port : Nat) :
    d.cutOff port = { d with sp := (d.cutOff port).sp, str := (d.cutOff port).str, gr := (d.cutOff port).gr } := by
  unfold Dev.cutOff
  split
  · rfl
  · split
    · rw [siteOut_frame]
    · split <;> rfl

theorem cutOff_degraded {d : Dev} (h : d.sp.degraded = true) (port : Nat) : (d.cutOff port).sp.degraded = true := by
  unfold Dev.cutOff
  split
  · exact h
  · split
    · rfl
    · split <;> exact h

/-- A failed plane leaves every mask. -/
def Dev.planeLost (plane : Nat) (d : Dev) : Dev :=
  { d with
    ba.failed := d.ba.failed ++ [plane]
    ba.matches_ := d.ba.matches_.filter (·.plane != plane)
    ba.out := d.ba.out.filter (·.plane != plane)
    ba.standing := d.ba.standing.filter (·.plane != plane) }

theorem planeSchedulerFail_idle {d : Dev} {plane : Nat} (h : d.ba.up = false ∨ d.ba.failed.contains plane = true) : planeSchedulerFail plane d = d :=
  if_pos (by rcases h with h | h <;> rw [h] <;> simp)

/-- What the loss of a plane's scheduler leaves. -/
theorem planeSchedulerFail_spec {d e : Dev} {plane : Nat} (hup : d.ba.up = true) (hf : d.ba.failed.contains plane = false)
    (he : planeSchedulerFail plane d = e) :
    e = { d with ba := e.ba, lg := e.lg, hg := e.hg, sp := e.sp, fa := e.fa, th := e.th, fw := e.fw, str := e.str, gr := e.gr } ∧
      e.ba = (d.planeLost plane).ba ∧ e.sp.degraded = true := by
  unfold planeSchedulerFail at he
  rw [if_neg (by rw [hup, hf]; exact Bool.false_ne_true)] at he
  dsimp only at he
  change Dev.checkMinimum (each (List.range 48) (fun p d => if d.inService p then d.cutOff p else d) (((d.planeLost plane).log 0 4 0x0204 plane).degrade)) = e at he
  have hlog := log_frame (d.planeLost plane) 0 4 0x0204 plane
  generalize (d.planeLost plane).log 0 4 0x0204 plane = logged at he hlog
  have hcut : ∃ sp str gr, each (List.range 48) (fun p d => if d.inService p then d.cutOff p else d) logged.degrade =
      { logged with sp := sp, str := str, gr := gr } ∧ sp.degraded = true := by
    refine each_keeps (fun x : Dev => ∃ sp str gr, x = { logged with sp := sp, str := str, gr := gr } ∧ sp.degraded = true) _ (fun p x hx => ?_) _ _
      ⟨_, _, _, rfl, rfl⟩
    obtain ⟨sp, str, gr, rfl, hdeg⟩ := hx
    split
    · exact ⟨_, _, _, cutOff_frame _ p, cutOff_degraded hdeg p⟩
    · exact ⟨_, _, _, rfl, hdeg⟩
  obtain ⟨sp, str, gr, hcut, hdeg⟩ := hcut
  rw [hcut] at he
  have hmin := checkMinimum_frame { logged with sp := sp, str := str, gr := gr }
  rw [he, hlog] at hmin
  rw [hmin]
  exact ⟨rfl, rfl, hdeg⟩

theorem not_mem_planes_of_failed {d : Dev} {plane : Nat} (h : plane ∈ d.ba.failed) (a b : Nat) : plane ∉ d.planes a b := by
  have hoff : d.portPlane a plane = false := by
    unfold Dev.portPlane
    rw [List.contains_iff_mem.mpr h]
    rfl
  have hall : plane ∉ (if b < 55 then (List.range 4).filter fun p => d.portPlane a p && d.portPlane b p else []) := by
    split
    · simp [hoff]
    · exact List.not_mem_nil
  unfold Dev.planes
  dsimp only
  split
  · exact fun hm => hall (List.mem_of_mem_take hm)
  · exact hall

/-- Steering holds the port, and prepares a spare switch port or retires it. -/
theorem steerPort_cases (d : Dev) (port plane : Nat) :
    ∃ sp bu, (∃ unit, d.steerPort port plane =
        (({ d with sp := sp, bu := bu } : Dev).holdPort .switchPort port plane).prepare (switchUnit port plane 0) unit) ∨
      d.steerPort port plane = (({ d with sp := sp, bu := bu } : Dev).holdPort .switchPort port plane).retirePort port plane := by
  unfold Dev.steerPort
  dsimp only
  generalize hfirst : (if (d.pport port plane).steer.isSome = true then _ else d) = d0
  have h0 : ∃ sp bu, d0 = { d with sp := sp, bu := bu } := by
    rw [← hfirst]
    split
    · rw [fdm_frame]
      exact ⟨_, _, rfl⟩
    · exact ⟨_, _, rfl⟩
  obtain ⟨sp, bu, rfl⟩ := h0
  refine ⟨sp, bu, ?_⟩
  split
  · exact .inl ⟨_, rfl⟩
  · exact .inr rfl

theorem steerPort_frame (d : Dev) (port plane : Nat) : ∃ ports sp bu, d.steerPort port plane = { d with ba.ports := ports, sp := sp, bu := bu } := by
  obtain ⟨sp, bu, ⟨unit, h⟩ | h⟩ := steerPort_cases d port plane
  · exact ⟨_, _, _, h⟩
  · rw [retirePort_frame] at h
    exact ⟨_, sp, bu, h⟩

theorem switchPort_holdPort (d : Dev) (port plane : Nat) : .switchPort ∈ ((d.holdPort .switchPort port plane).pport port plane).holds := by
  rw [Dev.holdPort, pport_onPort _ _ _ _ fun _ => by exact ⟨rfl, rfl⟩]
  exact mem_insertNew _ _

theorem switchPort_steerPort (d : Dev) (port plane : Nat) : .switchPort ∈ ((d.steerPort port plane).pport port plane).holds := by
  obtain ⟨sp, bu, ⟨unit, h⟩ | h⟩ := steerPort_cases d port plane
  · rw [h]
    exact switchPort_holdPort _ port plane
  · rw [h]
    unfold Dev.retirePort
    split
    · exact switchPort_holdPort _ port plane
    · rw [pport_onPort _ _ _ _ fun _ => by exact ⟨rfl, rfl⟩]
      exact switchPort_holdPort _ port plane

/-- A plane port that is held for its switch port takes and gives no cells. -/
theorem takesCells_of_switchPort {d : Dev} {p q : Nat} (h : .switchPort ∈ (d.pport p q).holds) : d.takesCells p q = false := by
  have hne : ((d.pport p q).holds.filter (· != .comb)).isEmpty = false := by
    rw [List.isEmpty_eq_false_iff]
    exact List.ne_nil_of_mem (List.mem_filter.mpr ⟨h, rfl⟩)
  unfold Dev.takesCells
  rw [hne]
  simp

theorem givesCells_of_not_takes {d : Dev} {p q : Nat} (h : d.takesCells p q = false) : d.givesCells p q = false := by
  unfold Dev.givesCells
  rw [h]
  rfl

theorem switchPortFail_spec {d e : Dev} {port plane : Nat} (hup : d.ba.up = true) (hr : (d.pport port plane).retired = false)
    (he : switchPortFail port plane d = e) :
    e = { d with ba := e.ba, sp := e.sp, bu := e.bu, lg := e.lg, hg := e.hg } ∧ e.givesCells port plane = false ∧ e.takesCells port plane = false := by
  unfold switchPortFail at he
  rw [if_neg (by rw [hup, hr]; exact Bool.false_ne_true)] at he
  have hlog := log_frame d (d.switchOf port plane) 2 0x0202 0
  generalize d.log (d.switchOf port plane) 2 0x0202 0 = logged at he hlog
  have htakes := takesCells_of_switchPort (switchPort_steerPort logged port plane)
  obtain ⟨ports, sp, bu, hframe⟩ := steerPort_frame logged port plane
  rw [he] at htakes hframe
  refine ⟨?_, givesCells_of_not_takes htakes, htakes⟩
  rw [hframe, hlog]

/-- A partial transfer that is not whole ends when its time is over. -/
theorem partialTransferExpiry_spec {d : Dev} {port src transfer : Nat} {p : Partial}
    (hp : d.ba.partials.find? (fun p => p.port == port && p.src == src && p.transfer == transfer) = some p) :
    (p.got < p.total → ∃ tb, partialTransferExpiry port src transfer d = { d with tb := tb, ba.partials := d.ba.partials.erase p } ∧
      tb.ns = max d.tb.ns p.expires) ∧
      (p.total ≤ p.got → partialTransferExpiry port src transfer d = d) := by
  unfold partialTransferExpiry
  rw [hp]
  dsimp only
  refine ⟨fun hlt => ?_, fun hle => if_pos hle⟩
  obtain ⟨hframe, hns⟩ := reach_frame d p.expires
  rw [if_neg (by omega), hframe]
  exact ⟨_, rfl, hns⟩

/-! ## Planes (R238, R241) -/

theorem planes_sorted (d : Dev) (src dst : Nat) : (d.planes src dst).Pairwise (· < ·) := by
  have hall : (if dst < 55 then (List.range 4).filter fun p => d.portPlane src p && d.portPlane dst p else []).Pairwise (· < ·) := by
    split
    · exact List.pairwise_lt_range.filter _
    · exact .nil
  unfold Dev.planes
  dsimp only
  split
  · exact hall.sublist (List.take_sublist _ _)
  · exact hall

/-- The mask has the bits of the planes. -/
theorem planeMask_testBit (d : Dev) (src dst p : Nat) : (d.planeMask src dst).testBit p = (d.planes src dst).contains p := by
  have hsorted : (d.planes src dst).SortedLT := (planes_sorted d src dst).sortedLT
  rw [Bool.eq_iff_iff, ← Nat.mem_bitIndices, Dev.planeMask, Nat.bitIndices_sum_map_two_pow hsorted, List.contains_iff_mem]

theorem mem_planes_of_free {d : Dev} {src dst : Nat} (hpin : pinnedFlow src dst = false) (hdst : dst < 55) (p : Nat) :
    p ∈ d.planes src dst ↔ p < 4 ∧ d.portPlane src p = true ∧ d.portPlane dst p = true := by
  unfold Dev.planes
  dsimp only
  rw [hpin, if_neg Bool.false_ne_true, if_pos hdst, List.mem_filter, List.mem_range, Bool.and_eq_true]

theorem planes_beyond {d : Dev} {src dst : Nat} (h : 55 ≤ dst) : d.planes src dst = [] := by
  unfold Dev.planes
  dsimp only
  rw [@if_neg (dst < 55) _ (by omega), List.take_nil, ite_self]

theorem planes_pinned {d : Dev} {src dst : Nat} (h : pinnedFlow src dst = true) : (d.planes src dst).length ≤ 1 := by
  unfold Dev.planes
  dsimp only
  rw [if_pos h, List.length_take]
  omega

theorem choosePlane_least {d : Dev} {src dst p : Nat} (h : d.choosePlane src dst = some p) :
    p ∈ d.planes src dst ∧ ∀ q ∈ d.planes src dst, d.queued src p ≤ d.queued src q ∧ (d.queued src q = d.queued src p → p ≤ q) :=
  find?_least (planes_sorted d src dst) h

/-- The shortest queue is one of the planes'. -/
theorem planes_of_choosePlane_none {d : Dev} {src dst : Nat} (h : d.choosePlane src dst = none) : d.planes src dst = [] := by
  cases hp : d.planes src dst with
  | nil => rfl
  | cons a l =>
    unfold Dev.choosePlane at h
    dsimp only at h
    rw [hp] at h
    have hnone := List.find?_eq_none.mp h
    rcases foldl_min_mem ((a :: l).map (d.queued src)) (d.queued src a) with hm | hm
    · exact absurd (beq_iff_eq.mpr hm.symm) (hnone a (.head _))
    · obtain ⟨q, hq, heq⟩ := List.mem_map.mp hm
      exact absurd (beq_iff_eq.mpr heq) (hnone q hq)

/-- Settles O41: each row changes what it names; what waits for a slot, and the matching, leave planes and receive buffers alone. -/
theorem basinSlots : Obligations.BasinSlots := by
  rintro ⟨d, pending⟩ port plane hport hplane
  dsimp only
  refine ⟨?down, ?slot, ?noCell, ?cell, ?astray, ?planeFails, ?planeIdle, ?portFails, ?expiry, ?masks⟩
  case down => exact fun hdown => run_of_same (slotBoundary_down hdown)
  case slot =>
    intro hup
    obtain ⟨hns, hslot, hstart⟩ := slotBoundary_clock hup rfl
    refine ⟨_, @run_of_wf _ .slotBoundary rfl slotBoundary, rfl, hns, hslot, hstart, fun hretire hdue => ?_⟩
    obtain ⟨hframe, hkept⟩ := slotBoundary_quiet hup hretire hdue rfl
    exact ⟨congrArg (State.mk · pending) hframe, hkept⟩
  case noCell => exact fun wrong astray hnone => run_of_same (cellReceive_none hnone wrong)
  case cell =>
    intro w wrong hwf hw
    refine ⟨fun ha hok => ?_, fun hbad hfew => ?_⟩
    · obtain ⟨hframe, hrest⟩ := @cellReceive_accepts _ _ _ _ _ none _ hw rfl ha hok
      exact ⟨_, run_of_wf hwf (cellReceive port plane wrong none), congrArg (State.mk · pending) hframe, hrest⟩
    · obtain ⟨hframe, hrest⟩ := @cellReceive_discards _ _ _ _ _ none _ hw rfl hbad hfew
      exact ⟨_, run_of_wf hwf (cellReceive port plane wrong none), congrArg (State.mk · pending) hframe, hrest⟩
  case astray =>
    intro w a _ hwf hw ha hok hi hq hn
    obtain ⟨hframe, hrest⟩ := @cellReceive_misdelivers _ _ _ _ _ (some a) _ hw rfl hport hplane ha hok ⟨hi, hq, hn⟩
    exact ⟨_, run_of_wf hwf (cellReceive port plane [] (some a)), congrArg (State.mk · pending) hframe, hrest⟩
  case planeFails =>
    intro hup hf
    obtain ⟨hframe, hba, hdeg⟩ := planeSchedulerFail_spec hup hf rfl
    refine ⟨_, @run_of_wf _ (.planeSchedulerFail plane) (decide_eq_true hplane) (planeSchedulerFail plane), congrArg (State.mk · pending) hframe,
      ?_, hdeg, ?_, ?_, ?_⟩ <;> dsimp only
    · rw [hba]
      rfl
    · rw [hba]
      exact fun m hm => by simpa using (List.mem_filter.mp hm).2
    · rw [hba]
      exact fun q hq => by simpa using (List.mem_filter.mp hq).2
    · refine not_mem_planes_of_failed ?_
      rw [hba]
      exact List.mem_append_right _ (.head _)
  case planeIdle => exact fun hidle => run_of_same (planeSchedulerFail_idle hidle)
  case portFails =>
    intro hup hr
    obtain ⟨hframe, hgives, htakes⟩ := switchPortFail_spec hup hr rfl
    exact ⟨_, @run_of_wf _ (.switchPortFail port plane) (by simp [Instr.wf, hport, hplane]) (switchPortFail port plane),
      congrArg (State.mk · pending) hframe, hgives, htakes⟩
  case expiry =>
    intro src transfer p hsrc hp
    obtain ⟨hends, hwhole⟩ := partialTransferExpiry_spec hp
    refine ⟨fun hlt => ?_, fun hle => run_of_same (hwhole hle)⟩
    obtain ⟨tb, heq, hns⟩ := hends hlt
    refine ⟨_, @run_of_wf _ (.partialTransferExpiry port src transfer) (by simp [Instr.wf, hport, hsrc]) (partialTransferExpiry port src transfer),
      ?_, ?_⟩ <;> dsimp only <;> rw [heq]
    exact hns
  case masks =>
    intro src dst
    refine ⟨fun p _ => planeMask_testBit d src dst p, fun h => ?_, planes_pinned, fun hpin hdst p => mem_planes_of_free hpin hdst p,
      fun p hp => choosePlane_least hp, planes_of_choosePlane_none⟩
    rw [Dev.planeMask, planes_beyond h]
    rfl

end Sys2Proof.Machine
end

section
/-!
PROOFS. The round boundary (chapter 05, R168, R172): whatever the boundary changes, the rounds, the timebase, the sessions, the blown fuses, the
mailbox queue and the thermal policy change only as the count reaches the boundary and the new round begins.
-/

set_option Elab.async false

namespace Sys2Proof.Machine

/-- What a boundary leaves alone but for the count and the new round: the rounds, the timebase, the sessions, the count of blown fuses, the
mailbox queue and the thermal policy. -/
def Dev.chron (d : Dev) : Rounds × Timebase × Sessions × Nat × List Nat × Nat :=
  (d.rd, d.tb, d.ses, d.fw.fuseF, d.mb.queue, d.th.policy)

@[simp] theorem Dev.chron_mk (free hg mb ses gr str tb rd ck pw th ba op mem cs sw bu sp fw lg fa ts) :
    Dev.chron ⟨free, hg, mb, ses, gr, str, tb, rd, ck, pw, th, ba, op, mem, cs, sw, bu, sp, fw, lg, fa, ts⟩ =
      (rd, tb, ses, fw.fuseF, mb.queue, th.policy) := (rfl)

@[simp] theorem Dev.chron_eta (d : Dev) : (d.rd, d.tb, d.ses, d.fw.fuseF, d.mb.queue, d.th.policy) = d.chron := (rfl)

@[simp] theorem chron_ite (c : Prop) [Decidable c] (d e : Dev) : (if c then d else e).chron = if c then d.chron else e.chron :=
  apply_ite Dev.chron c d e

@[simp] theorem each_chron {α : Type} {f : α → Dev → Dev} (hf : ∀ a e, (f a e).chron = e.chron) (l : List α) (d : Dev) :
    (each l f d).chron = d.chron :=
  each_keeps (fun e => e.chron = d.chron) f (fun a e he => (hf a e).trans he) l d rfl

@[simp] theorem onlyIf_chron {c : Bool} {f : Dev → Dev} (hf : ∀ e, (f e).chron = e.chron) (d : Dev) : (onlyIf c f d).chron = d.chron := by
  cases c
  · rfl
  · exact hf d

@[simp] theorem elim_chron {α : Type} {f : α → Dev} {d : Dev} (hf : ∀ a, (f a).chron = d.chron) (o : Option α) : (o.elim d f).chron = d.chron := by
  cases o
  · rfl
  · exact hf _

/-! ## What a boundary runs through leaves it alone -/

@[simp] theorem Dev.draw_chron (d : Dev) : (d.draw).chron = d.chron := by
  rfl

@[simp] theorem Dev.raiseInt_chron (bit : Nat) (d : Dev) : (d.raiseInt bit).chron = d.chron := by
  rw [raiseInt_frame]
  rfl

@[simp] theorem Dev.setErr_chron (bit : Nat) (d : Dev) : (d.setErr bit).chron = d.chron := by
  rw [setErr_frame]
  rfl

@[simp] theorem Dev.setState_chron (s : DevState) (d : Dev) : (d.setState s).chron = d.chron := by
  rw [setState_frame]
  rfl

@[simp] theorem Dev.log_chron (unit outcome code value : Nat) (d : Dev) : (d.log unit outcome code value).chron = d.chron := by
  rw [log_frame]
  rfl

@[simp] theorem Dev.notice_chron (unit value : Nat) (d : Dev) : (d.notice unit value).chron = d.chron := by
  rw [notice_frame]
  rfl

@[simp] theorem Dev.onPort_chron (port plane : Nat) (f : PlanePort → PlanePort) (d : Dev) : (d.onPort port plane f).chron = d.chron := by
  rfl

@[simp] theorem Dev.onOptic_chron (port plane : Nat) (f : OptPort → OptPort) (d : Dev) : (d.onOptic port plane f).chron = d.chron := by
  rfl

@[simp] theorem Dev.onRing_chron (id : RingId) (f : Machine.Ring → Machine.Ring) (d : Dev) : (d.onRing id f).chron = d.chron := by
  rfl

@[simp] theorem Dev.onWell_chron (w : Nat) (f : Wellhead → Wellhead) (d : Dev) : (d.onWell w f).chron = d.chron := by
  rfl

@[simp] theorem Dev.onStack_chron (k : Nat) (f : Stack → Stack) (d : Dev) : (d.onStack k f).chron = d.chron := by
  rfl

@[simp] theorem Dev.onSite_chron (s : Nat) (f : Site → Site) (d : Dev) : (d.onSite s f).chron = d.chron := by
  rfl

@[simp] theorem Dev.onFport_chron (p : Nat) (f : FPort → FPort) (d : Dev) : (d.onFport p f).chron = d.chron := by
  rfl

@[simp] theorem Dev.onGraph_chron (h : Nat) (f : Machine.Graph → Machine.Graph) (d : Dev) : (d.onGraph h f).chron = d.chron := by
  rfl

@[simp] theorem Dev.onStream_chron (id : Nat) (f : Machine.Stream → Machine.Stream) (d : Dev) : (d.onStream id f).chron = d.chron := by
  rfl

@[simp] theorem Dev.onIntake_chron (h : Nat) (f : IntakeRing → IntakeRing) (d : Dev) : (d.onIntake h f).chron = d.chron := by
  rfl

@[simp] theorem Dev.snoopRange_chron (a n : Nat) (d : Dev) : (d.snoopRange a n).chron = d.chron := by
  rw [snoopRange_frame]
  rfl

@[simp] theorem Dev.store_chron (a : Nat) (data : List Byte) (d : Dev) : (d.store a data).chron = d.chron := by
  rw [store_frame]
  rfl

@[simp] theorem Dev.storeHost_chron (a : Nat) (data : List Byte) (d : Dev) : (d.storeHost a data).chron = d.chron := by
  rfl

@[simp] theorem Dev.storeRing_chron (host : Bool) (a : Nat) (data : List Byte) (d : Dev) : (d.storeRing host a data).chron = d.chron := by
  simp [Dev.storeRing]

@[simp] theorem Dev.degrade_chron (d : Dev) : (d.degrade).chron = d.chron := by
  rfl

@[simp] theorem Dev.fdm_chron (unit type source value : Nat) (d : Dev) : (d.fdm unit type source value).chron = d.chron := by
  rw [fdm_frame]
  rfl

@[simp] theorem Dev.setStandby_chron (st : Standby) (d : Dev) : (d.setStandby st).chron = d.chron := by
  rw [setStandby_frame]
  rfl

@[simp] theorem Dev.throttleClock_chron (d : Dev) : (d.throttleClock).chron = d.chron := by
  rfl

@[simp] theorem Dev.powerAxis_chron (d : Dev) : (d.powerAxis).chron = d.chron := by
  simp [Dev.powerAxis]

@[simp] theorem Dev.faultPages_chron (site : Nat) (d : Dev) : (d.faultPages site).chron = d.chron := by
  rfl

@[simp] theorem Dev.replaceFor_chron (site : Nat) (d : Dev) : (d.replaceFor site).chron = d.chron := by
  rfl

@[simp] theorem Dev.siteOut_chron (site : Nat) (d : Dev) : (d.siteOut site).chron = d.chron := by
  rfl

@[simp] theorem Dev.safeHold_chron (cause : Nat) (d : Dev) : (d.safeHold cause).chron = d.chron := by
  unfold Dev.safeHold
  split
  · rfl
  · exact (Dev.log_chron ..).trans (Dev.setState_chron _ d)

@[simp] theorem Dev.checkMinimum_chron (d : Dev) : (d.checkMinimum).chron = d.chron := by
  simp [Dev.checkMinimum]

@[simp] theorem Dev.sendCtl_chron (src dst : Nat) (m : CtlMsg) (d : Dev) : (d.sendCtl src dst m).chron = d.chron := by
  rw [sendCtl_frame]
  rfl

@[simp] theorem Dev.enqueue_chron (p since : Nat) (from_ : Option Nat) (f : Frame) (d : Dev) : (d.enqueue p since from_ f).chron = d.chron := by
  rfl

@[simp] theorem Dev.freeBuf_chron (port : Nat) (rsp : Bool) (d : Dev) : (d.freeBuf port rsp).chron = d.chron := by
  rfl

@[simp] theorem Dev.timeoutOp_chron (o : SwOp) (d : Dev) : (d.timeoutOp o).chron = d.chron := by
  rw [timeoutOp_frame]
  rfl

@[simp] theorem Dev.noRouteOp_chron (o : SwOp) (d : Dev) : (d.noRouteOp o).chron = d.chron := by
  simp [Dev.noRouteOp]

@[simp] theorem Dev.dropFrame_chron (x : TxFrame) (d : Dev) : (d.dropFrame x).chron = d.chron := by
  unfold Dev.dropFrame
  repeat' split
  all_goals simp

@[simp] theorem Dev.setPort_chron (port : Nat) (st : PortSt) (d : Dev) : (d.setPort port st).chron = d.chron := by
  simp [Dev.setPort]

@[simp] theorem Dev.sendMgmt_chron (port : Nat) (m : LinkMsg) (d : Dev) : (d.sendMgmt port m).chron = d.chron := by
  rfl

@[simp] theorem Dev.sendHello_chron (port : Nat) (d : Dev) : (d.sendHello port).chron = d.chron := by
  rfl

@[simp] theorem Dev.train_chron (port : Nat) (d : Dev) : (d.train port).chron = d.chron := by
  simp [Dev.train]

@[simp] theorem Dev.portDown_chron (port cause : Nat) (light : Bool) (d : Dev) : (d.portDown port cause light).chron = d.chron := by
  unfold Dev.portDown
  extract_lets p d1 d2
  have h2 : d2.chron = d.chron := by
    unfold d2
    rw [each_chron fun x e => ?_]
    · simp [d1]
    · split <;> simp
  split
  · rfl
  split
  · simpa using h2
  · exact h2

@[simp] theorem Dev.probe_chron (port : Nat) (d : Dev) : (d.probe port).chron = d.chron := by
  simp [Dev.probe]

@[simp] theorem Dev.recheckFibre_chron (port : Nat) (side : Side) (lock : Bool) (d : Dev) : (d.recheckFibre port side lock).chron = d.chron := by
  simp [Dev.recheckFibre]

@[simp] theorem Dev.onComb_chron (engine source : Nat) (f : SwComb → SwComb) (d : Dev) : (d.onComb engine source f).chron = d.chron := by
  rfl

@[simp] theorem Dev.toSpare_chron (port : Nat) (d : Dev) : (d.toSpare port).chron = d.chron := by
  simp [Dev.toSpare]

@[simp] theorem Dev.engineCombBoundary_chron (d : Dev) : (d.engineCombBoundary).chron = d.chron := by
  simp [Dev.engineCombBoundary]

@[simp] theorem Dev.answer_chron (ch status : Nat) (body : List Byte) (effect : Nat) (d : Dev) :
    (d.answer ch status body effect).chron = d.chron := by
  rfl

@[simp] theorem Dev.setReadOnly_chron (d : Dev) : d.setReadOnly.chron = d.chron := by
  unfold Dev.setReadOnly
  exact each_chron (fun _ _ => Dev.onStack_chron _ _ _) _ _

@[simp] theorem Dev.setWays_chron (d : Dev) : d.setWays.chron = d.chron := by
  refine each_chron (fun s e => ?_) _ _
  dsimp only
  split <;> rfl

@[simp] theorem Dev.refreshCaches_chron (d : Dev) (g : Machine.Graph) : (d.refreshCaches g).chron = d.chron := by
  simp [Dev.refreshCaches]

@[simp] theorem Dev.startGenerators_chron (d : Dev) (p : Placement) : (d.startGenerators p).chron = d.chron := by
  rfl

@[simp] theorem Dev.restartGenerators_chron (d : Dev) (mine : Nat → Bool) : (d.restartGenerators mine).chron = d.chron := by
  rfl

@[simp] theorem Dev.loadPrograms_chron (d : Dev) : (d.loadPrograms).chron = d.chron := by
  simp [Dev.loadPrograms]

@[simp] theorem Dev.moved_chron (cores : List Nat) (d : Dev) : (d.moved cores).chron = d.chron := by
  rfl

@[simp] theorem Dev.updateGraph_chron (g : Machine.Graph) (d : Dev) : (d.updateGraph g).chron = d.chron := by
  unfold Dev.updateGraph
  split <;> simp

@[simp] theorem Dev.updatePlacements_chron (d : Dev) : (d.updatePlacements).chron = d.chron := by
  simp [Dev.updatePlacements]

@[simp] theorem Dev.rebudget_chron (d : Dev) : (d.rebudget).chron = d.chron := by
  unfold Dev.rebudget
  refine each_chron (fun _ _ => ?_) _ _
  repeat' split
  all_goals simp

@[simp] theorem Dev.installAll_chron (d : Dev) : d.installAll.chron = d.chron := by
  unfold Dev.installAll
  extract_lets waiting _ d1 answer start
  have hanswer : ∀ g e, (answer g e).chron = e.chron := by
    intro g e
    unfold answer
    split <;> simp
  have hstart : ∀ g e, (start g e).chron = e.chron := by
    intro g e
    unfold start
    rw [Dev.refreshCaches_chron]
    exact elim_chron (fun _ => Dev.startGenerators_chron _ _) _
  split
  · rw [Dev.loadPrograms_chron, Dev.setReadOnly_chron, Dev.setWays_chron]
  · rw [each_chron hanswer, Dev.loadPrograms_chron, Dev.setReadOnly_chron, Dev.setWays_chron, each_chron hstart]
    rfl

@[simp] theorem Dev.ask_chron (host : Bool) (a n : Nat) (p : ReadPurpose) (d : Dev) : (d.ask host a n p).1.chron = d.chron := by
  unfold Dev.ask
  dsimp only
  repeat' split
  all_goals simp

@[simp] theorem Dev.putIntake_chron (h : Nat) (d : Dev) : (d.putIntake h).chron = d.chron := by
  unfold Dev.putIntake
  split <;> simp

@[simp] theorem Dev.releaseStream_chron (id : Nat) (d : Dev) : (d.releaseStream id).chron = d.chron := by
  rfl

@[simp] theorem Dev.destroyStreams_chron (d : Dev) : (d.destroyStreams).chron = d.chron := by
  unfold Dev.destroyStreams
  refine each_chron (fun _ _ => ?_) _ _
  repeat' split
  all_goals simp

@[simp] theorem Dev.sampled_chron (h value : Nat) (d : Dev) : (d.sampled h value).chron = d.chron := by
  unfold Dev.sampled
  split <;> simp

@[simp] theorem Dev.takeOne_chron (id h : Nat) (d : Dev) : (d.takeOne id h).chron = d.chron := by
  unfold Dev.takeOne
  repeat' split
  all_goals simp

@[simp] theorem Dev.slackLeave_chron (d : Dev) : (d.slackLeave).chron = d.chron := by
  simp [Dev.slackLeave]

@[simp] theorem Dev.takeStream_chron (id : Nat) (d : Dev) : (d.takeStream id).chron = d.chron := by
  unfold Dev.takeStream
  split
  · rfl
  extract_lets ring r d1
  have hr : r.2.chron = d.chron := by
    refine List.foldlRecOn (motive := fun acc : Nat × Dev => acc.2.chron = d.chron) _ _ rfl fun acc h k _ => ?_
    exact List.foldlRecOn (motive := fun e : Dev => e.chron = d.chron) _ _ h fun e he _ _ => by rwa [Dev.takeOne_chron]
  split
  · rw [← hr]
    exact (Dev.slackLeave_chron d1).trans (Dev.onStream_chron ..)
  · exact hr

@[simp] theorem Dev.enterItems_chron (id : Nat) (d : Dev) : (d.enterItems id).chron = d.chron := by
  unfold Dev.enterItems
  split <;> simp

@[simp] theorem Dev.sampleStream_chron (id : Nat) (d : Dev) : (d.sampleStream id).chron = d.chron := by
  unfold Dev.sampleStream
  split
  · rfl
  extract_lets one d1
  have hone : ∀ h e, (one h e).chron = e.chron := by
    intro h e
    unfold one
    split
    · rfl
    dsimp only
    split <;> simp
  have h1 : d1.chron = d.chron := each_chron hone _ _
  split <;> simp [h1]

@[simp] theorem Dev.dropSamples_chron (d : Dev) : (d.dropSamples).chron = d.chron := by
  simp [Dev.dropSamples]

@[simp] theorem Dev.cutoff_chron (d : Dev) : (d.cutoff).chron = d.chron := by
  unfold Dev.cutoff
  rw [each_chron fun _ _ => ?_]
  · simp
  · simp

@[simp] theorem Dev.holdPort_chron (h : Hold) (port plane : Nat) (a : Dev) : (a.holdPort h port plane).chron = a.chron := by
  rfl

@[simp] theorem Dev.freePort_chron (h : Hold) (port plane : Nat) (a : Dev) : (a.freePort h port plane).chron = a.chron := by
  rfl

@[simp] theorem Dev.prepare_chron (unit substitute : Nat) (d : Dev) : (d.prepare unit substitute).chron = d.chron := by
  rfl

@[simp] theorem Dev.stopWork_chron (unit : Nat) (d : Dev) : (d.stopWork unit).chron = d.chron := by
  rw [stopWork_frame]
  rfl

@[simp] theorem Dev.replaceStand_chron (site ps : Nat) (d : Dev) : (d.replaceStand site ps).chron = d.chron := by
  unfold Dev.replaceStand
  dsimp only
  repeat' split
  all_goals simp

@[simp] theorem Dev.replaceCore_chron (site ps pos : Nat) (d : Dev) : (d.replaceCore site ps pos).chron = d.chron := by
  unfold Dev.replaceCore
  dsimp only
  repeat' split
  all_goals simp

@[simp] theorem Dev.dropSlice_chron (site group : Nat) (d : Dev) : (d.dropSlice site group).chron = d.chron := by
  rfl

@[simp] theorem Dev.substitute_chron (s : Subst) (d : Dev) : (d.substitute s).chron = d.chron := by
  unfold Dev.substitute
  extract_lets u site ps _ d0 noted restart pos map lane rest d1
  have hnoted : ∀ e, (noted e).chron = e.chron := fun e => by simp [noted]
  have hrestart : ∀ e, (restart e).chron = e.chron := fun e => by simp [restart]
  have h0 : d0.chron = d.chron := rfl
  have h1 : d1.chron = d.chron := by simp [d1, h0]
  split
  · split
    · rw [hrestart, hnoted]
      rfl
    · rfl
  · split
    · rw [hrestart, hnoted]
      rfl
    · rfl
  · rw [hnoted]
    rfl
  · split <;> simp [h1]
  · rw [hnoted]
    rfl
  · rfl

@[simp] theorem Dev.coppiceBoundary_chron (d : Dev) : (d.coppiceBoundary).chron = d.chron := by
  unfold Dev.coppiceBoundary
  exact each_chron (fun _ _ => Dev.substitute_chron _ _) _ _

@[simp] theorem Dev.endTest_chron (unit : Nat) (d : Dev) : (d.endTest unit).chron = d.chron := by
  simp [Dev.endTest]

@[simp] theorem Dev.passLive_chron (d : Dev) : (d.passLive).chron = d.chron := by
  unfold Dev.passLive
  split <;> rfl

@[simp] theorem Dev.countDroop_chron (site stand pos : Nat) (f : DroopCount → DroopCount) (d : Dev) :
    (d.countDroop site stand pos f).chron = d.chron := by
  rfl

@[simp] theorem supplyRecovery_chron (site stand pos : Nat) (d : Dev) : (supplyRecovery site stand pos d).chron = d.chron := by
  unfold supplyRecovery
  split <;> simp

@[simp] theorem Dev.endDroops_chron (d : Dev) : (d.endDroops).chron = d.chron := by
  simp [Dev.endDroops]

@[simp] theorem Dev.setReq_chron (dom : Domain) (r : Option StepReq) (d : Dev) : (d.setReq dom r).chron = d.chron := by
  unfold Dev.setReq
  split <;> simp

@[simp] theorem Dev.setRails_chron (dom : Domain) (r : Option Nat) (d : Dev) : (d.setRails dom r).chron = d.chron := by
  unfold Dev.setRails
  split <;> simp

@[simp] theorem Dev.setStep_chron (dom : Domain) (mhz : Nat) (d : Dev) : (d.setStep dom mhz).chron = d.chron := by
  unfold Dev.setStep
  split <;> simp

@[simp] theorem Dev.changeStep_chron (dom : Domain) (mhz : Nat) (split : List Nat) (d : Dev) : (d.changeStep dom mhz split).chron = d.chron := by
  simp [Dev.changeStep]

@[simp] theorem Dev.commitStep_chron (dom : Domain) (d : Dev) : (d.commitStep dom).chron = d.chron := by
  unfold Dev.commitStep
  repeat' split
  all_goals simp

@[simp] theorem Dev.fixSwallow_chron (d : Dev) : (d.fixSwallow).chron = d.chron := by
  rfl

@[simp] theorem Dev.resendDecision_chron (dom : Domain) (d : Dev) : (d.resendDecision dom).chron = d.chron := by
  simp [Dev.resendDecision]

@[simp] theorem Dev.stepBoundary_chron (d : Dev) : (d.stepBoundary).chron = d.chron := by
  simp [Dev.stepBoundary]

@[simp] theorem Dev.enterSlack_chron (d : Dev) : (d.enterSlack).chron = d.chron := by
  simp [Dev.enterSlack]

@[simp] theorem Dev.slackBoundary_chron (d : Dev) : (d.slackBoundary).chron = d.chron := by
  unfold Dev.slackBoundary
  split <;> simp

@[simp] theorem Dev.powerBoundary_chron (d : Dev) : (d.powerBoundary).chron = d.chron := by
  simp [Dev.powerBoundary]

@[simp] theorem Dev.abortCal_chron (port plane : Nat) (d : Dev) : (d.abortCal port plane).chron = d.chron := by
  simp [Dev.abortCal]

@[simp] theorem Dev.recheck_chron (w : Nat) (d : Dev) : (d.recheck w).chron = d.chron := by
  simp [Dev.recheck]

@[simp] theorem Dev.startSwitch_chron (scheduled : Bool) (w : Nat) (d : Dev) : (d.startSwitch scheduled w).chron = d.chron := by
  simp [Dev.startSwitch]

@[simp] theorem Dev.roundMargins_chron (d : Dev) : (d.roundMargins).chron = d.chron := by
  rfl

@[simp] theorem Dev.combBoundary_chron (d : Dev) : (d.combBoundary).chron = d.chron := by
  simp [Dev.combBoundary]

@[simp] theorem Dev.sendBarrier_chron (kind node : Nat) (incomplete : Bool) (count : Nat) (d : Dev) :
    (d.sendBarrier kind node incomplete count).chron = d.chron := by
  rw [sendBarrier_frame]
  rfl

@[simp] theorem Dev.barrierBoundary_chron (d : Dev) : (d.barrierBoundary).chron = d.chron := by
  simp [Dev.barrierBoundary]

@[simp] theorem Dev.releaseTested_chron (r : SelfRun) (d : Dev) : (d.releaseTested r).chron = d.chron := by
  unfold Dev.releaseTested
  split <;> simp

@[simp] theorem Dev.livePass_chron (d : Dev) : d.livePass.chron = d.chron := by
  simp [Dev.livePass]

@[simp] theorem Dev.endRoundCounts_chron (d : Dev) : (d.endRoundCounts).chron = d.chron := by
  simp [Dev.endRoundCounts]

@[simp] theorem Dev.restoreCapacity_chron (d : Dev) : (d.restoreCapacity).chron = d.chron := by
  rfl

@[simp] theorem Dev.resumeSites_chron (d : Dev) : (d.resumeSites).chron = d.chron := by
  rfl

@[simp] theorem Dev.resumeUnits_chron (d : Dev) : (d.resumeUnits).chron = d.chron := by
  simp [Dev.resumeUnits]

@[simp] theorem Dev.releaseTests_chron (d : Dev) : (d.releaseTests).chron = d.chron := by
  unfold Dev.releaseTests
  rw [each_chron fun _ _ => ?_]
  · simp
  · simp

@[simp] theorem Dev.returnSites_chron (d : Dev) : (d.returnSites).chron = d.chron := by
  simp [Dev.returnSites]

@[simp] theorem Dev.returnMemory_chron (d : Dev) : (d.returnMemory).chron = d.chron := by
  simp [Dev.returnMemory]

@[simp] theorem Dev.resumeEngines_chron (d : Dev) : (d.resumeEngines).chron = d.chron := by
  simp [Dev.resumeEngines]

@[simp] theorem Dev.lowerCore_chron (c : Nat × Nat × Nat) (d : Dev) : (d.lowerCore c).chron = d.chron := by
  simp [Dev.lowerCore]

@[simp] theorem Dev.lowerCores_chron (d : Dev) : (d.lowerCores).chron = d.chron := by
  unfold Dev.lowerCores
  rw [each_chron fun _ _ => ?_]
  · simp
  · simp

@[simp] theorem Dev.splitterBoundary_chron (d : Dev) : (d.splitterBoundary).chron = d.chron := by
  simp [Dev.splitterBoundary]

@[simp] theorem Dev.licenceBoundary_chron (d : Dev) : (d.licenceBoundary).chron = d.chron := by
  simp [Dev.licenceBoundary]

@[simp] theorem Dev.rangerBoundary_chron (d : Dev) : d.rangerBoundary.chron = d.chron := by
  simp [Dev.rangerBoundary]

@[simp] theorem Dev.serviceBoundary_chron (any : Bool) (d : Dev) : (d.serviceBoundary any).chron = d.chron := by
  simp [Dev.serviceBoundary]

@[simp] theorem Dev.changeBoundary_chron (pass : Bool) (d : Dev) : (d.changeBoundary pass).chron = d.chron := by
  unfold Dev.changeBoundary
  simp

@[simp] theorem Dev.sendJournal_chron (d : Dev) : (d.sendJournal).chron = d.chron := by
  simp [Dev.sendJournal]


/-! ## The boundary itself -/

theorem Dev.chron_eq_iff {d e : Dev} : d.chron = e.chron ↔ d.rd = e.rd ∧ d.tb = e.tb ∧ d.ses = e.ses ∧ d.fw.fuseF = e.fw.fuseF ∧
    d.mb.queue = e.mb.queue ∧ d.th.policy = e.th.policy := by
  simp only [Dev.chron, Prod.mk.injEq]

/-- The new round follows from the rounds alone. -/
theorem beginRound_chron_congr {d e : Dev} (h : d.chron = e.chron) : d.beginRound.chron = e.beginRound.chron := by
  obtain ⟨hrd, hrest⟩ := Dev.chron_eq_iff.mp h
  exact Dev.chron_eq_iff.mpr ⟨by simp only [Dev.beginRound, hrd], hrest⟩

/-- At the boundary the round that begins is R168's, the count has reached it, and the rest of what is watched here is as it was. -/
theorem roundBoundary_chron {d : Dev} (hreset : d.heldReset = false) :
    (roundBoundary d).chron = ((d.reach d.rd.next).beginRound).chron := by
  have hbegin : ((d.reach d.rd.next).slackBoundary.endRoundCounts.beginRound).chron = ((d.reach d.rd.next).beginRound).chron :=
    beginRound_chron_congr (by simp)
  unfold roundBoundary
  simp [hreset, hbegin]

theorem reach_st (t : Nat) (d : Dev) : (d.reach t).tb.st = d.tb.st := by
  unfold Dev.reach
  split <;> rfl

/-- Settles O36. -/
theorem roundBoundaries : Obligations.RoundBoundaries := by
  intro s d
  refine ⟨fun hreset => run_of_same (if_pos hreset), fun hreset => ⟨_, @run_of_wf _ .roundBoundary rfl roundBoundary, rfl, ?_⟩⟩
  obtain ⟨hrd, htb, hses, hfuse, hqueue, hpolicy⟩ := Dev.chron_eq_iff.mp (roundBoundary_chron hreset)
  obtain ⟨hreach, hns⟩ := reach_frame d d.rd.next
  refine ⟨hrd.trans ?_, (congrArg (·.ns) htb).trans hns, (congrArg (·.st) htb).trans (reach_st d.rd.next d), hses.trans ?_, hfuse.trans ?_,
    hqueue.trans ?_, hpolicy.trans ?_⟩ <;>
  · rw [hreach]
    rfl

end Sys2Proof.Machine
end
